-- ==== Sys2Proof/Word.lean ====
section
/-! DEFINITION. The word types of the register space and of the packets (R417: every register is one 32-bit word),
and the named number types of the domain. Field extraction and the like stand in Machine/Ops.lean. -/

namespace Sys2Proof

/-- A 32-bit word: a register, a parameter word, a packet body word, FN, DTIME. -/
abbrev Word := BitVec 32

/-- One byte. -/
abbrev Byte := BitVec 8

/-- A node ID (R12): 0x0000 is link-local, 0xFFFF is broadcast. -/
abbrev NodeId := BitVec 16

/-- A client number, 0 to 4,095 (R16). -/
abbrev ClientId := BitVec 12

/-- A Broash port, P0 to P3. -/
abbrev Port := Fin 4

/-- A source number, 0 to 63 (R16). -/
abbrev SrcId := Fin 64

/-- A physical lane of a port: 0 is L0, 1 is L1, 2 is LS (R151). -/
abbrev PhyLane := Fin 3

/-- A logical lane of a port (R147). -/
abbrev LogLane := Fin 2

end Sys2Proof
end

