-- ==== Sys2Proof/Syntax.lean ====
section
/-! DEFINITION. The commands of the block: one constructor of `Instr` per row of spec/opcode_table.json, and the
operand types they carry. The table gives its rows no operands ("fields" is empty in every row), so the operands
here are what the rule named in the row needs from outside the node: a command as its sender wrote it, a packet as
it arrived, a level, a measured value (assumption 2). -/

namespace Sys2Proof

/-- Where a register access comes from (R421); `quill` carries whether Quill is in secure mode, `poke` the client
whose NODE_POKE it is (R369). -/
inductive Path where
  | quill (secure : Bool)
  | host
  | poke (client : ClientId)
  | i2c
  | jtag
  | user
  deriving DecidableEq, Repr

/-- How a command reached the node that takes it: a client's ring, the LOCAL port, or a Broash CMD from `src`
which arrived addressed to this node alone or to every node (R296). -/
inductive Route where
  | ring
  | localPort
  | broash (src : NodeId) (broadcast : Bool)
  deriving DecidableEq, Repr

/-- The authentication trailer of a command (R286): CSEQ and the 16-byte tag. -/
structure Trailer where
  cseq : BitVec 64
  tag  : BitVec 128
  deriving DecidableEq, Repr

/-- A command packet (R286) without its opcode, which the row names. PLEN is the number of parameter words. -/
structure Cmd where
  route     : Route
  client    : ClientId
  tag       : BitVec 16
  target    : NodeId
  atTick    : Bool
  noReply   : Bool
  urgent    : Bool
  applyTick : Word
  params    : List Word
  trailer   : Option Trailer
  deriving DecidableEq, Repr

/-- A packet as it arrives on a port (R175 to R177): the header fields, the body words in order, the value of the
CRC field, and the logical lane, the codeword kind and the CWSEQ of the codeword its first byte came in. -/
structure Rx where
  port   : Port
  lane   : LogLane
  replay : Bool
  type   : BitVec 4
  dest   : NodeId
  src    : NodeId
  seq    : BitVec 16
  body   : List Word
  crc    : Word
  cw     : BitVec 16
  deriving DecidableEq, Repr

/-- A codeword as the receiver samples it (R146): 360 symbols of 10 bits in the order received. -/
structure Codeword where
  symbols : List (BitVec 10)
  deriving DecidableEq, Repr

/-- A setting's record pair of an older FORMAT that a firmware image can migrate, and the content it makes of it (R368). -/
structure OldSetting where
  format   : BitVec 16
  primary  : Fin 2365
  mirror   : Fin 2365
  migrated : List Word
  deriving DecidableEq, Repr

/-- A setting of a firmware image (R367): RID, the FORMAT it uses, the places of both copies in the settings pages, the
default, and the older formats it migrates. -/
structure Setting where
  rid     : BitVec 16
  format  : BitVec 16
  primary : Fin 2365
  mirror  : Fin 2365
  default : List Word
  old     : List OldSetting
  deriving DecidableEq, Repr

/-- What firmware finds as it starts: the IREF conversion (R35) and the settings of its image (R367). -/
structure StartFacts where
  irefCode : BitVec 12
  settings : List Setting
  deriving DecidableEq, Repr

/-- What a restart of Quill finds: the helper programs' CRC (R353) and the settings of the image (R367). -/
structure RestartFacts where
  helperCrcOk : Bool
  settings    : List Setting
  deriving DecidableEq, Repr

/-- Entries of host memory that a table walk of R312 reads: (physical address, 64-bit entry); `busError` lists
addresses whose completion comes back with an error; `bars` is where the head's own BAR0 and BAR2 lie: base and size
(R314); `damaged` lists ticks with a journal record that the target gives back with a failed CRC or with a line that
disagrees with its SRCD digest (R329). -/
structure HostMem where
  entries  : List (Nat × BitVec 64)
  busError : List Nat
  bars     : List (Nat × Nat)
  damaged  : List Word
  deriving DecidableEq, Repr

/-- One SDI link's part of a line (R54, R57, R58): the receiver lane, the rate it found (0 none: the signal is gone; 1 1.485,
2 2.97, 3 5.94, 4 11.88 Gbit/s) and whether divided by 1.001, the link number of ST 352 (1 to 4, as in quad-link), how many
lines it lags the first link, and its samples; the chroma sample sited at an even pixel is given in a list of its own. -/
structure SdiPart where
  lane   : Fin 8
  rate   : BitVec 3
  m1001  : Bool
  link   : Nat
  lag    : Nat
  luma   : List (BitVec 10)
  cb     : List (BitVec 10)
  cr     : List (BitVec 10)
  crcOk  : Bool              -- the line CRC words agree (R57)
  ancillary : Nat            -- audio and ancillary packets discarded on the line
  deriving DecidableEq, Repr

/-- An SDI line: its number among the active lines of the frame, of the field when interlaced, or of the link in quad-link;
and the parts that came, one of a single link, up to four of a quad-link. -/
structure SdiLine where
  line     : Nat
  field2   : Bool            -- second field of an interlaced source (R59)
  parts    : List SdiPart
  deriving DecidableEq, Repr

/-- One pixel's codes as an ST 2110 or host sample carries them, before R67: three components and alpha. -/
structure RawPixel where
  c0    : BitVec 16
  c1    : BitVec 16
  c2    : BitVec 16
  alpha : BitVec 16
  deriving DecidableEq, Repr

/-- A sample row of an ST 2110 packet (one SRD): line number, first pixel, pixels (for 4:2:2, c1 and c2 of an even
pixel are its chroma samples and those of an odd pixel are unused), and its SRD length in octets. -/
structure Srd where
  line    : Nat
  offset  : Nat
  pixels  : List RawPixel
  octets  : Nat
  deriving DecidableEq, Repr

/-- An Ethernet frame as R60 to R64 look at it. `full`: the receive buffer of its filter held 1,024 packets when it came,
which a sender of type N, NL or W does not bring about (R61); how fast the buffer drains is not stated. -/
structure EthFrame where
  eth       : Fin 2
  full      : Bool
  fcsOk     : Bool
  ipv4      : Bool
  udp       : Bool
  fragment  : Bool
  vlanTags  : Nat
  vlanId    : BitVec 12
  ipSumOk   : Bool
  udpSum    : BitVec 16
  udpSumOk  : Bool
  dstIp     : Word
  dstPort   : BitVec 16
  rtpVer    : BitVec 2
  payloadType : BitVec 7
  marker    : Bool
  seq       : BitVec 32      -- RTP sequence extended by the 16-bit extension (R61)
  timestamp : Word
  field2    : Bool
  srds      : List Srd
  deriving DecidableEq, Repr

/-- How an SDI signal is mapped to its links (R56). -/
inductive SdiMapping where
  | supported | levelBDs | squareDivision
  deriving DecidableEq, Repr

/-- What the ST 352 payload identifier of a frame says (R57): picture size, rate, scanning, sampling and mapping. -/
structure St352 where
  width      : Nat
  height     : Nat
  num        : Nat
  den        : Nat
  interlaced : Bool
  is422      : Bool
  bits       : Nat
  mapping    : SdiMapping
  deriving DecidableEq, Repr

/-- What the receiver read of a source frame beside its lines: the ST 352 payload identifier, when there was one (R57). -/
structure FrameInfo where
  pid : Option St352
  deriving DecidableEq, Repr

/-- A word of an SRAM bank that its code finds wrong when it is read (R335): one bit, the word then corrected to `value`,
or two when `double`; and the word that the bank's owner writes there in the cycle of the write-back through port B, if it
does (R334). -/
structure SramError where
  word       : BitVec 17
  value      : BitVec 64
  double     : Bool
  ownerWrites : Option (BitVec 64)
  deriving DecidableEq, Repr

/-- The four comparators of a checked sink (R252), with the lamp it drove. -/
structure SinkCheck where
  lamp   : Fin 43200
  gclk   : Nat
  reg    : Bool
  hrLo   : Bool
  hrHi   : Bool
  short  : Bool
  deriving DecidableEq, Repr

/-- The use of one dead time (R259): a pin-short test of sink k and its result for both neighbours, a probe, a
trim comparison (true: the sink is above the reference), or nothing. -/
inductive DeadUse where
  | idle
  | pinTest (k : Fin 480) (upperLow upperHigh lowerLow lowerHigh : Bool)
  | probe (c : SinkCheck)
  | trim (above : Bool)
  deriving DecidableEq, Repr

/-- The rails that are good and those above 0.3 V, in the order of PWR_RAIL_STAT.GOOD (R40, R41). -/
structure Rails where
  good  : BitVec 8
  risen : BitVec 8
  deriving DecidableEq, Repr

/-- A source line of which a unit reads poisoned, and the unit's burst (R349). -/
structure PoisonedUnit where
  source : Fin 64
  line   : Nat
  burst  : BitVec 30
  deriving DecidableEq, Repr

/-- DRAM reads of one patch composition that meet an uncorrectable error (R116, R349): that of its Inkwell entry, and
source units. -/
structure PatchErrors where
  entry : Bool
  units : List PoisonedUnit
  deriving DecidableEq, Repr

/-- How a patch ends in Espalier: what the next lane found when it repeated the spare's check, where one was made (R126),
and the DRAM errors met. -/
structure PatchEnd where
  agrees : Option Bool
  errors : PatchErrors
  deriving DecidableEq, Repr

/-- A same-bank refresh of a subchannel (R344, R348): the bank, whether a component is above 85 °C, and how far the read
timing has drifted. -/
structure BankRefresh where
  bank  : Fin 16
  hot   : Bool
  drift : Int
  deriving DecidableEq, Repr

/-- A sample of the four straps, ROLE1:ROLE0 and BOOT1:BOOT0 (R37). -/
structure Straps where
  role : BitVec 2
  boot : BitVec 2
  deriving DecidableEq, Repr

/-- The sensor and rail-monitor sample of R383: the readings of sensors 0 to 7 in 1/8 °C, and the rail-monitor power inputs
of model nodes 0 to 2, in 10 mW. Sensors 8 to 11 are read through the sense ADC. -/
structure ThermalSample where
  sensors : List Int
  powers  : List Nat
  deriving DecidableEq, Repr

/-- The 4 KiB of a firmware block as words, in image order (R371). -/
abbrev Block := List Word

/-- One row of SRC, CMP and the like is written whole: the value written to the register the row names. -/
abbrev Value := Word

/-- THE ONE INDUCTIVE: one constructor per row of spec/opcode_table.json, in the table's order. -/
inductive Instr where
  -- opcodes of the command set (R286 to R305), taken by this node
  | nop (c : Cmd)
  | echo (c : Cmd)
  | getInfo (c : Cmd)
  | clientOpen (c : Cmd)
  | clientClose (c : Cmd)
  | clientGrant (c : Cmd)
  | keyInstall (c : Cmd)
  | srcDefine (c : Cmd)
  | srcEnable (c : Cmd)
  | srcStatus (c : Cmd)
  | srcWatch (c : Cmd)
  | winCreate (c : Cmd)
  | winModify (c : Cmd)
  | winDelete (c : Cmd)
  | winBatch (c : Cmd)
  | planeOrder (c : Cmd)
  | domEnumerate (c : Cmd)
  | tilePlace (c : Cmd)
  | tileQuery (c : Cmd)
  | domBarrier (c : Cmd)
  | domSnapshot (c : Cmd)
  | domReset (c : Cmd)
  | nodePeek (c : Cmd)
  | nodePoke (c : Cmd)
  | corLoad (c : Cmd)
  | corCommit (c : Cmd)
  | lampTest (c : Cmd)
  | wallGain (c : Cmd)
  | ageingCtl (c : Cmd)
  | houseTime (c : Cmd)
  | tickConfig (c : Cmd)
  | leadSet (c : Cmd)
  | redPair (c : Cmd)
  | redSwitch (c : Cmd)
  | redResync (c : Cmd)
  | redTile (c : Cmd)
  | privetLoad (c : Cmd)
  | privetShow (c : Cmd)
  | privetHide (c : Cmd)
  | jrnConfig (c : Cmd)
  | jrnStart (c : Cmd)
  | jrnStop (c : Cmd)
  | jrnReplay (c : Cmd)
  | updBegin (c : Cmd)
  | updBlock (c : Cmd)
  | updVerify (c : Cmd)
  | updActivate (c : Cmd)
  | updConfirm (c : Cmd)
  | pmuConfig (c : Cmd)
  | pmuRead (c : Cmd)
  | blotRead (c : Cmd)
  | selftest (c : Cmd)
  | linkEye (c : Cmd)
  | customerOpcode (opcode : BitVec 12) (c : Cmd)
  -- how commands arrive, and how they are closed
  | ringCommandTaken (client : ClientId) (words : List Word) (mem : HostMem)
  | localCommand (words : List Word)
  | cmdPacketReceived (p : Rx)
  | rplReceived (p : Rx)
  | commandTimeout (client : ClientId) (tag : BitVec 16)
  | broadcastGatherTimeout (client : ClientId) (tag : BitVec 16)
  | stagedReplyWrite (client : ClientId) (mem : HostMem)
  -- power requests and register accesses with a row of their own
  | pwrReqOff (path : Path)
  | pwrReqReady (path : Path)
  | pwrReqActive (path : Path)
  | pwrReqDim (path : Path)
  | pwrReqPark (path : Path)
  | pwrReqInvalid (path : Path) (req : BitVec 4)
  | queuedRequestStart
  | warmReset (key : BitVec 16)
  | srcGmodeWrite (group : Fin 2) (v : Value)
  | gmodeTakeEffect (group : Fin 2)
  | srcHreadyWrite (n : SrcId) (v : Value)
  | heldDoorbellFetch (n : SrcId)
  | srcLutSwap (v : Value)
  | srcLutDataAccess (w : Option Value)
  | cmpPlaneOrderWrite (v : Value)
  | cmpFiltSwap (v : Value)
  | cmpFiltDataAccess (w : Option Value)
  | cmpWlutSwap (v : Value)
  | cmpWlutDataAccess (w : Option Value)
  | cmpInkInval (v : Value)
  | cmpRunaheadWrite (v : Value)
  | swapArm (p : Port) (v : Value)
  | lnkEscRelease (p : Port) (v : Value)
  | lnkPrbsStart (p : Port) (m : PhyLane) (v : Value)
  | eyeScanStart (p : Port) (m : PhyLane) (v : Value) (disagreements : Nat)
  | timeDtimeRead
  | timeHtNsRead
  | timeHtNsWrite (v : Value)
  | timeHtSecWrite (v : Value)
  | corAgeNow (v : Value)
  | rowLatchRelease (w : Fin 3) (v : Value)
  | memBistStart (v : Value) (path : Path)
  | nvmRead (page : BitVec 12) (path : Path)
  | nvmWrite (page : BitVec 12) (path : Path) (failingPages : Nat)
  | nvmWriteDone
  | icuSetpend (source : BitVec 8) (path : Path)
  | icuClrpend (source : BitVec 8) (path : Path)
  | icuClaim1Read
  | icuEoi (p : Fin 2) (level : BitVec 4)
  | xltInvalidate (v : Value)
  | channelResume (ch : Fin 5) (v : Value)
  | ringEnable (v : Value)
  | ringReset (v : Value)
  | doorbellWrite (client : ClientId) (dword0 : Option Word) (dword1 : Option Word)
  | mailboxWrite (index : Fin 1024) (v : Value)
  | updRecBlock (v : Value)
  | pmuTimedArm (v : Value)
  | pmuCntLoRead (n : Fin 32)
  | pmuCounterClear (n : Fin 32) (v : Value)
  | jrnCiHiWrite (v : Value)
  | barBadSizeAccess (write : Bool)
  | srwNormalWorldWrite (offset : BitVec 22) (v : Value) (path : Path)
  | registerWrite (offset : BitVec 22) (v : Value) (path : Path)
  -- resets, rails, wake and boot
  | powerOnReset (porLowUs : Nat) (vaonBelow1V : Bool)
  | brownOut (durationNs : Nat) (vaonBelow1V : Bool)
  | railFailure (rail : Fin 8)
  | railsGood (rails : Rails)
  | railTimeout
  | wake (stays : Bool)
  | linkActivityWake (p : Port)
  | sramClearDone
  | strapSampling (samples : List Straps)
  | firmwareStart (facts : StartFacts)
  | emergencyOff
  | thermalShutdown
  | safeNLow
  | safeNHigh
  | pcieReset
  | functionLevelReset
  | busMasterEnableChange (enabled : Bool)
  | testReset
  | domainResetInstant
  -- references and the tick
  | syncPpsEdge (wait : Nat)
  | syncHEdge (wait : Nat) (frac : Byte)
  | referenceLost
  | tickStart
  | bankClearDone (bank : Fin 16)
  -- the head's frame
  | composeStart
  | journalRoomReturn
  | patchComposed (tile : Fin 8192) (patch : Fin 60) (lane : Fin 4) (spareDiffers : Bool) (ends : PatchEnd)
  | pushDeadline (port : Port) (unfinished : List (Fin 8192 × Fin 60 × Fin 240))
  -- the tile's frame
  | patchReceived (p : Rx)
  | sealReceived (p : Rx)
  | voidReceived (p : Rx)
  | commitDecision
  | showFrame
  | pipelineRun
  | pipelineRunEnd
  | subframeStart (sub : Fin 64) (checks : List SinkCheck)
  | rowSlot (sub : Fin 64) (row : Fin 45) (pipelineStalled : Bool)
  | deadTime (use : DeadUse)
  | rowOvercurrentTrip (row : Fin 90)
  | scanPeriodEnd (checks : List SinkCheck)
  | trimSweepStart
  | trimSweepEnd
  | phaseShareWindow (averages : List Nat)
  | adcConversion (raw : Int)
  | railSoftStartDone
  | vledDischarged
  | offFlushDone
  | ledgerFlush
  | ageingPeriod
  | ageingGainDone
  | dtimeWrap
  | houseSecondRollover
  | thermalModelUpdate (sample : ThermalSample)
  | throttleStep
  -- sources
  | sdiLineReceived (l : SdiLine)
  | st2110PacketReceived (f : EthFrame)
  | sourceFrameComplete (n : SrcId) (info : FrameInfo)
  | sourceLostTimeout (n : SrcId)
  | hostFrameFetched (n : SrcId) (rows : List (List RawPixel)) (mem : HostMem)
  -- the lane layer
  | codewordReceived (p : Port) (m : PhyLane) (cw : Codeword)
  | nackResendTimeout (p : Port) (k : LogLane)
  | resync (p : Port) (k : LogLane) (reason : BitVec 8)
  | laneSwap (p : Port) (m : PhyLane) (k : LogLane) (fn : Word)
  | idleEnter (p : Port)
  | calReq (p : Port) (lane : PhyLane) (abandon : Bool)
  | calReady (p : Port) (lane : PhyLane)
  | hello (p : Port) (version : Byte) (trained : BitVec 3) (rxMap : BitVec 6) (capLow capHigh : Byte) (stamp : Word)
  | fastIdleEntry (p : Port)
  | fastIdleExit (p : Port)
  | fastIdleWake (p : Port) (burstSeen : Bool) (codewordOk : Bool)
  | signalDetect (p : Port) (trains : BitVec 3)
  | bringUpTimeout (p : Port)
  | laneFailure (p : Port) (m : PhyLane)
  | standInTrained (p : Port)
  | calibrationPeriod (p : Port)
  | calibrationQueuedStart (p : Port)
  | spareTrained (p : Port)
  | calibrationSwapTick (p : Port)
  -- the PRBS errors counted at each CTLE setting, at each step of taps 1 to 5 (−8 first) and at each phase, and in the
  -- verification
  | calibrationSweepDone (p : Port) (ctle : List Nat) (dfe : List (List Nat)) (phase : List Nat) (errors : Nat)
  | deepParkExitDone
  -- the network layer
  | packetForward (p : Rx)
  | escalationInterval
  | timeSyncReceived (p : Rx) (stamp : Word) (stampFr : Byte)
  | timeDreqReceived (p : Rx) (stamp : Word) (stampFr : Byte)
  | timeDrespReceived (p : Rx) (stamp : Word) (stampFr : Byte)
  | syncBeacon
  | dreqTimer
  | masterTimeout
  | barReqReceived (p : Rx)
  | barArriveReceived (p : Rx)
  | snapReceived (p : Rx)
  | snapshotInstant
  | evtReceived (p : Rx)
  | testPacketReceived (p : Rx)
  | walkReceived (p : Rx)
  | returnReceived (p : Rx)
  | walkReturnTimeout (port : Port)
  | reportReceived (p : Rx)
  | learnWalkStart
  | keyxReceived (p : Rx)
  | keyackReceived (p : Rx)
  | keyAgreementRetry (port : Port)
  | keyRollover (port : Port)
  | newKeySwitch (port : Port)
  -- redundancy
  | mirrorCmdReceived (p : Rx)
  | mirrorTableReceived (p : Rx)
  | snapendReceived (p : Rx)
  | resyncApply
  | heartbeatTimer
  | heartbeatReceived (p : Rx)
  | heartbeatTimeout
  | mirrorAckReceived (p : Rx)
  | resyncReqReceived (p : Rx)
  | relinquishReceived (p : Rx)
  | roleTakeoverTick
  | privetCmdReceived (p : Rx)
  | privetDataReceived (p : Rx)
  | privetEndReceived (p : Rx)
  -- firmware update
  | updReceived (p : Rx)
  | updBlockProgrammed
  | updSendGap (port : Port)
  | updEraseDone
  | updVerifyDone
  | updGatherTimeout
  | activationInstant
  | trialWatchdogExpiry
  | recoveryImageDone
  -- Quill, interrupts, memory, journal, monitors
  | quillLockstepMismatch (cycles : Word)
  | quillRestartDone (slot0Ok slot1Ok : Bool) (facts : RestartFacts)
  | userCommandTimeout
  | interruptClaim
  | quillWake (masked : Bool)
  | faultHandlingEnd
  | bistCopyDone (errors : List SramError)
  | bankMapSwitch
  | bistDone (passed : Bool)
  | coppiceRetry (kind : Fin 9)
  | dmcTrainingDone (failed : BitVec 2)
  | dramRefresh (sub : Fin 4) (refresh : BankRefresh)
  | dramSelfRefreshEntry (channel : Fin 2)
  | dramScrub (address : BitVec 36) (symbolErrors : Nat)
  | dramRowRepair (address : BitVec 36) (resourceLeft : Bool)
  | jrnSnapTimer
  | nvmeCompletion (device : Fin 4) (status : BitVec 16)
  | pmuTimedAction
  | resetRelease
  | emergencyOffRelease
  | ringHoldoffEnd (client : ClientId)
  | xltInvalidateDone
  | barrierTimeout
  deriving DecidableEq, Repr

end Sys2Proof
end

