-- ==== Sys2Proof/WellFormed.lean ====
section
/-! DEFINITION. Which operands are ones that can reach the node at all. The types already bound every field that is a bit
field or an index; what is left are lengths of lists and relations between fields. The machine is total on ill-formed
operands too: a check here only says what a sender or the board can produce. -/

namespace Sys2Proof

/-- A command's parameters fit PLEN's 12 bits (R286). -/
def Cmd.wf (c : Cmd) : Bool := decide (c.params.length < 4096)

/-- A packet's body fits LEN's 12 bits (R175), and TYPE is not that of padding. -/
def Rx.wf (x : Rx) : Bool := decide (x.body.length < 4096) && decide (x.type ≠ 0)

/-- Table entries lie at multiples of 8 (R312). -/
def HostMem.wf (m : HostMem) : Bool := m.entries.all (fun e => decide (e.1 % 8 = 0))

/-- Chroma samples are sited at the even pixels of a line (R57, R69), or at each; ST 352 numbers the links from 1 (R58). -/
def SdiPart.wf (l : SdiPart) : Bool :=
  decide (l.cb.length = l.cr.length) && (decide (l.cb.length = (l.luma.length + 1) / 2) || decide (l.cb.length = l.luma.length)) &&
    decide (1 ≤ l.link) && decide (l.link ≤ 4)

/-- A line comes over one link, or over up to four (R58). -/
def SdiLine.wf (l : SdiLine) : Bool := decide (1 ≤ l.parts.length) && decide (l.parts.length ≤ 4) && l.parts.all SdiPart.wf

/-- A sample row has pixels (R61). -/
def EthFrame.wf (f : EthFrame) : Bool := f.srds.all (fun r => !r.pixels.isEmpty)

/-- A checked sink drove a lamp for at least one gray clock (R252). -/
def SinkCheck.wf (c : SinkCheck) : Bool := decide (0 < c.gclk)

/-- A codeword has 360 symbols (R146). -/
def Codeword.wf (c : Codeword) : Bool := decide (c.symbols.length = 360)

/-- Twelve sensors and the three model nodes with a power input (R383). -/
def ThermalSample.wf (x : ThermalSample) : Bool := decide (x.sensors.length = 8) && decide (x.powers.length = 3)

/-- The operands of a row are well formed. -/
def Instr.wf (i : Instr) : Bool :=
  match i with
  | .nop c | .echo c | .getInfo c | .clientOpen c | .clientClose c | .clientGrant c | .keyInstall c | .srcDefine c
  | .srcEnable c | .srcStatus c | .srcWatch c | .winCreate c | .winModify c | .winDelete c | .winBatch c | .planeOrder c
  | .domEnumerate c | .tilePlace c | .tileQuery c | .domBarrier c | .domSnapshot c | .domReset c | .nodePeek c | .nodePoke c
  | .corLoad c | .corCommit c | .lampTest c | .wallGain c | .ageingCtl c | .houseTime c | .tickConfig c | .leadSet c
  | .redPair c | .redSwitch c | .redResync c | .redTile c | .privetLoad c | .privetShow c | .privetHide c | .jrnConfig c
  | .jrnStart c | .jrnStop c | .jrnReplay c | .updBegin c | .updBlock c | .updVerify c | .updActivate c | .updConfirm c
  | .pmuConfig c | .pmuRead c | .blotRead c | .selftest c | .linkEye c | .customerOpcode _ c => c.wf
  | .ringCommandTaken _ words mem => decide (words.length ≤ 4089) && mem.wf
  | .localCommand words => !words.isEmpty
  | .cmdPacketReceived p | .rplReceived p | .patchReceived p | .sealReceived p | .voidReceived p | .packetForward p
  | .barReqReceived p | .barArriveReceived p | .snapReceived p | .evtReceived p | .testPacketReceived p | .walkReceived p
  | .returnReceived p | .reportReceived p | .keyxReceived p | .keyackReceived p | .mirrorCmdReceived p
  | .mirrorTableReceived p | .snapendReceived p | .heartbeatReceived p | .mirrorAckReceived p | .resyncReqReceived p
  | .relinquishReceived p | .privetCmdReceived p | .privetDataReceived p | .privetEndReceived p | .updReceived p => p.wf
  | .timeSyncReceived p _ _ | .timeDreqReceived p _ _ | .timeDrespReceived p _ _ => p.wf
  | .stagedReplyWrite _ mem => mem.wf
  | .hostFrameFetched _ _ mem => mem.wf
  | .sdiLineReceived l => l.wf
  | .st2110PacketReceived f => f.wf
  | .subframeStart _ checks => checks.all SinkCheck.wf
  | .scanPeriodEnd checks => checks.all SinkCheck.wf
  | .deadTime (.probe c) => c.wf
  | .codewordReceived _ _ cw => cw.wf
  | .calibrationSweepDone _ ctle dfe phase _ => decide (ctle.length = 16) && decide (dfe.length = 5) &&
      dfe.all (fun l => decide (l.length = 17)) && decide (phase.length = 64)
  | .thermalModelUpdate x => x.wf
  | .phaseShareWindow averages => decide (averages.length = 4)
  | .strapSampling samples => !samples.isEmpty
  | .pushDeadline _ unfinished => decide ((unfinished.map (fun e => (e.1, e.2.1))).Nodup)
  | .pwrReqInvalid _ req => decide (req = 1) || decide (6 ≤ req.toNat)
  | .powerOnReset _ _ | .brownOut _ _ | .commandTimeout _ _ | .broadcastGatherTimeout _ _ | .pwrReqOff _ | .pwrReqReady _
  | .pwrReqActive _ | .pwrReqDim _ | .pwrReqPark _ | .queuedRequestStart | .warmReset _ | .srcGmodeWrite _ _
  | .gmodeTakeEffect _ | .srcHreadyWrite _ _ | .heldDoorbellFetch _ | .srcLutSwap _ | .srcLutDataAccess _
  | .cmpPlaneOrderWrite _ | .cmpFiltSwap _ | .cmpFiltDataAccess _ | .cmpWlutSwap _ | .cmpWlutDataAccess _ | .cmpInkInval _
  | .cmpRunaheadWrite _ | .swapArm _ _ | .lnkEscRelease _ _ | .lnkPrbsStart _ _ _ | .eyeScanStart _ _ _ _ | .timeDtimeRead
  | .timeHtNsRead | .timeHtNsWrite _ | .timeHtSecWrite _ | .corAgeNow _ | .rowLatchRelease _ _ | .memBistStart _ _
  | .nvmRead _ _ | .nvmWrite _ _ _ | .nvmWriteDone | .icuSetpend _ _ | .icuClrpend _ _ | .icuClaim1Read | .icuEoi _ _
  | .xltInvalidate _ | .channelResume _ _ | .ringEnable _ | .ringReset _ | .doorbellWrite _ _ _ | .mailboxWrite _ _
  | .updRecBlock _ | .pmuTimedArm _ | .pmuCntLoRead _ | .pmuCounterClear _ _ | .jrnCiHiWrite _ | .barBadSizeAccess _
  | .srwNormalWorldWrite _ _ _ | .registerWrite _ _ _ | .railFailure _ | .railsGood _ | .railTimeout | .wake _
  | .linkActivityWake _ | .sramClearDone | .firmwareStart _ | .emergencyOff | .thermalShutdown | .safeNLow | .safeNHigh
  | .pcieReset | .functionLevelReset | .busMasterEnableChange _ | .testReset | .domainResetInstant | .syncPpsEdge _
  | .syncHEdge _ _ | .referenceLost | .tickStart | .bankClearDone _ | .composeStart | .journalRoomReturn
  | .patchComposed _ _ _ _ _ | .commitDecision | .showFrame | .pipelineRun | .pipelineRunEnd | .rowSlot _ _ _ | .deadTime _
  | .rowOvercurrentTrip _ | .trimSweepStart | .trimSweepEnd | .adcConversion _ | .railSoftStartDone | .vledDischarged
  | .offFlushDone | .ledgerFlush | .ageingPeriod | .ageingGainDone | .dtimeWrap | .houseSecondRollover | .throttleStep
  | .sourceFrameComplete _ _ | .sourceLostTimeout _ | .nackResendTimeout _ _ | .resync _ _ _ | .laneSwap _ _ _ _
  | .idleEnter _ | .calReq _ _ _ | .calReady _ _ | .hello _ _ _ _ _ _ _ | .fastIdleEntry _ | .fastIdleExit _
  | .fastIdleWake _ _ _ | .signalDetect _ _ | .bringUpTimeout _ | .laneFailure _ _ | .standInTrained _ | .calibrationPeriod _
  | .calibrationQueuedStart _ | .spareTrained _ | .calibrationSwapTick _ | .deepParkExitDone
  | .escalationInterval | .syncBeacon | .dreqTimer | .masterTimeout | .snapshotInstant | .walkReturnTimeout _
  | .learnWalkStart | .keyAgreementRetry _ | .keyRollover _ | .newKeySwitch _ | .resyncApply | .heartbeatTimer
  | .heartbeatTimeout | .roleTakeoverTick | .updBlockProgrammed | .updSendGap _ | .updEraseDone | .updVerifyDone
  | .updGatherTimeout | .activationInstant | .trialWatchdogExpiry | .recoveryImageDone | .quillLockstepMismatch _
  | .quillRestartDone _ _ _ | .userCommandTimeout | .interruptClaim | .quillWake _ | .faultHandlingEnd | .bistCopyDone _
  | .bankMapSwitch | .bistDone _ | .coppiceRetry _ | .dmcTrainingDone _ | .dramRefresh _ _ | .dramSelfRefreshEntry _
  | .dramScrub _ _ | .dramRowRepair _ _ | .jrnSnapTimer | .nvmeCompletion _ _ | .pmuTimedAction | .resetRelease
  | .emergencyOffRelease | .ringHoldoffEnd _ | .xltInvalidateDone | .barrierTimeout => true

end Sys2Proof
end

