-- ==== Sys2Proof/Decode.lean ====
section
/-! DEFINITION. The command a word spells by the bits of spec/opcode_table.json. The table gives no row any bits (the
"fields" of every row are empty), so no word spells a command. The words of a command packet are read elsewhere: their
layout is the spec's own (R286), in Machine/CmdCore.lean. -/

namespace Sys2Proof

/-- The command that `nbits` bits `w` spell by the table: none, as no row of the table gives bits. -/
def decodeTableWord (nbits w : Nat) : Option Instr :=
  match nbits, w with
  | _, _ => none

end Sys2Proof
end

