-- ==== Sys2Proof/Config.lean ====
section
/-! DEFINITION. What an implementation or a part fixes and the spec does not state, and the free values: opaque
constants, so that no proof can see a value of them. -/

namespace Sys2Proof

/-- A value the spec leaves open; the argument is a fresh number for each use (assumption 5). -/
opaque Config.freeValue : Nat → Nat

/-- SYS_ID.GRADE, fused. -/
opaque Config.grade : Nat

/-- SYS_ID.STEP, fused. -/
opaque Config.step : Nat

/-- The private half of the node's identity key, made at manufacture. -/
opaque Config.idSecret : Nat

/-- Whether a POR_N pulse between 1 µs and 10 µs resets the part (R42), by its length in µs. -/
opaque Config.porMid : Nat → Bool

/-- The ephemeral P-384 secret the node makes for a KEYX, by a fresh number (R190). -/
opaque Config.ephemeralSecret : Nat → Nat

/-- What a PRBS pattern checker counts while it is enabled, by a fresh number. -/
opaque Config.prbsErrors : Nat → Nat

/-- Stage 1's value of a code wider than the format in effect, for which EOTF has no entry (R220): format and code. -/
opaque Config.eotfBeyond : Nat → Nat → Nat

/-- A division whose rounding the spec does not state: numerator and denominator (R201). -/
opaque Config.roundDiv : Int → Nat → Int

/-- The filtered offset the second-order loop of R204 gives for a sample in 1/256 ns, by a fresh number. -/
opaque Config.filtered : Nat → Int → Int

/-- The DTIME correction in ns that slewing has applied when a beacon is taken (R204, R206), by a fresh number. -/
opaque Config.slew : Nat → Int → Int

/-- TIME_MASTER_CFG.PRIO of another head, as a node's head table gives it (R203; assumption 11). -/
opaque Config.headPrio : NodeId → Nat

/-- The limit of the rolling activate count that the DRAM components declare, and by how much a refresh lowers the count
(R344). -/
opaque Config.actLimit : Nat
opaque Config.actRefresh : Nat

/-- The length of the read-timing tracking range of the DRAM controller, in steps (R348). -/
opaque Config.trackRange : Nat

/-- The thermal resistances and capacities of the model by firmware image (R382): kind and index, in K/W or J/K. -/
opaque Config.thermalConst : Nat → Nat → Rat

/-- The digest of station key slot and its revocation, fused at manufacture (R371): the fused key words of slot `n`. -/
opaque Config.fusedKey : Nat → List Word

/-- The 64-byte stored units of a source line, whose arrangement is internal (R75): SRC_CFG.FORMAT class (1 with alpha) and
the line's codes to words, sixteen a unit. -/
opaque Config.storedUnits : Nat → List Nat → List Word

/-- A fused key digest is revoked (R372). -/
opaque Config.keyRevoked : Nat → Bool

/-- The node key, secret to the part (R366). -/
opaque Config.nodeKey : BitVec 256

/-- Skeirad's PCI vendor ID (R307). -/
opaque Config.pciVendor : Nat

/-- The AES-256-GMAC tag of a Privet item under the key secret to the tile (R282): item number and the bytes held. -/
opaque Config.privetTag : Nat → List Nat → BitVec 128

/-- What a tile reads where it did not keep a byte of a Privet item (R281): item number and byte offset (assumption 154). -/
opaque Config.lostByte : Nat → Nat → Nat

/-- What customer code answers (R354): opcode, parameters and a fresh number to the end it takes (0 OK, 1 another address
touched, 2 still running) and its result words. -/
opaque Config.userCode : Nat → List Word → Nat → Nat × List Word

end Sys2Proof
end

