-- ==== Sys2Proof/Machine/Crc.lean ====
section
/-! DEFINITION. The cyclic redundancy checks the spec gives exactly: CRC-32C (R83, R175) and CRC-64 with the ECMA-182
polynomial (R133). -/

namespace Sys2Proof.Machine

/-- One bit step of the reflected CRC-32C. -/
def crc32cBit (c : Nat) : Nat := if c % 2 = 1 then (c / 2) ^^^ 0x82F63B78 else c / 2

/-- Eight bit steps. -/
def crc32cByte (c b : Nat) : Nat :=
  crc32cBit (crc32cBit (crc32cBit (crc32cBit (crc32cBit (crc32cBit (crc32cBit (crc32cBit (c ^^^ b))))))))

/-- The register after a list of bytes. -/
def crc32cRun (c : Nat) (l : List Nat) : Nat :=
  match l with
  | [] => c
  | b :: t => crc32cRun (crc32cByte c b) t

/-- CRC-32C: reflected, initial value and final XOR all ones. -/
def crc32c (l : List Nat) : Nat := crc32cRun 0xFFFFFFFF l ^^^ 0xFFFFFFFF

/-- One bit step of the CRC-64 of R133, most significant bit first (assumption 10). -/
def crc64Bit (c : Nat) : Nat :=
  if 2 ^ 63 ≤ c then ((c * 2) % 2 ^ 64) ^^^ 0x42F0E1EBA9EA3693 else c * 2

/-- Eight bit steps. -/
def crc64Byte (c b : Nat) : Nat :=
  crc64Bit (crc64Bit (crc64Bit (crc64Bit (crc64Bit (crc64Bit (crc64Bit (crc64Bit (c ^^^ (b * 2 ^ 56)))))))))

/-- The register after a list of bytes. -/
def crc64Run (c : Nat) (l : List Nat) : Nat :=
  match l with
  | [] => c
  | b :: t => crc64Run (crc64Byte c b) t

/-- CRC-64 of R133: initial value and final XOR all ones. -/
def crc64 (l : List Nat) : Nat := crc64Run (2 ^ 64 - 1) l ^^^ (2 ^ 64 - 1)

/-- The bytes of a word in wire order, bits [31:24] first (R175). -/
def wireBytes (w : Word) : List Nat :=
  [w.toNat / 2 ^ 24 % 256, w.toNat / 2 ^ 16 % 256, w.toNat / 2 ^ 8 % 256, w.toNat % 256]

/-- The bytes of a list of words in wire order. -/
def wireStream (l : List Word) : List Nat :=
  match l with
  | [] => []
  | w :: t => wireBytes w ++ wireStream t

/-- The bytes of a word in little-endian order. -/
def leBytes (w : Word) : List Nat :=
  [w.toNat % 256, w.toNat / 2 ^ 8 % 256, w.toNat / 2 ^ 16 % 256, w.toNat / 2 ^ 24 % 256]

/-- The little-endian byte stream of a list of words. -/
def leStream (l : List Word) : List Nat :=
  match l with
  | [] => []
  | w :: t => leBytes w ++ leStream t

end Sys2Proof.Machine
end

