-- ==== Sys2Proof/Machine/Crypto.lean ====
section
/-! DEFINITION. The cryptographic functions the spec names by their standards (R188, R190, R191, R266, R280, R291, R293,
R366, R371, R372): SHA-384 and HMAC, HKDF, AES-256 with GCM, GMAC and the key wrap of RFC 3394, and ECDH and ECDSA on
P-384. Bytes are natural numbers below 256. Which bytes the spec's words give stands in assumption 6. -/

namespace Sys2Proof.Machine

/-- A byte string as a number, first byte most significant. -/
def beNat (l : List Nat) : Nat := l.foldl (fun a b => a * 256 + b) 0

/-- The `n` bytes of a number, most significant first. -/
def beBytes (n v : Nat) : List Nat :=
  match n with
  | 0 => []
  | n + 1 => (v >>> (8 * n)) % 256 :: beBytes n v

/-- The bytes of a key of 256 bits, key byte 0 in bits [7:0] (KEY_INSTALL). -/
def keyBytes (k : BitVec 256) : List Nat := (beBytes 32 k.toNat).reverse

/-- The key of 32 bytes. -/
def keyOfBytes (l : List Nat) : BitVec 256 := BitVec.ofNat 256 (beNat l.reverse)

/-- The words of a byte stream, bits [31:24] first. -/
def wireWords (l : List Nat) : List Word :=
  match l with
  | a :: b :: c :: d :: t => BitVec.ofNat 32 (beNat [a, b, c, d]) :: wireWords t
  | _ => []

/-- The words of a byte stream, bits [7:0] first. -/
def leWords (l : List Nat) : List Word :=
  match l with
  | a :: b :: c :: d :: t => BitVec.ofNat 32 (beNat [d, c, b, a]) :: leWords t
  | _ => []

/-- Two byte strings, XORed. -/
def xorBytes (a b : List Nat) : List Nat := List.zipWith (fun x y => x ^^^ y) a b

/-! ### SHA-384, HMAC and HKDF -/

/-- Round constants of SHA-512 and SHA-384. -/
def shaK : List Nat :=
  [0x428A2F98D728AE22, 0x7137449123EF65CD, 0xB5C0FBCFEC4D3B2F, 0xE9B5DBA58189DBBC,
   0x3956C25BF348B538, 0x59F111F1B605D019, 0x923F82A4AF194F9B, 0xAB1C5ED5DA6D8118,
   0xD807AA98A3030242, 0x12835B0145706FBE, 0x243185BE4EE4B28C, 0x550C7DC3D5FFB4E2,
   0x72BE5D74F27B896F, 0x80DEB1FE3B1696B1, 0x9BDC06A725C71235, 0xC19BF174CF692694,
   0xE49B69C19EF14AD2, 0xEFBE4786384F25E3, 0x0FC19DC68B8CD5B5, 0x240CA1CC77AC9C65] ++
  [0x2DE92C6F592B0275, 0x4A7484AA6EA6E483, 0x5CB0A9DCBD41FBD4, 0x76F988DA831153B5,
   0x983E5152EE66DFAB, 0xA831C66D2DB43210, 0xB00327C898FB213F, 0xBF597FC7BEEF0EE4,
   0xC6E00BF33DA88FC2, 0xD5A79147930AA725, 0x06CA6351E003826F, 0x142929670A0E6E70,
   0x27B70A8546D22FFC, 0x2E1B21385C26C926, 0x4D2C6DFC5AC42AED, 0x53380D139D95B3DF,
   0x650A73548BAF63DE, 0x766A0ABB3C77B2A8, 0x81C2C92E47EDAEE6, 0x92722C851482353B] ++
  [0xA2BFE8A14CF10364, 0xA81A664BBC423001, 0xC24B8B70D0F89791, 0xC76C51A30654BE30,
   0xD192E819D6EF5218, 0xD69906245565A910, 0xF40E35855771202A, 0x106AA07032BBD1B8,
   0x19A4C116B8D2D0C8, 0x1E376C085141AB53, 0x2748774CDF8EEB99, 0x34B0BCB5E19B48A8,
   0x391C0CB3C5C95A63, 0x4ED8AA4AE3418ACB, 0x5B9CCA4F7763E373, 0x682E6FF3D6B2B8A3,
   0x748F82EE5DEFB2FC, 0x78A5636F43172F60, 0x84C87814A1F0AB72, 0x8CC702081A6439EC] ++
  [0x90BEFFFA23631E28, 0xA4506CEBDE82BDE9, 0xBEF9A3F7B2C67915, 0xC67178F2E372532B,
   0xCA273ECEEA26619C, 0xD186B8C721C0C207, 0xEADA7DD6CDE0EB1E, 0xF57D4F7FEE6ED178,
   0x06F067AA72176FBA, 0x0A637DC5A2C898A6, 0x113F9804BEF90DAE, 0x1B710B35131C471B,
   0x28DB77F523047D84, 0x32CAAB7B40C72493, 0x3C9EBE0A15C9BEBC, 0x431D67C49C100D4C,
   0x4CC5D4BECB3E42B6, 0x597F299CFC657E2A, 0x5FCB6FAB3AD6FAEC, 0x6C44198C4A475817]

/-- Initial hash value of SHA-384. -/
def shaH : List Nat :=
  [0xCBBB9D5DC1059ED8, 0x629A292A367CD507, 0x9159015A3070DD17, 0x152FECD8F70E5939,
   0x67332667FFC00B31, 0x8EB44A8768581511, 0xDB0C2E0D64F98FA7, 0x47B5481DBEFA4FA4]

/-- Rotation right of a 64-bit word. -/
def rotr64 (x n : Nat) : Nat := (x >>> n) ||| ((x <<< (64 - n)) % 2 ^ 64)

/-- One round on the working variables a to h, with the round constant and the schedule word. -/
def shaRound (v : List Nat) (k w : Nat) : List Nat :=
  match v with
  | [a, b, c, d, e, f, g, h] =>
    let t1 := h + (rotr64 e 14 ^^^ rotr64 e 18 ^^^ rotr64 e 41) + ((e &&& f) ^^^ ((2 ^ 64 - 1 - e) &&& g)) + k + w
    let t2 := (rotr64 a 28 ^^^ rotr64 a 34 ^^^ rotr64 a 39) + ((a &&& b) ^^^ (a &&& c) ^^^ (b &&& c))
    [(t1 + t2) % 2 ^ 64, a, b, c, (d + t1) % 2 ^ 64, e, f, g]
  | _ => v

/-- The rounds of a block; `w` is the window of the next sixteen schedule words. -/
def shaRounds (ks v w : List Nat) : List Nat :=
  match ks with
  | [] => v
  | k :: t =>
    let g (i : Nat) := w.getD i 0
    let n := (rotr64 (g 14) 19 ^^^ rotr64 (g 14) 61 ^^^ (g 14 >>> 6)) + g 9 +
      (rotr64 (g 1) 1 ^^^ rotr64 (g 1) 8 ^^^ (g 1 >>> 7)) + g 0
    shaRounds t (shaRound v k (g 0)) (w.drop 1 ++ [n % 2 ^ 64])

/-- The 64-bit words of a byte string. -/
def words64 (l : List Nat) : List Nat :=
  match l with
  | a :: b :: c :: d :: e :: f :: g :: h :: t => beNat [a, b, c, d, e, f, g, h] :: words64 t
  | _ => []

/-- The hash value after the first `n` blocks of 128 bytes. -/
def shaBlocks (n : Nat) (h l : List Nat) : List Nat :=
  match n with
  | 0 => h
  | n + 1 => shaBlocks n (List.zipWith (fun x y => (x + y) % 2 ^ 64) h (shaRounds shaK h (words64 (l.take 128)))) (l.drop 128)

/-- SHA-384 of a byte string, 48 bytes. -/
def sha384 (l : List Nat) : List Nat :=
  let m := l ++ 0x80 :: List.replicate ((239 - l.length % 128) % 128) 0 ++ beBytes 16 (8 * l.length)
  ((shaBlocks (m.length / 128) shaH m).take 6).flatMap (beBytes 8)

/-- The digest as twelve words, digest byte 0 in bits [7:0] of the first (PRIVET_LOAD). -/
def digestWords (l : List Nat) : List Word := leWords (sha384 l)

/-- HMAC-SHA-384. -/
def hmac384 (key msg : List Nat) : List Nat :=
  let k := if 128 < key.length then sha384 key else key
  let k := k ++ List.replicate (128 - k.length) 0
  sha384 (k.map (fun b => b ^^^ 0x5C) ++ sha384 (k.map (fun b => b ^^^ 0x36) ++ msg))

/-- The first 32 bytes of HKDF-SHA-384 with an empty salt. -/
def hkdf (ikm info : List Nat) : List Nat :=
  (hmac384 (hmac384 (List.replicate 48 0) ikm) (info ++ [1])).take 32

/-! ### AES-256 -/

/-- The S-box, entry `i` in bits [8i + 7 : 8i]. -/
def aesBox : Nat :=
  0xC072A49CAFA2D4ADF04759FA7DC982CA76ABD7FE2B670130C56F6BF27B777C63 +
  0x75B227EBE28012079A059618C323C7041531D871F1E5A534CCF73F362693FDB7 * 2 ^ 256 +
  0xCF584C4A39BECB6A5BB1FC20ED00D153842FE329B3D63B52A05A6E1B1A2C8309 * 2 ^ 512 +
  0xD2F3FF1021DAB6BCF5389D928F40A351A89F3C507F02F94585334D43FBAAEFD0 * 2 ^ 768 +
  0xDB0B5EDE14B8EE4688902A22DC4F816073195D643D7EA7C41744975FEC130CCD * 2 ^ 1024 +
  0x08AE7A65EAF4566CA94ED58D6D37C8E779E4959162ACD3C25C2406490A3A32E0 * 2 ^ 1280 +
  0x9E1DC186B95735610EF6034866B53E708A8BBD4B1F74DDE8C6B4A61C2E2578BA * 2 ^ 1536 +
  0x16BB54B00F2D99416842E6BF0D89A18CDF2855CEE9871E9B948ED9691198F8E1 * 2 ^ 1792

/-- SubBytes of one byte. -/
def aesSub (b : Nat) : Nat := (aesBox >>> (8 * b)) % 256

/-- Multiplication by x in the field of AES. -/
def aesX (b : Nat) : Nat := if b < 128 then 2 * b else (2 * b - 256) ^^^ 0x1B

/-- MixColumns, column by column. -/
def aesMix (l : List Nat) : List Nat :=
  match l with
  | a :: b :: c :: d :: t =>
    let e := a ^^^ b ^^^ c ^^^ d
    (a ^^^ e ^^^ aesX (a ^^^ b)) :: (b ^^^ e ^^^ aesX (b ^^^ c)) :: (c ^^^ e ^^^ aesX (c ^^^ d)) ::
      (d ^^^ e ^^^ aesX (d ^^^ a)) :: aesMix t
  | _ => []

/-- SubBytes and ShiftRows. -/
def aesShift (l : List Nat) : List Nat :=
  [0, 5, 10, 15, 4, 9, 14, 3, 8, 13, 2, 7, 12, 1, 6, 11].map (fun i => aesSub (l.getD i 0))

/-- The next four bytes of the key schedule from the last 32 and the index of the word. -/
def aesNext (w : List Nat) (i rcon : Nat) : List Nat :=
  let t := w.drop 28
  let t := if i % 8 = 0 then
      match (t.drop 1 ++ t.take 1).map aesSub with
      | a :: r => (a ^^^ rcon) :: r
      | [] => []
    else if i % 8 = 4 then t.map aesSub else t
  xorBytes (w.take 4) t

/-- `n` words of the key schedule from word `i` on. -/
def aesExpand (n i rcon : Nat) (w : List Nat) : List Nat :=
  match n with
  | 0 => []
  | n + 1 =>
    let x := aesNext w i rcon
    x ++ aesExpand n (i + 1) (if i % 8 = 0 then 2 * rcon else rcon) (w.drop 4 ++ x)

/-- The 240 bytes of the round keys. -/
def aesKeys (key : List Nat) : List Nat := key ++ aesExpand 52 8 1 key

/-- `n` rounds with MixColumns and the last one without. -/
def aesRounds (n : Nat) (ks st : List Nat) : List Nat :=
  match n with
  | 0 => xorBytes (aesShift st) ks
  | n + 1 => aesRounds n (ks.drop 16) (xorBytes (aesMix (aesShift st)) ks)

/-- AES-256 of a block under a key schedule. -/
def aesBlock (ks st : List Nat) : List Nat := aesRounds 13 (ks.drop 16) (xorBytes st ks)

/-- The inverse of the S-box. -/
def aesUnsub (b : Nat) : Nat := ((List.range 256).find? (fun i => aesSub i == b)).getD 0

/-- Inverse MixColumns: MixColumns three times. -/
def aesUnmix (l : List Nat) : List Nat := aesMix (aesMix (aesMix l))

/-- Inverse ShiftRows and SubBytes. -/
def aesUnshift (l : List Nat) : List Nat :=
  [0, 13, 10, 7, 4, 1, 14, 11, 8, 5, 2, 15, 12, 9, 6, 3].map (fun i => aesUnsub (l.getD i 0))

/-- `n` rounds backward, the round keys from the last one on. -/
def aesUnrounds (n : Nat) (ks : List (List Nat)) (st : List Nat) : List Nat :=
  match n, ks with
  | n + 1, k :: t => aesUnrounds n t (aesUnshift (aesUnmix (xorBytes st k)))
  | _, k :: _ => xorBytes st k
  | _, [] => st

/-- The inverse of AES-256 on a block. -/
def aesUnblock (ks st : List Nat) : List Nat :=
  let l := ((List.range 15).map (fun i => (ks.drop (16 * i)).take 16)).reverse
  aesUnrounds 13 (l.drop 1) (aesUnshift (xorBytes st (l.getD 0 [])))

/-! ### GCM and GMAC -/

/-- Product in the field of GHASH, most significant bit first: `n` bits of `x` are left. -/
def ghashMul (n x v z : Nat) : Nat :=
  match n with
  | 0 => z
  | n + 1 =>
    ghashMul n x (if v % 2 = 1 then (v / 2) ^^^ (0xE1 * 2 ^ 120) else v / 2) (if (x >>> n) % 2 = 1 then z ^^^ v else z)

/-- GHASH over the first `n` blocks of 16 bytes. -/
def ghash (h n y : Nat) (l : List Nat) : Nat :=
  match n with
  | 0 => y
  | n + 1 => ghash h n (ghashMul 128 (y ^^^ beNat (l.take 16)) h 0) (l.drop 16)

/-- A byte string filled with zeros to whole blocks. -/
def padBlock (l : List Nat) : List Nat := l ++ List.replicate ((16 - l.length % 16) % 16) 0

/-- `n` blocks of key stream from the counter `c` on. -/
def gcmStream (ks iv : List Nat) (n c : Nat) : List Nat :=
  match n with
  | 0 => []
  | n + 1 => aesBlock ks (iv ++ beBytes 4 c) ++ gcmStream ks iv n (c + 1)

/-- Encryption and decryption of GCM: the text under the key stream. -/
def gcmCrypt (key : BitVec 256) (iv : BitVec 96) (text : List Nat) : List Nat :=
  xorBytes text (gcmStream (aesKeys (keyBytes key)) (beBytes 12 iv.toNat) ((text.length + 15) / 16) 2)

/-- The tag of GCM over authenticated data and a ciphertext. -/
def gcmTag (key : BitVec 256) (iv : BitVec 96) (aad c : List Nat) : BitVec 128 :=
  let ks := aesKeys (keyBytes key)
  let h := beNat (aesBlock ks (List.replicate 16 0))
  let m := padBlock aad ++ padBlock c ++ beBytes 8 (8 * aad.length) ++ beBytes 8 (8 * c.length)
  BitVec.ofNat 128 (ghash h (m.length / 16) 0 m ^^^ beNat (aesBlock ks (beBytes 12 iv.toNat ++ [0, 0, 0, 1])))

/-- AES-256-GMAC: key, IV, authenticated data (R188, R190, R291). -/
def gmac (key : BitVec 256) (iv : BitVec 96) (aad : List Nat) : BitVec 128 := gcmTag key iv aad []

/-- AES-256-GCM encryption of the words of a packet (R191): ciphertext words and tag. -/
def gcmSeal (key : BitVec 256) (iv : BitVec 96) (aad text : List Word) : List Word × BitVec 128 :=
  let c := gcmCrypt key iv (wireStream text)
  (wireWords c, gcmTag key iv (wireStream aad) c)

/-- AES-256-GCM decryption: none when the tag does not verify. -/
def gcmOpen (key : BitVec 256) (iv : BitVec 96) (aad c : List Word) (t : BitVec 128) : Option (List Word) :=
  if gcmTag key iv (wireStream aad) (wireStream c) = t then some (wireWords (gcmCrypt key iv (wireStream c))) else none

/-! ### The key wrap of RFC 3394 -/

/-- One step of the wrap: the integrity register, and the halves R1 to R4 with the next one first. -/
def wrapStep (ks a : List Nat) (r : List (List Nat)) (t : Nat) : List Nat × List (List Nat) :=
  let b := aesBlock ks (a ++ r.headD [])
  (beBytes 8 (beNat (b.take 8) ^^^ t), r.drop 1 ++ [b.drop 8])

/-- The steps from `t` on. -/
def wrapRun (ks a : List Nat) (r : List (List Nat)) (n t : Nat) : List Nat :=
  match n with
  | 0 => a ++ r.flatten
  | n + 1 => let p := wrapStep ks a r t; wrapRun ks p.1 p.2 n (t + 1)

/-- The steps backward. -/
def unwrapRun (ks a : List Nat) (r : List (List Nat)) (t : Nat) : List Nat × List (List Nat) :=
  match t with
  | 0 => (a, r)
  | t + 1 =>
    let b := aesUnblock ks (beBytes 8 (beNat a ^^^ (t + 1)) ++ r.getLastD [])
    unwrapRun ks (b.take 8) (b.drop 8 :: r.dropLast) t

/-- The 8-byte pieces of a byte string. -/
def eights (l : List Nat) : List (List Nat) :=
  match l with
  | a :: b :: c :: d :: e :: f :: g :: h :: t => [a, b, c, d, e, f, g, h] :: eights t
  | _ => []

/-- A 256-bit key wrapped under another, 40 bytes in ten words, byte 0 in bits [7:0] of the first (R266, R366). -/
def keyWrapBy (kek key : BitVec 256) : List Word :=
  leWords (wrapRun (aesKeys (keyBytes kek)) (List.replicate 8 0xA6) (eights (keyBytes key)) 24 1)

/-- The key that ten words hold wrapped; none when the wrap check fails (KEY_INSTALL). -/
def keyUnwrap (kek : BitVec 256) (w : List Word) : Option (BitVec 256) :=
  let l := leStream (w.take 10)
  let p := unwrapRun (aesKeys (keyBytes kek)) (l.take 8) (eights (l.drop 8)) 24
  if p.1 = List.replicate 8 0xA6 ∧ w.length = 10 then some (keyOfBytes p.2.flatten) else none

/-! ### P-384 -/

/-- The prime of the field of P-384. -/
def pPrime : Nat := 2 ^ 384 - 2 ^ 128 - 2 ^ 96 + 2 ^ 32 - 1

/-- The order of the group. -/
def pOrder : Nat := 0xFFFFFFFFFFFFFFFFFFFFFFFFFFFFFFFFFFFFFFFFFFFFFFFFC7634D81F4372DDF581A0DB248B0A77AECEC196ACCC52973

/-- The coefficient b of the curve y² = x³ − 3x + b. -/
def pB : Nat := 0xB3312FA7E23EE7E4988E056BE3F82D19181D9C6EFE8141120314088F5013875AC656398D8A2ED19D2A85C8EDD3EC2AEF

/-- The base point. -/
def pBase : Nat × Nat :=
  (0xAA87CA22BE8B05378EB1C71EF320AD746E1D3B628BA79B9859F741E082542A385502F25DBF55296C3A545E3872760AB7,
   0x3617DE4A96262C6F5D9E98BF9292DC29F8F41DBD289A147CE9DA3113B5F0B8C00A60B1CE1D7E819D7A431D7C90EA0E5F)

/-- A power modulo `m`: the lowest `n` bits of the exponent are left, from the highest on. -/
def powMod (n m b e r : Nat) : Nat :=
  match n with
  | 0 => r
  | n + 1 =>
    let q := r * r % m
    powMod n m b e (if (e >>> n) % 2 = 1 then q * b % m else q)

/-- The inverse modulo a prime of 384 bits. -/
def invMod (m a : Nat) : Nat := powMod 384 m (a % m) (m - 2) 1

/-- A point in Jacobian coordinates; Z = 0 is the point at infinity. -/
structure Jac where
  x : Nat
  y : Nat
  z : Nat
  deriving DecidableEq, Repr

/-- A difference modulo the prime. -/
def subP (a b : Nat) : Nat := (a + pPrime - b) % pPrime

/-- Twice a point. -/
def Jac.twice (p : Jac) : Jac :=
  let yy := p.y * p.y % pPrime
  let s := 4 * p.x * yy % pPrime
  let zz := p.z * p.z % pPrime
  let m := 3 * (subP p.x zz * (p.x + zz)) % pPrime
  let x := subP (m * m % pPrime) (2 * s % pPrime)
  ⟨x, subP (m * subP s x % pPrime) (8 * (yy * yy) % pPrime), 2 * p.y * p.z % pPrime⟩

/-- The sum of two points. -/
def Jac.add (p q : Jac) : Jac :=
  if p.z = 0 then q
  else if q.z = 0 then p
  else
    let pz := p.z * p.z % pPrime
    let qz := q.z * q.z % pPrime
    let u := p.x * qz % pPrime
    let v := p.y * qz * q.z % pPrime
    let h := subP (q.x * pz % pPrime) u
    let r := subP (q.y * pz * p.z % pPrime) v
    if h = 0 then (if r = 0 then p.twice else ⟨1, 1, 0⟩)
    else
      let hh := h * h % pPrime
      let w := u * hh % pPrime
      let x := subP (subP (r * r % pPrime) (hh * h % pPrime)) (2 * w % pPrime)
      ⟨x, subP (r * subP w x % pPrime) (v * hh * h % pPrime), p.z * q.z * h % pPrime⟩

/-- A multiple of a point: the lowest `n` bits of the factor are left, from the highest on. -/
def Jac.times (n k : Nat) (p r : Jac) : Jac :=
  match n with
  | 0 => r
  | n + 1 => Jac.times n k p (if (k >>> n) % 2 = 1 then r.twice.add p else r.twice)

/-- The affine coordinates; (0, 0) for the point at infinity. -/
def Jac.affine (p : Jac) : Nat × Nat :=
  let i := invMod pPrime p.z
  (p.x * (i * i % pPrime) % pPrime, p.y * (i * i % pPrime * i % pPrime) % pPrime)

/-- A multiple of an affine point. -/
def pointTimes (k : Nat) (p : Nat × Nat) : Jac := Jac.times 384 k ⟨p.1, p.2, 1⟩ ⟨1, 1, 0⟩

/-- A point of 24 words, X in the first twelve and Y in the others, most significant word first (SEC_IDKEY). -/
def pointOf (l : List Word) : Nat × Nat := (beNat (wireStream (l.take 12)), beNat (wireStream ((l.drop 12).take 12)))

/-- The words of a point. -/
def pointWords (p : Nat × Nat) : List Word := wireWords (beBytes 48 p.1) ++ wireWords (beBytes 48 p.2)

/-- A pair of 48-byte little-endian values in 24 little-endian words: a public key or a signature of a record in flash. -/
def pairOfLe (l : List Word) : Nat × Nat :=
  (beNat (leStream (l.take 12)).reverse, beNat (leStream ((l.drop 12).take 12)).reverse)

/-- Whether a point lies on the curve. -/
def onCurve (p : Nat × Nat) : Bool :=
  decide (p.1 < pPrime) && decide (p.2 < pPrime) &&
    decide (p.2 * p.2 % pPrime = (p.1 * p.1 * p.1 + (pPrime - 3) * p.1 + pB) % pPrime)

/-- ECDSA verification on P-384 of a signature (r, s) over a digest of 48 bytes. -/
def ecdsaOk (pub : Nat × Nat) (digest : List Nat) (sig : Nat × Nat) : Bool :=
  let w := invMod pOrder sig.2
  let q := (pointTimes (beNat digest * w % pOrder) pBase).add (pointTimes (sig.1 * w % pOrder) pub)
  onCurve pub && decide (1 ≤ sig.1) && decide (sig.1 < pOrder) && decide (1 ≤ sig.2) && decide (sig.2 < pOrder) &&
    decide (q.z ≠ 0) && decide (q.affine.1 % pOrder = sig.1)

/-- The shared secret of ECDH, 48 bytes. -/
def ecdh (secret : Nat) (point : Nat × Nat) : List Nat := beBytes 48 (pointTimes secret point).affine.1

/-- The ephemeral secret with fresh number `n`: a free value from 1 to the order less 1 (R190). -/
def ephSecret (n : Nat) : Nat := 1 + Config.ephemeralSecret n % (pOrder - 1)

/-- The ephemeral point the node makes for a KEYX (R190). -/
def ephemeral (n : Nat) : List Word := pointWords (pointTimes (ephSecret n) pBase).affine

/-- The key of one direction of a link: HKDF over the ECDH secret of ephemeral secret `n` and the neighbour's point, with
EPOCH and the sending end's point as info (R190). -/
def linkKey (n : Nat) (peer : List Word) (epoch : Nat) (sender : List Word) : BitVec 256 :=
  keyOfBytes (hkdf (ecdh (ephSecret n) (pointOf peer)) (wireStream (BitVec.ofNat 32 epoch :: sender)))

/-- HMAC-SHA-384 truncated to 16 bytes (R190). -/
def hmac (key : BitVec 256) (msg : List Word) : BitVec 128 :=
  BitVec.ofNat 128 (beNat ((hmac384 (keyBytes key) (wireStream msg)).take 16))

/-- The node's identity secret, made at manufacture (SEC_IDKEY). -/
def idSecret : Nat := 1 + Config.idSecret % (pOrder - 1)

/-- SEC_IDKEY: the node's identity public key. -/
def idKey : List Word := pointWords (pointTimes idSecret pBase).affine

/-- The key wrapping key of kind 4: HKDF over the ECDH secret of the ephemeral point and the node's identity key, with
SEC_IDKEY followed by the point as info (R293). -/
def sealKey (point : List Word) : BitVec 256 :=
  keyOfBytes (hkdf (ecdh idSecret (pointOf point)) (wireStream (idKey ++ point)))

end Sys2Proof.Machine
end

