-- ==== Sys2Proof/Machine/RegNames.lean ====
section
/-! DEFINITION. The registers and fields of every chapter by name: `Reg.NAME` is the byte offset of a register and
`Fld.NAME_FIELD` one of its fields. The element of an array is an argument; where a register also repeats per port or
per source, that comes first (R417). -/

namespace Sys2Proof.Machine

/-- A field of a register: the byte offset of the register and the field's bits. -/
structure Fld where
  off : Nat
  hi  : Nat
  lo  : Nat
  deriving DecidableEq, Repr

def Reg.SYS_ID : Nat := 0x000000
def Fld.SYS_ID_PART : Fld := ⟨Reg.SYS_ID, 31, 16⟩
def Fld.SYS_ID_GRADE : Fld := ⟨Reg.SYS_ID, 15, 12⟩
def Fld.SYS_ID_STEP : Fld := ⟨Reg.SYS_ID, 11, 8⟩
def Reg.SYS_STRAP : Nat := 0x000004
def Fld.SYS_STRAP_ATTEMPTS : Fld := ⟨Reg.SYS_STRAP, 15, 8⟩
def Fld.SYS_STRAP_UNSTABLE : Fld := ⟨Reg.SYS_STRAP, 4, 4⟩
def Fld.SYS_STRAP_BOOT : Fld := ⟨Reg.SYS_STRAP, 3, 2⟩
def Fld.SYS_STRAP_ROLE : Fld := ⟨Reg.SYS_STRAP, 1, 0⟩
def Reg.SYS_QUILL_STAT : Nat := 0x000100
def Fld.SYS_QUILL_STAT_CAUSE : Fld := ⟨Reg.SYS_QUILL_STAT, 31, 24⟩
def Fld.SYS_QUILL_STAT_NOCKPT : Fld := ⟨Reg.SYS_QUILL_STAT, 17, 17⟩
def Fld.SYS_QUILL_STAT_USER : Fld := ⟨Reg.SYS_QUILL_STAT, 16, 16⟩
def Fld.SYS_QUILL_STAT_RESTARTS : Fld := ⟨Reg.SYS_QUILL_STAT, 15, 0⟩
def Reg.SYS_FAULT_EPOCH : Nat := 0x000200
def Fld.SYS_FAULT_EPOCH_EPOCH : Fld := ⟨Reg.SYS_FAULT_EPOCH, 15, 0⟩
def Reg.SYS_FAULT_STAT : Nat := 0x000204
def Fld.SYS_FAULT_STAT_HOLD : Fld := ⟨Reg.SYS_FAULT_STAT, 31, 31⟩
def Fld.SYS_FAULT_STAT_HANDLING : Fld := ⟨Reg.SYS_FAULT_STAT, 30, 30⟩
def Fld.SYS_FAULT_STAT_OVF : Fld := ⟨Reg.SYS_FAULT_STAT, 29, 29⟩
def Fld.SYS_FAULT_STAT_MLOST : Fld := ⟨Reg.SYS_FAULT_STAT, 28, 28⟩
def Fld.SYS_FAULT_STAT_NESTED : Fld := ⟨Reg.SYS_FAULT_STAT, 15, 0⟩
def Reg.SYS_BLOT_CFG : Nat := 0x000208
def Fld.SYS_BLOT_CFG_RATE : Fld := ⟨Reg.SYS_BLOT_CFG, 15, 8⟩
def Fld.SYS_BLOT_CFG_EVTMIN : Fld := ⟨Reg.SYS_BLOT_CFG, 1, 0⟩
def Reg.SYS_BLOT_STAT : Nat := 0x00020C
def Fld.SYS_BLOT_STAT_SNEXT : Fld := ⟨Reg.SYS_BLOT_STAT, 25, 16⟩
def Fld.SYS_BLOT_STAT_EVTDROP : Fld := ⟨Reg.SYS_BLOT_STAT, 15, 8⟩
def Fld.SYS_BLOT_STAT_MNEXT : Fld := ⟨Reg.SYS_BLOT_STAT, 7, 0⟩
def Reg.SYS_BLOT_SEQ : Nat := 0x000210
def Fld.SYS_BLOT_SEQ_BSEQ : Fld := ⟨Reg.SYS_BLOT_SEQ, 31, 0⟩
def Reg.SYS_BLOT_OVF (i : Nat) : Nat := 0x000220 + i * 0x4
def Fld.SYS_BLOT_OVF_WORD (i : Nat) : Fld := ⟨Reg.SYS_BLOT_OVF i, 31, 0⟩
def Reg.PWR_STATE : Nat := 0x010000
def Fld.PWR_STATE_SAFE_HOLD : Fld := ⟨Reg.PWR_STATE, 16, 16⟩
def Fld.PWR_STATE_QVALID : Fld := ⟨Reg.PWR_STATE, 12, 12⟩
def Fld.PWR_STATE_QUEUED : Fld := ⟨Reg.PWR_STATE, 11, 8⟩
def Fld.PWR_STATE_TARGET : Fld := ⟨Reg.PWR_STATE, 7, 4⟩
def Fld.PWR_STATE_STATE : Fld := ⟨Reg.PWR_STATE, 3, 0⟩
def Reg.PWR_REQ : Nat := 0x010004
def Fld.PWR_REQ_ERR : Fld := ⟨Reg.PWR_REQ, 31, 31⟩
def Fld.PWR_REQ_REQ : Fld := ⟨Reg.PWR_REQ, 3, 0⟩
def Reg.PWR_DIM : Nat := 0x010008
def Fld.PWR_DIM_GAIN : Fld := ⟨Reg.PWR_DIM, 15, 0⟩
def Reg.PWR_WAKE_CFG : Nat := 0x01000C
def Fld.PWR_WAKE_CFG_LINK_EN : Fld := ⟨Reg.PWR_WAKE_CFG, 7, 4⟩
def Fld.PWR_WAKE_CFG_PIN_EN : Fld := ⟨Reg.PWR_WAKE_CFG, 0, 0⟩
def Reg.PWR_RST_CAUSE : Nat := 0x010010
def Fld.PWR_RST_CAUSE_WAKE_LINK : Fld := ⟨Reg.PWR_RST_CAUSE, 10, 10⟩
def Fld.PWR_RST_CAUSE_WAKE_PIN : Fld := ⟨Reg.PWR_RST_CAUSE, 9, 9⟩
def Fld.PWR_RST_CAUSE_RAILTO : Fld := ⟨Reg.PWR_RST_CAUSE, 8, 8⟩
def Fld.PWR_RST_CAUSE_SEQ : Fld := ⟨Reg.PWR_RST_CAUSE, 7, 7⟩
def Fld.PWR_RST_CAUSE_THERMAL : Fld := ⟨Reg.PWR_RST_CAUSE, 6, 6⟩
def Fld.PWR_RST_CAUSE_EOFF : Fld := ⟨Reg.PWR_RST_CAUSE, 5, 5⟩
def Fld.PWR_RST_CAUSE_DOMRST : Fld := ⟨Reg.PWR_RST_CAUSE, 4, 4⟩
def Fld.PWR_RST_CAUSE_WARM : Fld := ⟨Reg.PWR_RST_CAUSE, 3, 3⟩
def Fld.PWR_RST_CAUSE_RAILFAIL : Fld := ⟨Reg.PWR_RST_CAUSE, 2, 2⟩
def Fld.PWR_RST_CAUSE_BOR : Fld := ⟨Reg.PWR_RST_CAUSE, 1, 1⟩
def Fld.PWR_RST_CAUSE_POR : Fld := ⟨Reg.PWR_RST_CAUSE, 0, 0⟩
def Reg.PWR_RAIL_STAT : Nat := 0x010014
def Fld.PWR_RAIL_STAT_REQUIRED : Fld := ⟨Reg.PWR_RAIL_STAT, 15, 8⟩
def Fld.PWR_RAIL_STAT_GOOD : Fld := ⟨Reg.PWR_RAIL_STAT, 7, 0⟩
def Reg.PWR_RST : Nat := 0x010018
def Fld.PWR_RST_KEY : Fld := ⟨Reg.PWR_RST, 15, 0⟩
def Reg.ICU_SRC (i : Nat) : Nat := 0x020000 + i * 0x4
def Fld.ICU_SRC_SEC (i : Nat) : Fld := ⟨Reg.ICU_SRC i, 31, 31⟩
def Fld.ICU_SRC_EN (i : Nat) : Fld := ⟨Reg.ICU_SRC i, 30, 30⟩
def Fld.ICU_SRC_TGT (i : Nat) : Fld := ⟨Reg.ICU_SRC i, 29, 29⟩
def Fld.ICU_SRC_LEVEL (i : Nat) : Fld := ⟨Reg.ICU_SRC i, 28, 28⟩
def Fld.ICU_SRC_PEND (i : Nat) : Fld := ⟨Reg.ICU_SRC i, 27, 27⟩
def Fld.ICU_SRC_INPUT (i : Nat) : Fld := ⟨Reg.ICU_SRC i, 26, 26⟩
def Fld.ICU_SRC_PRIO (i : Nat) : Fld := ⟨Reg.ICU_SRC i, 3, 0⟩
def Reg.ICU_SETPEND : Nat := 0x020400
def Fld.ICU_SETPEND_SOURCE : Fld := ⟨Reg.ICU_SETPEND, 7, 0⟩
def Reg.ICU_CLRPEND : Nat := 0x020404
def Fld.ICU_CLRPEND_SOURCE : Fld := ⟨Reg.ICU_CLRPEND, 7, 0⟩
def Reg.ICU_THR (i : Nat) : Nat := 0x020410 + i * 0x4
def Fld.ICU_THR_THR (i : Nat) : Fld := ⟨Reg.ICU_THR i, 3, 0⟩
def Reg.ICU_LEVEL (i : Nat) : Nat := 0x020418 + i * 0x4
def Fld.ICU_LEVEL_DEPTH (i : Nat) : Fld := ⟨Reg.ICU_LEVEL i, 19, 16⟩
def Fld.ICU_LEVEL_TOP (i : Nat) : Fld := ⟨Reg.ICU_LEVEL i, 3, 0⟩
def Reg.ICU_CLAIM1 : Nat := 0x020420
def Fld.ICU_CLAIM1_SOURCE : Fld := ⟨Reg.ICU_CLAIM1, 8, 0⟩
def Reg.ICU_EOI (i : Nat) : Nat := 0x020428 + i * 0x4
def Fld.ICU_EOI_LEVEL (i : Nat) : Fld := ⟨Reg.ICU_EOI i, 3, 0⟩
def Reg.ICU_VBASE : Nat := 0x020430
def Fld.ICU_VBASE_BASE : Fld := ⟨Reg.ICU_VBASE, 31, 12⟩
def Reg.ICU_FAULT : Nat := 0x020434
def Fld.ICU_FAULT_FAULT : Fld := ⟨Reg.ICU_FAULT, 31, 31⟩
def Fld.ICU_FAULT_PROC : Fld := ⟨Reg.ICU_FAULT, 16, 16⟩
def Fld.ICU_FAULT_WRITTEN : Fld := ⟨Reg.ICU_FAULT, 11, 8⟩
def Fld.ICU_FAULT_EMPTY : Fld := ⟨Reg.ICU_FAULT, 4, 4⟩
def Fld.ICU_FAULT_TOP : Fld := ⟨Reg.ICU_FAULT, 3, 0⟩
def Reg.ICU_SPURIOUS : Nat := 0x020438
def Fld.ICU_SPURIOUS_COUNT : Fld := ⟨Reg.ICU_SPURIOUS, 31, 0⟩
def Reg.TIME_DTIME : Nat := 0x030000
def Fld.TIME_DTIME_NS : Fld := ⟨Reg.TIME_DTIME, 31, 0⟩
def Reg.TIME_FN : Nat := 0x030004
def Fld.TIME_FN_FN : Fld := ⟨Reg.TIME_FN, 31, 0⟩
def Reg.TIME_STAT : Nat := 0x030008
def Fld.TIME_STAT_MASTER : Fld := ⟨Reg.TIME_STAT, 31, 16⟩
def Fld.TIME_STAT_HOPS : Fld := ⟨Reg.TIME_STAT, 15, 4⟩
def Fld.TIME_STAT_PARENT : Fld := ⟨Reg.TIME_STAT, 3, 2⟩
def Fld.TIME_STAT_STATE : Fld := ⟨Reg.TIME_STAT, 1, 0⟩
def Reg.TIME_CFG : Nat := 0x03000C
def Fld.TIME_CFG_MASTER_TMO : Fld := ⟨Reg.TIME_CFG, 31, 24⟩
def Fld.TIME_CFG_STEP : Fld := ⟨Reg.TIME_CFG, 23, 16⟩
def Fld.TIME_CFG_TC : Fld := ⟨Reg.TIME_CFG, 3, 0⟩
def Reg.TIME_MASTER_CFG : Nat := 0x030010
def Fld.TIME_MASTER_CFG_ELIG : Fld := ⟨Reg.TIME_MASTER_CFG, 4, 4⟩
def Fld.TIME_MASTER_CFG_PRIO : Fld := ⟨Reg.TIME_MASTER_CFG, 3, 0⟩
def Reg.TIME_REF_CFG : Nat := 0x030014
def Fld.TIME_REF_CFG_OFS : Fld := ⟨Reg.TIME_REF_CFG, 31, 16⟩
def Fld.TIME_REF_CFG_DIV : Fld := ⟨Reg.TIME_REF_CFG, 3, 2⟩
def Fld.TIME_REF_CFG_SRC : Fld := ⟨Reg.TIME_REF_CFG, 1, 0⟩
def Reg.TIME_REF_STAT : Nat := 0x030018
def Fld.TIME_REF_STAT_PHASE : Fld := ⟨Reg.TIME_REF_STAT, 2, 2⟩
def Fld.TIME_REF_STAT_FREQ : Fld := ⟨Reg.TIME_REF_STAT, 1, 1⟩
def Fld.TIME_REF_STAT_VALID : Fld := ⟨Reg.TIME_REF_STAT, 0, 0⟩
def Reg.TIME_SCHED (i : Nat) : Nat := 0x030020 + i * 0x4
def Fld.TIME_SCHED_VALUE (i : Nat) : Fld := ⟨Reg.TIME_SCHED i, 31, 0⟩
def Reg.TIME_INT : Nat := 0x030034
def Fld.TIME_INT_MASTER : Fld := ⟨Reg.TIME_INT, 4, 4⟩
def Fld.TIME_INT_REF : Fld := ⟨Reg.TIME_INT, 3, 3⟩
def Fld.TIME_INT_STEP : Fld := ⟨Reg.TIME_INT, 2, 2⟩
def Fld.TIME_INT_STATE : Fld := ⟨Reg.TIME_INT, 1, 1⟩
def Fld.TIME_INT_WRAP : Fld := ⟨Reg.TIME_INT, 0, 0⟩
def Reg.TIME_INT_EN : Nat := 0x030038
def Fld.TIME_INT_EN_EN : Fld := ⟨Reg.TIME_INT_EN, 4, 0⟩
def Reg.TIME_SCHED_STAT : Nat := 0x03003C
def Fld.TIME_SCHED_STAT_HELD : Fld := ⟨Reg.TIME_SCHED_STAT, 0, 0⟩
def Reg.TIME_LEAD : Nat := 0x030040
def Fld.TIME_LEAD_NS : Fld := ⟨Reg.TIME_LEAD, 31, 0⟩
def Reg.TIME_LEAD_NEXT : Nat := 0x030044
def Fld.TIME_LEAD_NEXT_NS : Fld := ⟨Reg.TIME_LEAD_NEXT, 31, 0⟩
def Reg.TIME_LEAD_AT : Nat := 0x030048
def Fld.TIME_LEAD_AT_FN : Fld := ⟨Reg.TIME_LEAD_AT, 31, 0⟩
def Reg.TIME_ASYM (i : Nat) : Nat := 0x030050 + i * 0x4
def Fld.TIME_ASYM_PS (i : Nat) : Fld := ⟨Reg.TIME_ASYM i, 15, 0⟩
def Reg.TIME_LINK_DELAY (i : Nat) : Nat := 0x030060 + i * 0x4
def Fld.TIME_LINK_DELAY_DELAY (i : Nat) : Fld := ⟨Reg.TIME_LINK_DELAY i, 31, 0⟩
def Reg.TIME_HT_NS : Nat := 0x030080
def Fld.TIME_HT_NS_NS : Fld := ⟨Reg.TIME_HT_NS, 29, 0⟩
def Reg.TIME_HT_SEC : Nat := 0x030084
def Fld.TIME_HT_SEC_SEC : Fld := ⟨Reg.TIME_HT_SEC, 31, 0⟩
def Reg.TIME_HT_CTL : Nat := 0x030088
def Fld.TIME_HT_CTL_ERR : Fld := ⟨Reg.TIME_HT_CTL, 4, 4⟩
def Fld.TIME_HT_CTL_SET : Fld := ⟨Reg.TIME_HT_CTL, 3, 3⟩
def Fld.TIME_HT_CTL_JUMP : Fld := ⟨Reg.TIME_HT_CTL, 2, 2⟩
def Fld.TIME_HT_CTL_PEND : Fld := ⟨Reg.TIME_HT_CTL, 1, 1⟩
def Fld.TIME_HT_CTL_IMM : Fld := ⟨Reg.TIME_HT_CTL, 0, 0⟩
def Reg.CMD_CLIENT_SEL : Nat := 0x040000
def Fld.CMD_CLIENT_SEL_CLIENT : Fld := ⟨Reg.CMD_CLIENT_SEL, 11, 0⟩
def Reg.CMD_CLIENT : Nat := 0x040004
def Fld.CMD_CLIENT_OPEN : Fld := ⟨Reg.CMD_CLIENT, 31, 31⟩
def Fld.CMD_CLIENT_AUTH_REQ : Fld := ⟨Reg.CMD_CLIENT, 30, 30⟩
def Fld.CMD_CLIENT_KEY : Fld := ⟨Reg.CMD_CLIENT, 29, 29⟩
def Fld.CMD_CLIENT_CLASS : Fld := ⟨Reg.CMD_CLIENT, 18, 16⟩
def Fld.CMD_CLIENT_PENDING : Fld := ⟨Reg.CMD_CLIENT, 15, 8⟩
def Fld.CMD_CLIENT_RIGHTS : Fld := ⟨Reg.CMD_CLIENT, 7, 0⟩
def Reg.CMD_AUTHFAIL : Nat := 0x040008
def Fld.CMD_AUTHFAIL_COUNT : Fld := ⟨Reg.CMD_AUTHFAIL, 31, 0⟩
def Reg.NVM_STAT : Nat := 0x050000
def Fld.NVM_STAT_NOFREE : Fld := ⟨Reg.NVM_STAT, 3, 3⟩
def Fld.NVM_STAT_SECERR : Fld := ⟨Reg.NVM_STAT, 2, 2⟩
def Fld.NVM_STAT_REJ : Fld := ⟨Reg.NVM_STAT, 1, 1⟩
def Fld.NVM_STAT_BUSY : Fld := ⟨Reg.NVM_STAT, 0, 0⟩
def Reg.NVM_CMD : Nat := 0x050004
def Fld.NVM_CMD_OP : Fld := ⟨Reg.NVM_CMD, 31, 30⟩
def Fld.NVM_CMD_PAGE : Fld := ⟨Reg.NVM_CMD, 11, 0⟩
def Reg.NVM_RECOV : Nat := 0x050008
def Fld.NVM_RECOV_OUTCOME : Fld := ⟨Reg.NVM_RECOV, 31, 30⟩
def Fld.NVM_RECOV_PAGE : Fld := ⟨Reg.NVM_RECOV, 11, 0⟩
def Reg.NVM_POOL : Nat := 0x05000C
def Fld.NVM_POOL_RETIRED : Fld := ⟨Reg.NVM_POOL, 31, 16⟩
def Fld.NVM_POOL_FREE : Fld := ⟨Reg.NVM_POOL, 7, 0⟩
def Reg.NVM_RBUF (i : Nat) : Nat := 0x050100 + i * 0x4
def Fld.NVM_RBUF_DATA (i : Nat) : Fld := ⟨Reg.NVM_RBUF i, 31, 0⟩
def Reg.NVM_WBUF (i : Nat) : Nat := 0x050200 + i * 0x4
def Fld.NVM_WBUF_DATA (i : Nat) : Fld := ⟨Reg.NVM_WBUF i, 31, 0⟩
def Reg.THM_STAT : Nat := 0x060000
def Fld.THM_STAT_TJ : Fld := ⟨Reg.THM_STAT, 31, 16⟩
def Fld.THM_STAT_LANES_OFF : Fld := ⟨Reg.THM_STAT, 6, 4⟩
def Fld.THM_STAT_LEVEL : Fld := ⟨Reg.THM_STAT, 3, 2⟩
def Fld.THM_STAT_MODELONLY_D : Fld := ⟨Reg.THM_STAT, 1, 1⟩
def Fld.THM_STAT_MODELONLY_P : Fld := ⟨Reg.THM_STAT, 0, 0⟩
def Reg.THM_CFG : Nat := 0x060004
def Fld.THM_CFG_WARN : Fld := ⟨Reg.THM_CFG, 31, 24⟩
def Fld.THM_CFG_THROT : Fld := ⟨Reg.THM_CFG, 23, 16⟩
def Fld.THM_CFG_HYST : Fld := ⟨Reg.THM_CFG, 15, 8⟩
def Reg.THM_BOARD : Nat := 0x060008
def Fld.THM_BOARD_RCA : Fld := ⟨Reg.THM_BOARD, 31, 16⟩
def Fld.THM_BOARD_TAMB : Fld := ⟨Reg.THM_BOARD, 15, 8⟩
def Reg.THM_THROT_CFG : Nat := 0x06000C
def Fld.THM_THROT_CFG_START : Fld := ⟨Reg.THM_THROT_CFG, 31, 16⟩
def Fld.THM_THROT_CFG_STEP_S : Fld := ⟨Reg.THM_THROT_CFG, 15, 8⟩
def Reg.THM_THROT_STAT : Nat := 0x060010
def Fld.THM_THROT_STAT_HOSTDIM : Fld := ⟨Reg.THM_THROT_STAT, 31, 16⟩
def Fld.THM_THROT_STAT_GAIN : Fld := ⟨Reg.THM_THROT_STAT, 15, 0⟩
def Reg.THM_VNEED (i : Nat) : Nat := 0x060020 + i * 0x4
def Fld.THM_VNEED_V (i : Nat) : Fld := ⟨Reg.THM_VNEED i, 9, 0⟩
def Reg.THM_SENS (i : Nat) : Nat := 0x060040 + i * 0x4
def Fld.THM_SENS_VALID (i : Nat) : Fld := ⟨Reg.THM_SENS i, 31, 31⟩
def Fld.THM_SENS_SUSPECT (i : Nat) : Fld := ⟨Reg.THM_SENS i, 30, 30⟩
def Fld.THM_SENS_SCNT (i : Nat) : Fld := ⟨Reg.THM_SENS i, 17, 16⟩
def Fld.THM_SENS_T (i : Nat) : Fld := ⟨Reg.THM_SENS i, 15, 0⟩
def Reg.THM_NODE_T (i : Nat) : Nat := 0x060080 + i * 0x4
def Fld.THM_NODE_T_P (i : Nat) : Fld := ⟨Reg.THM_NODE_T i, 31, 16⟩
def Fld.THM_NODE_T_T (i : Nat) : Fld := ⟨Reg.THM_NODE_T i, 15, 0⟩
def Reg.THM_INT : Nat := 0x0600A0
def Fld.THM_INT_CLEAR : Fld := ⟨Reg.THM_INT, 3, 3⟩
def Fld.THM_INT_VOTE : Fld := ⟨Reg.THM_INT, 2, 2⟩
def Fld.THM_INT_THROT : Fld := ⟨Reg.THM_INT, 1, 1⟩
def Fld.THM_INT_WARN : Fld := ⟨Reg.THM_INT, 0, 0⟩
def Reg.THM_INT_EN : Nat := 0x0600A4
def Fld.THM_INT_EN_EN : Fld := ⟨Reg.THM_INT_EN, 3, 0⟩
def Reg.MEM_STAT : Nat := 0x070000
def Fld.MEM_STAT_NOSPARE : Fld := ⟨Reg.MEM_STAT, 2, 2⟩
def Fld.MEM_STAT_BIST_BUSY : Fld := ⟨Reg.MEM_STAT, 1, 1⟩
def Fld.MEM_STAT_CLEARED : Fld := ⟨Reg.MEM_STAT, 0, 0⟩
def Reg.MEM_BANK_OWNER (i : Nat) : Nat := 0x070010 + i * 0x4
def Fld.MEM_BANK_OWNER_OWNER (i : Nat) : Fld := ⟨Reg.MEM_BANK_OWNER i, 3, 0⟩
def Reg.MEM_BANK_MAP (i : Nat) : Nat := 0x070050 + i * 0x4
def Fld.MEM_BANK_MAP_PHYS (i : Nat) : Fld := ⟨Reg.MEM_BANK_MAP i, 31, 0⟩
def Reg.MEM_SPARE : Nat := 0x070060
def Fld.MEM_SPARE_VALID : Fld := ⟨Reg.MEM_SPARE, 5, 5⟩
def Fld.MEM_SPARE_PHYS : Fld := ⟨Reg.MEM_SPARE, 4, 0⟩
def Reg.MEM_COLL : Nat := 0x070064
def Fld.MEM_COLL_COUNT : Fld := ⟨Reg.MEM_COLL, 31, 0⟩
def Reg.MEM_COLL_ADDR : Nat := 0x070068
def Fld.MEM_COLL_ADDR_BANK : Fld := ⟨Reg.MEM_COLL_ADDR, 20, 17⟩
def Fld.MEM_COLL_ADDR_WORD : Fld := ⟨Reg.MEM_COLL_ADDR, 16, 0⟩
def Reg.MEM_ECC (i : Nat) : Nat := 0x070080 + i * 0x4
def Fld.MEM_ECC_UNCORR (i : Nat) : Fld := ⟨Reg.MEM_ECC i, 31, 16⟩
def Fld.MEM_ECC_CORR (i : Nat) : Fld := ⟨Reg.MEM_ECC i, 15, 0⟩
def Reg.MEM_BIST_CTL : Nat := 0x0700C0
def Fld.MEM_BIST_CTL_START : Fld := ⟨Reg.MEM_BIST_CTL, 31, 31⟩
def Fld.MEM_BIST_CTL_BANK : Fld := ⟨Reg.MEM_BIST_CTL, 3, 0⟩
def Reg.MEM_BIST_STAT : Nat := 0x0700C4
def Fld.MEM_BIST_STAT_REFUSED : Fld := ⟨Reg.MEM_BIST_STAT, 31, 31⟩
def Fld.MEM_BIST_STAT_FAIL : Fld := ⟨Reg.MEM_BIST_STAT, 30, 30⟩
def Fld.MEM_BIST_STAT_STEP : Fld := ⟨Reg.MEM_BIST_STAT, 29, 27⟩
def Fld.MEM_BIST_STAT_BANK : Fld := ⟨Reg.MEM_BIST_STAT, 19, 16⟩
def Fld.MEM_BIST_STAT_COUNT : Fld := ⟨Reg.MEM_BIST_STAT, 15, 0⟩
def Reg.MEM_INT : Nat := 0x0700D0
def Fld.MEM_INT_UNCORR : Fld := ⟨Reg.MEM_INT, 3, 3⟩
def Fld.MEM_INT_COLL : Fld := ⟨Reg.MEM_INT, 2, 2⟩
def Fld.MEM_INT_RETIRED : Fld := ⟨Reg.MEM_INT, 1, 1⟩
def Fld.MEM_INT_BIST_DONE : Fld := ⟨Reg.MEM_INT, 0, 0⟩
def Reg.MEM_INT_EN : Nat := 0x0700D4
def Fld.MEM_INT_EN_EN : Fld := ⟨Reg.MEM_INT_EN, 3, 0⟩
def Reg.DMC_CFG : Nat := 0x080000
def Fld.DMC_CFG_MTS : Fld := ⟨Reg.DMC_CFG, 12, 0⟩
def Reg.DMC_GEOM : Nat := 0x080004
def Fld.DMC_GEOM_X8 : Fld := ⟨Reg.DMC_GEOM, 24, 24⟩
def Fld.DMC_GEOM_ROWBITS : Fld := ⟨Reg.DMC_GEOM, 23, 20⟩
def Fld.DMC_GEOM_COLBITS : Fld := ⟨Reg.DMC_GEOM, 19, 16⟩
def Fld.DMC_GEOM_BGBITS : Fld := ⟨Reg.DMC_GEOM, 15, 12⟩
def Fld.DMC_GEOM_BABITS : Fld := ⟨Reg.DMC_GEOM, 11, 8⟩
def Fld.DMC_GEOM_RANKS : Fld := ⟨Reg.DMC_GEOM, 7, 0⟩
def Reg.DMC_MAP : Nat := 0x080008
def Fld.DMC_MAP_HASH : Fld := ⟨Reg.DMC_MAP, 2, 2⟩
def Fld.DMC_MAP_ORDER : Fld := ⟨Reg.DMC_MAP, 1, 0⟩
def Reg.DMC_SR_IDLE : Nat := 0x08000C
def Fld.DMC_SR_IDLE_CLOCKS : Fld := ⟨Reg.DMC_SR_IDLE, 31, 0⟩
def Reg.DMC_RD : Nat := 0x080010
def Fld.DMC_RD_RADIUS : Fld := ⟨Reg.DMC_RD, 4, 4⟩
def Fld.DMC_RD_K : Fld := ⟨Reg.DMC_RD, 3, 0⟩
def Reg.DMC_STAT : Nat := 0x080014
def Fld.DMC_STAT_SR : Fld := ⟨Reg.DMC_STAT, 5, 4⟩
def Fld.DMC_STAT_TRAINFAIL : Fld := ⟨Reg.DMC_STAT, 3, 2⟩
def Fld.DMC_STAT_TRAINED : Fld := ⟨Reg.DMC_STAT, 1, 0⟩
def Reg.DMC_ECC_CNT (i : Nat) : Nat := 0x080020 + i * 0x4
def Fld.DMC_ECC_CNT_UNCORR (i : Nat) : Fld := ⟨Reg.DMC_ECC_CNT i, 31, 16⟩
def Fld.DMC_ECC_CNT_CORR (i : Nat) : Fld := ⟨Reg.DMC_ECC_CNT i, 15, 0⟩
def Reg.DMC_ERR : Nat := 0x080030
def Fld.DMC_ERR_KIND : Fld := ⟨Reg.DMC_ERR, 31, 30⟩
def Fld.DMC_ERR_ADDR : Fld := ⟨Reg.DMC_ERR, 29, 0⟩
def Reg.DMC_PPR : Nat := 0x080034
def Fld.DMC_PPR_HARD : Fld := ⟨Reg.DMC_PPR, 31, 31⟩
def Fld.DMC_PPR_DONE : Fld := ⟨Reg.DMC_PPR, 15, 8⟩
def Fld.DMC_PPR_THR : Fld := ⟨Reg.DMC_PPR, 7, 0⟩
def Reg.DMC_SCRUB : Nat := 0x080038
def Fld.DMC_SCRUB_HOURS : Fld := ⟨Reg.DMC_SCRUB, 7, 0⟩
def Reg.DMC_INT : Nat := 0x080040
def Fld.DMC_INT_PPR_FULL : Fld := ⟨Reg.DMC_INT, 3, 3⟩
def Fld.DMC_INT_TRACK : Fld := ⟨Reg.DMC_INT, 2, 2⟩
def Fld.DMC_INT_UNCORR : Fld := ⟨Reg.DMC_INT, 1, 1⟩
def Fld.DMC_INT_TRAIN : Fld := ⟨Reg.DMC_INT, 0, 0⟩
def Reg.DMC_INT_EN : Nat := 0x080044
def Fld.DMC_INT_EN_EN : Fld := ⟨Reg.DMC_INT_EN, 3, 0⟩
def Reg.LNK_PORT_STAT (i : Nat) : Nat := 0x100000 + i * 0x10000
def Fld.LNK_PORT_STAT_TRAINFAIL (i : Nat) : Fld := ⟨Reg.LNK_PORT_STAT i, 31, 24⟩
def Fld.LNK_PORT_STAT_STATE (i : Nat) : Fld := ⟨Reg.LNK_PORT_STAT i, 10, 8⟩
def Fld.LNK_PORT_STAT_HELD (i : Nat) : Fld := ⟨Reg.LNK_PORT_STAT i, 7, 7⟩
def Fld.LNK_PORT_STAT_CAL_BUSY (i : Nat) : Fld := ⟨Reg.LNK_PORT_STAT i, 6, 6⟩
def Fld.LNK_PORT_STAT_NOSPARE (i : Nat) : Fld := ⟨Reg.LNK_PORT_STAT i, 5, 5⟩
def Fld.LNK_PORT_STAT_LANES (i : Nat) : Fld := ⟨Reg.LNK_PORT_STAT i, 4, 3⟩
def Fld.LNK_PORT_STAT_L1_IDLE (i : Nat) : Fld := ⟨Reg.LNK_PORT_STAT i, 2, 2⟩
def Reg.LNK_LANE_MAP (i : Nat) : Nat := 0x100004 + i * 0x10000
def Fld.LNK_LANE_MAP_TX (i : Nat) : Fld := ⟨Reg.LNK_LANE_MAP i, 13, 8⟩
def Fld.LNK_LANE_MAP_RX (i : Nat) : Fld := ⟨Reg.LNK_LANE_MAP i, 5, 0⟩
def Reg.LNK_LANE_CFG (i : Nat) : Nat := 0x100008 + i * 0x10000
def Fld.LNK_LANE_CFG_SWAP_ARM (i : Nat) : Fld := ⟨Reg.LNK_LANE_CFG i, 31, 31⟩
def Fld.LNK_LANE_CFG_FI_EN (i : Nat) : Fld := ⟨Reg.LNK_LANE_CFG i, 30, 30⟩
def Fld.LNK_LANE_CFG_TEST (i : Nat) : Fld := ⟨Reg.LNK_LANE_CFG i, 29, 29⟩
def Fld.LNK_LANE_CFG_FI_DELAY (i : Nat) : Fld := ⟨Reg.LNK_LANE_CFG i, 19, 8⟩
def Fld.LNK_LANE_CFG_DOWN_N (i : Nat) : Fld := ⟨Reg.LNK_LANE_CFG i, 7, 0⟩
def Reg.LNK_CAL_CFG (i : Nat) : Nat := 0x10000C + i * 0x10000
def Fld.LNK_CAL_CFG_PERIOD (i : Nat) : Fld := ⟨Reg.LNK_CAL_CFG i, 31, 24⟩
def Fld.LNK_CAL_CFG_RETURN (i : Nat) : Fld := ⟨Reg.LNK_CAL_CFG i, 23, 23⟩
def Fld.LNK_CAL_CFG_RETIRE_THR (i : Nat) : Fld := ⟨Reg.LNK_CAL_CFG i, 15, 8⟩
def Fld.LNK_CAL_CFG_TRIG_CORR (i : Nat) : Fld := ⟨Reg.LNK_CAL_CFG i, 7, 0⟩
def Reg.LNK_CAL_STAT (i : Nat) : Nat := 0x100010 + i * 0x10000
def Fld.LNK_CAL_STAT_STEP (i : Nat) : Fld := ⟨Reg.LNK_CAL_STAT i, 31, 30⟩
def Fld.LNK_CAL_STAT_LANE (i : Nat) : Fld := ⟨Reg.LNK_CAL_STAT i, 29, 28⟩
def Fld.LNK_CAL_STAT_QUEUED (i : Nat) : Fld := ⟨Reg.LNK_CAL_STAT i, 27, 27⟩
def Fld.LNK_CAL_STAT_REFUSED (i : Nat) : Fld := ⟨Reg.LNK_CAL_STAT i, 26, 26⟩
def Fld.LNK_CAL_STAT_COUNT (i : Nat) : Fld := ⟨Reg.LNK_CAL_STAT i, 15, 0⟩
def Reg.LNK_RETRY (i : Nat) : Nat := 0x100014 + i * 0x10000
def Fld.LNK_RETRY_EN (i : Nat) : Fld := ⟨Reg.LNK_RETRY i, 31, 31⟩
def Fld.LNK_RETRY_UNAVAIL (i : Nat) : Fld := ⟨Reg.LNK_RETRY i, 30, 30⟩
def Fld.LNK_RETRY_MARGIN (i : Nat) : Fld := ⟨Reg.LNK_RETRY i, 23, 16⟩
def Fld.LNK_RETRY_RTT_NS (i : Nat) : Fld := ⟨Reg.LNK_RETRY i, 15, 0⟩
def Reg.LNK_RETRYCNT (i : Nat) : Nat := 0x100018 + i * 0x10000
def Fld.LNK_RETRYCNT_REPLAY (i : Nat) : Fld := ⟨Reg.LNK_RETRYCNT i, 31, 16⟩
def Fld.LNK_RETRYCNT_NACK (i : Nat) : Fld := ⟨Reg.LNK_RETRYCNT i, 15, 0⟩
def Reg.LNK_DROPCNT (i : Nat) : Nat := 0x10001C + i * 0x10000
def Fld.LNK_DROPCNT_DEADLINE (i : Nat) : Fld := ⟨Reg.LNK_DROPCNT i, 31, 16⟩
def Fld.LNK_DROPCNT_PARTIAL (i : Nat) : Fld := ⟨Reg.LNK_DROPCNT i, 15, 8⟩
def Fld.LNK_DROPCNT_BADCTL (i : Nat) : Fld := ⟨Reg.LNK_DROPCNT i, 7, 4⟩
def Fld.LNK_DROPCNT_FALSEWAKE (i : Nat) : Fld := ⟨Reg.LNK_DROPCNT i, 3, 0⟩
def Reg.LNK_INT (i : Nat) : Nat := 0x100020 + i * 0x10000
def Fld.LNK_INT_DROP (i : Nat) : Fld := ⟨Reg.LNK_INT i, 4, 4⟩
def Fld.LNK_INT_CAL_DONE (i : Nat) : Fld := ⟨Reg.LNK_INT i, 3, 3⟩
def Fld.LNK_INT_RETIRED (i : Nat) : Fld := ⟨Reg.LNK_INT i, 2, 2⟩
def Fld.LNK_INT_LANE_DOWN (i : Nat) : Fld := ⟨Reg.LNK_INT i, 1, 1⟩
def Fld.LNK_INT_LINK (i : Nat) : Fld := ⟨Reg.LNK_INT i, 0, 0⟩
def Reg.LNK_INT_EN (i : Nat) : Nat := 0x100024 + i * 0x10000
def Fld.LNK_INT_EN_EN (i : Nat) : Fld := ⟨Reg.LNK_INT_EN i, 4, 0⟩
def Reg.LNK_PHY_STAT (p : Nat) (i : Nat) : Nat := 0x100100 + p * 0x10000 + i * 0x40
def Fld.LNK_PHY_STAT_STATE (p : Nat) (i : Nat) : Fld := ⟨Reg.LNK_PHY_STAT p i, 7, 4⟩
def Fld.LNK_PHY_STAT_ALIGN (p : Nat) (i : Nat) : Fld := ⟨Reg.LNK_PHY_STAT p i, 1, 1⟩
def Fld.LNK_PHY_STAT_LOCK (p : Nat) (i : Nat) : Fld := ⟨Reg.LNK_PHY_STAT p i, 0, 0⟩
def Reg.LNK_PHY_EQ0 (p : Nat) (i : Nat) : Nat := 0x100104 + p * 0x10000 + i * 0x40
def Fld.LNK_PHY_EQ0_PHASE (p : Nat) (i : Nat) : Fld := ⟨Reg.LNK_PHY_EQ0 p i, 13, 8⟩
def Fld.LNK_PHY_EQ0_CTLE (p : Nat) (i : Nat) : Fld := ⟨Reg.LNK_PHY_EQ0 p i, 3, 0⟩
def Reg.LNK_PHY_EQ1 (p : Nat) (i : Nat) : Nat := 0x100108 + p * 0x10000 + i * 0x40
def Fld.LNK_PHY_EQ1_DFE (p : Nat) (i : Nat) : Fld := ⟨Reg.LNK_PHY_EQ1 p i, 29, 0⟩
def Reg.LNK_PHY_ERR (p : Nat) (i : Nat) : Nat := 0x10010C + p * 0x10000 + i * 0x40
def Fld.LNK_PHY_ERR_UNCORR (p : Nat) (i : Nat) : Fld := ⟨Reg.LNK_PHY_ERR p i, 31, 16⟩
def Fld.LNK_PHY_ERR_CORR_TICK (p : Nat) (i : Nat) : Fld := ⟨Reg.LNK_PHY_ERR p i, 15, 0⟩
def Reg.LNK_PHY_PRBS (p : Nat) (i : Nat) : Nat := 0x100110 + p * 0x10000 + i * 0x40
def Fld.LNK_PHY_PRBS_ERR (p : Nat) (i : Nat) : Fld := ⟨Reg.LNK_PHY_PRBS p i, 31, 31⟩
def Fld.LNK_PHY_PRBS_PAT (p : Nat) (i : Nat) : Fld := ⟨Reg.LNK_PHY_PRBS p i, 5, 4⟩
def Fld.LNK_PHY_PRBS_RXEN (p : Nat) (i : Nat) : Fld := ⟨Reg.LNK_PHY_PRBS p i, 1, 1⟩
def Fld.LNK_PHY_PRBS_TXEN (p : Nat) (i : Nat) : Fld := ⟨Reg.LNK_PHY_PRBS p i, 0, 0⟩
def Reg.LNK_PHY_PRBSERR (p : Nat) (i : Nat) : Nat := 0x100114 + p * 0x10000 + i * 0x40
def Fld.LNK_PHY_PRBSERR_COUNT (p : Nat) (i : Nat) : Fld := ⟨Reg.LNK_PHY_PRBSERR p i, 31, 0⟩
def Reg.LNK_PHY_EYE_CTL (p : Nat) (i : Nat) : Nat := 0x100118 + p * 0x10000 + i * 0x40
def Fld.LNK_PHY_EYE_CTL_START (p : Nat) (i : Nat) : Fld := ⟨Reg.LNK_PHY_EYE_CTL p i, 31, 31⟩
def Fld.LNK_PHY_EYE_CTL_VOFS (p : Nat) (i : Nat) : Fld := ⟨Reg.LNK_PHY_EYE_CTL p i, 23, 16⟩
def Fld.LNK_PHY_EYE_CTL_POFS (p : Nat) (i : Nat) : Fld := ⟨Reg.LNK_PHY_EYE_CTL p i, 14, 8⟩
def Fld.LNK_PHY_EYE_CTL_DWELL (p : Nat) (i : Nat) : Fld := ⟨Reg.LNK_PHY_EYE_CTL p i, 5, 0⟩
def Reg.LNK_PHY_EYE_RES (p : Nat) (i : Nat) : Nat := 0x10011C + p * 0x10000 + i * 0x40
def Fld.LNK_PHY_EYE_RES_COUNT (p : Nat) (i : Nat) : Fld := ⟨Reg.LNK_PHY_EYE_RES p i, 31, 0⟩
def Reg.LNK_NET_STAT (i : Nat) : Nat := 0x100200 + i * 0x10000
def Fld.LNK_NET_STAT_LEVEL (i : Nat) : Fld := ⟨Reg.LNK_NET_STAT i, 31, 30⟩
def Fld.LNK_NET_STAT_BLOCKED (i : Nat) : Fld := ⟨Reg.LNK_NET_STAT i, 29, 29⟩
def Fld.LNK_NET_STAT_ENC_ACTIVE (i : Nat) : Fld := ⟨Reg.LNK_NET_STAT i, 28, 28⟩
def Fld.LNK_NET_STAT_KEYSTOP (i : Nat) : Fld := ⟨Reg.LNK_NET_STAT i, 27, 27⟩
def Fld.LNK_NET_STAT_NEIGHBOUR (i : Nat) : Fld := ⟨Reg.LNK_NET_STAT i, 15, 0⟩
def Reg.LNK_ESC_CFG (i : Nat) : Nat := 0x100204 + i * 0x10000
def Fld.LNK_ESC_CFG_THR_C (i : Nat) : Fld := ⟨Reg.LNK_ESC_CFG i, 31, 24⟩
def Fld.LNK_ESC_CFG_THR_B (i : Nat) : Fld := ⟨Reg.LNK_ESC_CFG i, 23, 16⟩
def Fld.LNK_ESC_CFG_THR_A (i : Nat) : Fld := ⟨Reg.LNK_ESC_CFG i, 15, 8⟩
def Fld.LNK_ESC_CFG_TAGSTORM (i : Nat) : Fld := ⟨Reg.LNK_ESC_CFG i, 7, 0⟩
def Reg.LNK_ESC_CTL (i : Nat) : Nat := 0x100208 + i * 0x10000
def Fld.LNK_ESC_CTL_RELEASE (i : Nat) : Fld := ⟨Reg.LNK_ESC_CTL i, 31, 31⟩
def Fld.LNK_ESC_CTL_COOL (i : Nat) : Fld := ⟨Reg.LNK_ESC_CTL i, 7, 0⟩
def Reg.LNK_VIOL (p : Nat) (i : Nat) : Nat := 0x100210 + p * 0x10000 + i * 0x4
def Fld.LNK_VIOL_COUNT (p : Nat) (i : Nat) : Fld := ⟨Reg.LNK_VIOL p i, 31, 0⟩
def Reg.LNK_SEC_CFG (i : Nat) : Nat := 0x100240 + i * 0x10000
def Fld.LNK_SEC_CFG_ENC (i : Nat) : Fld := ⟨Reg.LNK_SEC_CFG i, 31, 31⟩
def Reg.LNK_SEC_STAT (i : Nat) : Nat := 0x100244 + i * 0x10000
def Fld.LNK_SEC_STAT_EPOCH (i : Nat) : Fld := ⟨Reg.LNK_SEC_STAT i, 31, 0⟩
def Reg.LNK_SEC_USE (i : Nat) : Nat := 0x100248 + i * 0x10000
def Fld.LNK_SEC_USE_USE (i : Nat) : Fld := ⟨Reg.LNK_SEC_USE i, 31, 0⟩
def Reg.LNK_NETDROP (i : Nat) : Nat := 0x10024C + i * 0x10000
def Fld.LNK_NETDROP_UNROUTE (i : Nat) : Fld := ⟨Reg.LNK_NETDROP i, 31, 16⟩
def Fld.LNK_NETDROP_STOMP (i : Nat) : Fld := ⟨Reg.LNK_NETDROP i, 15, 0⟩
def Reg.LNK_NET_INT (i : Nat) : Nat := 0x100250 + i * 0x10000
def Fld.LNK_NET_INT_KEYSTOP (i : Nat) : Fld := ⟨Reg.LNK_NET_INT i, 3, 3⟩
def Fld.LNK_NET_INT_ESCAL (i : Nat) : Fld := ⟨Reg.LNK_NET_INT i, 2, 2⟩
def Fld.LNK_NET_INT_UNROUTE (i : Nat) : Fld := ⟨Reg.LNK_NET_INT i, 1, 1⟩
def Fld.LNK_NET_INT_VIOL (i : Nat) : Fld := ⟨Reg.LNK_NET_INT i, 0, 0⟩
def Reg.LNK_NET_INT_EN (i : Nat) : Nat := 0x100254 + i * 0x10000
def Fld.LNK_NET_INT_EN_EN (i : Nat) : Fld := ⟨Reg.LNK_NET_INT_EN i, 3, 0⟩
def Reg.LNK_NODE_ID : Nat := 0x100800
def Fld.LNK_NODE_ID_VALID : Fld := ⟨Reg.LNK_NODE_ID, 31, 31⟩
def Fld.LNK_NODE_ID_DUP : Fld := ⟨Reg.LNK_NODE_ID, 30, 30⟩
def Fld.LNK_NODE_ID_UPPORT : Fld := ⟨Reg.LNK_NODE_ID, 29, 28⟩
def Fld.LNK_NODE_ID_ID : Fld := ⟨Reg.LNK_NODE_ID, 15, 0⟩
def Reg.LNK_NET_CFG : Nat := 0x100804
def Fld.LNK_NET_CFG_OWN_GAP : Fld := ⟨Reg.LNK_NET_CFG, 31, 24⟩
def Fld.LNK_NET_CFG_RPL_TMO : Fld := ⟨Reg.LNK_NET_CFG, 23, 16⟩
def Reg.LNK_HEAD (i : Nat) : Nat := 0x100810 + i * 0x4
def Fld.LNK_HEAD_VALID (i : Nat) : Fld := ⟨Reg.LNK_HEAD i, 31, 31⟩
def Fld.LNK_HEAD_PORT (i : Nat) : Fld := ⟨Reg.LNK_HEAD i, 29, 28⟩
def Fld.LNK_HEAD_HOPS (i : Nat) : Fld := ⟨Reg.LNK_HEAD i, 27, 16⟩
def Fld.LNK_HEAD_HEAD (i : Nat) : Fld := ⟨Reg.LNK_HEAD i, 15, 0⟩
def Reg.LNK_ROUTE (i : Nat) : Nat := 0x100900 + i * 0x8
def Fld.LNK_ROUTE_LOW (i : Nat) : Fld := ⟨Reg.LNK_ROUTE i, 31, 16⟩
def Fld.LNK_ROUTE_HIGH (i : Nat) : Fld := ⟨Reg.LNK_ROUTE i, 15, 0⟩
def Reg.LNK_ROUTE_PORT (i : Nat) : Nat := 0x100904 + i * 0x8
def Fld.LNK_ROUTE_PORT_VALID (i : Nat) : Fld := ⟨Reg.LNK_ROUTE_PORT i, 31, 31⟩
def Fld.LNK_ROUTE_PORT_SELF (i : Nat) : Fld := ⟨Reg.LNK_ROUTE_PORT i, 20, 20⟩
def Fld.LNK_ROUTE_PORT_OWNER (i : Nat) : Fld := ⟨Reg.LNK_ROUTE_PORT i, 19, 16⟩
def Fld.LNK_ROUTE_PORT_PORT (i : Nat) : Fld := ⟨Reg.LNK_ROUTE_PORT i, 1, 0⟩
def Reg.SRC_GRP_CFG (i : Nat) : Nat := 0x140000 + i * 0x4
def Fld.SRC_GRP_CFG_ERR (i : Nat) : Fld := ⟨Reg.SRC_GRP_CFG i, 8, 8⟩
def Fld.SRC_GRP_CFG_FEC (i : Nat) : Fld := ⟨Reg.SRC_GRP_CFG i, 4, 4⟩
def Fld.SRC_GRP_CFG_GMODE (i : Nat) : Fld := ⟨Reg.SRC_GRP_CFG i, 1, 0⟩
def Reg.SRC_LANE_STAT (i : Nat) : Nat := 0x140010 + i * 0x4
def Fld.SRC_LANE_STAT_ANC (i : Nat) : Fld := ⟨Reg.SRC_LANE_STAT i, 31, 16⟩
def Fld.SRC_LANE_STAT_PID (i : Nat) : Fld := ⟨Reg.SRC_LANE_STAT i, 5, 5⟩
def Fld.SRC_LANE_STAT_M1001 (i : Nat) : Fld := ⟨Reg.SRC_LANE_STAT i, 4, 4⟩
def Fld.SRC_LANE_STAT_RATE (i : Nat) : Fld := ⟨Reg.SRC_LANE_STAT i, 3, 1⟩
def Fld.SRC_LANE_STAT_LOCK (i : Nat) : Fld := ⟨Reg.SRC_LANE_STAT i, 0, 0⟩
def Reg.SRC_LUT_CTL : Nat := 0x140040
def Fld.SRC_LUT_CTL_ERR : Fld := ⟨Reg.SRC_LUT_CTL, 17, 17⟩
def Fld.SRC_LUT_CTL_SWAP : Fld := ⟨Reg.SRC_LUT_CTL, 16, 16⟩
def Fld.SRC_LUT_CTL_TABLE : Fld := ⟨Reg.SRC_LUT_CTL, 15, 12⟩
def Fld.SRC_LUT_CTL_INDEX : Fld := ⟨Reg.SRC_LUT_CTL, 11, 0⟩
def Reg.SRC_LUT_DATA : Nat := 0x140044
def Fld.SRC_LUT_DATA_VALUE : Fld := ⟨Reg.SRC_LUT_DATA, 19, 0⟩
def Reg.SRC_ETHERR (i : Nat) : Nat := 0x140100 + i * 0x4
def Fld.SRC_ETHERR_COUNT (i : Nat) : Fld := ⟨Reg.SRC_ETHERR i, 31, 0⟩
def Reg.SRC_HREADY (i : Nat) : Nat := 0x140200 + i * 0x4
def Fld.SRC_HREADY_BUF (i : Nat) : Fld := ⟨Reg.SRC_HREADY i, 1, 0⟩
def Reg.SRC_FLOW_ADDR (i : Nat) : Nat := 0x141000 + i * 0x10
def Fld.SRC_FLOW_ADDR_DST_IP (i : Nat) : Fld := ⟨Reg.SRC_FLOW_ADDR i, 31, 0⟩
def Reg.SRC_FLOW_CFG (i : Nat) : Nat := 0x141004 + i * 0x10
def Fld.SRC_FLOW_CFG_VALID (i : Nat) : Fld := ⟨Reg.SRC_FLOW_CFG i, 31, 31⟩
def Fld.SRC_FLOW_CFG_VLAN_EN (i : Nat) : Fld := ⟨Reg.SRC_FLOW_CFG i, 28, 28⟩
def Fld.SRC_FLOW_CFG_VLAN (i : Nat) : Fld := ⟨Reg.SRC_FLOW_CFG i, 27, 16⟩
def Fld.SRC_FLOW_CFG_DST_PORT (i : Nat) : Fld := ⟨Reg.SRC_FLOW_CFG i, 15, 0⟩
def Reg.SRC_FLOW_MAP (i : Nat) : Nat := 0x141008 + i * 0x10
def Fld.SRC_FLOW_MAP_PT (i : Nat) : Fld := ⟨Reg.SRC_FLOW_MAP i, 22, 16⟩
def Fld.SRC_FLOW_MAP_KIND (i : Nat) : Fld := ⟨Reg.SRC_FLOW_MAP i, 9, 8⟩
def Fld.SRC_FLOW_MAP_SOURCE (i : Nat) : Fld := ⟨Reg.SRC_FLOW_MAP i, 5, 0⟩
def Reg.SRC_CFG (i : Nat) : Nat := 0x144000 + i * 0x80
def Fld.SRC_CFG_LIVE (i : Nat) : Fld := ⟨Reg.SRC_CFG i, 31, 31⟩
def Fld.SRC_CFG_CHASE (i : Nat) : Fld := ⟨Reg.SRC_CFG i, 30, 30⟩
def Fld.SRC_CFG_PYR (i : Nat) : Fld := ⟨Reg.SRC_CFG i, 29, 29⟩
def Fld.SRC_CFG_CLIP (i : Nat) : Fld := ⟨Reg.SRC_CFG i, 28, 28⟩
def Fld.SRC_CFG_NBUF (i : Nat) : Fld := ⟨Reg.SRC_CFG i, 27, 24⟩
def Fld.SRC_CFG_TF_SEL (i : Nat) : Fld := ⟨Reg.SRC_CFG i, 23, 21⟩
def Fld.SRC_CFG_RANGE (i : Nat) : Fld := ⟨Reg.SRC_CFG i, 20, 20⟩
def Fld.SRC_CFG_FORMAT (i : Nat) : Fld := ⟨Reg.SRC_CFG i, 19, 17⟩
def Fld.SRC_CFG_ENABLED (i : Nat) : Fld := ⟨Reg.SRC_CFG i, 16, 16⟩
def Fld.SRC_CFG_KIND (i : Nat) : Fld := ⟨Reg.SRC_CFG i, 15, 12⟩
def Fld.SRC_CFG_INPUT (i : Nat) : Fld := ⟨Reg.SRC_CFG i, 11, 0⟩
def Reg.SRC_RASTER (i : Nat) : Nat := 0x144004 + i * 0x80
def Fld.SRC_RASTER_INTERLACED (i : Nat) : Fld := ⟨Reg.SRC_RASTER i, 31, 31⟩
def Fld.SRC_RASTER_HEIGHT (i : Nat) : Fld := ⟨Reg.SRC_RASTER i, 28, 16⟩
def Fld.SRC_RASTER_WIDTH (i : Nat) : Fld := ⟨Reg.SRC_RASTER i, 12, 0⟩
def Reg.SRC_RATE (i : Nat) : Nat := 0x144008 + i * 0x80
def Fld.SRC_RATE_DEN (i : Nat) : Fld := ⟨Reg.SRC_RATE i, 31, 16⟩
def Fld.SRC_RATE_NUM (i : Nat) : Fld := ⟨Reg.SRC_RATE i, 15, 0⟩
def Reg.SRC_CMAT (p : Nat) (i : Nat) : Nat := 0x14400C + p * 0x80 + i * 0x4
def Fld.SRC_CMAT_KHI (p : Nat) (i : Nat) : Fld := ⟨Reg.SRC_CMAT p i, 31, 16⟩
def Fld.SRC_CMAT_KLO (p : Nat) (i : Nat) : Fld := ⟨Reg.SRC_CMAT p i, 15, 0⟩
def Reg.SRC_LMAT (p : Nat) (i : Nat) : Nat := 0x144014 + p * 0x80 + i * 0x4
def Fld.SRC_LMAT_HI (p : Nat) (i : Nat) : Fld := ⟨Reg.SRC_LMAT p i, 31, 16⟩
def Fld.SRC_LMAT_LO (p : Nat) (i : Nat) : Fld := ⟨Reg.SRC_LMAT p i, 15, 0⟩
def Reg.SRC_GEOM (i : Nat) : Nat := 0x144028 + i * 0x80
def Fld.SRC_GEOM_LOST_TMO (i : Nat) : Fld := ⟨Reg.SRC_GEOM i, 23, 16⟩
def Fld.SRC_GEOM_REGAIN_N (i : Nat) : Fld := ⟨Reg.SRC_GEOM i, 15, 8⟩
def Fld.SRC_GEOM_LOST_N (i : Nat) : Fld := ⟨Reg.SRC_GEOM i, 7, 0⟩
def Reg.SRC_DETECT (i : Nat) : Nat := 0x14402C + i * 0x80
def Fld.SRC_DETECT_BLACK_THR (i : Nat) : Fld := ⟨Reg.SRC_DETECT i, 31, 16⟩
def Fld.SRC_DETECT_BLACK_N (i : Nat) : Fld := ⟨Reg.SRC_DETECT i, 15, 8⟩
def Fld.SRC_DETECT_FREEZE_N (i : Nat) : Fld := ⟨Reg.SRC_DETECT i, 7, 0⟩
def Reg.SRC_STAT (i : Nat) : Nat := 0x144030 + i * 0x80
def Fld.SRC_STAT_HRDY_ERR (i : Nat) : Fld := ⟨Reg.SRC_STAT i, 16, 16⟩
def Fld.SRC_STAT_FETCH (i : Nat) : Fld := ⟨Reg.SRC_STAT i, 15, 15⟩
def Fld.SRC_STAT_RANGE (i : Nat) : Fld := ⟨Reg.SRC_STAT i, 14, 14⟩
def Fld.SRC_STAT_CRCERR (i : Nat) : Fld := ⟨Reg.SRC_STAT i, 13, 13⟩
def Fld.SRC_STAT_FMT (i : Nat) : Fld := ⟨Reg.SRC_STAT i, 12, 12⟩
def Fld.SRC_STAT_GAP (i : Nat) : Fld := ⟨Reg.SRC_STAT i, 11, 11⟩
def Fld.SRC_STAT_BADLEN (i : Nat) : Fld := ⟨Reg.SRC_STAT i, 10, 10⟩
def Fld.SRC_STAT_LONG (i : Nat) : Fld := ⟨Reg.SRC_STAT i, 9, 9⟩
def Fld.SRC_STAT_SHORT (i : Nat) : Fld := ⟨Reg.SRC_STAT i, 8, 8⟩
def Fld.SRC_STAT_CHASE_LOST (i : Nat) : Fld := ⟨Reg.SRC_STAT i, 4, 4⟩
def Fld.SRC_STAT_CHASING (i : Nat) : Fld := ⟨Reg.SRC_STAT i, 3, 3⟩
def Fld.SRC_STAT_BLACK (i : Nat) : Fld := ⟨Reg.SRC_STAT i, 2, 2⟩
def Fld.SRC_STAT_FREEZE (i : Nat) : Fld := ⟨Reg.SRC_STAT i, 1, 1⟩
def Fld.SRC_STAT_LOST (i : Nat) : Fld := ⟨Reg.SRC_STAT i, 0, 0⟩
def Reg.SRC_FCNT (i : Nat) : Nat := 0x144034 + i * 0x80
def Fld.SRC_FCNT_COUNT (i : Nat) : Fld := ⟨Reg.SRC_FCNT i, 31, 0⟩
def Reg.SRC_SIG (i : Nat) : Nat := 0x144038 + i * 0x80
def Fld.SRC_SIG_SIG (i : Nat) : Fld := ⟨Reg.SRC_SIG i, 31, 0⟩
def Reg.SRC_RANGECNT (i : Nat) : Nat := 0x14403C + i * 0x80
def Fld.SRC_RANGECNT_HIGH (i : Nat) : Fld := ⟨Reg.SRC_RANGECNT i, 31, 16⟩
def Fld.SRC_RANGECNT_LOW (i : Nat) : Fld := ⟨Reg.SRC_RANGECNT i, 15, 0⟩
def Reg.SRC_SYNCCNT (i : Nat) : Nat := 0x144040 + i * 0x80
def Fld.SRC_SYNCCNT_DROP (i : Nat) : Fld := ⟨Reg.SRC_SYNCCNT i, 31, 16⟩
def Fld.SRC_SYNCCNT_REPEAT (i : Nat) : Fld := ⟨Reg.SRC_SYNCCNT i, 15, 0⟩
def Reg.SRC_ERRCNT (i : Nat) : Nat := 0x144044 + i * 0x80
def Fld.SRC_ERRCNT_CRC (i : Nat) : Fld := ⟨Reg.SRC_ERRCNT i, 31, 16⟩
def Fld.SRC_ERRCNT_GAP (i : Nat) : Fld := ⟨Reg.SRC_ERRCNT i, 15, 0⟩
def Reg.SRC_RTPOFS (i : Nat) : Nat := 0x144048 + i * 0x80
def Fld.SRC_RTPOFS_OFS (i : Nat) : Fld := ⟨Reg.SRC_RTPOFS i, 31, 0⟩
def Reg.SRC_CHASE (i : Nat) : Nat := 0x14404C + i * 0x80
def Fld.SRC_CHASE_ADV (i : Nat) : Fld := ⟨Reg.SRC_CHASE i, 15, 0⟩
def Reg.CMP_PLANE_ORDER : Nat := 0x180000
def Fld.CMP_PLANE_ORDER_POS6 : Fld := ⟨Reg.CMP_PLANE_ORDER, 20, 18⟩
def Fld.CMP_PLANE_ORDER_POS5 : Fld := ⟨Reg.CMP_PLANE_ORDER, 17, 15⟩
def Fld.CMP_PLANE_ORDER_POS4 : Fld := ⟨Reg.CMP_PLANE_ORDER, 14, 12⟩
def Fld.CMP_PLANE_ORDER_POS3 : Fld := ⟨Reg.CMP_PLANE_ORDER, 11, 9⟩
def Fld.CMP_PLANE_ORDER_POS2 : Fld := ⟨Reg.CMP_PLANE_ORDER, 8, 6⟩
def Fld.CMP_PLANE_ORDER_POS1 : Fld := ⟨Reg.CMP_PLANE_ORDER, 5, 3⟩
def Fld.CMP_PLANE_ORDER_POS0 : Fld := ⟨Reg.CMP_PLANE_ORDER, 2, 0⟩
def Reg.CMP_STAT : Nat := 0x180004
def Fld.CMP_STAT_FILT_ERR : Fld := ⟨Reg.CMP_STAT, 2, 2⟩
def Fld.CMP_STAT_ORDER_LOST : Fld := ⟨Reg.CMP_STAT, 1, 1⟩
def Fld.CMP_STAT_ORDER_ERR : Fld := ⟨Reg.CMP_STAT, 0, 0⟩
def Reg.CMP_BG (i : Nat) : Nat := 0x180010 + i * 0x4
def Fld.CMP_BG_VALUE (i : Nat) : Fld := ⟨Reg.CMP_BG i, 19, 0⟩
def Reg.CMP_WTAB_BASE : Nat := 0x180020
def Fld.CMP_WTAB_BASE_BASE : Fld := ⟨Reg.CMP_WTAB_BASE, 15, 0⟩
def Reg.CMP_WIN_COUNT : Nat := 0x180024
def Fld.CMP_WIN_COUNT_COUNT : Fld := ⟨Reg.CMP_WIN_COUNT, 14, 0⟩
def Reg.CMP_CLAMPCNT : Nat := 0x180028
def Fld.CMP_CLAMPCNT_COUNT : Fld := ⟨Reg.CMP_CLAMPCNT, 31, 0⟩
def Reg.CMP_FILT_CTL : Nat := 0x180040
def Fld.CMP_FILT_CTL_SWAP : Fld := ⟨Reg.CMP_FILT_CTL, 20, 20⟩
def Fld.CMP_FILT_CTL_SET : Fld := ⟨Reg.CMP_FILT_CTL, 19, 16⟩
def Fld.CMP_FILT_CTL_INDEX : Fld := ⟨Reg.CMP_FILT_CTL, 10, 0⟩
def Reg.CMP_FILT_DATA : Nat := 0x180044
def Fld.CMP_FILT_DATA_COEF : Fld := ⟨Reg.CMP_FILT_DATA, 11, 0⟩
def Reg.CMP_WDESC_SEL : Nat := 0x180080
def Fld.CMP_WDESC_SEL_EXISTS : Fld := ⟨Reg.CMP_WDESC_SEL, 31, 31⟩
def Fld.CMP_WDESC_SEL_WIN : Fld := ⟨Reg.CMP_WDESC_SEL, 13, 0⟩
def Reg.CMP_WDESC (i : Nat) : Nat := 0x1800C0 + i * 0x4
def Fld.CMP_WDESC_WORD (i : Nat) : Fld := ⟨Reg.CMP_WDESC i, 31, 0⟩
def Reg.CMP_TTAB_BASE : Nat := 0x180100
def Fld.CMP_TTAB_BASE_BASE : Fld := ⟨Reg.CMP_TTAB_BASE, 15, 0⟩
def Reg.CMP_TILE_COUNT : Nat := 0x180104
def Fld.CMP_TILE_COUNT_COUNT : Fld := ⟨Reg.CMP_TILE_COUNT, 13, 0⟩
def Reg.CMP_INK_CTL : Nat := 0x180108
def Fld.CMP_INK_CTL_EN : Fld := ⟨Reg.CMP_INK_CTL, 31, 31⟩
def Fld.CMP_INK_CTL_INVAL : Fld := ⟨Reg.CMP_INK_CTL, 30, 30⟩
def Fld.CMP_INK_CTL_BASE : Fld := ⟨Reg.CMP_INK_CTL, 15, 0⟩
def Reg.CMP_PREV_BASE : Nat := 0x18010C
def Fld.CMP_PREV_BASE_EN : Fld := ⟨Reg.CMP_PREV_BASE, 31, 31⟩
def Fld.CMP_PREV_BASE_BASE : Fld := ⟨Reg.CMP_PREV_BASE, 15, 0⟩
def Reg.CMP_LANE_STAT : Nat := 0x180110
def Fld.CMP_LANE_STAT_NOCHECK : Fld := ⟨Reg.CMP_LANE_STAT, 16, 16⟩
def Fld.CMP_LANE_STAT_LANES : Fld := ⟨Reg.CMP_LANE_STAT, 10, 8⟩
def Fld.CMP_LANE_STAT_SPARE_FOR : Fld := ⟨Reg.CMP_LANE_STAT, 7, 5⟩
def Fld.CMP_LANE_STAT_RETIRED : Fld := ⟨Reg.CMP_LANE_STAT, 4, 0⟩
def Reg.CMP_INT : Nat := 0x180114
def Fld.CMP_INT_LANE : Fld := ⟨Reg.CMP_INT, 2, 2⟩
def Fld.CMP_INT_DEFER : Fld := ⟨Reg.CMP_INT, 1, 1⟩
def Fld.CMP_INT_UNDERRUN : Fld := ⟨Reg.CMP_INT, 0, 0⟩
def Reg.CMP_INT_EN : Nat := 0x180118
def Fld.CMP_INT_EN_EN : Fld := ⟨Reg.CMP_INT_EN, 2, 0⟩
def Reg.CMP_UNDERCNT : Nat := 0x18011C
def Fld.CMP_UNDERCNT_COUNT : Fld := ⟨Reg.CMP_UNDERCNT, 31, 0⟩
def Reg.CMP_DEFERCNT : Nat := 0x180120
def Fld.CMP_DEFERCNT_COUNT : Fld := ⟨Reg.CMP_DEFERCNT, 31, 0⟩
def Reg.CMP_INK_HIT : Nat := 0x180124
def Fld.CMP_INK_HIT_COUNT : Fld := ⟨Reg.CMP_INK_HIT, 31, 0⟩
def Reg.CMP_INK_FILL : Nat := 0x180128
def Fld.CMP_INK_FILL_COUNT : Fld := ⟨Reg.CMP_INK_FILL, 31, 0⟩
def Reg.CMP_ADM_STAT : Nat := 0x180130
def Fld.CMP_ADM_STAT_PORT : Fld := ⟨Reg.CMP_ADM_STAT, 5, 4⟩
def Fld.CMP_ADM_STAT_FAIL : Fld := ⟨Reg.CMP_ADM_STAT, 1, 0⟩
def Reg.CMP_ADM_COMPOSE : Nat := 0x180134
def Fld.CMP_ADM_COMPOSE_NS : Fld := ⟨Reg.CMP_ADM_COMPOSE, 31, 0⟩
def Reg.CMP_ADM_DRAM : Nat := 0x180138
def Fld.CMP_ADM_DRAM_MBPS : Fld := ⟨Reg.CMP_ADM_DRAM, 31, 0⟩
def Reg.CMP_ADM_PORT (i : Nat) : Nat := 0x180140 + i * 0x4
def Fld.CMP_ADM_PORT_BYTES (i : Nat) : Fld := ⟨Reg.CMP_ADM_PORT i, 31, 0⟩
def Reg.CMP_TDESC_SEL : Nat := 0x180180
def Fld.CMP_TDESC_SEL_EXISTS : Fld := ⟨Reg.CMP_TDESC_SEL, 31, 31⟩
def Fld.CMP_TDESC_SEL_TILE : Fld := ⟨Reg.CMP_TDESC_SEL, 12, 0⟩
def Reg.CMP_TDESC (i : Nat) : Nat := 0x1801C0 + i * 0x4
def Fld.CMP_TDESC_WORD (i : Nat) : Fld := ⟨Reg.CMP_TDESC i, 31, 0⟩
def Reg.CMP_RUNAHEAD : Nat := 0x180200
def Fld.CMP_RUNAHEAD_ADV : Fld := ⟨Reg.CMP_RUNAHEAD, 15, 0⟩
def Reg.CMP_PUSH_HOPS (i : Nat) : Nat := 0x180210 + i * 0x4
def Fld.CMP_PUSH_HOPS_HOPS (i : Nat) : Fld := ⟨Reg.CMP_PUSH_HOPS i, 11, 0⟩
def Reg.CMP_CMT_STAT : Nat := 0x180220
def Fld.CMP_CMT_STAT_RA_ERR : Fld := ⟨Reg.CMP_CMT_STAT, 0, 0⟩
def Reg.CMP_SEALCNT : Nat := 0x180224
def Fld.CMP_SEALCNT_COUNT : Fld := ⟨Reg.CMP_SEALCNT, 31, 0⟩
def Reg.CMP_VOIDCNT : Nat := 0x180228
def Fld.CMP_VOIDCNT_RECOMP : Fld := ⟨Reg.CMP_VOIDCNT, 31, 16⟩
def Fld.CMP_VOIDCNT_VOID : Fld := ⟨Reg.CMP_VOIDCNT, 15, 0⟩
def Reg.CMP_HOLDRPT : Nat := 0x18022C
def Fld.CMP_HOLDRPT_COUNT : Fld := ⟨Reg.CMP_HOLDRPT, 31, 0⟩
def Reg.CMP_LATECMD : Nat := 0x180230
def Fld.CMP_LATECMD_COUNT : Fld := ⟨Reg.CMP_LATECMD, 31, 0⟩
def Reg.CMP_WLUT_CTL : Nat := 0x180300
def Fld.CMP_WLUT_CTL_ERR : Fld := ⟨Reg.CMP_WLUT_CTL, 17, 17⟩
def Fld.CMP_WLUT_CTL_SWAP : Fld := ⟨Reg.CMP_WLUT_CTL, 16, 16⟩
def Fld.CMP_WLUT_CTL_TABLE : Fld := ⟨Reg.CMP_WLUT_CTL, 12, 12⟩
def Fld.CMP_WLUT_CTL_INDEX : Fld := ⟨Reg.CMP_WLUT_CTL, 11, 0⟩
def Reg.CMP_WLUT_DATA : Nat := 0x180304
def Fld.CMP_WLUT_DATA_VALUE : Fld := ⟨Reg.CMP_WLUT_DATA, 19, 0⟩
def Reg.SCN_CFG : Nat := 0x1C0000
def Fld.SCN_CFG_DEAD : Fld := ⟨Reg.SCN_CFG, 23, 16⟩
def Fld.SCN_CFG_D : Fld := ⟨Reg.SCN_CFG, 12, 8⟩
def Fld.SCN_CFG_GDIV : Fld := ⟨Reg.SCN_CFG, 5, 4⟩
def Fld.SCN_CFG_SLOG : Fld := ⟨Reg.SCN_CFG, 2, 0⟩
def Reg.SCN_STAT : Nat := 0x1C0004
def Fld.SCN_STAT_RUN : Fld := ⟨Reg.SCN_STAT, 13, 13⟩
def Fld.SCN_STAT_DEFF : Fld := ⟨Reg.SCN_STAT, 12, 8⟩
def Fld.SCN_STAT_DMAX : Fld := ⟨Reg.SCN_STAT, 4, 0⟩
def Reg.SCN_PHASE : Nat := 0x1C0008
def Fld.SCN_PHASE_OFS : Fld := ⟨Reg.SCN_PHASE, 25, 0⟩
def Reg.SCN_GSUB : Nat := 0x1C000C
def Fld.SCN_GSUB_G : Fld := ⟨Reg.SCN_GSUB, 24, 0⟩
def Reg.SCN_GROW : Nat := 0x1C0010
def Fld.SCN_GROW_G : Fld := ⟨Reg.SCN_GROW, 20, 0⟩
def Reg.SCN_GON : Nat := 0x1C0014
def Fld.SCN_GON_G : Fld := ⟨Reg.SCN_GON, 20, 0⟩
def Reg.SCN_LINE_MATCH : Nat := 0x1C0018
def Fld.SCN_LINE_MATCH_SUB : Fld := ⟨Reg.SCN_LINE_MATCH, 21, 16⟩
def Fld.SCN_LINE_MATCH_ROW : Fld := ⟨Reg.SCN_LINE_MATCH, 5, 0⟩
def Reg.SCN_INT : Nat := 0x1C001C
def Fld.SCN_INT_EVENTS : Fld := ⟨Reg.SCN_INT, 6, 0⟩
def Reg.SCN_INT_EN : Nat := 0x1C0020
def Fld.SCN_INT_EN_EN : Fld := ⟨Reg.SCN_INT_EN, 6, 0⟩
def Reg.SCN_UNDCNT : Nat := 0x1C0024
def Fld.SCN_UNDCNT_COUNT : Fld := ⟨Reg.SCN_UNDCNT, 31, 0⟩
def Reg.SCN_UND_DUTY (i : Nat) : Nat := 0x1C0028 + i * 0x4
def Fld.SCN_UND_DUTY_GCLK (i : Nat) : Fld := ⟨Reg.SCN_UND_DUTY i, 15, 0⟩
def Reg.SCN_FRZ_CFG : Nat := 0x1C0034
def Fld.SCN_FRZ_CFG_N : Fld := ⟨Reg.SCN_FRZ_CFG, 7, 0⟩
def Reg.SCN_SHOWN_SIG : Nat := 0x1C0038
def Fld.SCN_SHOWN_SIG_SIG : Fld := ⟨Reg.SCN_SHOWN_SIG, 31, 0⟩
def Reg.SCN_CMT_CFG : Nat := 0x1C0800
def Fld.SCN_CMT_CFG_POLICY : Fld := ⟨Reg.SCN_CMT_CFG, 0, 0⟩
def Reg.SCN_CMT_STAT : Nat := 0x1C0804
def Fld.SCN_CMT_STAT_REASON : Fld := ⟨Reg.SCN_CMT_STAT, 7, 4⟩
def Fld.SCN_CMT_STAT_LAST : Fld := ⟨Reg.SCN_CMT_STAT, 3, 2⟩
def Fld.SCN_CMT_STAT_HEADID : Fld := ⟨Reg.SCN_CMT_STAT, 1, 1⟩
def Fld.SCN_CMT_STAT_SHOWN_VALID : Fld := ⟨Reg.SCN_CMT_STAT, 0, 0⟩
def Reg.SCN_SHOWN_FN : Nat := 0x1C0808
def Fld.SCN_SHOWN_FN_FN : Fld := ⟨Reg.SCN_SHOWN_FN, 31, 0⟩
def Reg.SCN_SLOT (i : Nat) : Nat := 0x1C0810 + i * 0x4
def Fld.SCN_SLOT_STATE (i : Nat) : Fld := ⟨Reg.SCN_SLOT i, 31, 30⟩
def Fld.SCN_SLOT_REV (i : Nat) : Fld := ⟨Reg.SCN_SLOT i, 29, 26⟩
def Fld.SCN_SLOT_SEALED (i : Nat) : Fld := ⟨Reg.SCN_SLOT i, 25, 25⟩
def Fld.SCN_SLOT_ANNOUNCED (i : Nat) : Fld := ⟨Reg.SCN_SLOT i, 12, 6⟩
def Reg.SCN_SLOT_RECV (i : Nat) : Nat := 0x1C0820 + i * 0x4
def Fld.SCN_SLOT_RECV_COUNT (i : Nat) : Fld := ⟨Reg.SCN_SLOT_RECV i, 6, 0⟩
def Reg.SCN_SLOT_FN (i : Nat) : Nat := 0x1C0830 + i * 0x4
def Fld.SCN_SLOT_FN_FN (i : Nat) : Fld := ⟨Reg.SCN_SLOT_FN i, 31, 0⟩
def Reg.SCN_HOLDCNT (i : Nat) : Nat := 0x1C0840 + i * 0x4
def Fld.SCN_HOLDCNT_COUNT (i : Nat) : Fld := ⟨Reg.SCN_HOLDCNT i, 31, 0⟩
def Reg.SCN_DROPCNT : Nat := 0x1C0860
def Fld.SCN_DROPCNT_EARLY : Fld := ⟨Reg.SCN_DROPCNT, 31, 24⟩
def Fld.SCN_DROPCNT_LATE : Fld := ⟨Reg.SCN_DROPCNT, 23, 16⟩
def Fld.SCN_DROPCNT_TSHOW : Fld := ⟨Reg.SCN_DROPCNT, 15, 8⟩
def Fld.SCN_DROPCNT_NOSLOT : Fld := ⟨Reg.SCN_DROPCNT, 7, 0⟩
def Reg.SCN_CMT_INT : Nat := 0x1C0864
def Fld.SCN_CMT_INT_DROP : Fld := ⟨Reg.SCN_CMT_INT, 3, 3⟩
def Fld.SCN_CMT_INT_VOID : Fld := ⟨Reg.SCN_CMT_INT, 2, 2⟩
def Fld.SCN_CMT_INT_PARTIAL : Fld := ⟨Reg.SCN_CMT_INT, 1, 1⟩
def Fld.SCN_CMT_INT_HOLD : Fld := ⟨Reg.SCN_CMT_INT, 0, 0⟩
def Reg.SCN_CMT_INT_EN : Nat := 0x1C0868
def Fld.SCN_CMT_INT_EN_EN : Fld := ⟨Reg.SCN_CMT_INT_EN, 3, 0⟩
def Reg.DRV_IFS (i : Nat) : Nat := 0x1D0000 + i * 0x4
def Fld.DRV_IFS_CODE (i : Nat) : Fld := ⟨Reg.DRV_IFS i, 8, 0⟩
def Reg.DRV_STAT : Nat := 0x1D000C
def Fld.DRV_STAT_IREF_FAIL : Fld := ⟨Reg.DRV_STAT, 0, 0⟩
def Reg.DRV_GATE : Nat := 0x1D0010
def Fld.DRV_GATE_RAMP : Fld := ⟨Reg.DRV_GATE, 23, 16⟩
def Fld.DRV_GATE_OCTHR : Fld := ⟨Reg.DRV_GATE, 7, 0⟩
def Reg.DRV_ROW_LATCH (i : Nat) : Nat := 0x1D0014 + i * 0x4
def Fld.DRV_ROW_LATCH_ROW (i : Nat) : Fld := ⟨Reg.DRV_ROW_LATCH i, 31, 0⟩
def Reg.DRV_ROWOC_CNT : Nat := 0x1D0020
def Fld.DRV_ROWOC_CNT_COUNT : Fld := ⟨Reg.DRV_ROWOC_CNT, 31, 0⟩
def Reg.DRV_RAIL_CFG : Nat := 0x1D0030
def Fld.DRV_RAIL_CFG_VHR : Fld := ⟨Reg.DRV_RAIL_CFG, 31, 24⟩
def Fld.DRV_RAIL_CFG_VMAX : Fld := ⟨Reg.DRV_RAIL_CFG, 23, 16⟩
def Fld.DRV_RAIL_CFG_UP : Fld := ⟨Reg.DRV_RAIL_CFG, 15, 12⟩
def Fld.DRV_RAIL_CFG_PHASES : Fld := ⟨Reg.DRV_RAIL_CFG, 9, 8⟩
def Fld.DRV_RAIL_CFG_SPARE_EN : Fld := ⟨Reg.DRV_RAIL_CFG, 7, 7⟩
def Reg.DRV_RAIL_STAT : Nat := 0x1D0034
def Fld.DRV_RAIL_STAT_REG : Fld := ⟨Reg.DRV_RAIL_STAT, 23, 23⟩
def Fld.DRV_RAIL_STAT_SHARE_ERR : Fld := ⟨Reg.DRV_RAIL_STAT, 22, 22⟩
def Fld.DRV_RAIL_STAT_LIMIT : Fld := ⟨Reg.DRV_RAIL_STAT, 21, 21⟩
def Fld.DRV_RAIL_STAT_SPARE_USED : Fld := ⟨Reg.DRV_RAIL_STAT, 20, 20⟩
def Fld.DRV_RAIL_STAT_PH_ACTIVE : Fld := ⟨Reg.DRV_RAIL_STAT, 19, 16⟩
def Fld.DRV_RAIL_STAT_VSET : Fld := ⟨Reg.DRV_RAIL_STAT, 12, 0⟩
def Reg.DRV_FAULT_CFG : Nat := 0x1D0040
def Fld.DRV_FAULT_CFG_PROBE_EN : Fld := ⟨Reg.DRV_FAULT_CFG, 31, 31⟩
def Fld.DRV_FAULT_CFG_PINTEST_EN : Fld := ⟨Reg.DRV_FAULT_CFG, 30, 30⟩
def Fld.DRV_FAULT_CFG_VSHORT : Fld := ⟨Reg.DRV_FAULT_CFG, 23, 16⟩
def Fld.DRV_FAULT_CFG_OPENMAX : Fld := ⟨Reg.DRV_FAULT_CFG, 7, 0⟩
def Reg.DRV_FAULT_STAT : Nat := 0x1D0044
def Fld.DRV_FAULT_STAT_NOPROBE : Fld := ⟨Reg.DRV_FAULT_STAT, 31, 31⟩
def Fld.DRV_FAULT_STAT_NOTEST : Fld := ⟨Reg.DRV_FAULT_STAT, 30, 30⟩
def Fld.DRV_FAULT_STAT_DEAD : Fld := ⟨Reg.DRV_FAULT_STAT, 15, 0⟩
def Reg.DRV_TCAL_CFG : Nat := 0x1D0050
def Fld.DRV_TCAL_CFG_EN : Fld := ⟨Reg.DRV_TCAL_CFG, 31, 31⟩
def Fld.DRV_TCAL_CFG_PERIOD : Fld := ⟨Reg.DRV_TCAL_CFG, 15, 0⟩
def Reg.DRV_TCAL_STAT : Nat := 0x1D0054
def Fld.DRV_TCAL_STAT_BUSY : Fld := ⟨Reg.DRV_TCAL_STAT, 31, 31⟩
def Fld.DRV_TCAL_STAT_NODT : Fld := ⟨Reg.DRV_TCAL_STAT, 30, 30⟩
def Fld.DRV_TCAL_STAT_RANGE : Fld := ⟨Reg.DRV_TCAL_STAT, 29, 29⟩
def Fld.DRV_TCAL_STAT_SINK : Fld := ⟨Reg.DRV_TCAL_STAT, 25, 16⟩
def Fld.DRV_TCAL_STAT_SWEEPS : Fld := ⟨Reg.DRV_TCAL_STAT, 15, 0⟩
def Reg.DRV_ADC_SEQ : Nat := 0x1D0060
def Fld.DRV_ADC_SEQ_EN : Fld := ⟨Reg.DRV_ADC_SEQ, 15, 0⟩
def Reg.DRV_ADC_STAT : Nat := 0x1D0064
def Fld.DRV_ADC_STAT_OVR : Fld := ⟨Reg.DRV_ADC_STAT, 31, 16⟩
def Fld.DRV_ADC_STAT_SETTLE : Fld := ⟨Reg.DRV_ADC_STAT, 15, 0⟩
def Reg.DRV_INT : Nat := 0x1D0070
def Fld.DRV_INT_ADCOVR : Fld := ⟨Reg.DRV_INT, 7, 7⟩
def Fld.DRV_INT_TCAL : Fld := ⟨Reg.DRV_INT, 6, 6⟩
def Fld.DRV_INT_LIMIT : Fld := ⟨Reg.DRV_INT, 5, 5⟩
def Fld.DRV_INT_PHASE : Fld := ⟨Reg.DRV_INT, 4, 4⟩
def Fld.DRV_INT_ROWLATCH : Fld := ⟨Reg.DRV_INT, 3, 3⟩
def Fld.DRV_INT_ROWOC : Fld := ⟨Reg.DRV_INT, 2, 2⟩
def Fld.DRV_INT_PINSHORT : Fld := ⟨Reg.DRV_INT, 1, 1⟩
def Fld.DRV_INT_LAMP : Fld := ⟨Reg.DRV_INT, 0, 0⟩
def Reg.DRV_INT_EN : Nat := 0x1D0074
def Fld.DRV_INT_EN_EN : Fld := ⟨Reg.DRV_INT_EN, 7, 0⟩
def Reg.DRV_PINSHORT (i : Nat) : Nat := 0x1D0100 + i * 0x4
def Fld.DRV_PINSHORT_PAIR (i : Nat) : Fld := ⟨Reg.DRV_PINSHORT i, 31, 0⟩
def Reg.DRV_ADC_RES (i : Nat) : Nat := 0x1D0200 + i * 0x4
def Fld.DRV_ADC_RES_OVR (i : Nat) : Fld := ⟨Reg.DRV_ADC_RES i, 31, 31⟩
def Fld.DRV_ADC_RES_CODE (i : Nat) : Fld := ⟨Reg.DRV_ADC_RES i, 11, 0⟩
def Reg.DRV_TRIM (i : Nat) : Nat := 0x1D1000 + i * 0x4
def Fld.DRV_TRIM_TRIM (i : Nat) : Fld := ⟨Reg.DRV_TRIM i, 5, 0⟩
def Reg.COR_CFG : Nat := 0x1E0000
def Fld.COR_CFG_FMT : Fld := ⟨Reg.COR_CFG, 1, 0⟩
def Reg.COR_STAT : Nat := 0x1E0004
def Fld.COR_STAT_COPY : Fld := ⟨Reg.COR_STAT, 2, 2⟩
def Fld.COR_STAT_AGE_BUSY : Fld := ⟨Reg.COR_STAT, 1, 1⟩
def Fld.COR_STAT_NOCAL : Fld := ⟨Reg.COR_STAT, 0, 0⟩
def Reg.COR_WALL_GAIN (i : Nat) : Nat := 0x1E0010 + i * 0x4
def Fld.COR_WALL_GAIN_GAIN (i : Nat) : Fld := ⟨Reg.COR_WALL_GAIN i, 15, 0⟩
def Reg.COR_PRIVET_GAIN (i : Nat) : Nat := 0x1E001C + i * 0x4
def Fld.COR_PRIVET_GAIN_FLOOR (i : Nat) : Fld := ⟨Reg.COR_PRIVET_GAIN i, 15, 0⟩
def Reg.COR_FULL (i : Nat) : Nat := 0x1E0028 + i * 0x4
def Fld.COR_FULL_FULL (i : Nat) : Fld := ⟨Reg.COR_FULL i, 19, 0⟩
def Reg.COR_CONCEAL : Nat := 0x1E0034
def Fld.COR_CONCEAL_K : Fld := ⟨Reg.COR_CONCEAL, 8, 0⟩
def Reg.COR_ROWC : Nat := 0x1E0038
def Fld.COR_ROWC_SHIFT : Fld := ⟨Reg.COR_ROWC, 3, 0⟩
def Reg.COR_AGE_CTL : Nat := 0x1E0040
def Fld.COR_AGE_CTL_NOW : Fld := ⟨Reg.COR_AGE_CTL, 31, 31⟩
def Fld.COR_AGE_CTL_PERIOD : Fld := ⟨Reg.COR_AGE_CTL, 15, 8⟩
def Fld.COR_AGE_CTL_MODE : Fld := ⟨Reg.COR_AGE_CTL, 1, 0⟩
def Reg.COR_AGE_STAT : Nat := 0x1E0044
def Fld.COR_AGE_STAT_SAT : Fld := ⟨Reg.COR_AGE_STAT, 0, 0⟩
def Reg.COR_AGE_LAST : Nat := 0x1E0048
def Fld.COR_AGE_LAST_FN : Fld := ⟨Reg.COR_AGE_LAST, 31, 0⟩
def Reg.COR_FLUSH_LAST : Nat := 0x1E004C
def Fld.COR_FLUSH_LAST_FN : Fld := ⟨Reg.COR_FLUSH_LAST, 31, 0⟩
def Reg.COR_CEIL_LOCAL (i : Nat) : Nat := 0x1E0050 + i * 0x4
def Fld.COR_CEIL_LOCAL_CEIL (i : Nat) : Fld := ⟨Reg.COR_CEIL_LOCAL i, 15, 0⟩
def Reg.COR_CEIL_WALL (i : Nat) : Nat := 0x1E005C + i * 0x4
def Fld.COR_CEIL_WALL_CEIL (i : Nat) : Fld := ⟨Reg.COR_CEIL_WALL i, 15, 0⟩
def Reg.COR_CLIPCNT : Nat := 0x1E0068
def Fld.COR_CLIPCNT_COUNT : Fld := ⟨Reg.COR_CLIPCNT, 31, 0⟩
def Reg.COR_FMTCNT : Nat := 0x1E006C
def Fld.COR_FMTCNT_COUNT : Fld := ⟨Reg.COR_FMTCNT, 31, 0⟩
def Reg.COR_INT : Nat := 0x1E0070
def Fld.COR_INT_CEIL : Fld := ⟨Reg.COR_INT, 2, 2⟩
def Fld.COR_INT_CLIP : Fld := ⟨Reg.COR_INT, 1, 1⟩
def Fld.COR_INT_FMT : Fld := ⟨Reg.COR_INT, 0, 0⟩
def Reg.COR_INT_EN : Nat := 0x1E0074
def Fld.COR_INT_EN_EN : Fld := ⟨Reg.COR_INT_EN, 2, 0⟩
def Reg.COR_CAL_INFO (i : Nat) : Nat := 0x1E0080 + i * 0x4
def Fld.COR_CAL_INFO_WORD (i : Nat) : Fld := ⟨Reg.COR_CAL_INFO i, 31, 0⟩
def Reg.COR_LAMP_SEL : Nat := 0x1E00C0
def Fld.COR_LAMP_SEL_LAMP : Fld := ⟨Reg.COR_LAMP_SEL, 15, 0⟩
def Reg.COR_LAMP_LEDGER : Nat := 0x1E00C4
def Fld.COR_LAMP_LEDGER_S : Fld := ⟨Reg.COR_LAMP_LEDGER, 31, 0⟩
def Reg.COR_LAMP_GAIN : Nat := 0x1E00C8
def Fld.COR_LAMP_GAIN_EFF : Fld := ⟨Reg.COR_LAMP_GAIN, 31, 16⟩
def Fld.COR_LAMP_GAIN_GAIN : Fld := ⟨Reg.COR_LAMP_GAIN, 15, 0⟩
def Reg.COR_LAMP_FLAGS : Nat := 0x1E00CC
def Fld.COR_LAMP_FLAGS_FLAGS : Fld := ⟨Reg.COR_LAMP_FLAGS, 7, 0⟩
def Reg.COR_LAMP_DUTY : Nat := 0x1E00D0
def Fld.COR_LAMP_DUTY_U : Fld := ⟨Reg.COR_LAMP_DUTY, 24, 0⟩
def Reg.JRN_CFG : Nat := 0x200000
def Fld.JRN_CFG_NDEV : Fld := ⟨Reg.JRN_CFG, 26, 24⟩
def Fld.JRN_CFG_SRCF_MIN : Fld := ⟨Reg.JRN_CFG, 23, 16⟩
def Fld.JRN_CFG_RECORDS : Fld := ⟨Reg.JRN_CFG, 13, 8⟩
def Fld.JRN_CFG_TARGET : Fld := ⟨Reg.JRN_CFG, 1, 0⟩
def Reg.JRN_CTL : Nat := 0x200004
def Fld.JRN_CTL_SNAP_MIN : Fld := ⟨Reg.JRN_CTL, 15, 8⟩
def Fld.JRN_CTL_WRAP : Fld := ⟨Reg.JRN_CTL, 0, 0⟩
def Reg.JRN_STAT : Nat := 0x200008
def Fld.JRN_STAT_DEV : Fld := ⟨Reg.JRN_STAT, 5, 4⟩
def Fld.JRN_STAT_NVME_ERR : Fld := ⟨Reg.JRN_STAT, 3, 3⟩
def Fld.JRN_STAT_FULL : Fld := ⟨Reg.JRN_STAT, 2, 2⟩
def Fld.JRN_STAT_REPLAY : Fld := ⟨Reg.JRN_STAT, 1, 1⟩
def Fld.JRN_STAT_RUN : Fld := ⟨Reg.JRN_STAT, 0, 0⟩
def Reg.JRN_STAGE : Nat := 0x20000C
def Fld.JRN_STAGE_BASE : Fld := ⟨Reg.JRN_STAGE, 15, 0⟩
def Reg.JRN_PI_LO : Nat := 0x200010
def Fld.JRN_PI_LO_RSEQ : Fld := ⟨Reg.JRN_PI_LO, 31, 0⟩
def Reg.JRN_PI_HI : Nat := 0x200014
def Fld.JRN_PI_HI_RSEQ : Fld := ⟨Reg.JRN_PI_HI, 31, 0⟩
def Reg.JRN_CI_LO : Nat := 0x200018
def Fld.JRN_CI_LO_RSEQ : Fld := ⟨Reg.JRN_CI_LO, 31, 0⟩
def Reg.JRN_CI_HI : Nat := 0x20001C
def Fld.JRN_CI_HI_RSEQ : Fld := ⟨Reg.JRN_CI_HI, 31, 0⟩
def Reg.JRN_SRCF_GIB : Nat := 0x200020
def Fld.JRN_SRCF_GIB_GIB : Fld := ⟨Reg.JRN_SRCF_GIB, 15, 0⟩
def Reg.JRN_DROP : Nat := 0x200024
def Fld.JRN_DROP_TICKS : Fld := ⟨Reg.JRN_DROP, 31, 0⟩
def Reg.JRN_RPL_MISMATCH : Nat := 0x200028
def Fld.JRN_RPL_MISMATCH_COUNT : Fld := ⟨Reg.JRN_RPL_MISMATCH, 31, 0⟩
def Reg.JRN_RPL_NOSRC : Nat := 0x20002C
def Fld.JRN_RPL_NOSRC_COUNT : Fld := ⟨Reg.JRN_RPL_NOSRC, 31, 0⟩
def Reg.JRN_INT : Nat := 0x200030
def Fld.JRN_INT_REPLAY_DONE : Fld := ⟨Reg.JRN_INT, 2, 2⟩
def Fld.JRN_INT_DROP : Fld := ⟨Reg.JRN_INT, 1, 1⟩
def Fld.JRN_INT_STOP : Fld := ⟨Reg.JRN_INT, 0, 0⟩
def Reg.JRN_INT_EN : Nat := 0x200034
def Fld.JRN_INT_EN_EN : Fld := ⟨Reg.JRN_INT_EN, 2, 0⟩
def Reg.RED_CFG : Nat := 0x210000
def Fld.RED_CFG_HB_TMO : Fld := ⟨Reg.RED_CFG, 31, 24⟩
def Fld.RED_CFG_K : Fld := ⟨Reg.RED_CFG, 23, 16⟩
def Fld.RED_CFG_RATE : Fld := ⟨Reg.RED_CFG, 15, 8⟩
def Reg.RED_STAT : Nat := 0x210004
def Fld.RED_STAT_PARTNER : Fld := ⟨Reg.RED_STAT, 31, 16⟩
def Fld.RED_STAT_ROLE : Fld := ⟨Reg.RED_STAT, 15, 14⟩
def Fld.RED_STAT_HEADID : Fld := ⟨Reg.RED_STAT, 13, 13⟩
def Fld.RED_STAT_OOS : Fld := ⟨Reg.RED_STAT, 12, 12⟩
def Fld.RED_STAT_RESYNC : Fld := ⟨Reg.RED_STAT, 11, 11⟩
def Fld.RED_STAT_PARTNER_SEEN : Fld := ⟨Reg.RED_STAT, 10, 10⟩
def Reg.RED_EPOCH : Nat := 0x210008
def Fld.RED_EPOCH_EPOCH : Fld := ⟨Reg.RED_EPOCH, 15, 0⟩
def Reg.RED_MSEQ : Nat := 0x21000C
def Fld.RED_MSEQ_MSEQ : Fld := ⟨Reg.RED_MSEQ, 31, 0⟩
def Reg.RED_DIVCNT : Nat := 0x210010
def Fld.RED_DIVCNT_RUN : Fld := ⟨Reg.RED_DIVCNT, 31, 16⟩
def Fld.RED_DIVCNT_REPORTS : Fld := ⟨Reg.RED_DIVCNT, 15, 0⟩
def Reg.RED_INT : Nat := 0x210014
def Fld.RED_INT_MSEQ_GAP : Fld := ⟨Reg.RED_INT, 4, 4⟩
def Fld.RED_INT_PARTNER_LOST : Fld := ⟨Reg.RED_INT, 3, 3⟩
def Fld.RED_INT_RESYNC_DONE : Fld := ⟨Reg.RED_INT, 2, 2⟩
def Fld.RED_INT_OOS : Fld := ⟨Reg.RED_INT, 1, 1⟩
def Fld.RED_INT_ROLE : Fld := ⟨Reg.RED_INT, 0, 0⟩
def Reg.RED_INT_EN : Nat := 0x210018
def Fld.RED_INT_EN_EN : Fld := ⟨Reg.RED_INT_EN, 4, 0⟩
def Reg.RED_TILE_CFG : Nat := 0x210100
def Fld.RED_TILE_CFG_HEADA : Fld := ⟨Reg.RED_TILE_CFG, 31, 16⟩
def Fld.RED_TILE_CFG_HEADB : Fld := ⟨Reg.RED_TILE_CFG, 15, 0⟩
def Reg.RED_TILE_STAT : Nat := 0x210104
def Fld.RED_TILE_STAT_NOPLACE : Fld := ⟨Reg.RED_TILE_STAT, 4, 4⟩
def Fld.RED_TILE_STAT_SAFE : Fld := ⟨Reg.RED_TILE_STAT, 3, 3⟩
def Fld.RED_TILE_STAT_VALIDB : Fld := ⟨Reg.RED_TILE_STAT, 2, 2⟩
def Fld.RED_TILE_STAT_VALIDA : Fld := ⟨Reg.RED_TILE_STAT, 1, 1⟩
def Fld.RED_TILE_STAT_FOLLOW : Fld := ⟨Reg.RED_TILE_STAT, 0, 0⟩
def Reg.RED_LASTF (i : Nat) : Nat := 0x210108 + i * 0x4
def Fld.RED_LASTF_FN (i : Nat) : Fld := ⟨Reg.RED_LASTF i, 31, 0⟩
def Reg.RED_FAILCNT : Nat := 0x210110
def Fld.RED_FAILCNT_OTHERMISS : Fld := ⟨Reg.RED_FAILCNT, 31, 16⟩
def Fld.RED_FAILCNT_FAILOVER : Fld := ⟨Reg.RED_FAILCNT, 15, 0⟩
def Reg.RED_DIVFR : Nat := 0x210114
def Fld.RED_DIVFR_UNDERSKIP : Fld := ⟨Reg.RED_DIVFR, 31, 16⟩
def Fld.RED_DIVFR_FRAMES : Fld := ⟨Reg.RED_DIVFR, 15, 0⟩
def Reg.RED_TILE_DROP : Nat := 0x210118
def Fld.RED_TILE_DROP_COUNT : Fld := ⟨Reg.RED_TILE_DROP, 31, 0⟩
def Reg.RED_TILE_INT : Nat := 0x21011C
def Fld.RED_TILE_INT_SAFE : Fld := ⟨Reg.RED_TILE_INT, 3, 3⟩
def Fld.RED_TILE_INT_PRIVET_BAD : Fld := ⟨Reg.RED_TILE_INT, 2, 2⟩
def Fld.RED_TILE_INT_DIVERGE : Fld := ⟨Reg.RED_TILE_INT, 1, 1⟩
def Fld.RED_TILE_INT_FAILOVER : Fld := ⟨Reg.RED_TILE_INT, 0, 0⟩
def Reg.RED_TILE_INT_EN : Nat := 0x210120
def Fld.RED_TILE_INT_EN_EN : Fld := ⟨Reg.RED_TILE_INT_EN, 3, 0⟩
def Reg.RED_PRV_HELD (i : Nat) : Nat := 0x210200 + i * 0x4
def Fld.RED_PRV_HELD_ITEM (i : Nat) : Fld := ⟨Reg.RED_PRV_HELD i, 31, 0⟩
def Reg.RED_PRV_SHOWN (i : Nat) : Nat := 0x210208 + i * 0x4
def Fld.RED_PRV_SHOWN_ITEM (i : Nat) : Fld := ⟨Reg.RED_PRV_SHOWN i, 31, 0⟩
def Reg.RED_PRV_BYTES : Nat := 0x210210
def Fld.RED_PRV_BYTES_BYTES : Fld := ⟨Reg.RED_PRV_BYTES, 20, 0⟩
def Reg.SEC_WORLD : Nat := 0x220000
def Fld.SEC_WORLD_SECURE : Fld := ⟨Reg.SEC_WORLD, 0, 0⟩
def Reg.SEC_GATE : Nat := 0x220004
def Fld.SEC_GATE_TRACE_CG : Fld := ⟨Reg.SEC_GATE, 17, 17⟩
def Fld.SEC_GATE_PMU_CG : Fld := ⟨Reg.SEC_GATE, 16, 16⟩
def Fld.SEC_GATE_MRAM_PG : Fld := ⟨Reg.SEC_GATE, 5, 5⟩
def Fld.SEC_GATE_MRAM_CG : Fld := ⟨Reg.SEC_GATE, 4, 4⟩
def Fld.SEC_GATE_SECU_PG : Fld := ⟨Reg.SEC_GATE, 3, 3⟩
def Fld.SEC_GATE_SECU_CG : Fld := ⟨Reg.SEC_GATE, 2, 2⟩
def Fld.SEC_GATE_PRIVET_PG : Fld := ⟨Reg.SEC_GATE, 1, 1⟩
def Fld.SEC_GATE_PRIVET_CG : Fld := ⟨Reg.SEC_GATE, 0, 0⟩
def Reg.SEC_VIOL_CNT : Nat := 0x220008
def Fld.SEC_VIOL_CNT_COUNT : Fld := ⟨Reg.SEC_VIOL_CNT, 31, 0⟩
def Reg.SEC_VIOL_INFO : Nat := 0x22000C
def Fld.SEC_VIOL_INFO_MASTER : Fld := ⟨Reg.SEC_VIOL_INFO, 26, 24⟩
def Fld.SEC_VIOL_INFO_ADDR : Fld := ⟨Reg.SEC_VIOL_INFO, 21, 0⟩
def Reg.SEC_IDKEY (i : Nat) : Nat := 0x220100 + i * 0x4
def Fld.SEC_IDKEY_WORD (i : Nat) : Fld := ⟨Reg.SEC_IDKEY i, 31, 0⟩
def Reg.UPD_CFG : Nat := 0x230000
def Fld.UPD_CFG_TMO : Fld := ⟨Reg.UPD_CFG, 31, 24⟩
def Fld.UPD_CFG_WDOG : Fld := ⟨Reg.UPD_CFG, 23, 16⟩
def Fld.UPD_CFG_GAP : Fld := ⟨Reg.UPD_CFG, 15, 0⟩
def Reg.UPD_STAT : Nat := 0x230004
def Fld.UPD_STAT_REC : Fld := ⟨Reg.UPD_STAT, 7, 7⟩
def Fld.UPD_STAT_OPEN : Fld := ⟨Reg.UPD_STAT, 6, 6⟩
def Fld.UPD_STAT_VERIFIED : Fld := ⟨Reg.UPD_STAT, 5, 5⟩
def Fld.UPD_STAT_PENDING : Fld := ⟨Reg.UPD_STAT, 4, 4⟩
def Fld.UPD_STAT_TRIALS : Fld := ⟨Reg.UPD_STAT, 3, 2⟩
def Fld.UPD_STAT_ACTIVE : Fld := ⟨Reg.UPD_STAT, 0, 0⟩
def Reg.UPD_SESSION : Nat := 0x230008
def Fld.UPD_SESSION_SESSION : Fld := ⟨Reg.UPD_SESSION, 31, 16⟩
def Fld.UPD_SESSION_NEXT : Fld := ⟨Reg.UPD_SESSION, 12, 0⟩
def Reg.UPD_SLOT_VER (i : Nat) : Nat := 0x230010 + i * 0x4
def Fld.UPD_SLOT_VER_VERSION (i : Nat) : Fld := ⟨Reg.UPD_SLOT_VER i, 31, 0⟩
def Reg.UPD_MINSVN : Nat := 0x230018
def Fld.UPD_MINSVN_SVN : Fld := ⟨Reg.UPD_MINSVN, 31, 0⟩
def Reg.UPD_WDOG_LEFT : Nat := 0x23001C
def Fld.UPD_WDOG_LEFT_SECONDS : Fld := ⟨Reg.UPD_WDOG_LEFT, 15, 0⟩
def Reg.UPD_CNT : Nat := 0x230020
def Fld.UPD_CNT_DROP : Fld := ⟨Reg.UPD_CNT, 31, 16⟩
def Fld.UPD_CNT_CRCERR : Fld := ⟨Reg.UPD_CNT, 15, 0⟩
def Reg.UPD_INT : Nat := 0x230024
def Fld.UPD_INT_REVERT : Fld := ⟨Reg.UPD_INT, 2, 2⟩
def Fld.UPD_INT_ACTIVATED : Fld := ⟨Reg.UPD_INT, 1, 1⟩
def Fld.UPD_INT_VERIFY : Fld := ⟨Reg.UPD_INT, 0, 0⟩
def Reg.UPD_INT_EN : Nat := 0x230028
def Fld.UPD_INT_EN_EN : Fld := ⟨Reg.UPD_INT_EN, 2, 0⟩
def Reg.UPD_REC_CTL : Nat := 0x230030
def Fld.UPD_REC_CTL_BLOCK : Fld := ⟨Reg.UPD_REC_CTL, 11, 0⟩
def Reg.UPD_REC_STAT : Nat := 0x230034
def Fld.UPD_REC_STAT_BUSY : Fld := ⟨Reg.UPD_REC_STAT, 31, 31⟩
def Fld.UPD_REC_STAT_ERR : Fld := ⟨Reg.UPD_REC_STAT, 30, 30⟩
def Fld.UPD_REC_STAT_NEXT : Fld := ⟨Reg.UPD_REC_STAT, 12, 0⟩
def Reg.PMU_TIMED_CTL : Nat := 0x240000
def Fld.PMU_TIMED_CTL_ARM : Fld := ⟨Reg.PMU_TIMED_CTL, 31, 31⟩
def Fld.PMU_TIMED_CTL_LATE : Fld := ⟨Reg.PMU_TIMED_CTL, 30, 30⟩
def Fld.PMU_TIMED_CTL_ACTION : Fld := ⟨Reg.PMU_TIMED_CTL, 1, 0⟩
def Reg.PMU_TIMED_MASK : Nat := 0x240004
def Fld.PMU_TIMED_MASK_MASK : Fld := ⟨Reg.PMU_TIMED_MASK, 31, 0⟩
def Reg.PMU_TIMED_AT : Nat := 0x240008
def Fld.PMU_TIMED_AT_DTIME : Fld := ⟨Reg.PMU_TIMED_AT, 31, 0⟩
def Reg.PMU_OVF : Nat := 0x24000C
def Fld.PMU_OVF_OVF : Fld := ⟨Reg.PMU_OVF, 31, 0⟩
def Reg.PMU_SNAP_STAT : Nat := 0x240010
def Fld.PMU_SNAP_STAT_SNAP_ID : Fld := ⟨Reg.PMU_SNAP_STAT, 31, 16⟩
def Fld.PMU_SNAP_STAT_PENDING : Fld := ⟨Reg.PMU_SNAP_STAT, 2, 0⟩
def Reg.PMU_SNAP_T : Nat := 0x240014
def Fld.PMU_SNAP_T_TSNAP : Fld := ⟨Reg.PMU_SNAP_T, 31, 0⟩
def Reg.PMU_INT : Nat := 0x240020
def Fld.PMU_INT_LATE : Fld := ⟨Reg.PMU_INT, 2, 2⟩
def Fld.PMU_INT_SNAP : Fld := ⟨Reg.PMU_INT, 1, 1⟩
def Fld.PMU_INT_OVF : Fld := ⟨Reg.PMU_INT, 0, 0⟩
def Reg.PMU_INT_EN : Nat := 0x240024
def Fld.PMU_INT_EN_EN : Fld := ⟨Reg.PMU_INT_EN, 2, 0⟩
def Reg.PMU_CNT_CFG (i : Nat) : Nat := 0x240100 + i * 0x10
def Fld.PMU_CNT_CFG_RUN (i : Nat) : Fld := ⟨Reg.PMU_CNT_CFG i, 31, 31⟩
def Fld.PMU_CNT_CFG_FKIND (i : Nat) : Fld := ⟨Reg.PMU_CNT_CFG i, 30, 28⟩
def Fld.PMU_CNT_CFG_FVAL (i : Nat) : Fld := ⟨Reg.PMU_CNT_CFG i, 27, 14⟩
def Fld.PMU_CNT_CFG_CLEAR (i : Nat) : Fld := ⟨Reg.PMU_CNT_CFG i, 13, 13⟩
def Fld.PMU_CNT_CFG_EVENT (i : Nat) : Fld := ⟨Reg.PMU_CNT_CFG i, 8, 0⟩
def Reg.PMU_CNT_LO (i : Nat) : Nat := 0x240104 + i * 0x10
def Fld.PMU_CNT_LO_COUNT (i : Nat) : Fld := ⟨Reg.PMU_CNT_LO i, 31, 0⟩
def Reg.PMU_CNT_HI (i : Nat) : Nat := 0x240108 + i * 0x10
def Fld.PMU_CNT_HI_COUNT (i : Nat) : Fld := ⟨Reg.PMU_CNT_HI i, 15, 0⟩
def Reg.PMU_SNAPBUF (i : Nat) : Nat := 0x241000 + i * 0x4
def Fld.PMU_SNAPBUF_WORD (i : Nat) : Fld := ⟨Reg.PMU_SNAPBUF i, 31, 0⟩
def Reg.PCI_LINK_STAT : Nat := 0x250000
def Fld.PCI_LINK_STAT_SPEED : Fld := ⟨Reg.PCI_LINK_STAT, 19, 16⟩
def Fld.PCI_LINK_STAT_WIDTH : Fld := ⟨Reg.PCI_LINK_STAT, 13, 8⟩
def Fld.PCI_LINK_STAT_BME : Fld := ⟨Reg.PCI_LINK_STAT, 1, 1⟩
def Fld.PCI_LINK_STAT_UP : Fld := ⟨Reg.PCI_LINK_STAT, 0, 0⟩
def Reg.PCI_CFG : Nat := 0x250004
def Fld.PCI_CFG_RO_EN : Fld := ⟨Reg.PCI_CFG, 0, 0⟩
def Reg.PCI_ERR : Nat := 0x250008
def Fld.PCI_ERR_DBDROP : Fld := ⟨Reg.PCI_ERR, 31, 24⟩
def Fld.PCI_ERR_BADSIZE : Fld := ⟨Reg.PCI_ERR, 23, 16⟩
def Fld.PCI_ERR_PREVSKIP : Fld := ⟨Reg.PCI_ERR, 15, 8⟩
def Fld.PCI_ERR_CPLERR : Fld := ⟨Reg.PCI_ERR, 7, 0⟩
def Reg.PCI_XLT_L1_LO : Nat := 0x250010
def Fld.PCI_XLT_L1_LO_BASE : Fld := ⟨Reg.PCI_XLT_L1_LO, 31, 12⟩
def Reg.PCI_XLT_L1_HI : Nat := 0x250014
def Fld.PCI_XLT_L1_HI_BASE : Fld := ⟨Reg.PCI_XLT_L1_HI, 31, 0⟩
def Reg.PCI_XLT_L1LEN : Nat := 0x250018
def Fld.PCI_XLT_L1LEN_LEN : Fld := ⟨Reg.PCI_XLT_L1LEN, 24, 0⟩
def Reg.PCI_XLT_INV : Nat := 0x25001C
def Fld.PCI_XLT_INV_INV : Fld := ⟨Reg.PCI_XLT_INV, 0, 0⟩
def Reg.PCI_PREV_LO : Nat := 0x250020
def Fld.PCI_PREV_LO_IOVA : Fld := ⟨Reg.PCI_PREV_LO, 31, 12⟩
def Fld.PCI_PREV_LO_EN : Fld := ⟨Reg.PCI_PREV_LO, 0, 0⟩
def Reg.PCI_PREV_HI : Nat := 0x250024
def Fld.PCI_PREV_HI_IOVA : Fld := ⟨Reg.PCI_PREV_HI, 12, 0⟩
def Reg.PCI_WIN_LO (i : Nat) : Nat := 0x250100 + i * 0x10
def Fld.PCI_WIN_LO_BASE (i : Nat) : Fld := ⟨Reg.PCI_WIN_LO i, 31, 12⟩
def Fld.PCI_WIN_LO_W (i : Nat) : Fld := ⟨Reg.PCI_WIN_LO i, 1, 1⟩
def Fld.PCI_WIN_LO_R (i : Nat) : Fld := ⟨Reg.PCI_WIN_LO i, 0, 0⟩
def Reg.PCI_WIN_BHI (i : Nat) : Nat := 0x250104 + i * 0x10
def Fld.PCI_WIN_BHI_BASE (i : Nat) : Fld := ⟨Reg.PCI_WIN_BHI i, 31, 0⟩
def Reg.PCI_WIN_LIM (i : Nat) : Nat := 0x250108 + i * 0x10
def Fld.PCI_WIN_LIM_LIMIT (i : Nat) : Fld := ⟨Reg.PCI_WIN_LIM i, 31, 12⟩
def Reg.PCI_WIN_LHI (i : Nat) : Nat := 0x25010C + i * 0x10
def Fld.PCI_WIN_LHI_LIMIT (i : Nat) : Fld := ⟨Reg.PCI_WIN_LHI i, 31, 0⟩
def Reg.PCI_CH_STAT (i : Nat) : Nat := 0x250200 + i * 0x10
def Fld.PCI_CH_STAT_RESUME (i : Nat) : Fld := ⟨Reg.PCI_CH_STAT i, 31, 31⟩
def Fld.PCI_CH_STAT_STOP (i : Nat) : Fld := ⟨Reg.PCI_CH_STAT i, 30, 30⟩
def Fld.PCI_CH_STAT_KIND (i : Nat) : Fld := ⟨Reg.PCI_CH_STAT i, 29, 27⟩
def Fld.PCI_CH_STAT_LEVEL (i : Nat) : Fld := ⟨Reg.PCI_CH_STAT i, 26, 25⟩
def Fld.PCI_CH_STAT_CLIENT (i : Nat) : Fld := ⟨Reg.PCI_CH_STAT i, 11, 0⟩
def Reg.PCI_CH_FADDR_LO (i : Nat) : Nat := 0x250204 + i * 0x10
def Fld.PCI_CH_FADDR_LO_ADDR (i : Nat) : Fld := ⟨Reg.PCI_CH_FADDR_LO i, 31, 0⟩
def Reg.PCI_CH_FADDR_HI (i : Nat) : Nat := 0x250208 + i * 0x10
def Fld.PCI_CH_FADDR_HI_ADDR (i : Nat) : Fld := ⟨Reg.PCI_CH_FADDR_HI i, 31, 0⟩
def Reg.PCI_RING_SEL : Nat := 0x250400
def Fld.PCI_RING_SEL_CLIENT : Fld := ⟨Reg.PCI_RING_SEL, 11, 0⟩
def Reg.PCI_RING_STAT : Nat := 0x250404
def Fld.PCI_RING_STAT_EN : Fld := ⟨Reg.PCI_RING_STAT, 31, 31⟩
def Fld.PCI_RING_STAT_RESET : Fld := ⟨Reg.PCI_RING_STAT, 30, 30⟩
def Fld.PCI_RING_STAT_ERR : Fld := ⟨Reg.PCI_RING_STAT, 29, 29⟩
def Fld.PCI_RING_STAT_STOPPED : Fld := ⟨Reg.PCI_RING_STAT, 28, 28⟩
def Fld.PCI_RING_STAT_REASON : Fld := ⟨Reg.PCI_RING_STAT, 27, 25⟩
def Fld.PCI_RING_STAT_RFULL : Fld := ⟨Reg.PCI_RING_STAT, 24, 24⟩
def Reg.PCI_RING_CFG (i : Nat) : Nat := 0x250420 + i * 0x4
def Fld.PCI_RING_CFG_WORD (i : Nat) : Fld := ⟨Reg.PCI_RING_CFG i, 31, 0⟩
def Reg.PCI_MSIX_SRC (i : Nat) : Nat := 0x250800 + i * 0x4
def Fld.PCI_MSIX_SRC_VEC (i : Nat) : Fld := ⟨Reg.PCI_MSIX_SRC i, 5, 0⟩
def Reg.CPC_SPARES : Nat := 0x260000
def Fld.CPC_SPARES_DRAM : Fld := ⟨Reg.CPC_SPARES, 19, 19⟩
def Fld.CPC_SPARES_SLOT : Fld := ⟨Reg.CPC_SPARES, 18, 18⟩
def Fld.CPC_SPARES_PHASE : Fld := ⟨Reg.CPC_SPARES, 17, 17⟩
def Fld.CPC_SPARES_PIXLANE : Fld := ⟨Reg.CPC_SPARES, 16, 16⟩
def Fld.CPC_SPARES_MRAM : Fld := ⟨Reg.CPC_SPARES, 15, 8⟩
def Fld.CPC_SPARES_BANK : Fld := ⟨Reg.CPC_SPARES, 4, 4⟩
def Fld.CPC_SPARES_LANE : Fld := ⟨Reg.CPC_SPARES, 3, 0⟩
def Reg.CPC_CFG : Nat := 0x260004
def Fld.CPC_CFG_BANK_CORR : Fld := ⟨Reg.CPC_CFG, 31, 24⟩
def Fld.CPC_CFG_LANE_TREND : Fld := ⟨Reg.CPC_CFG, 23, 16⟩
def Reg.CPC_LOG_STAT : Nat := 0x260008
def Fld.CPC_LOG_STAT_TOTAL : Fld := ⟨Reg.CPC_LOG_STAT, 31, 16⟩
def Fld.CPC_LOG_STAT_NEXT : Fld := ⟨Reg.CPC_LOG_STAT, 5, 0⟩
def Reg.CPC_LOG_SEL : Nat := 0x26000C
def Fld.CPC_LOG_SEL_ENTRY : Fld := ⟨Reg.CPC_LOG_SEL, 5, 0⟩
def Reg.CPC_LOG (i : Nat) : Nat := 0x260010 + i * 0x4
def Fld.CPC_LOG_WORD (i : Nat) : Fld := ⟨Reg.CPC_LOG i, 31, 0⟩
def Reg.CPC_INT : Nat := 0x260020
def Fld.CPC_INT_LOWSPARE : Fld := ⟨Reg.CPC_INT, 2, 2⟩
def Fld.CPC_INT_WEAR : Fld := ⟨Reg.CPC_INT, 1, 1⟩
def Fld.CPC_INT_SUBST : Fld := ⟨Reg.CPC_INT, 0, 0⟩
def Reg.CPC_INT_EN : Nat := 0x260024
def Fld.CPC_INT_EN_EN : Fld := ⟨Reg.CPC_INT_EN, 2, 0⟩

end Sys2Proof.Machine
end

