-- ==== Sys2Proof/Machine/RegTable.lean ====
section
/-! DEFINITION. The register maps of every chapter as one table (R417, R418, R420): for each register its offset, its
array dimensions and its fields with their access code and reset value. A reset entry that is no number ("restored",
"from calibration", "fused", "sampled", "live") stands here as 0 and is loaded by the operation that the spec names
(entry into BOOT, firmware start, strap sampling). Field offsets by name stand in Machine/RegNames.lean. -/

namespace Sys2Proof.Machine

/-- The access codes of R418; `srwt` is a field that lists SRW and RWT, `clr0` a count that a write of 0 clears
(R419). -/
inductive Acc where
  | rw | ro | w1c | w1s | wo | rwt | srw | srwt | clr0
  deriving DecidableEq, Repr

/-- One field of a register map: its bits, its access code and its reset value. -/
structure RegField where
  hi  : Nat
  lo  : Nat
  acc : Acc
  rst : Nat
  deriving DecidableEq, Repr

/-- One heading of a register map: element (i, j) of the array lies at base + i × s1 + j × s2 (R417). -/
structure RegRow where
  base   : Nat
  n1     : Nat
  s1     : Nat
  n2     : Nat
  s2     : Nat
  fields : List RegField
  deriving DecidableEq, Repr

/-- Registers of the block range at 0x00000000. -/
def regRows00 : List RegRow :=
  [ ⟨0x000000, 1, 0x0, 1, 0x0, [⟨31, 16, .ro, 0x4310⟩, ⟨15, 12, .ro, 0⟩, ⟨11, 8, .ro, 0⟩]⟩,
    ⟨0x000004, 1, 0x0, 1, 0x0, [⟨15, 8, .ro, 0⟩, ⟨4, 4, .ro, 0⟩, ⟨3, 2, .ro, 0⟩, ⟨1, 0, .ro, 0⟩]⟩,
    ⟨0x000100, 1, 0x0, 1, 0x0, [⟨31, 24, .ro, 0⟩, ⟨17, 17, .ro, 0⟩, ⟨16, 16, .ro, 0⟩, ⟨15, 0, .ro, 0⟩]⟩,
    ⟨0x000200, 1, 0x0, 1, 0x0, [⟨15, 0, .ro, 0⟩]⟩,
    ⟨0x000204, 1, 0x0, 1, 0x0, [⟨31, 31, .ro, 0⟩, ⟨30, 30, .ro, 0⟩, ⟨29, 29, .ro, 0⟩, ⟨28, 28, .w1c, 0⟩, ⟨15, 0, .ro, 0⟩]⟩,
    ⟨0x000208, 1, 0x0, 1, 0x0, [⟨15, 8, .rw, 0x40⟩, ⟨1, 0, .rw, 1⟩]⟩,
    ⟨0x00020C, 1, 0x0, 1, 0x0, [⟨25, 16, .ro, 0⟩, ⟨15, 8, .clr0, 0⟩, ⟨7, 0, .ro, 0⟩]⟩,
    ⟨0x000210, 1, 0x0, 1, 0x0, [⟨31, 0, .ro, 0⟩]⟩,
    ⟨0x000220, 8, 0x4, 1, 0x0, [⟨31, 0, .ro, 0⟩]⟩ ]

/-- Registers of the block range at 0x00010000. -/
def regRows01 : List RegRow :=
  [ ⟨0x010000, 1, 0x0, 1, 0x0, [⟨16, 16, .ro, 0⟩, ⟨12, 12, .ro, 0⟩, ⟨11, 8, .ro, 0⟩, ⟨7, 4, .ro, 2⟩, ⟨3, 0, .ro, 1⟩]⟩,
    ⟨0x010004, 1, 0x0, 1, 0x0, [⟨31, 31, .w1c, 0⟩, ⟨3, 0, .rw, 2⟩]⟩,
    ⟨0x010008, 1, 0x0, 1, 0x0, [⟨15, 0, .rwt, 0x2000⟩]⟩,
    ⟨0x01000C, 1, 0x0, 1, 0x0, [⟨7, 4, .rw, 0⟩, ⟨0, 0, .ro, 1⟩]⟩,
    ⟨0x010010, 1, 0x0, 1, 0x0, [⟨10, 10, .w1c, 0⟩, ⟨9, 9, .w1c, 0⟩, ⟨8, 8, .w1c, 0⟩, ⟨7, 7, .w1c, 0⟩, ⟨6, 6, .w1c, 0⟩, ⟨5, 5, .w1c, 0⟩, ⟨4, 4, .w1c, 0⟩, ⟨3, 3, .w1c, 0⟩, ⟨2, 2, .w1c, 0⟩, ⟨1, 1, .w1c, 0⟩, ⟨0, 0, .w1c, 0⟩]⟩,
    ⟨0x010014, 1, 0x0, 1, 0x0, [⟨15, 8, .ro, 0⟩, ⟨7, 0, .ro, 0⟩]⟩,
    ⟨0x010018, 1, 0x0, 1, 0x0, [⟨15, 0, .wo, 0⟩]⟩ ]

/-- Registers of the block range at 0x00020000. -/
def regRows02 : List RegRow :=
  [ ⟨0x020000, 14, 0x4, 1, 0x0, [⟨31, 31, .srw, 0⟩, ⟨30, 30, .rw, 0⟩, ⟨29, 29, .rw, 0⟩, ⟨28, 28, .ro, 0⟩, ⟨27, 27, .ro, 0⟩, ⟨26, 26, .ro, 0⟩, ⟨3, 0, .rw, 0⟩]⟩,
    ⟨0x020038, 1, 0x4, 1, 0x0, [⟨31, 31, .srw, 1⟩, ⟨30, 30, .rw, 0⟩, ⟨29, 29, .rw, 0⟩, ⟨28, 28, .ro, 0⟩, ⟨27, 27, .ro, 0⟩, ⟨26, 26, .ro, 0⟩, ⟨3, 0, .rw, 0⟩]⟩,
    ⟨0x02003C, 3, 0x4, 1, 0x0, [⟨31, 31, .srw, 0⟩, ⟨30, 30, .rw, 0⟩, ⟨29, 29, .rw, 0⟩, ⟨28, 28, .ro, 0⟩, ⟨27, 27, .ro, 0⟩, ⟨26, 26, .ro, 0⟩, ⟨3, 0, .rw, 0⟩]⟩,
    ⟨0x020048, 2, 0x4, 1, 0x0, [⟨31, 31, .srw, 1⟩, ⟨30, 30, .rw, 0⟩, ⟨29, 29, .rw, 0⟩, ⟨28, 28, .ro, 0⟩, ⟨27, 27, .ro, 0⟩, ⟨26, 26, .ro, 0⟩, ⟨3, 0, .rw, 0⟩]⟩,
    ⟨0x020050, 236, 0x4, 1, 0x0, [⟨31, 31, .srw, 0⟩, ⟨30, 30, .rw, 0⟩, ⟨29, 29, .rw, 0⟩, ⟨28, 28, .ro, 0⟩, ⟨27, 27, .ro, 0⟩, ⟨26, 26, .ro, 0⟩, ⟨3, 0, .rw, 0⟩]⟩,
    ⟨0x020400, 1, 0x0, 1, 0x0, [⟨7, 0, .wo, 0⟩]⟩,
    ⟨0x020404, 1, 0x0, 1, 0x0, [⟨7, 0, .wo, 0⟩]⟩,
    ⟨0x020410, 2, 0x4, 1, 0x0, [⟨3, 0, .rw, 0⟩]⟩,
    ⟨0x020418, 2, 0x4, 1, 0x0, [⟨19, 16, .ro, 0⟩, ⟨3, 0, .ro, 0⟩]⟩,
    ⟨0x020420, 1, 0x0, 1, 0x0, [⟨8, 0, .ro, 0x100⟩]⟩,
    ⟨0x020428, 2, 0x4, 1, 0x0, [⟨3, 0, .wo, 0⟩]⟩,
    ⟨0x020430, 1, 0x0, 1, 0x0, [⟨31, 12, .srw, 0⟩]⟩,
    ⟨0x020434, 1, 0x0, 1, 0x0, [⟨31, 31, .w1c, 0⟩, ⟨16, 16, .ro, 0⟩, ⟨11, 8, .ro, 0⟩, ⟨4, 4, .ro, 0⟩, ⟨3, 0, .ro, 0⟩]⟩,
    ⟨0x020438, 1, 0x0, 1, 0x0, [⟨31, 0, .clr0, 0⟩]⟩ ]

/-- Registers of the block range at 0x00030000. -/
def regRows03_0 : List RegRow :=
  [ ⟨0x030000, 1, 0x0, 1, 0x0, [⟨31, 0, .ro, 0⟩]⟩,
    ⟨0x030004, 1, 0x0, 1, 0x0, [⟨31, 0, .ro, 0⟩]⟩,
    ⟨0x030008, 1, 0x0, 1, 0x0, [⟨31, 16, .ro, 0⟩, ⟨15, 4, .ro, 0⟩, ⟨3, 2, .ro, 0⟩, ⟨1, 0, .ro, 0⟩]⟩,
    ⟨0x03000C, 1, 0x0, 1, 0x0, [⟨31, 24, .rw, 3⟩, ⟨23, 16, .rw, 0x14⟩, ⟨3, 0, .rw, 4⟩]⟩,
    ⟨0x030010, 1, 0x0, 1, 0x0, [⟨4, 4, .rw, 0⟩, ⟨3, 0, .rw, 8⟩]⟩,
    ⟨0x030014, 1, 0x0, 1, 0x0, [⟨31, 16, .rw, 0⟩, ⟨3, 2, .rw, 0⟩, ⟨1, 0, .rw, 0⟩]⟩,
    ⟨0x030018, 1, 0x0, 1, 0x0, [⟨2, 2, .ro, 0⟩, ⟨1, 1, .ro, 0⟩, ⟨0, 0, .ro, 0⟩]⟩,
    ⟨0x030020, 1, 0x4, 1, 0x0, [⟨31, 0, .ro, 0x7f2815⟩]⟩,
    ⟨0x030024, 1, 0x4, 1, 0x0, [⟨31, 0, .ro, 0x55555555⟩]⟩,
    ⟨0x030028, 1, 0x4, 1, 0x0, [⟨31, 0, .ro, 0⟩]⟩,
    ⟨0x03002C, 1, 0x4, 1, 0x0, [⟨31, 0, .ro, 0⟩]⟩,
    ⟨0x030030, 1, 0x4, 1, 0x0, [⟨31, 0, .ro, 0⟩]⟩,
    ⟨0x030034, 1, 0x0, 1, 0x0, [⟨4, 4, .w1c, 0⟩, ⟨3, 3, .w1c, 0⟩, ⟨2, 2, .w1c, 0⟩, ⟨1, 1, .w1c, 0⟩, ⟨0, 0, .w1c, 0⟩]⟩,
    ⟨0x030038, 1, 0x0, 1, 0x0, [⟨4, 0, .rw, 0x1f⟩]⟩,
    ⟨0x03003C, 1, 0x0, 1, 0x0, [⟨0, 0, .ro, 0⟩]⟩,
    ⟨0x030040, 1, 0x0, 1, 0x0, [⟨31, 0, .ro, 0x1e8480⟩]⟩ ]

/-- Registers of the block range at 0x00030000, continued. -/
def regRows03_1 : List RegRow :=
  [ ⟨0x030044, 1, 0x0, 1, 0x0, [⟨31, 0, .ro, 0x1e8480⟩]⟩,
    ⟨0x030048, 1, 0x0, 1, 0x0, [⟨31, 0, .ro, 0⟩]⟩,
    ⟨0x030050, 4, 0x4, 1, 0x0, [⟨15, 0, .rw, 0⟩]⟩,
    ⟨0x030060, 4, 0x4, 1, 0x0, [⟨31, 0, .ro, 0⟩]⟩,
    ⟨0x030080, 1, 0x0, 1, 0x0, [⟨29, 0, .rw, 0⟩]⟩,
    ⟨0x030084, 1, 0x0, 1, 0x0, [⟨31, 0, .rw, 0⟩]⟩,
    ⟨0x030088, 1, 0x0, 1, 0x0, [⟨4, 4, .w1c, 0⟩, ⟨3, 3, .ro, 0⟩, ⟨2, 2, .w1c, 0⟩, ⟨1, 1, .ro, 0⟩, ⟨0, 0, .rw, 0⟩]⟩ ]

/-- All registers of the block range at 0x00030000. -/
def regRows03 : List RegRow := regRows03_0 ++ regRows03_1

/-- Registers of the block range at 0x00040000. -/
def regRows04 : List RegRow :=
  [ ⟨0x040000, 1, 0x0, 1, 0x0, [⟨11, 0, .rw, 0⟩]⟩,
    ⟨0x040004, 1, 0x0, 1, 0x0, [⟨31, 31, .ro, 0⟩, ⟨30, 30, .ro, 0⟩, ⟨29, 29, .ro, 0⟩, ⟨18, 16, .ro, 0⟩, ⟨15, 8, .ro, 0⟩, ⟨7, 0, .ro, 0⟩]⟩,
    ⟨0x040008, 1, 0x0, 1, 0x0, [⟨31, 0, .clr0, 0⟩]⟩ ]

/-- Registers of the block range at 0x00050000. -/
def regRows05 : List RegRow :=
  [ ⟨0x050000, 1, 0x0, 1, 0x0, [⟨3, 3, .w1c, 0⟩, ⟨2, 2, .w1c, 0⟩, ⟨1, 1, .w1c, 0⟩, ⟨0, 0, .ro, 0⟩]⟩,
    ⟨0x050004, 1, 0x0, 1, 0x0, [⟨31, 30, .wo, 0⟩, ⟨11, 0, .wo, 0⟩]⟩,
    ⟨0x050008, 1, 0x0, 1, 0x0, [⟨31, 30, .ro, 0⟩, ⟨11, 0, .ro, 0⟩]⟩,
    ⟨0x05000C, 1, 0x0, 1, 0x0, [⟨31, 16, .ro, 0⟩, ⟨7, 0, .ro, 0⟩]⟩,
    ⟨0x050100, 64, 0x4, 1, 0x0, [⟨31, 0, .ro, 0⟩]⟩,
    ⟨0x050200, 64, 0x4, 1, 0x0, [⟨31, 0, .rw, 0⟩]⟩ ]

/-- Registers of the block range at 0x00060000. -/
def regRows06 : List RegRow :=
  [ ⟨0x060000, 1, 0x0, 1, 0x0, [⟨31, 16, .ro, 0⟩, ⟨6, 4, .ro, 0⟩, ⟨3, 2, .ro, 0⟩, ⟨1, 1, .ro, 0⟩, ⟨0, 0, .ro, 0⟩]⟩,
    ⟨0x060004, 1, 0x0, 1, 0x0, [⟨31, 24, .rw, 0x64⟩, ⟨23, 16, .rw, 0x6c⟩, ⟨15, 8, .rw, 5⟩]⟩,
    ⟨0x060008, 1, 0x0, 1, 0x0, [⟨31, 16, .rw, 0x32⟩, ⟨15, 8, .rw, 0x28⟩]⟩,
    ⟨0x06000C, 1, 0x0, 1, 0x0, [⟨31, 16, .rw, 0x6000⟩, ⟨15, 8, .rw, 5⟩]⟩,
    ⟨0x060010, 1, 0x0, 1, 0x0, [⟨31, 16, .ro, 0x2000⟩, ⟨15, 0, .ro, 0x8000⟩]⟩,
    ⟨0x060020, 3, 0x4, 1, 0x0, [⟨9, 0, .rw, 0⟩]⟩,
    ⟨0x060040, 12, 0x4, 1, 0x0, [⟨31, 31, .ro, 1⟩, ⟨30, 30, .ro, 0⟩, ⟨17, 16, .ro, 0⟩, ⟨15, 0, .ro, 0⟩]⟩,
    ⟨0x060080, 6, 0x4, 1, 0x0, [⟨31, 16, .ro, 0⟩, ⟨15, 0, .ro, 0⟩]⟩,
    ⟨0x0600A0, 1, 0x0, 1, 0x0, [⟨3, 3, .w1c, 0⟩, ⟨2, 2, .w1c, 0⟩, ⟨1, 1, .w1c, 0⟩, ⟨0, 0, .w1c, 0⟩]⟩,
    ⟨0x0600A4, 1, 0x0, 1, 0x0, [⟨3, 0, .rw, 7⟩]⟩ ]

/-- Registers of the block range at 0x00070000. -/
def regRows07 : List RegRow :=
  [ ⟨0x070000, 1, 0x0, 1, 0x0, [⟨2, 2, .ro, 0⟩, ⟨1, 1, .ro, 0⟩, ⟨0, 0, .ro, 0⟩]⟩,
    ⟨0x070010, 16, 0x4, 1, 0x0, [⟨3, 0, .srwt, 0⟩]⟩,
    ⟨0x070050, 1, 0x4, 1, 0x0, [⟨31, 0, .ro, 0x3020100⟩]⟩,
    ⟨0x070054, 1, 0x4, 1, 0x0, [⟨31, 0, .ro, 0x7060504⟩]⟩,
    ⟨0x070058, 1, 0x4, 1, 0x0, [⟨31, 0, .ro, 0xb0a0908⟩]⟩,
    ⟨0x07005C, 1, 0x4, 1, 0x0, [⟨31, 0, .ro, 0xf0e0d0c⟩]⟩,
    ⟨0x070060, 1, 0x0, 1, 0x0, [⟨5, 5, .ro, 1⟩, ⟨4, 0, .ro, 0x10⟩]⟩,
    ⟨0x070064, 1, 0x0, 1, 0x0, [⟨31, 0, .clr0, 0⟩]⟩,
    ⟨0x070068, 1, 0x0, 1, 0x0, [⟨20, 17, .ro, 0⟩, ⟨16, 0, .ro, 0⟩]⟩,
    ⟨0x070080, 16, 0x4, 1, 0x0, [⟨31, 16, .clr0, 0⟩, ⟨15, 0, .clr0, 0⟩]⟩,
    ⟨0x0700C0, 1, 0x0, 1, 0x0, [⟨31, 31, .w1s, 0⟩, ⟨3, 0, .rw, 0⟩]⟩,
    ⟨0x0700C4, 1, 0x0, 1, 0x0, [⟨31, 31, .w1c, 0⟩, ⟨30, 30, .ro, 0⟩, ⟨29, 27, .ro, 0⟩, ⟨19, 16, .ro, 0⟩, ⟨15, 0, .ro, 0⟩]⟩,
    ⟨0x0700D0, 1, 0x0, 1, 0x0, [⟨3, 3, .w1c, 0⟩, ⟨2, 2, .w1c, 0⟩, ⟨1, 1, .w1c, 0⟩, ⟨0, 0, .w1c, 0⟩]⟩,
    ⟨0x0700D4, 1, 0x0, 1, 0x0, [⟨3, 0, .rw, 0xb⟩]⟩ ]

/-- Registers of the block range at 0x00080000. -/
def regRows08 : List RegRow :=
  [ ⟨0x080000, 1, 0x0, 1, 0x0, [⟨12, 0, .rw, 0x1900⟩]⟩,
    ⟨0x080004, 1, 0x0, 1, 0x0, [⟨24, 24, .rw, 0⟩, ⟨23, 20, .rw, 0x10⟩, ⟨19, 16, .rw, 0xb⟩, ⟨15, 12, .rw, 3⟩, ⟨11, 8, .rw, 2⟩, ⟨7, 0, .rw, 1⟩]⟩,
    ⟨0x080008, 1, 0x0, 1, 0x0, [⟨2, 2, .rw, 1⟩, ⟨1, 0, .rw, 0⟩]⟩,
    ⟨0x08000C, 1, 0x0, 1, 0x0, [⟨31, 0, .rw, 0⟩]⟩,
    ⟨0x080010, 1, 0x0, 1, 0x0, [⟨4, 4, .rw, 0⟩, ⟨3, 0, .rw, 0xa⟩]⟩,
    ⟨0x080014, 1, 0x0, 1, 0x0, [⟨5, 4, .ro, 0⟩, ⟨3, 2, .ro, 0⟩, ⟨1, 0, .ro, 0⟩]⟩,
    ⟨0x080020, 4, 0x4, 1, 0x0, [⟨31, 16, .clr0, 0⟩, ⟨15, 0, .clr0, 0⟩]⟩,
    ⟨0x080030, 1, 0x0, 1, 0x0, [⟨31, 30, .ro, 0⟩, ⟨29, 0, .ro, 0⟩]⟩,
    ⟨0x080034, 1, 0x0, 1, 0x0, [⟨31, 31, .rw, 0⟩, ⟨15, 8, .ro, 0⟩, ⟨7, 0, .rw, 8⟩]⟩,
    ⟨0x080038, 1, 0x0, 1, 0x0, [⟨7, 0, .rw, 0x18⟩]⟩,
    ⟨0x080040, 1, 0x0, 1, 0x0, [⟨3, 3, .w1c, 0⟩, ⟨2, 2, .w1c, 0⟩, ⟨1, 1, .w1c, 0⟩, ⟨0, 0, .w1c, 0⟩]⟩,
    ⟨0x080044, 1, 0x0, 1, 0x0, [⟨3, 0, .rw, 0xf⟩]⟩ ]

/-- Registers of the block range at 0x00100000. -/
def regRows10_0 : List RegRow :=
  [ ⟨0x100000, 4, 0x10000, 1, 0x0, [⟨31, 24, .clr0, 0⟩, ⟨10, 8, .ro, 0⟩, ⟨7, 7, .ro, 0⟩, ⟨6, 6, .ro, 0⟩, ⟨5, 5, .ro, 0⟩, ⟨4, 3, .ro, 0⟩, ⟨2, 2, .ro, 0⟩]⟩,
    ⟨0x100004, 4, 0x10000, 1, 0x0, [⟨13, 8, .ro, 0x24⟩, ⟨5, 0, .ro, 0x24⟩]⟩,
    ⟨0x100008, 4, 0x10000, 1, 0x0, [⟨31, 31, .w1s, 0⟩, ⟨30, 30, .rw, 1⟩, ⟨29, 29, .rw, 0⟩, ⟨19, 8, .rw, 0x3e8⟩, ⟨7, 0, .rw, 0x40⟩]⟩,
    ⟨0x10000C, 4, 0x10000, 1, 0x0, [⟨31, 24, .rw, 0xa⟩, ⟨23, 23, .rw, 0⟩, ⟨15, 8, .rw, 0x10⟩, ⟨7, 0, .rw, 0x40⟩]⟩,
    ⟨0x100010, 4, 0x10000, 1, 0x0, [⟨31, 30, .ro, 0⟩, ⟨29, 28, .ro, 0⟩, ⟨27, 27, .ro, 0⟩, ⟨26, 26, .w1c, 0⟩, ⟨15, 0, .ro, 0⟩]⟩,
    ⟨0x100014, 4, 0x10000, 1, 0x0, [⟨31, 31, .rw, 1⟩, ⟨30, 30, .ro, 0⟩, ⟨23, 16, .rw, 0x32⟩, ⟨15, 0, .ro, 0⟩]⟩,
    ⟨0x100018, 4, 0x10000, 1, 0x0, [⟨31, 16, .clr0, 0⟩, ⟨15, 0, .clr0, 0⟩]⟩,
    ⟨0x10001C, 4, 0x10000, 1, 0x0, [⟨31, 16, .clr0, 0⟩, ⟨15, 8, .clr0, 0⟩, ⟨7, 4, .clr0, 0⟩, ⟨3, 0, .clr0, 0⟩]⟩,
    ⟨0x100020, 4, 0x10000, 1, 0x0, [⟨4, 4, .w1c, 0⟩, ⟨3, 3, .w1c, 0⟩, ⟨2, 2, .w1c, 0⟩, ⟨1, 1, .w1c, 0⟩, ⟨0, 0, .w1c, 0⟩]⟩,
    ⟨0x100024, 4, 0x10000, 1, 0x0, [⟨4, 0, .rw, 0x17⟩]⟩,
    ⟨0x100100, 3, 0x40, 4, 0x10000, [⟨7, 4, .ro, 0⟩, ⟨1, 1, .ro, 0⟩, ⟨0, 0, .ro, 0⟩]⟩,
    ⟨0x100104, 3, 0x40, 4, 0x10000, [⟨13, 8, .ro, 0x20⟩, ⟨3, 0, .ro, 8⟩]⟩,
    ⟨0x100108, 3, 0x40, 4, 0x10000, [⟨29, 0, .ro, 0⟩]⟩,
    ⟨0x10010C, 3, 0x40, 4, 0x10000, [⟨31, 16, .clr0, 0⟩, ⟨15, 0, .ro, 0⟩]⟩,
    ⟨0x100110, 3, 0x40, 4, 0x10000, [⟨31, 31, .w1c, 0⟩, ⟨5, 4, .rw, 0⟩, ⟨1, 1, .rw, 0⟩, ⟨0, 0, .rw, 0⟩]⟩,
    ⟨0x100114, 3, 0x40, 4, 0x10000, [⟨31, 0, .clr0, 0⟩]⟩ ]

/-- Registers of the block range at 0x00100000, continued. -/
def regRows10_1 : List RegRow :=
  [ ⟨0x100118, 3, 0x40, 4, 0x10000, [⟨31, 31, .w1s, 0⟩, ⟨23, 16, .rw, 0⟩, ⟨14, 8, .rw, 0⟩, ⟨5, 0, .rw, 0x14⟩]⟩,
    ⟨0x10011C, 3, 0x40, 4, 0x10000, [⟨31, 0, .ro, 0⟩]⟩,
    ⟨0x100200, 4, 0x10000, 1, 0x0, [⟨31, 30, .ro, 0⟩, ⟨29, 29, .ro, 0⟩, ⟨28, 28, .ro, 0⟩, ⟨27, 27, .ro, 0⟩, ⟨15, 0, .ro, 0⟩]⟩,
    ⟨0x100204, 4, 0x10000, 1, 0x0, [⟨31, 24, .rw, 0xff⟩, ⟨23, 16, .rw, 0x40⟩, ⟨15, 8, .rw, 8⟩, ⟨7, 0, .rw, 0x10⟩]⟩,
    ⟨0x100208, 4, 0x10000, 1, 0x0, [⟨31, 31, .w1s, 0⟩, ⟨7, 0, .rw, 0xa⟩]⟩,
    ⟨0x100210, 8, 0x4, 4, 0x10000, [⟨31, 0, .clr0, 0⟩]⟩,
    ⟨0x100240, 4, 0x10000, 1, 0x0, [⟨31, 31, .rwt, 0⟩]⟩,
    ⟨0x100244, 4, 0x10000, 1, 0x0, [⟨31, 0, .ro, 0⟩]⟩,
    ⟨0x100248, 4, 0x10000, 1, 0x0, [⟨31, 0, .ro, 0⟩]⟩,
    ⟨0x10024C, 4, 0x10000, 1, 0x0, [⟨31, 16, .clr0, 0⟩, ⟨15, 0, .clr0, 0⟩]⟩,
    ⟨0x100250, 4, 0x10000, 1, 0x0, [⟨3, 3, .w1c, 0⟩, ⟨2, 2, .w1c, 0⟩, ⟨1, 1, .w1c, 0⟩, ⟨0, 0, .w1c, 0⟩]⟩,
    ⟨0x100254, 4, 0x10000, 1, 0x0, [⟨3, 0, .rw, 0xc⟩]⟩,
    ⟨0x100800, 1, 0x0, 1, 0x0, [⟨31, 31, .ro, 0⟩, ⟨30, 30, .w1c, 0⟩, ⟨29, 28, .ro, 0⟩, ⟨15, 0, .ro, 0⟩]⟩,
    ⟨0x100804, 1, 0x0, 1, 0x0, [⟨31, 24, .rw, 0xa⟩, ⟨23, 16, .rw, 0x14⟩]⟩,
    ⟨0x100810, 16, 0x4, 1, 0x0, [⟨31, 31, .ro, 0⟩, ⟨29, 28, .ro, 0⟩, ⟨27, 16, .ro, 0⟩, ⟨15, 0, .ro, 0⟩]⟩,
    ⟨0x100900, 64, 0x8, 1, 0x0, [⟨31, 16, .ro, 0⟩, ⟨15, 0, .ro, 0⟩]⟩ ]

/-- Registers of the block range at 0x00100000, continued. -/
def regRows10_2 : List RegRow :=
  [ ⟨0x100904, 64, 0x8, 1, 0x0, [⟨31, 31, .ro, 0⟩, ⟨20, 20, .ro, 0⟩, ⟨19, 16, .ro, 0⟩, ⟨1, 0, .ro, 0⟩]⟩ ]

/-- All registers of the block range at 0x00100000. -/
def regRows10 : List RegRow := regRows10_0 ++ regRows10_1 ++ regRows10_2

/-- Registers of the block range at 0x00140000. -/
def regRows14_0 : List RegRow :=
  [ ⟨0x140000, 2, 0x4, 1, 0x0, [⟨8, 8, .w1c, 0⟩, ⟨4, 4, .rw, 1⟩, ⟨1, 0, .rw, 3⟩]⟩,
    ⟨0x140010, 8, 0x4, 1, 0x0, [⟨31, 16, .clr0, 0⟩, ⟨5, 5, .ro, 0⟩, ⟨4, 4, .ro, 0⟩, ⟨3, 1, .ro, 0⟩, ⟨0, 0, .ro, 0⟩]⟩,
    ⟨0x140040, 1, 0x0, 1, 0x0, [⟨17, 17, .w1c, 0⟩, ⟨16, 16, .w1s, 0⟩, ⟨15, 12, .rw, 0⟩, ⟨11, 0, .rw, 0⟩]⟩,
    ⟨0x140044, 1, 0x0, 1, 0x0, [⟨19, 0, .rw, 0⟩]⟩,
    ⟨0x140100, 16, 0x4, 1, 0x0, [⟨31, 0, .clr0, 0⟩]⟩,
    ⟨0x140200, 64, 0x4, 1, 0x0, [⟨1, 0, .wo, 0⟩]⟩,
    ⟨0x141000, 512, 0x10, 1, 0x0, [⟨31, 0, .rw, 0⟩]⟩,
    ⟨0x141004, 512, 0x10, 1, 0x0, [⟨31, 31, .rw, 0⟩, ⟨28, 28, .rw, 0⟩, ⟨27, 16, .rw, 0⟩, ⟨15, 0, .rw, 0⟩]⟩,
    ⟨0x141008, 512, 0x10, 1, 0x0, [⟨22, 16, .rw, 0x60⟩, ⟨9, 8, .rw, 0⟩, ⟨5, 0, .rw, 0⟩]⟩,
    ⟨0x144000, 64, 0x80, 1, 0x0, [⟨31, 31, .rw, 0⟩, ⟨30, 30, .rw, 0⟩, ⟨29, 29, .rw, 0⟩, ⟨28, 28, .rw, 1⟩, ⟨27, 24, .rw, 3⟩, ⟨23, 21, .rw, 0⟩, ⟨20, 20, .rw, 0⟩, ⟨19, 17, .rw, 0⟩, ⟨16, 16, .ro, 0⟩, ⟨15, 12, .rw, 0⟩, ⟨11, 0, .rw, 0⟩]⟩,
    ⟨0x144004, 64, 0x80, 1, 0x0, [⟨31, 31, .rw, 0⟩, ⟨28, 16, .rw, 0x438⟩, ⟨12, 0, .rw, 0x780⟩]⟩,
    ⟨0x144008, 64, 0x80, 1, 0x0, [⟨31, 16, .rw, 0x3e9⟩, ⟨15, 0, .rw, 0xea60⟩]⟩,
    ⟨0x14400C, 1, 0x4, 64, 0x80, [⟨31, 16, .rwt, 0x5dc⟩, ⟨15, 0, .rwt, 0x3145⟩]⟩,
    ⟨0x144010, 1, 0x4, 64, 0x80, [⟨31, 16, .rwt, 0x3a0e⟩, ⟨15, 0, .rwt, 0xea5⟩]⟩,
    ⟨0x144014, 1, 0x4, 64, 0x80, [⟨31, 16, .rwt, 0⟩, ⟨15, 0, .rwt, 0x2000⟩]⟩,
    ⟨0x144018, 1, 0x4, 64, 0x80, [⟨31, 16, .rwt, 0⟩, ⟨15, 0, .rwt, 0⟩]⟩ ]

/-- Registers of the block range at 0x00140000, continued. -/
def regRows14_1 : List RegRow :=
  [ ⟨0x14401C, 1, 0x4, 64, 0x80, [⟨31, 16, .rwt, 0⟩, ⟨15, 0, .rwt, 0x2000⟩]⟩,
    ⟨0x144020, 1, 0x4, 64, 0x80, [⟨31, 16, .rwt, 0⟩, ⟨15, 0, .rwt, 0⟩]⟩,
    ⟨0x144024, 1, 0x4, 64, 0x80, [⟨31, 16, .rwt, 0⟩, ⟨15, 0, .rwt, 0x2000⟩]⟩,
    ⟨0x144028, 64, 0x80, 1, 0x0, [⟨23, 16, .rw, 3⟩, ⟨15, 8, .rw, 2⟩, ⟨7, 0, .rw, 3⟩]⟩,
    ⟨0x14402C, 64, 0x80, 1, 0x0, [⟨31, 16, .rw, 0x69⟩, ⟨15, 8, .rw, 8⟩, ⟨7, 0, .rw, 8⟩]⟩,
    ⟨0x144030, 64, 0x80, 1, 0x0, [⟨16, 16, .w1c, 0⟩, ⟨15, 15, .w1c, 0⟩, ⟨14, 14, .w1c, 0⟩, ⟨13, 13, .w1c, 0⟩, ⟨12, 12, .w1c, 0⟩, ⟨11, 11, .w1c, 0⟩, ⟨10, 10, .w1c, 0⟩, ⟨9, 9, .w1c, 0⟩, ⟨8, 8, .w1c, 0⟩, ⟨4, 4, .w1c, 0⟩, ⟨3, 3, .ro, 0⟩, ⟨2, 2, .ro, 0⟩, ⟨1, 1, .ro, 0⟩, ⟨0, 0, .ro, 0⟩]⟩,
    ⟨0x144034, 64, 0x80, 1, 0x0, [⟨31, 0, .ro, 0⟩]⟩,
    ⟨0x144038, 64, 0x80, 1, 0x0, [⟨31, 0, .ro, 0⟩]⟩,
    ⟨0x14403C, 64, 0x80, 1, 0x0, [⟨31, 16, .clr0, 0⟩, ⟨15, 0, .clr0, 0⟩]⟩,
    ⟨0x144040, 64, 0x80, 1, 0x0, [⟨31, 16, .clr0, 0⟩, ⟨15, 0, .clr0, 0⟩]⟩,
    ⟨0x144044, 64, 0x80, 1, 0x0, [⟨31, 16, .clr0, 0⟩, ⟨15, 0, .clr0, 0⟩]⟩,
    ⟨0x144048, 64, 0x80, 1, 0x0, [⟨31, 0, .ro, 0x80000000⟩]⟩,
    ⟨0x14404C, 64, 0x80, 1, 0x0, [⟨15, 0, .rw, 0⟩]⟩ ]

/-- All registers of the block range at 0x00140000. -/
def regRows14 : List RegRow := regRows14_0 ++ regRows14_1

/-- Registers of the block range at 0x00180000. -/
def regRows18_0 : List RegRow :=
  [ ⟨0x180000, 1, 0x0, 1, 0x0, [⟨20, 18, .rwt, 6⟩, ⟨17, 15, .rwt, 5⟩, ⟨14, 12, .rwt, 4⟩, ⟨11, 9, .rwt, 3⟩, ⟨8, 6, .rwt, 2⟩, ⟨5, 3, .rwt, 1⟩, ⟨2, 0, .rwt, 0⟩]⟩,
    ⟨0x180004, 1, 0x0, 1, 0x0, [⟨2, 2, .w1c, 0⟩, ⟨1, 1, .w1c, 0⟩, ⟨0, 0, .w1c, 0⟩]⟩,
    ⟨0x180010, 3, 0x4, 1, 0x0, [⟨19, 0, .rwt, 0⟩]⟩,
    ⟨0x180020, 1, 0x0, 1, 0x0, [⟨15, 0, .rw, 0⟩]⟩,
    ⟨0x180024, 1, 0x0, 1, 0x0, [⟨14, 0, .ro, 0⟩]⟩,
    ⟨0x180028, 1, 0x0, 1, 0x0, [⟨31, 0, .clr0, 0⟩]⟩,
    ⟨0x180040, 1, 0x0, 1, 0x0, [⟨20, 20, .w1s, 0⟩, ⟨19, 16, .rw, 0⟩, ⟨10, 0, .rw, 0⟩]⟩,
    ⟨0x180044, 1, 0x0, 1, 0x0, [⟨11, 0, .rw, 0⟩]⟩,
    ⟨0x180080, 1, 0x0, 1, 0x0, [⟨31, 31, .ro, 0⟩, ⟨13, 0, .rw, 0⟩]⟩,
    ⟨0x1800C0, 16, 0x4, 1, 0x0, [⟨31, 0, .ro, 0⟩]⟩,
    ⟨0x180100, 1, 0x0, 1, 0x0, [⟨15, 0, .rw, 0⟩]⟩,
    ⟨0x180104, 1, 0x0, 1, 0x0, [⟨13, 0, .ro, 0⟩]⟩,
    ⟨0x180108, 1, 0x0, 1, 0x0, [⟨31, 31, .rw, 0⟩, ⟨30, 30, .w1s, 0⟩, ⟨15, 0, .rw, 0⟩]⟩,
    ⟨0x18010C, 1, 0x0, 1, 0x0, [⟨31, 31, .rwt, 0⟩, ⟨15, 0, .rw, 0⟩]⟩,
    ⟨0x180110, 1, 0x0, 1, 0x0, [⟨16, 16, .ro, 0⟩, ⟨10, 8, .ro, 4⟩, ⟨7, 5, .ro, 7⟩, ⟨4, 0, .ro, 0⟩]⟩,
    ⟨0x180114, 1, 0x0, 1, 0x0, [⟨2, 2, .w1c, 0⟩, ⟨1, 1, .w1c, 0⟩, ⟨0, 0, .w1c, 0⟩]⟩ ]

/-- Registers of the block range at 0x00180000, continued. -/
def regRows18_1 : List RegRow :=
  [ ⟨0x180118, 1, 0x0, 1, 0x0, [⟨2, 0, .rw, 5⟩]⟩,
    ⟨0x18011C, 1, 0x0, 1, 0x0, [⟨31, 0, .clr0, 0⟩]⟩,
    ⟨0x180120, 1, 0x0, 1, 0x0, [⟨31, 0, .clr0, 0⟩]⟩,
    ⟨0x180124, 1, 0x0, 1, 0x0, [⟨31, 0, .clr0, 0⟩]⟩,
    ⟨0x180128, 1, 0x0, 1, 0x0, [⟨31, 0, .clr0, 0⟩]⟩,
    ⟨0x180130, 1, 0x0, 1, 0x0, [⟨5, 4, .ro, 0⟩, ⟨1, 0, .ro, 0⟩]⟩,
    ⟨0x180134, 1, 0x0, 1, 0x0, [⟨31, 0, .ro, 0⟩]⟩,
    ⟨0x180138, 1, 0x0, 1, 0x0, [⟨31, 0, .ro, 0x7d0⟩]⟩,
    ⟨0x180140, 4, 0x4, 1, 0x0, [⟨31, 0, .ro, 0⟩]⟩,
    ⟨0x180180, 1, 0x0, 1, 0x0, [⟨31, 31, .ro, 0⟩, ⟨12, 0, .rw, 0⟩]⟩,
    ⟨0x1801C0, 8, 0x4, 1, 0x0, [⟨31, 0, .ro, 0⟩]⟩,
    ⟨0x180200, 1, 0x0, 1, 0x0, [⟨15, 0, .rwt, 0⟩]⟩,
    ⟨0x180210, 4, 0x4, 1, 0x0, [⟨11, 0, .ro, 0⟩]⟩,
    ⟨0x180220, 1, 0x0, 1, 0x0, [⟨0, 0, .w1c, 0⟩]⟩,
    ⟨0x180224, 1, 0x0, 1, 0x0, [⟨31, 0, .clr0, 0⟩]⟩,
    ⟨0x180228, 1, 0x0, 1, 0x0, [⟨31, 16, .clr0, 0⟩, ⟨15, 0, .clr0, 0⟩]⟩ ]

/-- Registers of the block range at 0x00180000, continued. -/
def regRows18_2 : List RegRow :=
  [ ⟨0x18022C, 1, 0x0, 1, 0x0, [⟨31, 0, .clr0, 0⟩]⟩,
    ⟨0x180230, 1, 0x0, 1, 0x0, [⟨31, 0, .clr0, 0⟩]⟩,
    ⟨0x180300, 1, 0x0, 1, 0x0, [⟨17, 17, .w1c, 0⟩, ⟨16, 16, .w1s, 0⟩, ⟨12, 12, .rw, 0⟩, ⟨11, 0, .rw, 0⟩]⟩,
    ⟨0x180304, 1, 0x0, 1, 0x0, [⟨19, 0, .rw, 0⟩]⟩ ]

/-- All registers of the block range at 0x00180000. -/
def regRows18 : List RegRow := regRows18_0 ++ regRows18_1 ++ regRows18_2

/-- Registers of the block range at 0x001C0000. -/
def regRows1C_0 : List RegRow :=
  [ ⟨0x1C0000, 1, 0x0, 1, 0x0, [⟨23, 16, .rwt, 0x64⟩, ⟨12, 8, .rwt, 0x10⟩, ⟨5, 4, .rwt, 0⟩, ⟨2, 0, .rwt, 5⟩]⟩,
    ⟨0x1C0004, 1, 0x0, 1, 0x0, [⟨13, 13, .ro, 0⟩, ⟨12, 8, .ro, 0x10⟩, ⟨4, 0, .ro, 0x10⟩]⟩,
    ⟨0x1C0008, 1, 0x0, 1, 0x0, [⟨25, 0, .rwt, 0⟩]⟩,
    ⟨0x1C000C, 1, 0x0, 1, 0x0, [⟨24, 0, .ro, 0⟩]⟩,
    ⟨0x1C0010, 1, 0x0, 1, 0x0, [⟨20, 0, .ro, 0⟩]⟩,
    ⟨0x1C0014, 1, 0x0, 1, 0x0, [⟨20, 0, .ro, 0⟩]⟩,
    ⟨0x1C0018, 1, 0x0, 1, 0x0, [⟨21, 16, .rw, 0⟩, ⟨5, 0, .rw, 0⟩]⟩,
    ⟨0x1C001C, 1, 0x0, 1, 0x0, [⟨6, 0, .w1c, 0⟩]⟩,
    ⟨0x1C0020, 1, 0x0, 1, 0x0, [⟨6, 0, .rw, 0x78⟩]⟩,
    ⟨0x1C0024, 1, 0x0, 1, 0x0, [⟨31, 0, .clr0, 0⟩]⟩,
    ⟨0x1C0028, 3, 0x4, 1, 0x0, [⟨15, 0, .rw, 0⟩]⟩,
    ⟨0x1C0034, 1, 0x0, 1, 0x0, [⟨7, 0, .rw, 2⟩]⟩,
    ⟨0x1C0038, 1, 0x0, 1, 0x0, [⟨31, 0, .ro, 0⟩]⟩,
    ⟨0x1C0800, 1, 0x0, 1, 0x0, [⟨0, 0, .rw, 0⟩]⟩,
    ⟨0x1C0804, 1, 0x0, 1, 0x0, [⟨7, 4, .ro, 0⟩, ⟨3, 2, .ro, 0⟩, ⟨1, 1, .ro, 0⟩, ⟨0, 0, .ro, 0⟩]⟩,
    ⟨0x1C0808, 1, 0x0, 1, 0x0, [⟨31, 0, .ro, 0⟩]⟩ ]

/-- Registers of the block range at 0x001C0000, continued. -/
def regRows1C_1 : List RegRow :=
  [ ⟨0x1C0810, 3, 0x4, 1, 0x0, [⟨31, 30, .ro, 0⟩, ⟨29, 26, .ro, 0⟩, ⟨25, 25, .ro, 0⟩, ⟨12, 6, .ro, 0⟩]⟩,
    ⟨0x1C0820, 3, 0x4, 1, 0x0, [⟨6, 0, .ro, 0⟩]⟩,
    ⟨0x1C0830, 3, 0x4, 1, 0x0, [⟨31, 0, .ro, 0⟩]⟩,
    ⟨0x1C0840, 6, 0x4, 1, 0x0, [⟨31, 0, .clr0, 0⟩]⟩,
    ⟨0x1C0860, 1, 0x0, 1, 0x0, [⟨31, 24, .clr0, 0⟩, ⟨23, 16, .clr0, 0⟩, ⟨15, 8, .clr0, 0⟩, ⟨7, 0, .clr0, 0⟩]⟩,
    ⟨0x1C0864, 1, 0x0, 1, 0x0, [⟨3, 3, .w1c, 0⟩, ⟨2, 2, .w1c, 0⟩, ⟨1, 1, .w1c, 0⟩, ⟨0, 0, .w1c, 0⟩]⟩,
    ⟨0x1C0868, 1, 0x0, 1, 0x0, [⟨3, 0, .rw, 3⟩]⟩ ]

/-- All registers of the block range at 0x001C0000. -/
def regRows1C : List RegRow := regRows1C_0 ++ regRows1C_1

/-- Registers of the block range at 0x001D0000. -/
def regRows1D_0 : List RegRow :=
  [ ⟨0x1D0000, 3, 0x4, 1, 0x0, [⟨8, 0, .ro, 0⟩]⟩,
    ⟨0x1D000C, 1, 0x0, 1, 0x0, [⟨0, 0, .ro, 0⟩]⟩,
    ⟨0x1D0010, 1, 0x0, 1, 0x0, [⟨23, 16, .rwt, 0x28⟩, ⟨7, 0, .rwt, 0x3c⟩]⟩,
    ⟨0x1D0014, 3, 0x4, 1, 0x0, [⟨31, 0, .w1c, 0⟩]⟩,
    ⟨0x1D0020, 1, 0x0, 1, 0x0, [⟨31, 0, .clr0, 0⟩]⟩,
    ⟨0x1D0030, 1, 0x0, 1, 0x0, [⟨31, 24, .rw, 0x1e⟩, ⟨23, 16, .rw, 0xfa⟩, ⟨15, 12, .rw, 5⟩, ⟨9, 8, .rw, 3⟩, ⟨7, 7, .rw, 1⟩]⟩,
    ⟨0x1D0034, 1, 0x0, 1, 0x0, [⟨23, 23, .ro, 0⟩, ⟨22, 22, .w1c, 0⟩, ⟨21, 21, .ro, 0⟩, ⟨20, 20, .ro, 0⟩, ⟨19, 16, .ro, 0⟩, ⟨12, 0, .ro, 0⟩]⟩,
    ⟨0x1D0040, 1, 0x0, 1, 0x0, [⟨31, 31, .rw, 1⟩, ⟨30, 30, .rw, 1⟩, ⟨23, 16, .rw, 0x78⟩, ⟨7, 0, .rw, 0x10⟩]⟩,
    ⟨0x1D0044, 1, 0x0, 1, 0x0, [⟨31, 31, .ro, 0⟩, ⟨30, 30, .ro, 0⟩, ⟨15, 0, .ro, 0⟩]⟩,
    ⟨0x1D0050, 1, 0x0, 1, 0x0, [⟨31, 31, .rw, 1⟩, ⟨15, 0, .rw, 0x3c⟩]⟩,
    ⟨0x1D0054, 1, 0x0, 1, 0x0, [⟨31, 31, .ro, 0⟩, ⟨30, 30, .ro, 0⟩, ⟨29, 29, .w1c, 0⟩, ⟨25, 16, .ro, 0⟩, ⟨15, 0, .ro, 0⟩]⟩,
    ⟨0x1D0060, 1, 0x0, 1, 0x0, [⟨15, 0, .rw, 0x7fff⟩]⟩,
    ⟨0x1D0064, 1, 0x0, 1, 0x0, [⟨31, 16, .clr0, 0⟩, ⟨15, 0, .clr0, 0⟩]⟩,
    ⟨0x1D0070, 1, 0x0, 1, 0x0, [⟨7, 7, .w1c, 0⟩, ⟨6, 6, .w1c, 0⟩, ⟨5, 5, .w1c, 0⟩, ⟨4, 4, .w1c, 0⟩, ⟨3, 3, .w1c, 0⟩, ⟨2, 2, .w1c, 0⟩, ⟨1, 1, .w1c, 0⟩, ⟨0, 0, .w1c, 0⟩]⟩,
    ⟨0x1D0074, 1, 0x0, 1, 0x0, [⟨7, 0, .rw, 0x5e⟩]⟩,
    ⟨0x1D0100, 30, 0x4, 1, 0x0, [⟨31, 0, .ro, 0⟩]⟩ ]

/-- Registers of the block range at 0x001D0000, continued. -/
def regRows1D_1 : List RegRow :=
  [ ⟨0x1D0200, 32, 0x4, 1, 0x0, [⟨31, 31, .ro, 0⟩, ⟨11, 0, .ro, 0⟩]⟩,
    ⟨0x1D1000, 960, 0x4, 1, 0x0, [⟨5, 0, .ro, 0⟩]⟩ ]

/-- All registers of the block range at 0x001D0000. -/
def regRows1D : List RegRow := regRows1D_0 ++ regRows1D_1

/-- Registers of the block range at 0x001E0000. -/
def regRows1E_0 : List RegRow :=
  [ ⟨0x1E0000, 1, 0x0, 1, 0x0, [⟨1, 0, .rwt, 1⟩]⟩,
    ⟨0x1E0004, 1, 0x0, 1, 0x0, [⟨2, 2, .ro, 0⟩, ⟨1, 1, .ro, 0⟩, ⟨0, 0, .ro, 0⟩]⟩,
    ⟨0x1E0010, 3, 0x4, 1, 0x0, [⟨15, 0, .rwt, 0x8000⟩]⟩,
    ⟨0x1E001C, 3, 0x4, 1, 0x0, [⟨15, 0, .srw, 0x8000⟩]⟩,
    ⟨0x1E0028, 3, 0x4, 1, 0x0, [⟨19, 0, .ro, 0⟩]⟩,
    ⟨0x1E0034, 1, 0x0, 1, 0x0, [⟨8, 0, .rwt, 0⟩]⟩,
    ⟨0x1E0038, 1, 0x0, 1, 0x0, [⟨3, 0, .ro, 0⟩]⟩,
    ⟨0x1E0040, 1, 0x0, 1, 0x0, [⟨31, 31, .w1s, 0⟩, ⟨15, 8, .rw, 0x3c⟩, ⟨1, 0, .rwt, 0⟩]⟩,
    ⟨0x1E0044, 1, 0x0, 1, 0x0, [⟨0, 0, .w1c, 0⟩]⟩,
    ⟨0x1E0048, 1, 0x0, 1, 0x0, [⟨31, 0, .ro, 0⟩]⟩,
    ⟨0x1E004C, 1, 0x0, 1, 0x0, [⟨31, 0, .ro, 0⟩]⟩,
    ⟨0x1E0050, 3, 0x4, 1, 0x0, [⟨15, 0, .ro, 0x8000⟩]⟩,
    ⟨0x1E005C, 3, 0x4, 1, 0x0, [⟨15, 0, .rwt, 0x8000⟩]⟩,
    ⟨0x1E0068, 1, 0x0, 1, 0x0, [⟨31, 0, .clr0, 0⟩]⟩,
    ⟨0x1E006C, 1, 0x0, 1, 0x0, [⟨31, 0, .clr0, 0⟩]⟩,
    ⟨0x1E0070, 1, 0x0, 1, 0x0, [⟨2, 2, .w1c, 0⟩, ⟨1, 1, .w1c, 0⟩, ⟨0, 0, .w1c, 0⟩]⟩ ]

/-- Registers of the block range at 0x001E0000, continued. -/
def regRows1E_1 : List RegRow :=
  [ ⟨0x1E0074, 1, 0x0, 1, 0x0, [⟨2, 0, .rw, 5⟩]⟩,
    ⟨0x1E0080, 4, 0x4, 1, 0x0, [⟨31, 0, .ro, 0⟩]⟩,
    ⟨0x1E00C0, 1, 0x0, 1, 0x0, [⟨15, 0, .rw, 0⟩]⟩,
    ⟨0x1E00C4, 1, 0x0, 1, 0x0, [⟨31, 0, .ro, 0⟩]⟩,
    ⟨0x1E00C8, 1, 0x0, 1, 0x0, [⟨31, 16, .ro, 0⟩, ⟨15, 0, .ro, 0x8000⟩]⟩,
    ⟨0x1E00CC, 1, 0x0, 1, 0x0, [⟨7, 0, .ro, 0⟩]⟩,
    ⟨0x1E00D0, 1, 0x0, 1, 0x0, [⟨24, 0, .ro, 0⟩]⟩ ]

/-- All registers of the block range at 0x001E0000. -/
def regRows1E : List RegRow := regRows1E_0 ++ regRows1E_1

/-- Registers of the block range at 0x00200000. -/
def regRows20 : List RegRow :=
  [ ⟨0x200000, 1, 0x0, 1, 0x0, [⟨26, 24, .ro, 0⟩, ⟨23, 16, .ro, 0⟩, ⟨13, 8, .ro, 0⟩, ⟨1, 0, .ro, 0⟩]⟩,
    ⟨0x200004, 1, 0x0, 1, 0x0, [⟨15, 8, .rw, 0xa⟩, ⟨0, 0, .rw, 1⟩]⟩,
    ⟨0x200008, 1, 0x0, 1, 0x0, [⟨5, 4, .ro, 0⟩, ⟨3, 3, .w1c, 0⟩, ⟨2, 2, .ro, 0⟩, ⟨1, 1, .ro, 0⟩, ⟨0, 0, .ro, 0⟩]⟩,
    ⟨0x20000C, 1, 0x0, 1, 0x0, [⟨15, 0, .rw, 0⟩]⟩,
    ⟨0x200010, 1, 0x0, 1, 0x0, [⟨31, 0, .ro, 0⟩]⟩,
    ⟨0x200014, 1, 0x0, 1, 0x0, [⟨31, 0, .ro, 0⟩]⟩,
    ⟨0x200018, 1, 0x0, 1, 0x0, [⟨31, 0, .rw, 0⟩]⟩,
    ⟨0x20001C, 1, 0x0, 1, 0x0, [⟨31, 0, .rw, 0⟩]⟩,
    ⟨0x200020, 1, 0x0, 1, 0x0, [⟨15, 0, .ro, 0⟩]⟩,
    ⟨0x200024, 1, 0x0, 1, 0x0, [⟨31, 0, .clr0, 0⟩]⟩,
    ⟨0x200028, 1, 0x0, 1, 0x0, [⟨31, 0, .ro, 0⟩]⟩,
    ⟨0x20002C, 1, 0x0, 1, 0x0, [⟨31, 0, .ro, 0⟩]⟩,
    ⟨0x200030, 1, 0x0, 1, 0x0, [⟨2, 2, .w1c, 0⟩, ⟨1, 1, .w1c, 0⟩, ⟨0, 0, .w1c, 0⟩]⟩,
    ⟨0x200034, 1, 0x0, 1, 0x0, [⟨2, 0, .rw, 7⟩]⟩ ]

/-- Registers of the block range at 0x00210000. -/
def regRows21_0 : List RegRow :=
  [ ⟨0x210000, 1, 0x0, 1, 0x0, [⟨31, 24, .rw, 3⟩, ⟨23, 16, .rw, 4⟩, ⟨15, 8, .rw, 0xa⟩]⟩,
    ⟨0x210004, 1, 0x0, 1, 0x0, [⟨31, 16, .ro, 0⟩, ⟨15, 14, .ro, 0⟩, ⟨13, 13, .ro, 0⟩, ⟨12, 12, .ro, 0⟩, ⟨11, 11, .ro, 0⟩, ⟨10, 10, .ro, 0⟩]⟩,
    ⟨0x210008, 1, 0x0, 1, 0x0, [⟨15, 0, .ro, 0⟩]⟩,
    ⟨0x21000C, 1, 0x0, 1, 0x0, [⟨31, 0, .ro, 0⟩]⟩,
    ⟨0x210010, 1, 0x0, 1, 0x0, [⟨31, 16, .ro, 0⟩, ⟨15, 0, .clr0, 0⟩]⟩,
    ⟨0x210014, 1, 0x0, 1, 0x0, [⟨4, 4, .w1c, 0⟩, ⟨3, 3, .w1c, 0⟩, ⟨2, 2, .w1c, 0⟩, ⟨1, 1, .w1c, 0⟩, ⟨0, 0, .w1c, 0⟩]⟩,
    ⟨0x210018, 1, 0x0, 1, 0x0, [⟨4, 0, .rw, 0x1f⟩]⟩,
    ⟨0x210100, 1, 0x0, 1, 0x0, [⟨31, 16, .ro, 0⟩, ⟨15, 0, .ro, 0⟩]⟩,
    ⟨0x210104, 1, 0x0, 1, 0x0, [⟨4, 4, .ro, 1⟩, ⟨3, 3, .ro, 0⟩, ⟨2, 2, .ro, 0⟩, ⟨1, 1, .ro, 0⟩, ⟨0, 0, .ro, 0⟩]⟩,
    ⟨0x210108, 2, 0x4, 1, 0x0, [⟨31, 0, .ro, 0⟩]⟩,
    ⟨0x210110, 1, 0x0, 1, 0x0, [⟨31, 16, .clr0, 0⟩, ⟨15, 0, .clr0, 0⟩]⟩,
    ⟨0x210114, 1, 0x0, 1, 0x0, [⟨31, 16, .clr0, 0⟩, ⟨15, 0, .clr0, 0⟩]⟩,
    ⟨0x210118, 1, 0x0, 1, 0x0, [⟨31, 0, .clr0, 0⟩]⟩,
    ⟨0x21011C, 1, 0x0, 1, 0x0, [⟨3, 3, .w1c, 0⟩, ⟨2, 2, .w1c, 0⟩, ⟨1, 1, .w1c, 0⟩, ⟨0, 0, .w1c, 0⟩]⟩,
    ⟨0x210120, 1, 0x0, 1, 0x0, [⟨3, 0, .rw, 0xd⟩]⟩,
    ⟨0x210200, 2, 0x4, 1, 0x0, [⟨31, 0, .ro, 0⟩]⟩ ]

/-- Registers of the block range at 0x00210000, continued. -/
def regRows21_1 : List RegRow :=
  [ ⟨0x210208, 2, 0x4, 1, 0x0, [⟨31, 0, .ro, 0⟩]⟩,
    ⟨0x210210, 1, 0x0, 1, 0x0, [⟨20, 0, .ro, 0⟩]⟩ ]

/-- All registers of the block range at 0x00210000. -/
def regRows21 : List RegRow := regRows21_0 ++ regRows21_1

/-- Registers of the block range at 0x00220000. -/
def regRows22 : List RegRow :=
  [ ⟨0x220000, 1, 0x0, 1, 0x0, [⟨0, 0, .ro, 0⟩]⟩,
    ⟨0x220004, 1, 0x0, 1, 0x0, [⟨17, 17, .rw, 0⟩, ⟨16, 16, .rw, 0⟩, ⟨5, 5, .srw, 0⟩, ⟨4, 4, .srw, 0⟩, ⟨3, 3, .srw, 0⟩, ⟨2, 2, .srw, 0⟩, ⟨1, 1, .srw, 0⟩, ⟨0, 0, .srw, 0⟩]⟩,
    ⟨0x220008, 1, 0x0, 1, 0x0, [⟨31, 0, .clr0, 0⟩]⟩,
    ⟨0x22000C, 1, 0x0, 1, 0x0, [⟨26, 24, .ro, 0⟩, ⟨21, 0, .ro, 0⟩]⟩,
    ⟨0x220100, 24, 0x4, 1, 0x0, [⟨31, 0, .ro, 0⟩]⟩ ]

/-- Registers of the block range at 0x00230000. -/
def regRows23 : List RegRow :=
  [ ⟨0x230000, 1, 0x0, 1, 0x0, [⟨31, 24, .rw, 0x5a⟩, ⟨23, 16, .rw, 0xa⟩, ⟨15, 0, .rw, 0xfa0⟩]⟩,
    ⟨0x230004, 1, 0x0, 1, 0x0, [⟨7, 7, .ro, 0⟩, ⟨6, 6, .ro, 0⟩, ⟨5, 5, .ro, 0⟩, ⟨4, 4, .ro, 0⟩, ⟨3, 2, .ro, 0⟩, ⟨0, 0, .ro, 0⟩]⟩,
    ⟨0x230008, 1, 0x0, 1, 0x0, [⟨31, 16, .ro, 0⟩, ⟨12, 0, .ro, 0⟩]⟩,
    ⟨0x230010, 2, 0x4, 1, 0x0, [⟨31, 0, .ro, 0⟩]⟩,
    ⟨0x230018, 1, 0x0, 1, 0x0, [⟨31, 0, .ro, 0⟩]⟩,
    ⟨0x23001C, 1, 0x0, 1, 0x0, [⟨15, 0, .ro, 0⟩]⟩,
    ⟨0x230020, 1, 0x0, 1, 0x0, [⟨31, 16, .clr0, 0⟩, ⟨15, 0, .clr0, 0⟩]⟩,
    ⟨0x230024, 1, 0x0, 1, 0x0, [⟨2, 2, .w1c, 0⟩, ⟨1, 1, .w1c, 0⟩, ⟨0, 0, .w1c, 0⟩]⟩,
    ⟨0x230028, 1, 0x0, 1, 0x0, [⟨2, 0, .rw, 7⟩]⟩,
    ⟨0x230030, 1, 0x0, 1, 0x0, [⟨11, 0, .wo, 0⟩]⟩,
    ⟨0x230034, 1, 0x0, 1, 0x0, [⟨31, 31, .ro, 0⟩, ⟨30, 30, .ro, 0⟩, ⟨12, 0, .ro, 0⟩]⟩ ]

/-- Registers of the block range at 0x00240000. -/
def regRows24 : List RegRow :=
  [ ⟨0x240000, 1, 0x0, 1, 0x0, [⟨31, 31, .w1s, 0⟩, ⟨30, 30, .w1c, 0⟩, ⟨1, 0, .rw, 0⟩]⟩,
    ⟨0x240004, 1, 0x0, 1, 0x0, [⟨31, 0, .rw, 0⟩]⟩,
    ⟨0x240008, 1, 0x0, 1, 0x0, [⟨31, 0, .rw, 0⟩]⟩,
    ⟨0x24000C, 1, 0x0, 1, 0x0, [⟨31, 0, .w1c, 0⟩]⟩,
    ⟨0x240010, 1, 0x0, 1, 0x0, [⟨31, 16, .ro, 0⟩, ⟨2, 0, .ro, 0⟩]⟩,
    ⟨0x240014, 1, 0x0, 1, 0x0, [⟨31, 0, .ro, 0⟩]⟩,
    ⟨0x240020, 1, 0x0, 1, 0x0, [⟨2, 2, .w1c, 0⟩, ⟨1, 1, .w1c, 0⟩, ⟨0, 0, .w1c, 0⟩]⟩,
    ⟨0x240024, 1, 0x0, 1, 0x0, [⟨2, 0, .rw, 5⟩]⟩,
    ⟨0x240100, 32, 0x10, 1, 0x0, [⟨31, 31, .rw, 0⟩, ⟨30, 28, .rw, 0⟩, ⟨27, 14, .rw, 0⟩, ⟨13, 13, .w1s, 0⟩, ⟨8, 0, .rw, 0⟩]⟩,
    ⟨0x240104, 32, 0x10, 1, 0x0, [⟨31, 0, .ro, 0⟩]⟩,
    ⟨0x240108, 32, 0x10, 1, 0x0, [⟨15, 0, .ro, 0⟩]⟩,
    ⟨0x241000, 129, 0x4, 1, 0x0, [⟨31, 0, .ro, 0⟩]⟩ ]

/-- Registers of the block range at 0x00250000. -/
def regRows25_0 : List RegRow :=
  [ ⟨0x250000, 1, 0x0, 1, 0x0, [⟨19, 16, .ro, 0⟩, ⟨13, 8, .ro, 0⟩, ⟨1, 1, .ro, 0⟩, ⟨0, 0, .ro, 0⟩]⟩,
    ⟨0x250004, 1, 0x0, 1, 0x0, [⟨0, 0, .rw, 0⟩]⟩,
    ⟨0x250008, 1, 0x0, 1, 0x0, [⟨31, 24, .clr0, 0⟩, ⟨23, 16, .clr0, 0⟩, ⟨15, 8, .clr0, 0⟩, ⟨7, 0, .clr0, 0⟩]⟩,
    ⟨0x250010, 1, 0x0, 1, 0x0, [⟨31, 12, .rw, 0⟩]⟩,
    ⟨0x250014, 1, 0x0, 1, 0x0, [⟨31, 0, .rw, 0⟩]⟩,
    ⟨0x250018, 1, 0x0, 1, 0x0, [⟨24, 0, .rw, 0⟩]⟩,
    ⟨0x25001C, 1, 0x0, 1, 0x0, [⟨0, 0, .w1s, 0⟩]⟩,
    ⟨0x250020, 1, 0x0, 1, 0x0, [⟨31, 12, .rw, 0⟩, ⟨0, 0, .rw, 0⟩]⟩,
    ⟨0x250024, 1, 0x0, 1, 0x0, [⟨12, 0, .rw, 0⟩]⟩,
    ⟨0x250100, 8, 0x10, 1, 0x0, [⟨31, 12, .rw, 0⟩, ⟨1, 1, .rw, 0⟩, ⟨0, 0, .rw, 0⟩]⟩,
    ⟨0x250104, 8, 0x10, 1, 0x0, [⟨31, 0, .rw, 0⟩]⟩,
    ⟨0x250108, 8, 0x10, 1, 0x0, [⟨31, 12, .rw, 0⟩]⟩,
    ⟨0x25010C, 8, 0x10, 1, 0x0, [⟨31, 0, .rw, 0⟩]⟩,
    ⟨0x250200, 5, 0x10, 1, 0x0, [⟨31, 31, .w1s, 0⟩, ⟨30, 30, .ro, 0⟩, ⟨29, 27, .ro, 0⟩, ⟨26, 25, .ro, 0⟩, ⟨11, 0, .ro, 0⟩]⟩,
    ⟨0x250204, 5, 0x10, 1, 0x0, [⟨31, 0, .ro, 0⟩]⟩,
    ⟨0x250208, 5, 0x10, 1, 0x0, [⟨31, 0, .ro, 0⟩]⟩ ]

/-- Registers of the block range at 0x00250000, continued. -/
def regRows25_1 : List RegRow :=
  [ ⟨0x250400, 1, 0x0, 1, 0x0, [⟨11, 0, .rw, 0⟩]⟩,
    ⟨0x250404, 1, 0x0, 1, 0x0, [⟨31, 31, .rw, 0⟩, ⟨30, 30, .w1s, 0⟩, ⟨29, 29, .w1c, 0⟩, ⟨28, 28, .ro, 0⟩, ⟨27, 25, .ro, 0⟩, ⟨24, 24, .ro, 0⟩]⟩,
    ⟨0x250420, 8, 0x4, 1, 0x0, [⟨31, 0, .rw, 0⟩]⟩,
    ⟨0x250800, 256, 0x4, 1, 0x0, [⟨5, 0, .rw, 0⟩]⟩ ]

/-- All registers of the block range at 0x00250000. -/
def regRows25 : List RegRow := regRows25_0 ++ regRows25_1

/-- Registers of the block range at 0x00260000. -/
def regRows26 : List RegRow :=
  [ ⟨0x260000, 1, 0x0, 1, 0x0, [⟨19, 19, .ro, 0⟩, ⟨18, 18, .ro, 0⟩, ⟨17, 17, .ro, 0⟩, ⟨16, 16, .ro, 0⟩, ⟨15, 8, .ro, 0⟩, ⟨4, 4, .ro, 0⟩, ⟨3, 0, .ro, 0⟩]⟩,
    ⟨0x260004, 1, 0x0, 1, 0x0, [⟨31, 24, .rw, 0x10⟩, ⟨23, 16, .rw, 4⟩]⟩,
    ⟨0x260008, 1, 0x0, 1, 0x0, [⟨31, 16, .ro, 0⟩, ⟨5, 0, .ro, 0⟩]⟩,
    ⟨0x26000C, 1, 0x0, 1, 0x0, [⟨5, 0, .rw, 0⟩]⟩,
    ⟨0x260010, 4, 0x4, 1, 0x0, [⟨31, 0, .ro, 0⟩]⟩,
    ⟨0x260020, 1, 0x0, 1, 0x0, [⟨2, 2, .w1c, 0⟩, ⟨1, 1, .w1c, 0⟩, ⟨0, 0, .w1c, 0⟩]⟩,
    ⟨0x260024, 1, 0x0, 1, 0x0, [⟨2, 0, .rw, 7⟩]⟩ ]

/-- The rows that can lie in the 64 KiB range number `b` (offset / 0x10000): LNK repeats per port, so the rows of
ports 1 to 3 are those of port 0. -/
def regRowsOf (b : Nat) : List RegRow :=
  match b with
  | 0x00 => regRows00
  | 0x01 => regRows01
  | 0x02 => regRows02
  | 0x03 => regRows03
  | 0x04 => regRows04
  | 0x05 => regRows05
  | 0x06 => regRows06
  | 0x07 => regRows07
  | 0x08 => regRows08
  | 0x10 => regRows10
  | 0x11 => regRows10
  | 0x12 => regRows10
  | 0x13 => regRows10
  | 0x14 => regRows14
  | 0x18 => regRows18
  | 0x1C => regRows1C
  | 0x1D => regRows1D
  | 0x1E => regRows1E
  | 0x20 => regRows20
  | 0x21 => regRows21
  | 0x22 => regRows22
  | 0x23 => regRows23
  | 0x24 => regRows24
  | 0x25 => regRows25
  | 0x26 => regRows26
  | _ => []

/-- Whether the element of `r` at offset `x` exists: `x` = base + i × s1 + j × s2 with i < n1 and j < n2. -/
def RegRow.covers (r : RegRow) (x : Nat) : Bool :=
  decide (r.base ≤ x) &&
    (let d := x - r.base
     let j := if r.n2 = 1 then 0 else d / r.s2
     let e := d - j * r.s2
     let i := if r.n1 = 1 then 0 else e / r.s1
     decide (j < r.n2) && decide (i < r.n1) && decide (e = i * r.s1))

/-- The fields of the register at offset `x`: empty where no register lies (R417). -/
def regFields (x : Nat) : List RegField :=
  match (regRowsOf (x / 0x10000)).find? (fun r => r.covers x) with
  | some r => r.fields
  | none => []

/-- The value of a word whose fields are all at reset. -/
def resetOfFields : List RegField → Nat
  | [] => 0
  | f :: t => f.rst * 2 ^ f.lo + resetOfFields t

/-- The reset value of the register at offset `x` (R420); 0 where no register lies. -/
def resetWord (x : Nat) : Nat := resetOfFields (regFields x)

end Sys2Proof.Machine
end

