-- ==== Sys2Proof/Machine/SMap.lean ====
section
/-! DEFINITION. Sparse data by key: a list of (key, value) pairs in one canonical form, keys strictly rising and no
entry equal to what an unlisted key reads as. The register space, the tables and the on-chip stores of the node are
held this way, so that equal contents are equal data. -/

namespace Sys2Proof.Machine

/-- Sparse map from `Nat` keys; what an unlisted key reads as is the `d` of the operations. -/
abbrev SMap (α : Type) := List (Nat × α)

/-- The value at key `k`. -/
def SMap.get {α : Type} (d : Nat → α) (m : SMap α) (k : Nat) : α :=
  match m with
  | [] => d k
  | (j, v) :: t => if j = k then v else SMap.get d t k

/-- Puts a pair at its place by key. -/
def SMap.insert {α : Type} (m : SMap α) (k : Nat) (v : α) : SMap α :=
  match m with
  | [] => [(k, v)]
  | (j, w) :: t => if k < j then (k, v) :: (j, w) :: t else (j, w) :: SMap.insert t k v

/-- Drops the entry of key `k`. -/
def SMap.erase {α : Type} (m : SMap α) (k : Nat) : SMap α :=
  match m with
  | [] => []
  | (j, w) :: t => if j = k then SMap.erase t k else (j, w) :: SMap.erase t k

/-- Writes `v` at key `k`; a value equal to what an unlisted key reads as removes the entry. -/
def SMap.set {α : Type} [DecidableEq α] (d : Nat → α) (m : SMap α) (k : Nat) (v : α) : SMap α :=
  if v = d k then SMap.erase m k else SMap.insert (SMap.erase m k) k v

/-- The entry of key `k`, for maps in which an unlisted key means absence. -/
def SMap.find {α : Type} (m : SMap α) (k : Nat) : Option α :=
  match m with
  | [] => none
  | (j, v) :: t => if j = k then some v else SMap.find t k

/-- Writes an entry of a map in which an unlisted key means absence. -/
def SMap.put {α : Type} (m : SMap α) (k : Nat) (v : α) : SMap α := SMap.insert (SMap.erase m k) k v

/-- Every key of `m` is above `k`. -/
def SMap.above {α : Type} (k : Nat) : SMap α → Bool
  | [] => true
  | (j, _) :: t => decide (k < j) && SMap.above k t

/-- Keys strictly rising. -/
def SMap.sorted {α : Type} : SMap α → Bool
  | [] => true
  | (j, _) :: t => SMap.above j t && SMap.sorted t

/-- No entry equal to what its key reads as unlisted. -/
def SMap.reduced {α : Type} [DecidableEq α] (d : Nat → α) : SMap α → Bool
  | [] => true
  | (j, v) :: t => decide (v ≠ d j) && SMap.reduced d t

/-- The canonical form. -/
def SMap.wf {α : Type} [DecidableEq α] (d : Nat → α) (m : SMap α) : Bool :=
  SMap.sorted m && SMap.reduced d m

end Sys2Proof.Machine
end

