-- ==== Sys2Proof/Machine/PartsNode.lean ====
section
/-! DEFINITION. The parts of the state that every role holds beside the register space: power, pins, interrupts,
the Blot log, time, what leaves the node, and the contents that MRAM keeps. Registers themselves live in
`State.regs`; a part holds what the chapters describe and no register shows whole. -/

namespace Sys2Proof.Machine

/-- The role in effect (*Table — Role strap encoding*), numbered 0 tile, 1 head, 2 branch, 3 recovery. -/
inductive Role where
  | tile | head | branch | recovery
  deriving DecidableEq, Repr

/-- The power states (R43), encoded 0x0 to 0x6 in this order. -/
inductive PState where
  | off | boot | ready | active | dim | park | shutdown
  deriving DecidableEq, Repr

/-- Groups of balls (*Table — Ball groups*, *Table — Ball use by role*), split where the boundary-scan chain of R32 or a
role's use differs within a group. -/
inductive BallGroup where
  | broash | sourceLanes | pcie | peSideband | ddrSingle | ddrStrobes | ospi | i2c | localPort | jtag
  | control | safeN | sync | xtal | straps | drive | iref
  deriving DecidableEq, Repr

/-- The groups, in the order of the tables. -/
def ballGroups : List BallGroup :=
  [.broash, .sourceLanes, .pcie, .peSideband, .ddrSingle, .ddrStrobes, .ospi, .i2c, .localPort, .jtag,
    .control, .safeN, .sync, .xtal, .straps, .drive, .iref]

/-- Whether a role uses a group (*Table — Ball use by role*). The recovery role uses the LOCAL port and PCI Express where
the board wires them. -/
def Role.uses (r : Role) (g : BallGroup) : Bool :=
  match g with
  | .broash | .ospi | .i2c | .jtag | .control | .xtal | .straps => true
  | .sourceLanes | .ddrSingle | .ddrStrobes | .sync => decide (r = .head)
  | .pcie | .peSideband => decide (r = .head ∨ r = .recovery)
  | .localPort => decide (r = .tile ∨ r = .recovery)
  | .safeN => decide (r = .head ∨ r = .tile)
  | .drive | .iref => decide (r = .tile)

/-- Whether the boundary-scan chain covers a group (R32). -/
def BallGroup.scanned : BallGroup → Bool
  | .ospi | .i2c | .localPort | .control | .safeN | .sync | .straps | .peSideband | .ddrSingle => true
  | .broash | .sourceLanes | .pcie | .ddrStrobes | .jtag | .xtal | .drive | .iref => false

/-- What the balls of the drive die do (R29, R41, R48): high impedance, held at the off level, or played by the scan. -/
inductive DrivePins where
  | highZ | offLevel | scanned
  deriving DecidableEq, Repr

/-- A request that R45 accepts: a state, or the warm reset (target BOOT). -/
inductive PReq where
  | state (p : PState)
  | warm
  deriving DecidableEq, Repr

/-- A transition in progress (R46): its target, whether it is a warm reset, and the work still to be done. -/
structure Trans where
  req      : PReq
  workDone : Bool
  since    : Word               -- tick boundary at which it started
  deriving DecidableEq, Repr

/-- Power, pins and rails (R40 to R52, R426). -/
structure Power where
  state     : PState
  trans     : Option Trans
  queued    : Option PReq
  railsGood : BitVec 8          -- PWR_RAIL_STAT.GOOD
  railsRisen : BitVec 8         -- rails above 0.3 V, in GOOD's bit order (R41)
  safeN     : Bool              -- level of SAFE_N
  wakePin   : Bool              -- level of WAKE
  powerOffN : Bool              -- level of POWER_OFF_N
  thermalLatch : Bool
  held      : Nat               -- reset asserted and not released: 0 none, 1 power-on, 2 brown-out (R426)
  fromWake  : Bool              -- BOOT was entered by a wake (R52)
  bootWait  : Bool              -- BOOT entered, required rails not all good yet
  strapped  : Bool              -- straps sampled since entry into BOOT (R37)
  fwStarted : Bool              -- firmware has started since entry into BOOT
  noForward : Bool              -- entering OFF: no further commands (steps of entering OFF)
  domReset  : Option Word       -- a domain reset instant waiting (R187)
  wakeSeen  : Bool              -- WAKE came while the node was entering OFF (R47)
  tapReset  : Bool              -- the test access port is held in its reset state, JTAG_TRST_N being low (R32)
  scanPins  : List BallGroup    -- groups that boundary scan drives (R32)
  pulls     : Bool              -- the strap pull-downs are enabled (R37)
  groups    : List BallGroup    -- groups whose interface is powered (R33)
  deriving DecidableEq, Repr

/-- Interrupt state outside ICU_SRC: the priority stacks, top first (R355), and Quill's own mask and sleep (R360). -/
structure Icu where
  stack0   : List Nat
  stack1   : List Nat
  presented1 : Option Nat        -- source presented to processor 1
  sent1    : Bool               -- a message was sent to processor 1 and no claim has followed (R359)
  quillMask : Bool              -- Quill's global interrupt mask (R360)
  vector   : Option Word        -- address handed to Quill at the last claim (R356)
  deriving DecidableEq, Repr

/-- A blot (R396). -/
structure Blot where
  dtime  : Word
  fn     : Word
  node   : NodeId
  cls    : Nat
  block  : Nat
  nested : Bool
  code   : Nat
  epoch  : BitVec 16
  p0     : Word
  p1     : Word
  p2     : Word
  bseq   : Word
  deriving DecidableEq, Repr

/-- The Blot log of this node (R397 to R401): the SRAM ring, the blots whose MRAM write waits for NVM_STAT.BUSY,
the count of EVT BLOT in the running interval, and the state of fault handling. -/
structure BlotLog where
  sram      : SMap Blot
  mramWait  : List Blot
  evtSent   : Nat
  fatal     : Bool              -- the blot being handled is FATAL and leads to the hold state
  nestedHit : Bool              -- a nested blot interrupted the handling
  work      : Bool              -- steps 2 to 5 of R399 are due
  violSent  : Option Nat        -- `upNs` of the last SEC_VIOL blot (R370)
  deriving DecidableEq, Repr

/-- The five values of TIME_SCHED (R198), with the apply tick of a schedule that waits. -/
structure Sched where
  at_  : Word
  int  : Word
  frac : Word
  afn  : Word
  adt  : Word
  aacc : Word
  deriving DecidableEq, Repr

/-- What the time unit holds beside its registers (R197 to R215). -/
structure Clock where
  dtime    : Word
  fn       : Word
  htNs     : Nat                -- live HT_NS
  htSec    : Word               -- live HT_SEC
  htLatch  : Option Word        -- HT_SEC latched by the last read of TIME_HT_NS (R212)
  htPend   : Option Word        -- HT_SEC written, waiting for the rollover (R213)
  isMaster : Bool               -- this head is timing master (R202)
  hasMaster : Bool
  step     : Option Int         -- offset to add to DTIME at the next tick start (R206)
  lastSync : Option Nat         -- `upNs` at the last SYNC from the master on any port
  good     : Nat                -- consecutive filtered offsets within 50 ns (R204)
  refGood  : Nat                -- consecutive edges of the reference within 1 µs of their expected times (R210)
  refBad   : Nat
  parents  : List (Nat × Nat × Nat)  -- port, HOPS and `upNs` of the last SYNC from the master, one per port
  delays   : List (Nat × List Int)  -- (port, last answers of R201 in 1/256 ns, newest first)
  dreqAt   : List (Nat × Int)   -- (port, transmit time t1 of the DREQ waiting for its answer, in 1/256 ns)
  refill   : List Nat           -- ports whose average was cleared (R201)
  scheds   : List Sched         -- schedules that wait for their apply tick, in the order of acceptance (R199)
  rephased : Option Word        -- apply tick of the last re-phase (R209)
  upNs     : Nat                -- time since BOOT in ns, for periods longer than DTIME (R350, R389)
  yielding : Bool               -- a master that yielded slews until it has settled on the new one (R202)
  stepped  : Bool               -- DTIME was set to the first sample; a tile has its slots still to free (R206)
  slewing  : Int                -- ns that slewing has still to move DTIME by (R204, R206)
  slewAt   : Nat                -- `upNs` up to which that slewing has used its 10 ppm (R206)
  edge     : Option Nat         -- `upNs` at the last edge of the selected reference (R210)
  prev     : Option Word        -- start of the tick before the running one, whose schedule may have been another (R198)
  prevLead : Option Nat         -- the lead of the tick before the running one, which may have been another (R25, R128)
  deriving DecidableEq, Repr

/-- A packet handed to a port (R175): SEQ, CRC and link encryption are the link's and come when the packet starts to leave. -/
structure Pkt where
  type : Nat
  dest : NodeId
  src  : NodeId
  body : List Word
  stomped : Bool
  enc  : Bool                   -- a PATCH that leaves encrypted under the link's key (R191)
  own  : Bool                   -- of this node, not forwarded (R185)
  tshow : Option Word           -- TSHOW of a PATCH, SEAL or VOID (R163)
  deriving DecidableEq, Repr

/-- Reply of a command (R288). -/
structure Reply where
  status : Nat
  fwd    : Bool
  late   : Bool
  client : ClientId
  tag    : BitVec 16
  source : NodeId
  epoch  : BitVec 16
  tick   : Word
  result : List Word
  deriving DecidableEq, Repr

/-- An event record for a client (R306). -/
structure EventRec where
  code   : Nat
  client : ClientId
  tag    : BitVec 16
  origin : NodeId
  eseq   : BitVec 16
  stamp  : Word
  fn     : Word
  params : List Word
  deriving DecidableEq, Repr

/-- Lane-layer control content (*Table — Control blocks*): the code and its payload words. -/
structure Ctl where
  code : Nat
  args : List Nat
  deriving DecidableEq, Repr

/-- What leaves the node at a boundary outside the model. -/
inductive Out where
  /-- A packet handed to a port for a logical lane; the codewords that carry it follow. -/
  | packet (port : Nat) (lane : Nat) (p : Pkt)
  /-- A control block handed to a port on a logical lane. -/
  | control (port : Nat) (lane : Nat) (c : Ctl)
  /-- A codeword on a physical lane: its 360 symbols of 10 bits in order (R146). Codewords of FILL blocks alone whose
  header says nothing new pass unlisted. -/
  | codeword (port : Nat) (phy : Nat) (symbols : List Nat)
  /-- The wake burst of 64 UI of 0b1100 on a physical lane (R157). -/
  | wakeBurst (port : Nat) (phy : Nat)
  /-- A reply to a client at the LOCAL port of a tile. -/
  | localReply (r : Reply)
  | localEvent (e : EventRec)
  /-- Words written to host memory at a bus address by a bus-master channel. -/
  | hostWrite (channel : Nat) (address : Nat) (words : List Word)
  /-- Bytes written there, where the address is not that of a word. -/
  | hostBytes (channel : Nat) (address : Nat) (bytes : List Nat)
  /-- An NVMe Write of the journal (R322): device, Namespace ID, first LBA, blocks and the physical addresses of its pages. -/
  | nvmeWrite (device : Nat) (namespace_ : Nat) (lba : Nat) (blocks : Nat) (prp : List Nat)
  /-- The MSI-X message of a vector (R320). -/
  | msix (vector : Nat)
  /-- A register read and the value the reader gets. -/
  | readValue (offset : Nat) (value : Word)
  /-- The program store a helper sequencer changes to (R353). -/
  | helperStore (sequencer : Nat)
  /-- A row slot on the lamps: subframe, row slot, and for each conducting lamp its gray clocks and its current in 1/16 µA
  (R245). -/
  | rowSlot (sub : Nat) (row : Nat) (lamps : List (Nat × Nat × Nat))
  /-- The probe of a lamp in the dead time after its row slot: gray clocks and current in 1/16 µA (R257). -/
  | probe (lamp : Nat) (gclk : Nat) (current : Nat)
  /-- After a trip the row's gate is at its off level, and its half's sinks are off for the rest of the slot (R250). -/
  | rowOff (row : Nat)
  /-- The rail-stage outputs low, every sink and every gate off, within 1 µs (R48). -/
  | driveOff
  /-- Every SNK and every GATE ball at high impedance (R29, *Table — Power states by role*). -/
  | driveHighZ
  deriving DecidableEq, Repr

/-- What the MRAM node records, secure pages and wear counters keep across every reset (*Table — MRAM page map*). The
byte layout of the node records is not given, so they are held as fields. -/
structure Saved where
  nodeId   : Word               -- LNK_NODE_ID
  heads    : SMap Word          -- LNK_HEAD by index
  routes   : SMap Word          -- LNK_ROUTE and LNK_ROUTE_PORT by register offset
  partner  : NodeId             -- RED_STAT.PARTNER
  headId   : Bool
  redEpoch : BitVec 16
  tilePair : Word               -- RED_TILE_CFG
  follow   : Bool
  faultEpoch : BitVec 16
  blotRing : SMap Blot          -- pages 1,024 to 1,055
  mnext    : Nat
  bankMap  : List Nat           -- 16 physical banks; [] when none is saved
  spare    : Option Nat         -- physical bank held as spare while free; meaningful when bankMap is not []
  activeCal : Bool              -- the active calibration copy (R231): false copy 0, true copy 1
  vset     : Option Nat         -- stored V_SET (R253)
  retiredLanes : BitVec 12      -- bit 3p + m, erased at power-on (R170)
  ceilWall : List Nat           -- COR_CEIL_WALL by colour; [] when never written
  ledger   : SMap Nat           -- ageing ledger by lamp index (pages 1,056 to 1,730)
  cpcLog   : SMap (List Word)   -- Coppice log entries (R391)
  cpcTotal : Nat
  cpcNext  : Nat
  deriving DecidableEq, Repr

/-- The keys and sequence records of the security unit (pages 0 to 938, R188, R292, R293). Key values are 256-bit. -/
structure Keys where
  client0  : Option (BitVec 256)
  domain   : Option (BitVec 256)
  clients  : SMap (BitVec 256)
  stations : SMap (List Word)   -- P-384 point of slot 0 to 3
  cseq     : SMap Nat           -- last CSEQ accepted, by client
  orig     : Nat                -- ORIG of the next authenticated packet; the reservation lies 2^20 above (R188)
  origEnd  : Bool               -- ORIG has come to its end (R188)
  origSaid : Bool               -- and the blot is logged
  deriving DecidableEq, Repr

def Power.reset : Power :=
  ⟨.off, none, none, 0xFF, 0xFF, true, false, true, false, 0, false, false, false, false, false, none, false, true, [], false, []⟩
def Icu.reset : Icu := ⟨[], [], none, false, false, none⟩
def BlotLog.reset : BlotLog := ⟨[], [], 0, false, false, false, none⟩
def Clock.reset : Clock :=
  ⟨0, 0, 0, 0, none, none, false, false, none, none, 0, 0, 0, [], [], [], [], [], none, 0, false, false, 0, 0, none, none, none⟩
def Saved.reset : Saved :=
  ⟨0, [], [], 0, false, 0, 0, false, 0, [], 0, [], none, false, none, 0, [], [], [], 0, 0⟩
def Keys.reset : Keys := ⟨none, none, [], [], [], 0, false, false⟩

end Sys2Proof.Machine
end

