-- ==== Sys2Proof/Machine/PartsComp.lean ====
section
/-! DEFINITION. The parts of the state of a head's sources and compositor: source frames and tables (chapter *Source
ingest*), windows, filters, tile descriptors, Inkwell and preview (chapters *Windows* and *Tile mapping*). -/

namespace Sys2Proof.Machine

/-- A stored pixel: three 12-bit storage codes and alpha 0 to 1,024 (R75). -/
structure Px where
  r : Nat
  g : Nat
  b : Nat
  a : Nat
  deriving DecidableEq, Repr

/-- The state of a stored line (chapter *Source ingest*, frame geometry). -/
inductive LineState where
  | valid | missing | padded | crcerr
  deriving DecidableEq, Repr

/-- A stored line. -/
structure SrcLine where
  st : LineState
  px : List Px
  deriving DecidableEq, Repr

/-- A frame of a source: its SRC_FCNT value, the lines of level 0 and of the pyramid levels by line number (an unlisted
line is MISSING), when it completed, and whether it is regular (R79). -/
structure SrcFrame where
  no     : Nat
  l0     : SMap SrcLine
  l1     : SMap SrcLine
  l2     : SMap SrcLine
  doneAt : Word
  firstAt : Word               -- DTIME at which the first active line arrived (R82)
  regular : Bool
  deriving DecidableEq, Repr

/-- The four codes of a pixel after stage 2: three components and alpha (R67, R68). -/
structure Code where
  c0 : Nat
  c1 : Nat
  c2 : Nat
  al : Nat
  deriving DecidableEq, Repr

/-- The frame being received. The conversion tables are those in force when its first line arrived (R74). -/
structure CurFrame where
  lines  : SMap SrcLine
  raw    : SMap (List (Option Code))  -- lines of a flow not yet covered whole: what has come of them
  cut    : List Nat            -- lines of a flow that ran past the configured width
  got    : List Nat            -- active lines that came, by their number in the frame
  long   : Bool
  badlen : Bool
  gap    : Bool                -- lines the quad-link lost
  crc    : Bool
  firstAt : Word
  cmat   : List Word
  lmat   : List Word
  tf     : SMap Nat            -- the transfer table in force, by index
  rtp    : Option Word
  f2     : Option Word         -- field 2 has begun: its RTP timestamp, 0 on SDI (R59)
  house  : Nat                 -- house time H at the first packet (R65)
  ended  : Option Nat          -- `upNs` at which a flow frame ended (R63)
  stored : Bool                -- false: every buffer is in use, the frame is dropped unstored (R81)
  deriving DecidableEq, Repr

/-- What the head keeps of one source beside its registers. -/
structure Source where
  bufs    : List (Nat × Nat)   -- host buffers: bus address and line pitch (R66)
  frames  : List SrcFrame      -- completed frames held, newest first
  cur     : Option CurFrame
  waiting : List CurFrame      -- flow frames that have ended and may still be filled by the other leg, oldest first (R62)
  count   : Nat                -- SRC_FCNT of the newest completed frame
  badRun  : Nat
  goodRun : Nat
  freezeRun : Nat
  blackRun : Nat
  lastSig : Option Nat
  fetching : Option Nat        -- host buffer being fetched
  heldBell : Option Nat        -- doorbell held (R66)
  chaseRun : Nat               -- consecutive frames inside their intervals (R82)
  pick    : Option Nat         -- frame taken at the last tick, by SRC_FCNT value (R81)
  since   : Bool               -- a frame has completed since the source was last enabled (R94)
  fbStart : Option Word        -- first tick of the fallback, while the source is in fallback
  hold    : Option SrcFrame    -- the hold frame of R94
  seqs    : List (Nat × Nat × Nat)  -- accepted packets: sequence, filter and `upNs` of arrival, 1,024 a filter (R61, R62)
  lastRtp : List Word          -- RTP timestamps of the fields of the last flow frame that ended (R63)
  deriving DecidableEq, Repr

/-- Ingest (R53 to R83). -/
structure Ingest where
  gmode   : List Nat           -- mode of each group in effect
  srcs    : SMap Source
  tf      : SMap Nat           -- active tables TF, by table × 4,096 + index
  tfShadow : SMap Nat
  slut    : SMap Nat
  slutShadow : SMap Nat
  swaps   : List Nat           -- tables whose swap waits for the next tick (R74)
  irregular : List (Nat × Nat) -- sources and frames completed irregular, for the late change of cause 3 (R134)
  completed : List (Nat × SrcFrame)  -- frames stored while the journal runs, not yet in its records (R327)
  deriving DecidableEq, Repr

/-- A window: its owner and descriptor words 0 to 13 (R84). -/
structure Win where
  owner : ClientId
  words : List Word
  deriving DecidableEq, Repr

/-- An Inkwell entry as Espalier reads it (R115, R116): the tag's K, and per pixel the blend after K stack positions with
the CLAMPED and COVERED flags. -/
structure InkEntry where
  k     : Nat
  vals  : List (Nat × Nat × Nat)
  clamped : List Bool
  covered : List Bool
  deriving DecidableEq, Repr

/-- A Privet item: its content bytes (*Table — Privet item content*). -/
abbrev PrivetItem := List Nat

/-- What a window shows in a frame (R81, R82, R94, R113): nothing, its fill colour, a held or latched frame, or the frame
its source's pick names. -/
inductive Shows where
  | hidden
  | fill
  | still (f : SrcFrame)
  | pick (no : Nat)
  deriving DecidableEq, Repr

/-- The configuration a frame is composed from (R25, R86): taken at C(F). -/
structure FrameCfg where
  wins   : SMap Win
  order  : Word                -- CMP_PLANE_ORDER in effect
  bg     : List Nat            -- CMP_BG in effect, three components
  tiles  : SMap (List Word)
  items  : SMap PrivetItem
  shown  : List Nat            -- Privet items shown, ascending
  filt   : SMap Int
  wlut   : SMap Nat
  slut   : SMap Nat
  prevEn : Bool
  shows  : SMap Shows          -- by window
  poison : List (Nat × Nat)    -- sources and lines read poisoned while a patch is composed (R349)
  deriving DecidableEq, Repr

/-- The compositor. -/
structure Comp where
  windows  : SMap Win
  tiles    : SMap (List Word)  -- tile descriptors: words 0 to 7
  winShown : SMap Win          -- CMP_WDESC and CMP_WIN_COUNT, as updated at the last tick boundary
  tileShown : SMap (List Word) -- CMP_TDESC and CMP_TILE_COUNT, as updated at the last tick boundary
  filt     : SMap Int          -- active coefficients, by set × 1,152 + index
  filtShadow : SMap Int
  filtSwaps : List Nat         -- sets whose swap waits for the next C (R98)
  wlut     : SMap Nat          -- active encode tables, by table × 4,096 + index
  wlutShadow : SMap Nat
  wlutSwaps : List Nat
  orderCmd : Option Nat        -- order of a PLANE_ORDER command applied for the coming tick (R90)
  filtDone : List Nat          -- filter sets swapped since the last frame was begun (R111, R117)
  wlutDone : List Nat          -- wire tables swapped since the last frame was begun (R109)
  slutDone : Bool              -- SLUT was swapped since the last frame was begun (R117)
  tags     : SMap Nat          -- bank 5: Inkwell tag bytes, by 60 × descriptor + patch (R115)
  inval    : Bool              -- CMP_INK_CTL.INVAL waits (R117)
  area     : SMap (BitVec 64)  -- DRAM: words of the Inkwell entry area and the preview area, by address / 8 (R115, R118)
  prevDirty : List (Nat × Nat) -- patches written to the preview area and not yet exported (R319)
  latched  : SMap (Option SrcFrame)  -- by window (R113)
  placed   : List Nat          -- descriptors placed or removed since the last C
  reloaded : List Nat          -- Privet items loaded since the last C
  last     : Option FrameCfg   -- configuration of the last frame begun
  lanesUsed : List Nat         -- working positions that have composed in the running tick (R126)
  since    : List (List (Nat × Nat))  -- per working position, patches composed since its last passed check
  retire   : List Nat          -- pixel lanes to retire at the next tick boundary
  remark   : List (Nat × Nat)  -- patches to mark changed in the next frame (R126)
  seed     : BitVec 64         -- the pseudo-random seed state (R268, R327)
  admFail  : Option (Nat × Nat)  -- budget and port of the last refusal, until the next tick boundary (R119)
  deriving DecidableEq, Repr

def Source.reset : Source := ⟨[], [], none, [], 0, 0, 0, 0, 0, none, none, none, 0, none, false, none, none, [], []⟩
def Ingest.reset : Ingest := ⟨[3, 3], [], [], [], [], [], [], [], []⟩
def Comp.reset : Comp :=
  ⟨[], [], [], [], [], [], [], [], [], [], none, [], [], false, [], false, [], [], [], [], [], none, [], [[], [], [], []], [], [],
    0, none⟩

end Sys2Proof.Machine
end

