-- ==== Sys2Proof/Machine/PartsHead.lean ====
section
/-! DEFINITION. The parts of the state a head holds for its clients, its commands and the frames it pushes
(chapters *Command set*, *Timed commit and run-ahead*, *Redundancy*). -/

namespace Sys2Proof.Machine

/-- An entry of the client table (R290). -/
structure Client where
  isOpen  : Bool
  authReq : Bool
  cls     : Nat
  rights  : Nat
  deriving DecidableEq, Repr

/-- A command accepted and not yet applied (R299 to R303), with the tick it will act at; `mirror` marks one that
draws no reply: a command mirrored by the active head (R266), or one whose ring was reset since (R316). -/
structure Accepted where
  opcode : Nat
  cmd    : Cmd
  tick   : Word
  late   : Bool
  mirror : Bool
  deriving DecidableEq, Repr

/-- A command forwarded over Broash whose RPL is awaited (R186, R296). -/
structure Forwarded where
  client  : ClientId
  tag     : BitVec 16
  target  : NodeId
  noReply : Bool
  opcode  : Nat
  deriving DecidableEq, Repr

/-- A broadcast whose RPLs are being gathered (R297): the counted nodes and the statuses that have come. -/
structure Gather where
  client  : ClientId
  tag     : BitVec 16
  noReply : Bool
  tick    : Word
  late    : Bool
  counted : List NodeId
  got     : List (NodeId × Nat)
  opcode  : Nat
  deriving DecidableEq, Repr

/-- A command answered PENDING whose CMD_DONE is due (R289). -/
structure PendingDone where
  opcode : Nat
  client : ClientId
  tag    : BitVec 16
  route  : Route
  deriving DecidableEq, Repr

/-- A reply staged for the ring of a client, an event staged for its client's event ring, or the stop that follows the
reply to a bad header (R317). -/
inductive Staged where
  | reply (ring : ClientId) (r : Reply)
  | event (e : EventRec)
  | stop (ring : ClientId)
  deriving DecidableEq, Repr

/-- Clients and commands (R286 to R306). -/
structure Cmds where
  clients   : SMap Client
  shown     : SMap Word                     -- CMD_CLIENT as updated at the last tick boundary
  accepted  : List Accepted                 -- in the order of acceptance (R303)
  forwarded : List Forwarded
  gathers   : List Gather
  done      : List PendingDone
  watches   : List (ClientId × Nat × Nat)   -- client, source, events (SRC_WATCH)
  staged    : List Staged                   -- replies and events waiting for their reply ring (R318), oldest first
  journal   : List EventRec                 -- events blots not yet journalled (R327), oldest first
  userBusy  : Option (Cmd × Nat)                   -- customer command running in the user partition (R354)
  userMute  : Bool                          -- its ring was reset since: its reply is discarded (R316)
  deriving DecidableEq, Repr

/-- The state of one tile in one frame at the head (R133 to R135): its revision, the patches planned and not yet
composed, those sent, and whether a SEAL or a VOID has left. -/
structure TileFrame where
  rev     : Nat
  mask    : BitVec 60           -- the tile's changed-patch mask of the frame
  todo    : BitVec 60           -- planned, not yet composed
  plan    : BitVec 60           -- planned in this revision
  sent    : BitVec 60           -- sent in this revision
  base    : Option Word         -- BASE; none when the frame has none
  sealed  : Bool
  voided  : Bool                -- VOID sent with RECOMP = 0: nothing more is sent
  deriving DecidableEq, Repr

/-- What has taken effect in frames begun after a frame and clears Inkwell tags, beside what two configurations tell
(R117). -/
structure InkCause where
  filts  : List Nat             -- filter sets swapped
  placed : List Nat             -- descriptors placed or removed
  slut   : Bool                 -- SLUT swapped
  deriving DecidableEq, Repr

/-- One frame at the head from C(F) to its last push deadline. -/
structure HeadFrame where
  fn      : Word
  push    : Bool                -- its patches are sent (R135)
  cfg     : FrameCfg
  tiles   : SMap TileFrame      -- by descriptor
  order   : List (Nat × Nat)    -- descriptors and patches in the order in which they are composed (R124, R145)
  after   : InkCause
  dead    : List Nat            -- ports whose push deadline has passed
  picks   : SMap Nat            -- frame picked per source (R81), by source
  chase   : List (Nat × Word × Nat)  -- sources waiting for their interval: start of it, frame-sync pick (R82)
  falls   : SMap (Word × Option SrcFrame)  -- sources in fallback in this frame: its first tick, the hold frame (R94)
  canceled : Bool               -- cause 4: nothing further is composed
  deriving DecidableEq, Repr

/-- What the head keeps per descriptor between frames (R112, R124, R133, R142). -/
structure TileHist where
  good     : List Word          -- frames begun for the tile that have not failed, newest first
  carry    : BitVec 60          -- damage carried to the next mask (R112)
  deferred : List (Nat × Word)  -- patches deferred by R124 and the frame of the first deferral
  fullDue  : Bool               -- a Full frame is owed (R142)
  fullWait : Option Word        -- frame at which the owed Full frame was first deferred
  deriving DecidableEq, Repr

/-- The head's frames (chapter *Timed commit*). -/
structure HeadFrames where
  frames  : List HeadFrame      -- oldest first
  hist    : SMap TileHist
  active  : Bool                -- pushing (the head is ACTIVE)
  leadPend : Bool               -- an accepted LEAD_SET has not yet taken effect (R128)
  advNext : Option (Nat × Word) -- ADV of the accepted LEAD_SET and its apply tick
  lastC   : Option Word         -- the last frame for which C has taken place
  deriving DecidableEq, Repr

def Client.closed : Client := ⟨false, false, 0, 0⟩
def Cmds.reset : Cmds := ⟨[], [], [], [], [], [], [], [], [], none, false⟩
def HeadFrames.reset : HeadFrames := ⟨[], [], false, false, none, none⟩
def TileHist.reset : TileHist := ⟨[], 0, [], false, none⟩

end Sys2Proof.Machine
end

