-- ==== Sys2Proof/Machine/PartsHost.lean ====
section
/-! DEFINITION. The parts of the state for the host interface, the journal, memory, Quill, MRAM and firmware update
(chapters *Host interface*, *Copybook*, *On-chip memory and DRAM*, *Quill*, *Firmware update*), beside their registers. -/

namespace Sys2Proof.Machine

/-- A client's command, reply and event ring (R311, R316 to R318). -/
structure Ring where
  en      : Bool
  err     : Bool
  stopped : Bool
  reason  : Nat
  rfull   : Bool
  cfg     : List Word           -- the context loaded at the enable, eight words
  cmdPi   : Word
  cmdCi   : Word
  rplPi   : Nat
  rplCi   : Nat
  evtPi   : Nat
  evtCi   : Nat
  evdrop  : Nat
  holdoff : Bool                -- a message was sent less than COAL µs before
  msgDue  : Bool                -- a message was withheld
  deriving DecidableEq, Repr

/-- What the head's configuration space says of the function (R307). -/
structure PciFunction where
  device     : Nat
  classCode  : Nat
  maxPayload : Nat              -- bytes
  maxRead    : Nat              -- bytes of a read request
  tagBits    : Nat
  aer        : Bool
  msixVectors : Nat
  flr        : Bool
  aspmL1     : Bool
  intx       : Bool
  msi        : Bool
  aspmL0s    : Bool
  ats        : Bool
  deriving DecidableEq, Repr

/-- Its vendor ID is Skeirad's, whose value the spec does not give. -/
def PciFunction.vendor (_ : PciFunction) : Nat := Config.pciVendor

/-- The head's function (R307). -/
def PciFunction.head : PciFunction :=
  ⟨0x4310, 0x048000, 512, 4096, 10, true, 64, true, true, false, false, false, false⟩

/-- The PCI Express endpoint and bus mastering (R307 to R320). -/
structure HostIf where
  function : PciFunction        -- the identity and capabilities of configuration space (R307)
  msixOn   : Bool               -- MSI-X Enable of the MSI-X capability (assumption 52)
  msixMask : Bool               -- its Function Mask
  rings    : SMap Ring          -- by client
  ctx      : SMap Word          -- PCI_RING_CFG of every client: 8 × client + word
  mem      : HostMem            -- the host memory last shown to the head (assumption 51)
  cache    : List (Nat × BitVec 64)  -- cached table entries by physical address (R313)
  inval    : Bool               -- an invalidation is running
  msix     : SMap Word          -- MSI-X table by word
  pba      : List Nat           -- vectors whose message is pending
  toHead   : SMap Word          -- mailbox to the head
  fromHead : SMap Word
  prevq    : List (Nat × Nat)   -- preview patches of the tick just ended, not yet copied (R319)
  deriving DecidableEq, Repr

/-- A patch as OUTS records it: descriptor, patch, REV, UNDER and SIG (R327), with the number of its composed pixels that
the underrun entry of TICK gives. -/
structure OutRec where
  tile  : Nat
  patch : Nat
  rev   : Nat
  under : Bool
  upto  : Nat
  sig   : Nat
  deriving DecidableEq, Repr

/-- A VOID entry of a TICK record: descriptor, REV, RECOMP and CAUSE (R327). -/
structure VoidRec where
  tile   : Nat
  rev    : Nat
  recomp : Bool
  cause  : Nat
  deriving DecidableEq, Repr

/-- A journal record: TYPE, the FN of its tick and its payload words (R327). -/
structure JrnRec where
  type    : Nat
  fn      : Word
  dtime   : Word
  payload : List Word
  deriving DecidableEq, Repr

/-- An entry of a CMD record: the command as accepted, and whether it was a late change (R304, R327). -/
structure JrnCmd where
  opcode : Nat
  cmd    : Cmd
  late   : Bool
  deriving DecidableEq, Repr

/-- What the CMD, TICK and OUTS records hold of one tick (R327, R328): TICK_NS_INT, lead, ADV, LANES and the seed state at C,
the frame of each source, the frames of the windows whose frame is not their source's entry (none: a fill), and what was
sent. `madeAt` is DTIME at C. -/
structure JrnTick where
  fn     : Word
  madeAt : Word
  int    : Nat
  lead   : Nat
  adv    : Nat
  lanes  : Nat
  seed   : BitVec 64
  cmds   : List JrnCmd
  picks  : SMap Nat
  uses   : SMap (Option Nat)
  outs   : List OutRec
  voids  : List VoidRec
  deriving DecidableEq, Repr

/-- The composition state that a SNAP holds (*Table — Snapshot sections*), and that a re-run carries from tick to tick. -/
structure SnapState where
  wins    : SMap Win
  tiles   : SMap (List Word)
  items   : SMap PrivetItem
  shown   : List Nat
  clients : SMap Client
  order   : Word
  filt    : SMap Int
  tf      : SMap Nat
  slut    : SMap Nat
  wlut    : SMap Nat
  regs    : List (Nat × Word)   -- CMP_BG, CMP_INK_CTL, CMP_PREV_BASE, the SRC registers and flow filters, TIME_SCHED
  deriving DecidableEq, Repr

/-- A SNAP the journal holds: its tick, the RSEQ of its first record, and its content. -/
structure JrnSnap where
  fn   : Word
  seq  : Nat
  base : SnapState
  deriving DecidableEq, Repr

/-- A source frame recorded by SRCF: its tick, the count of its first record in the SRCF region, and the SRCD digests of its
lines, none when SRCD is not selected. -/
structure JrnFrame where
  source  : Nat
  frame   : SrcFrame
  seq     : Nat
  fn      : Word
  height  : Nat
  width   : Nat
  alpha   : Nat
  digests : Option (List Word)
  deriving DecidableEq, Repr

/-- The composition state of a re-run, kept beside the head's own (R329): what SNAP and the CMD records have made of it, the
configuration of the last journal tick, and what that tick left to the next masks. -/
structure Rerun where
  base  : SnapState
  alts  : List (Nat × SnapState)             -- it without the late changes of the last ticks, and how many ticks ago
  last  : Option FrameCfg
  hist  : SMap TileHist
  parts : Option (Nat × Nat × List Nat)      -- a PRIVET_LOAD whose FINAL part is still to come
  sealed : SMap Word                         -- by descriptor, the frame of this head last sealed on the output port
  deriving DecidableEq, Repr

/-- A re-run under way (R329 to R331). -/
structure Replay where
  client : ClientId
  tag    : BitVec 16
  route  : Route
  free   : Bool                 -- pacing 1
  port   : Option Nat           -- output port
  next   : Word
  last   : Word
  first  : Option (Word × Nat × Nat)  -- first mismatch: tick, tile node, patch
  silent : Bool                 -- a mirrored one: no CMD_DONE leaves (R266)
  run    : Option Rerun         -- none until the SNAP is loaded
  deriving DecidableEq, Repr

/-- An NVMe Write of the journal (R322): device, stripe, its place in the bounce area, and whether it is the retry. -/
structure NvmeWrite where
  dev     : Nat
  stripe  : Nat
  slot    : Nat
  retried : Bool
  deriving DecidableEq, Repr

/-- What channel 2 has still to do at the NVMe queues, in order (R322): read a completion, ring a doorbell, submit a write. -/
inductive NvmeOp where
  | read (dev status : Nat)
  | bell (pa value : Nat)
  | submit (w : NvmeWrite)
  deriving DecidableEq, Repr

/-- The journal (R321 to R331). -/
structure Jrn where
  configured : Bool
  base     : Nat                -- IOVA of the host ring or of the bounce area
  size     : Nat                -- ring size in bytes
  devs     : List (List Word)   -- NVMe descriptors
  main     : Nat                -- next RSEQ of the main part
  srcf     : Nat                -- next RSEQ of the SRCF region, bit 63 aside
  ci       : Nat
  staged   : List JrnRec        -- records waiting for the target, oldest first
  lost     : List Word          -- ticks whose records were discarded, not yet named by a GAP
  dropped  : List Word          -- ticks whose further records are discarded too (R325)
  snapDue  : Bool
  snapped  : List JrnSnap       -- ticks with a SNAP
  gaps     : List (Word × Word)
  ticks    : List JrnTick       -- journalled ticks, oldest first
  frames   : List JrnFrame      -- source frames recorded by SRCF
  cmdsNow  : List JrnCmd        -- CMD entries of the frame being composed
  opened   : List JrnTick       -- frames past C whose TICK and OUTS are not complete
  outs     : List (Word × OutRec)
  voids    : List (Word × VoidRec)
  fly      : List NvmeWrite     -- NVMe writes in progress, oldest first
  ops      : List NvmeOp
  mainSlot : Option Nat         -- place in the bounce area of the stripe being built of the main part
  srcfSlot : Option Nat         -- and of the SRCF region
  tails    : List Nat           -- submission queue tails by device
  cqHeads  : List Nat           -- completion queue heads by device
  replay   : Option Replay
  restore  : Bool               -- a replay has ended, and the head's state stands again from the next tick (R329)
  deriving DecidableEq, Repr

/-- A SELFTEST under way: whom to answer, and masks of the kinds still running, passed and failed. -/
structure SelfTest where
  done    : PendingDone
  waiting : Nat
  passed  : Nat
  failed  : Nat
  deriving DecidableEq, Repr

/-- A request queued at the DRAM controller (R347): the 64-byte burst, and for a write its eight words. -/
structure DramReq where
  burst : Nat
  write : Option (List (BitVec 64))
  deriving DecidableEq, Repr

/-- SRAM self-test and the DRAM controller's own state (R332 to R350). -/
structure MemSt where
  test     : Option Nat         -- logical bank under test
  moved    : Bool               -- the test moves the bank to the spare (its owner is not NONE)
  queue    : List Nat           -- banks SELFTEST has still to test
  clearing : List (Nat × Word)  -- banks being cleared after power-up, with the DTIME at which the clear ends (R333)
  upsets   : List (Nat × SramError) -- words of logical banks that hold bit errors not yet read (R335; assumption 138)
  poison   : List (Nat × BitVec 17) -- words of physical banks read as poisoned (R335)
  testAt   : Word               -- DTIME of the request of the running test
  rows     : SMap (List Nat)    -- times of the corrected bursts of a row within 24 hours, by row (R350)
  noRepair : List Nat           -- bank groups without a repair resource
  delays   : SMap Int           -- read delay moved since training, in steps, by subchannel (R348)
  mts      : Nat                -- data rate of the last training (DMC_CFG.MTS)
  retrain  : List Nat           -- channels that retrain at the next PARK or BOOT (R348)
  selftests : List SelfTest
  corrected : SMap (List Nat)   -- times of the corrected words of a logical bank within 24 hours (R389)
  reqs     : List DramReq       -- DRAM requests queued, in the order of arrival (R347)
  opened   : SMap Nat           -- open row, by bank (R347)
  ordered  : List Nat           -- banks in in-order mode (R347)
  acts     : SMap Nat           -- rolling activate count, by bank (R344)
  hot      : List Nat           -- subchannels with a component above 85 °C (R344)
  refDue   : SMap Nat           -- `upNs` by which a bank address is next refreshed, by subchannel × 16 + bank (R344)
  deriving DecidableEq, Repr

/-- Quill (R351 to R354, R378, R380). -/
structure Quill where
  up        : Bool              -- running, no restart under way
  restart   : Option Nat        -- cause of the restart under way: 1 lockstep mismatch, 2 activation
  slot      : Nat               -- slot whose image runs
  revert    : Bool              -- a reversion waits for its tick start (R380)
  debug     : Bool              -- debug hold (boot mode 0b10)
  recovery  : Bool              -- the ROM recovery loader runs
  stores    : Nat               -- program store each helper sequencer runs: bit 0 scan, 1 to 4 links, 5 ingest (R353)
  storeDue  : Nat               -- sequencers whose change of store waits for its switch point
  ckpt0     : Option Word       -- FN of the checkpoint in slot 0 of bank 13 (R352)
  ckpt1     : Option Word       -- FN of the checkpoint in slot 1
  ckptNext  : Nat               -- slot the next checkpoint is written into
  resumed   : Option Word       -- FN of the checkpoint the last restart took
  deriving DecidableEq, Repr

/-- A record pair of an older FORMAT that stays until UPD_CONFIRM (R368): RID, FORMAT and the first page of each copy. -/
structure OldPair where
  rid     : Nat
  format  : Nat
  primary : Nat
  mirror  : Nat
  deriving DecidableEq, Repr

/-- MRAM as software reaches it (R362 to R366). The node records' own fields stand in `Saved` and `Keys`. -/
structure Nvm where
  pages    : SMap (List Word)   -- pages software has written
  writing  : Option (Nat × List Word)
  rbufPage : Option Nat         -- page NVM_RBUF holds
  settings : SMap (List Word)   -- settings firmware uses, by RID (R367)
  oldPairs : List OldPair       -- record pairs that wait for UPD_CONFIRM (R368)
  deriving DecidableEq, Repr

/-- The update record (R373). -/
structure UpdRec where
  active   : Nat
  pending  : Bool
  actAt    : Word
  trials   : Nat
  isOpen   : Bool
  session  : Nat
  length   : Nat
  next     : Nat
  verified : Bool
  minSvn   : Nat
  deriving DecidableEq, Repr

/-- Firmware update (R371 to R381). -/
structure Upd where
  record   : UpdRec             -- in MRAM
  flash    : SMap (List Word)   -- slot × 4,096 + block, as words; an unlisted block is erased
  staging  : List (Nat × List Word)   -- blocks staged for programming, oldest first
  done     : List Nat           -- blocks of the session programmed
  queue    : List (List Word × List Nat)  -- head: UPD bodies queued, with the ports each has still to leave on
  gap      : List Nat           -- ports whose GAP is running
  held     : SMap (List Word)   -- head: header and manifest blocks it has accepted
  erasing  : Option Cmd         -- UPD_BEGIN to be answered
  verifying : Option Cmd        -- UPD_VERIFY to be answered
  trial    : Bool               -- a trial is running
  wdogEnd  : Nat                -- time since BOOT at which the trial's watchdog expires
  deriving DecidableEq, Repr

def Ring.off : Ring := ⟨false, false, false, 0, false, [], 0, 0, 0, 0, 0, 0, 0, false, false⟩
def HostIf.reset : HostIf := ⟨.head, true, false, [], [], ⟨[], [], [], []⟩, [], false, [], [], [], [], []⟩
def Jrn.reset : Jrn :=
  ⟨false, 0, 0, [], 0, 0, 0, [], [], [], false, [], [], [], [], [], [], [], [], [], [], none, none, [0, 0, 0, 0], [0, 0, 0, 0], none,
    false⟩
def MemSt.reset : MemSt := ⟨none, false, [], [], [], [], 0, [], [], [], 6400, [], [], [], [], [], [], [], [], []⟩
def Quill.reset : Quill := ⟨false, none, 0, false, false, false, 0, 0, none, none, 0, none⟩
def Nvm.reset : Nvm := ⟨[], none, none, [], []⟩
def UpdRec.reset : UpdRec := ⟨0, false, 0, 0, false, 0, 0, 0, false, 0⟩
def Upd.reset : Upd := ⟨.reset, [], [], [], [], [], [], none, none, false, 0⟩

end Sys2Proof.Machine
end

