-- ==== Sys2Proof/Machine/PartsLamp.lean ====
section
/-! DEFINITION. The parts of the state of a tile's lamps and drive (chapters *Lamp correction* and *Scan and drive*), and
of the thermal model and the performance monitor, which every role holds. -/

namespace Sys2Proof.Machine

/-- The correction parameters in effect from one tick on (R218): a run for frame F uses those of tick F. -/
structure RunPars where
  fn     : Word
  fmt    : Nat
  wg     : List Nat
  conceal : Nat
  cal    : Option (SMap Nat)       -- bytes of the active calibration record; none under NOCAL
  flags  : SMap Nat
  gains  : SMap Nat
  depth  : Nat                     -- D_eff
  slog   : Nat                     -- log2 of S
  mode   : Nat                     -- COR_AGE_CTL.MODE
  dg     : Nat                     -- dim gain (R223)
  temp   : Int                     -- drive-die model temperature, whole °C, at the tick start
  ofs    : Nat                     -- OFS in effect, ns (R244)
  gclk   : Nat                     -- GCLK period, ns
  texact : Nat                     -- T in units of 2^−32 ns (R241)
  grow   : Nat                     -- G_row, GCLK
  gdead  : Nat                     -- G_dead, GCLK
  ifs    : List Nat                -- IFS_c
  trims  : List Int                -- trim of each sink, in DRV_TRIM numbering
  wq     : Nat                     -- W / 16 of the lamp field
  hq     : Nat                     -- H / 15
  dreq   : Nat                     -- D asked for
  deriving DecidableEq, Repr

/-- A computed ageing gain set (R237, R238). -/
structure GainSet where
  gains : SMap Nat
  effs  : SMap Nat
  ceil  : List Nat
  deriving DecidableEq, Repr

/-- The correction unit of a tile. -/
structure Lamp where
  copy0   : SMap Nat               -- calibration copies in flash, by byte offset
  copy1   : SMap Nat
  cal     : Option (SMap Nat)      -- record in use; none under NOCAL
  flags   : SMap Nat               -- COR_LAMP_FLAGS in effect
  change  : List (Nat × Nat × Nat) -- lamp, bits to set, bits to clear at the next tick (R230)
  ledger  : SMap Nat               -- S_L
  gains   : SMap Nat               -- g_L in effect; an unlisted lamp has 0x8000
  effs    : SMap Nat               -- e_L of the set in effect
  ledgerView : SMap Nat            -- COR_LAMP_LEDGER as of the last tick boundary
  dutyView : SMap Nat              -- COR_LAMP_DUTY as of the last tick boundary
  gainView : SMap Nat              -- COR_LAMP_GAIN.GAIN as of the last tick boundary
  effView  : SMap Nat
  flagView : SMap Nat
  duty    : SMap Nat               -- u in the last completed run
  dutyRun : SMap Nat               -- u in the running run
  staging0 : SMap (Nat × Nat)      -- (a, e0) by lamp index, frames with F even
  staging1 : SMap (Nat × Nat)
  pars    : List RunPars           -- newest first
  took    : List (Word × Nat)      -- what took effect at the last ticks: tick and register offset (R25, R218)
  running : Option Word            -- run under way, by its frame
  sigRun  : Nat                    -- SCN_SHOWN_SIG of the run under way
  lastSig : Option Nat             -- signature of the last run of R263
  freeze  : Nat
  ageWait : Bool                   -- a gain computation waits for its snapshot at a tick start
  ownWait : Bool                   -- PERIOD alone asked for it (R239)
  ageSnap : Option (SMap Nat)      -- snapshot of the computation under way
  ownRun  : Bool                   -- PERIOD alone asked for the computation under way or the finished set
  ageMore : Bool                   -- a request came during the computation
  ownMore : Bool                   -- that request came of PERIOD
  shadow  : Option GainSet         -- finished set waiting for its tick boundary
  flushDue : Bool
  deriving DecidableEq, Repr

/-- A trim sweep under way (R248): sink, shadow trim, trim before the last step, votes of the comparison, direction, and
results so far in index order. -/
structure Trim where
  sink    : Nat
  shadow  : Int
  before  : Int
  votes   : List Bool
  dir     : Option Bool
  results : List Int
  deriving DecidableEq, Repr

/-- The drive of a tile (R240 to R263). -/
structure Drive where
  period   : Nat                   -- number of the scan period
  scanFn   : Word                  -- frame being played
  slotNow  : Option Nat            -- the row slot that the next dead time follows (R257)
  tripped  : List Nat              -- row slots dark for the rest of the scan period
  tripRun  : SMap Nat              -- consecutive scan periods with a trip, by row slot
  hist     : SMap (List Nat)       -- last fault results of a lamp, newest first: 0 good, 1 open, 2 short
  results  : SMap Nat              -- first result of each lamp in this scan period
  lastCheck : SMap Nat             -- scan period of a lamp's last check or probe
  goodRun  : SMap Nat              -- consecutive good probe results of a flagged lamp
  pinFound : List Nat              -- pairs found in the running pin-short sweep
  pinHist  : SMap (List Bool)      -- last sweeps of a pair, newest first
  pinNext  : Nat                   -- sink tested next
  pinRun   : Bool                  -- a pin-short sweep is running
  pinLast  : Nat                   -- scan period at which the last sweep started
  pinClear : List Nat              -- pairs found clean, cleared at the next tick
  trim     : Option Trim
  trimDone : Option (List Int)     -- results waiting for the tick boundary
  phaseHist : SMap (List Bool)     -- last windows of a phase outside its share, newest first
  phaseSwap : Option Nat           -- phase to be replaced at the next subframe start
  shareBad : List Nat              -- phases logged as drifting without a spare
  spareFor : Option Nat            -- phase the spare has replaced
  adcNext  : Nat                   -- input converted next
  adcSettle : Bool                 -- the next conversion is SETTLE
  phiOvr   : List Nat              -- phases with an OVR result in the share window under way
  tempRes  : SMap (List Nat)       -- last results of inputs 9 to 12, newest first; full scale for an OVR result
  vdrv     : List Nat              -- last results of input 8, newest first; 0 for an OVR result
  railUp   : Bool                  -- soft-start has ended
  dark     : Bool                  -- VLED ramped down
  deriving DecidableEq, Repr

/-- The thermal model (R382 to R388). -/
structure Thermal where
  temps   : List Rat               -- T[0] to T[5] in °C
  started : Bool                   -- the model holds its starting values of this BOOT
  hotMs   : Nat                    -- ms at or above THROT since the last step (R386, R387)
  inDim   : Bool                   -- the throttle put the tile into DIM
  gateTo  : Option Nat             -- pixel lanes to be gated from the next tick boundary
  kept    : Bool                   -- THM_THROT_STAT.HOSTDIM holds the host's gain of the running throttle
  sink    : Rat                    -- sink dissipation of the last tick in W (R382)
  deriving DecidableEq, Repr

/-- The performance monitor (R392 to R395). -/
structure Pmu where
  cnt    : List Nat                -- 32 counters of 48 bits
  latch  : List Nat                -- PMU_CNT_HI as latched
  queue  : List (Nat × Nat × Word × NodeId)  -- snapshots queued: SNAP_ID, SCOPE, TSNAP, SRC
  deriving DecidableEq, Repr

def Lamp.reset : Lamp :=
  ⟨[], [], none, [], [], [], [], [], [], [], [], [], [], [], [], [], [], [], [], none, 0, none, 0, false, false, none,
    false, false, false, none, false⟩
def Drive.reset : Drive :=
  ⟨0, 0, none, [], [], [], [], [], [], [], [], 0, false, 0, [], none, none, [], none, [], none, 0, false, [], [], [], false, true⟩
def Thermal.reset : Thermal := ⟨[0, 0, 0, 0, 0, 0], false, 0, false, none, false, 0⟩
def Pmu.reset : Pmu := ⟨List.replicate 32 0, List.replicate 32 0, []⟩

end Sys2Proof.Machine
end

