-- ==== Sys2Proof/Machine/PartsLink.lean ====
section
/-! DEFINITION. The parts of the state that belong to Broash: lanes and ports (chapter *Broash lanes*), and the
network layer (chapter *Broash network*), beside the LNK registers. -/

namespace Sys2Proof.Machine

/-- What the Reed–Solomon decoder gives for a codeword (R146, R147): the header, the thirteen blocks of 32 bytes and the
symbols corrected. -/
structure CwDec where
  header : BitVec 112
  blocks : List (List Byte)
  fixed  : Nat
  deriving DecidableEq, Repr

/-- A packet's number on its lane, and its TSHOW where it is a PATCH, SEAL or VOID (R163). -/
structure PktTag where
  num   : Nat
  tshow : Option Word
  deriving DecidableEq, Repr

/-- One codeword in a replay buffer: its CWSEQ, the packets with a byte in it, its TMAP and its blocks. -/
structure TxCw where
  cwseq  : BitVec 16
  pkts   : List PktTag
  tmap   : BitVec 13
  blocks : List (List Byte)
  deriving DecidableEq, Repr

/-- What waits on a logical lane: a packet nothing of which has left, or a RESYNC in its place among the packets forwarded. -/
inductive TxItem where
  | resync
  | pkt (p : Pkt)
  deriving DecidableEq, Repr

/-- A LANE_SWAP that waits to be sent: the physical lane it ends, and its block (R167). -/
structure TxMark where
  phy   : Nat
  block : List Byte
  deriving DecidableEq, Repr

/-- The transmit side of a logical lane (R148, R150, R162, R163, R176). -/
structure LaneTx where
  cwseq   : BitVec 16           -- CWSEQ of the next codeword
  buf     : List TxCw           -- unacknowledged codewords with content, oldest first
  hold    : Bool                -- the last header received carried HOLD for this lane
  seq     : Nat                 -- SEQ of the next packet, as a count
  failed  : Bool
  part    : Option (PktTag × List Byte)  -- the packet being sent: what of it is still to leave
  queue   : List TxItem         -- packets queued, oldest first
  ctl     : List (List Byte)    -- control blocks waiting
  resend  : List TxCw           -- codewords of a replay still to send
  mark    : Option TxMark       -- LANE_SWAP waiting for the last block of a codeword
  dataRun : Nat                 -- data blocks since the last other block (R148)
  sinceFill : Nat               -- blocks since the last FILL (R148)
  nextAt  : Nat                 -- instant at which the next codeword begins, in 1/17 ns
  dataFrom : Nat                -- no data block before this instant (R157)
  deriving DecidableEq, Repr

/-- The receive side of a logical lane (R150, R154, R155, R162, R176). -/
structure LaneRx where
  expect  : BitVec 16           -- CWSEQ next in order
  nackDue : Bool                -- a NACK is to be sent with the first header after a correct codeword (R162)
  nacked  : Bool                -- later codewords are discarded until the expected one arrives
  anySeq  : Bool                -- a RESYNC has come: the next codeword is taken as the expected one
  elastic : List (List Byte)    -- the elastic buffer, oldest block first; a FILL is [] (R154)
  holdOut : Bool                -- HOLD is set in the headers sent on this port
  packet  : List Byte           -- bytes of the packet being received
  seqE    : Option Nat          -- extended SEQ of the last packet
  gapOk   : Bool                -- a gap directly after a RESYNC of reason 0 or 1 is expected
  padding : Bool                -- the rest of the data block is padding (R150)
  nackOut : Option (BitVec 16)  -- a NACK for the next header: the CWSEQ it names in ACK (R162, R194)
  early   : List CwDec          -- codewords of a new physical lane that came before the marker (R153)
  opened  : Bool                -- a codeword of traffic has come in order since the link came up
  dest    : NodeId              -- DEST of the packet last begun on this lane, 0 before
  marks   : List (BitVec 16 × List Byte)  -- the codewords last taken, newest first, and the part of a packet that came before each
  deriving DecidableEq, Repr

/-- A physical lane of a port as its receiver sees it (R161, R165, R166). -/
structure PhyLaneSt where
  badRun  : Nat                 -- consecutive uncorrectable codewords
  goodRun : Nat                 -- consecutive correct codewords in training (R160)
  corr    : Nat                 -- corrected symbols in the running tick
  lastCal : Nat                 -- order number of its last calibration, 0 when never
  saved   : Option (Nat × Nat × Nat)  -- CTLE, DFE and PHASE before the sweep
  retired : Bool
  hourNs  : Nat                 -- running hour of Coppice's trend: ns, sum and count of CORR_TICK (R389)
  hourSum : Nat
  hourNum : Nat
  first   : Option (Nat × Nat)  -- sum and count of the first hour after bring-up
  deriving DecidableEq, Repr

/-- A swap of a receiving logical lane to another physical lane (R168): announced by CAL_READY, and `marked` once the
LANE_SWAP has come. -/
structure LaneMove where
  lane   : Nat
  old    : Nat
  new    : Nat
  marked : Bool
  deriving DecidableEq, Repr

/-- A calibration running on a port as its receiver (R166 to R170). -/
structure Calib where
  lane    : Nat
  started : Bool                -- the spare is trained
  onto    : Nat                 -- the spare that takes the lane's place
  back    : Bool                -- verified: the lane is to be swapped back (R170)
  deriving DecidableEq, Repr

/-- One port of the lane layer. -/
structure PortSt where
  tx0 : LaneTx
  tx1 : LaneTx
  rx0 : LaneRx
  rx1 : LaneRx
  phy0 : PhyLaneSt
  phy1 : PhyLaneSt
  phy2 : PhyLaneSt
  calib : Option Calib
  calNo : Nat                   -- order number of the last calibration begun
  remoteCal : Option Nat        -- as transmitter: the physical lane whose calibration the neighbour asked for
  remoteAt : Option Nat         -- as transmitter: `upNs` at the boundary of the swap onto the spare (R167)
  remoteReady : Bool            -- CAL_READY received, the swap waits for the tick start
  standIn : Option Nat          -- failed physical lane for which the spare is being trained (R171)
  selftest : List Nat           -- lanes still to calibrate for SELFTEST
  rxIdle1 : Bool                -- receiving lane 1 is in fast idle
  deepPark : Bool               -- working lanes in deep park (R159)
  move : Option LaneMove        -- the swap of a receiving lane under way
  queuedCal : Option Nat        -- the lane a queued calibration request names; none for the oldest (R166)
  sweepAt : Nat                 -- when the sweep began, ns since reset (R167)
  helloStamp : Option Word      -- the stamp of this node's own HELLO, until it comes back (R160)
  peerCap : Nat                 -- replay capacity the neighbour announced
  met : Bool                    -- in bring-up, the neighbour's HELLO has come (R160)
  said : List Nat               -- ACK0, ACK1, HOLD0 and HOLD1 of the last header sent
  deriving DecidableEq, Repr

/-- Link keys of a port (R190 to R193). Keys are held as the values of the derivation. -/
structure LinkKeys where
  agreed    : Bool              -- a sending key is agreed
  sendEpoch : Nat
  sendKey   : BitVec 256
  recvEpoch : Nat
  recvKey   : BitVec 256
  oldRecv   : Option (Nat × BitVec 256)  -- old receiving key, kept until the new KEP or one tick (R192)
  oldTicks  : Nat                        -- tick starts until the old key ends
  priv      : Option (Nat × Nat)          -- EPOCH and index of the ephemeral secret of the agreement under way
  peerPoint : List Word
  newKeys   : Option (Nat × BitVec 256 × BitVec 256)  -- derived, waiting: epoch, sending, receiving
  acked     : Bool              -- KEYACK received; the change waits for the tick boundary
  ctr0      : Nat               -- counter advance of logical lane 0 under the sending key
  ctr1      : Nat
  failed    : Bool              -- the agreement failed; the retry of R190 is due
  stopped   : Bool              -- KEYSTOP
  deriving DecidableEq, Repr

/-- What escalation counts on a port in the running interval (R195). -/
structure Escal where
  count : Nat
  tags  : Nat
  quiet : Nat
  deriving DecidableEq, Repr

/-- A node of the head's enumeration record (R180). -/
structure NodeRec where
  role  : Nat
  wq    : Nat
  hq    : Nat
  arr   : Nat
  hops  : Nat
  ports : Nat
  n01   : Word
  n23   : Word
  deriving DecidableEq, Repr

/-- A walk in progress at the walking head (R179): mode, identity, ports still to walk, the port being walked, and
what came back. -/
structure HeadWalk where
  assign  : Bool
  walkId  : Nat
  ports   : List Nat
  port    : Nat
  bases   : List Word
  ranges  : List (Nat × Nat × Nat)        -- port, LOW, HIGH
  flags   : List (Nat × Bool × Bool × Bool)  -- port, FULL, LOOP, MET_HEAD
  blocked : List (Nat × Nat)              -- end node IDs of blocked links
  cmd     : Option Cmd          -- DOM_ENUMERATE to answer
  deriving DecidableEq, Repr

/-- A walk passing through this node (R179). -/
structure NodeWalk where
  arrival : Nat
  assign  : Bool
  walkId  : Nat
  head    : NodeId
  hops    : Nat
  headPort : Nat
  next    : Nat
  full    : Bool
  loop    : Bool
  met     : Option NodeId       -- head met below this node
  low     : Nat
  high    : Nat
  ports   : List Nat             -- ports still to look at
  port    : Nat                  -- the port walked now
  deriving DecidableEq, Repr

/-- A barrier a node holds until it arrives (R187): BAR_ID, the head, COUNT so far, and SRC and TORIG of the ARRIVE held;
none for an ARRIVE that this node originates. -/
structure Barrier where
  id    : Nat
  head  : NodeId
  count : Nat
  held  : Option (NodeId × Word)
  deriving DecidableEq, Repr

/-- An ARRIVE that a branch holds to merge it with those of its other downstream ports (R187). -/
structure BarMerge where
  id    : Nat
  head  : NodeId
  port  : Nat
  count : Nat
  deriving DecidableEq, Repr

/-- A barrier whose REQ has come, and the commands received before it that were still open (R187). -/
structure BarReq where
  id    : Nat
  head  : NodeId
  waits : List Cmd
  deriving DecidableEq, Repr

/-- The network layer (R175 to R195). -/
structure Net where
  record   : SMap NodeRec        -- enumeration record by node ID
  walkId   : Nat                 -- WALK_ID of this head's last walk
  walk     : Option HeadWalk
  learnDue : Bool                -- a LEARN walk is due within 1 ms (R182)
  through  : List NodeWalk       -- walks passing through this node, oldest first
  seen     : List (Nat × NodeId) -- WALK_ID and HEAD seen before
  walked   : List Nat            -- ports whose first walk since BOOT has ended (R424)
  metHead  : List (Nat × NodeId) -- ports that met a head, and which
  origins  : List (NodeId × Nat × List Nat)  -- per head: highest ORIG and the accepted values of the window (R189)
  eseqOut  : List (NodeId × Nat) -- last ESEQ sent to each head
  eseqIn   : List (NodeId × Nat) -- last ESEQ received from each originator
  barriers : List Barrier        -- the barriers held until this node arrives (R187)
  barIds   : Nat
  barMine  : Option (Nat × Nat × Cmd)  -- BAR_ID, COUNT gathered, the DOM_BARRIER to answer
  merge    : List BarMerge       -- branch: ARRIVEs that wait for those of the other ports
  snapIds  : Nat
  barReqs  : List BarReq         -- the last barrier of each head
  deriving DecidableEq, Repr

/-- Everything of Broash, one entry per port. -/
structure Link where
  ports  : List PortSt
  keys   : List LinkKeys
  escal  : List Escal
  deriving DecidableEq, Repr

def LaneTx.reset : LaneTx := ⟨0, [], false, 0, false, none, [], [], [], none, 0, 0, 0, 0⟩
def LaneRx.reset : LaneRx := ⟨0, false, false, false, [], false, [], none, false, false, none, [], false, 0, []⟩
def PhyLaneSt.reset : PhyLaneSt := ⟨0, 0, 0, 0, none, false, 0, 0, 0, none⟩
def PortSt.reset : PortSt :=
  ⟨.reset, .reset, .reset, .reset, .reset, .reset, .reset, none, 0, none, none, false, none, [], false, false, none, none, 0, none, 0, false, []⟩
def LinkKeys.reset : LinkKeys := ⟨false, 0, 0, 0, 0, none, 0, none, [], none, false, 0, 0, false, false⟩
def Escal.reset : Escal := ⟨0, 0, 0⟩
def Link.reset : Link :=
  ⟨[.reset, .reset, .reset, .reset], [.reset, .reset, .reset, .reset], [.reset, .reset, .reset, .reset]⟩
def Net.reset : Net := ⟨[], 0, none, false, [], [], [], [], [], [], [], [], 0, none, [], 0, []⟩

end Sys2Proof.Machine
end

