-- ==== Sys2Proof/Machine/PartsTile.lean ====
section
/-! DEFINITION. The parts of the state for Privet items, redundancy and a tile's frames (chapters *Timed commit and
run-ahead* and *Redundancy, failover and the Privet guarantee*). -/

namespace Sys2Proof.Machine

/-- A PRIVET_LOAD being received at a tile (R281): item, length, digest words and the data so far. -/
structure PrivetLoad where
  item   : Nat
  length : Nat
  digest : List Word
  data   : List (Nat × List Word)
  deriving DecidableEq, Repr

/-- The Privet store of a node (R92, R280 to R284). -/
structure Privet where
  items  : SMap PrivetItem
  tags   : SMap (BitVec 128)                 -- tile: the tag of each item in bank 3 (R282)
  parts  : Option (Nat × Nat × List Nat)     -- head: item, length and bytes of a load whose FINAL part is awaited
  shown  : List Nat                          -- items shown by a PRIVET_SHOW in effect, ascending
  safe   : Bool                              -- SAFE_N shows the SAFE items
  safeEnd : Option Word                      -- head: the tick at which SAFE_N, high again, stops showing them (R284)
  load   : Option PrivetLoad                 -- tile
  loads  : List (Word × Nat × PrivetItem)    -- loads whose digest matched: frame (tile), item and content, in order
  due    : List (Word × Bool × List Nat)     -- tile: frame, show or hide, items
  place  : Option (List Word)                -- tile: descriptor of the last client-0 placement (R282)
  persisted : SMap (PrivetItem × BitVec 128) -- tile: items with PERSIST in flash, with their tags (R282)
  deriving DecidableEq, Repr

/-- What a paired head holds beside the RED registers (R264 to R278). -/
structure Red where
  lastBeat  : Option Word                    -- DTIME of the partner's last HEARTBEAT
  beat      : Option Word                    -- flags word of the partner's last HEARTBEAT
  sent      : Nat                            -- MSEQ of the last MIRROR sent
  lastCmd   : Nat                            -- MSEQ of the last mirrored CMD sent (R267)
  recv      : Nat                            -- highest MSEQ received in order
  ahead     : List Nat                       -- MSEQ values received: standby, those out of order; active, the last 64 (R268)
  heard     : Bool                           -- a MIRROR of the partner has come since BOOT or the last change of role
  ackSent   : Nat                            -- MSEQ of the last ACK sent
  ackGot    : Nat                            -- MSEQ the partner acknowledged
  takeover  : Option Word                    -- tick of a RELINQUISH received
  yield     : Bool                           -- this head becomes standby at the next tick (R269)
  mirrored  : List (Word × Nat × List Word)  -- standby: commands mirrored since it fell out of step: tick, MSEQ, packet
  heldCmds  : List (Word × Nat × List Word)  -- standby: those ahead of a gap, which wait for what is missing
  tables    : List (Nat × List Word)         -- standby: TABLE data by table and offset word
  snapEnd   : Option (Word × Nat × Word × Word × Word)  -- G, MSEQ, seeds, CRC
  resync    : Bool                           -- active: a resynchronisation is running
  divFrames : Option Word                    -- frame for which a DIVERGE was last counted (R277)
  switchAt  : Option Word                    -- active: tick at which this head becomes standby (R269, R270)
  reqDue    : Bool                           -- RESYNC_REQ waits for a link to the partner (R271)
  deriving DecidableEq, Repr

/-- A patch of a frame as a tile holds it (R137, R272): its SIG, UNDER flag, whether it is bad, and its codes, which are
kept for the followed head only. -/
structure TilePatch where
  sig   : Nat
  under : Bool
  bad   : Bool
  codes : List Nat
  deriving DecidableEq, Repr

/-- What has come of one frame from one head (R136, R137, R272). -/
structure RecFrame where
  fn      : Word
  rev     : Nat
  count   : Nat                      -- COUNT from the SEAL or the PATCHes held
  sealBy  : Option (Nat × Nat × Word)  -- REV, COUNT and BASE of the SEAL held
  patches : SMap TilePatch           -- of revision REV
  void    : Option Nat               -- highest revision voided
  deriving DecidableEq, Repr

/-- The stream of one head at a tile (R272). -/
structure Stream where
  recs   : List RecFrame
  sigtab : SMap (Nat × Bool)         -- SIGTAB and UNDERTAB
  lastf  : Option Word
  deriving DecidableEq, Repr

/-- What SCN_SLOT and SCN_SLOT_RECV show of a frame beside the state: bits [29:0] of SCN_SLOT and COUNT. -/
structure SlotView where
  low  : Nat
  recv : Nat
  deriving DecidableEq, Repr

/-- One frame slot: 0 FREE, 1 FILLING, 2 PENDING, 3 SHOWN (R136). `kept` is what is shown of the frame of a SHOWN slot. -/
structure Slot where
  st   : Nat
  fn   : Word
  kept : SlotView
  deriving DecidableEq, Repr

/-- A decision taken at T_dec and shown at T_show (R138, R139): LAST and REASON, and for a commit the frame built, with
HEADID. -/
structure Decision where
  fn     : Word
  last   : Nat
  reason : Nat
  built  : Option (SMap (List Nat) × Nat)
  kept   : SlotView                -- what the slot goes on showing of the frame
  deriving DecidableEq, Repr

/-- The frames of a tile. -/
structure TileFrames where
  slots    : List Slot
  strA     : Stream
  strB     : Stream
  shown    : SMap (List Nat)         -- codes of the SHOWN slot by patch; an unlisted patch is 0
  shownFn  : Option Word             -- frame in the SHOWN slot
  shownSig : SMap Nat                -- SHOWSIG
  decided  : Option Word             -- last frame decided
  heard    : List (Nat × Word × Nat) -- heads and frames still to be decided of which a packet has come, dropped or not, and
                                     -- the highest REV of a PATCH or SEAL among them plus 1, 0 for none (R140, R272)
  waiting  : Option Decision         -- decision whose T_show is to come
  played   : Word                    -- frame of the last T_show
  lastOk   : Bool                    -- the decision before the last one was a commit (R263)
  thisCommit : Bool                  -- the last decision was a commit
  thisOk   : Bool                    -- the last decision was a commit with COUNT ≥ 1
  deriving DecidableEq, Repr

def Stream.reset : Stream := ⟨[], [], none⟩
def Slot.free : Slot := ⟨0, 0, ⟨0, 0⟩⟩
def TileFrames.reset : TileFrames :=
  ⟨[.free, .free, .free], .reset, .reset, [], none, [], none, [], none, 0, false, false, false⟩

def Privet.reset : Privet := ⟨[], [], none, [], false, none, none, [], [], none, []⟩
def Red.reset : Red := ⟨none, none, 0, 0, 0, [], false, 0, 0, none, false, [], [], [], none, false, none, none, false⟩

end Sys2Proof.Machine
end

