-- ==== Sys2Proof/Machine/State.lean ====
section
/-! DEFINITION. The state of one EL4310 node, the reasons a step can stop, and the machine right after a power-on
reset. Registers live in `regs`, a sparse map of the register space by byte offset in canonical form; the other parts
hold what the chapters describe beside the registers. -/

namespace Sys2Proof.Machine

/-- Why a step stops with a fault. The spec gives every command of the table an effect, so no meaning faults and the
type has no constructor: a step never faults. -/
inductive Fault where
  deriving DecidableEq, Repr

/-- Why a step has no meaning. -/
inductive Refusal where
  /-- Raised by `exec` for a command whose arm has no meaning yet; safe: the run stops. -/
  | notModelled (mnemonic : String)
  deriving DecidableEq, Repr

/-- The node. -/
structure State where
  role    : Role
  wq      : Nat                  -- W / 16 of the active calibration's field (R17, R180)
  hq      : Nat                  -- H / 15 of the active calibration's field
  sampled : Bool                 -- the straps have been sampled since the last power-on or brown-out reset (R40)
  regs    : SMap Word            -- register words by byte offset; an unlisted one holds its reset value
  rwt     : List (Nat × Word × Word)  -- RWT writes waiting for the tick boundary: offset, mask, value (R418)
  pwr     : Power
  icu     : Icu
  blots   : BlotLog
  clk     : Clock
  saved   : Saved
  keys    : Keys
  link    : Link
  net     : Net
  cmds    : Cmds
  heads   : HeadFrames
  ingest  : Ingest
  comp    : Comp
  tile    : TileFrames
  priv    : Privet
  red     : Red
  lamp    : Lamp
  drive   : Drive
  thm     : Thermal
  pmu     : Pmu
  host    : HostIf
  jrn     : Jrn
  mem     : MemSt
  quill   : Quill
  nvm     : Nvm
  upd     : Upd
  cpcWait : List (Nat × Nat)     -- Coppice requests refused for a busy unit: kind and unit (R390)
  out     : List Out             -- what has left the node, newest first
  free    : Nat                  -- the model's own: number of the next free value (assumption 5)
  pending : List Instr           -- commands waiting, first in first out
  deriving DecidableEq, Repr

/-- The machine right after a power-on reset (R51, R426): in OFF, with POR alone set in PWR_RST_CAUSE, no strap sampled
and MRAM and flash as they leave manufacture (assumption 60). -/
def State.reset : State where
  role    := .tile
  wq      := 10
  hq      := 6
  sampled := false
  regs    := [(0x10010, 1), (0x5000C, 128)]
  rwt     := []
  pwr     := .reset
  icu     := .reset
  blots   := .reset
  clk     := .reset
  saved   := .reset
  keys    := .reset
  link    := .reset
  net     := .reset
  cmds    := .reset
  heads   := .reset
  ingest  := .reset
  comp    := .reset
  tile    := .reset
  priv    := .reset
  red     := .reset
  lamp    := .reset
  drive   := .reset
  thm     := .reset
  pmu     := .reset
  host    := .reset
  jrn     := .reset
  mem     := .reset
  quill   := .reset
  nvm     := .reset
  upd     := .reset
  cpcWait := []
  out     := []
  free    := 0
  pending := []

end Sys2Proof.Machine
end

