-- ==== Sys2Proof/Machine/Ops.lean ====
section
/-! DEFINITION. The named operations over registers, time and lists that every chapter uses. -/

namespace Sys2Proof.Machine

/-- The reset word of an offset, as a register word. -/
def resetReg (x : Nat) : Word := BitVec.ofNat 32 (resetWord x)

/-- The word held at register offset `x`. -/
def State.word (s : State) (x : Nat) : Word := SMap.get resetReg s.regs x

/-- Stores a whole word at register offset `x`; every change of the register space goes through here. -/
def State.setWord (s : State) (x : Nat) (v : Word) : State := { s with regs := SMap.set resetReg s.regs x v }

/-- Number of bits of a field. -/
def Fld.width (f : Fld) : Nat := f.hi + 1 - f.lo

/-- The bits `lo` up, `w` of them, of `n`. -/
def bitsOf (n lo w : Nat) : Nat := (n >>> lo) % 2 ^ w

/-- `n` with the `w` bits from `lo` replaced by `v`. -/
def setBits (n lo w v : Nat) : Nat :=
  n - bitsOf n lo w * 2 ^ lo + (v % 2 ^ w) * 2 ^ lo

/-- Value of a register field. -/
def State.get (s : State) (f : Fld) : Nat := bitsOf (s.word f.off).toNat f.lo f.width

/-- A one-bit field as a Bool. -/
def State.bit (s : State) (f : Fld) : Bool := s.get f != 0

/-- Sets a register field; excess bits of `v` are dropped. -/
def State.put (s : State) (f : Fld) (v : Nat) : State :=
  s.setWord f.off (BitVec.ofNat 32 (setBits (s.word f.off).toNat f.lo f.width v))

/-- Sets a one-bit field from a Bool. -/
def State.putBit (s : State) (f : Fld) (b : Bool) : State := s.put f (if b then 1 else 0)

/-- Sets a status or interrupt bit to 1. -/
def State.raise (s : State) (f : Fld) : State := s.put f 1

/-- Advances a saturating count by `n` (R419). -/
def State.count (s : State) (f : Fld) (n : Nat := 1) : State := s.put f (min (s.get f + n) (2 ^ f.width - 1))

/-- Advances a count that wraps. -/
def State.countWrap (s : State) (f : Fld) (n : Nat := 1) : State := s.put f (s.get f + n)

/-- A signed value of `w` bits. -/
def signed (w n : Nat) : Int := if n % 2 ^ w < 2 ^ (w - 1) then (n % 2 ^ w : Int) else (n % 2 ^ w : Int) - 2 ^ w

/-- An integer as a two's complement value of `w` bits. -/
def unsigned (w : Nat) (i : Int) : Nat := (i % (2 ^ w : Int)).toNat

/-- Later than (R196): (a − b) mod 2^32 lies in 1 to 2^31 − 1. -/
def later (a b : Word) : Bool := let d := (a - b).toNat; decide (1 ≤ d) && decide (d < 2 ^ 31)

/-- Earlier than (R196): (a − b) mod 2^32 lies in 2^31 to 2^32 − 1. -/
def earlier (a b : Word) : Bool := decide (2 ^ 31 ≤ (a - b).toNat)

/-- A natural number as a word. -/
def wd (n : Nat) : Word := BitVec.ofNat 32 n

/-- Field [hi:lo] of a word. -/
def wbits (w : Word) (hi lo : Nat) : Nat := bitsOf w.toNat lo (hi + 1 - lo)

/-- Word `n` of a list of words; 0 beyond its end. -/
def nth (l : List Word) (n : Nat) : Word := l.getD n 0

/-- Replaces element `i` of a list. -/
def setAt {α : Type} (l : List α) (i : Nat) (v : α) : List α :=
  match l, i with
  | [], _ => []
  | _ :: t, 0 => v :: t
  | a :: t, i + 1 => a :: setAt t i v

/-- The value of a key in an association list. -/
def lookup {α β : Type} [DecidableEq α] (d : β) (l : List (α × β)) (a : α) : β :=
  match l with
  | [] => d
  | (x, y) :: t => if x = a then y else lookup d t a

/-- Replaces or adds the entry of a key. -/
def assoc {α β : Type} [DecidableEq α] (l : List (α × β)) (a : α) (b : β) : List (α × β) :=
  (a, b) :: l.filter (fun p => decide (p.1 ≠ a))

/-- Folds a state change over a list, in order. -/
def forEach {α : Type} (l : List α) (f : α → State → State) (s : State) : State :=
  match l with
  | [] => s
  | a :: t => forEach t f (f a s)

/-- The next free value, modulo 2^w (assumption 5). -/
def State.freeNat (s : State) (w : Nat) : Nat × State := (Config.freeValue s.free % 2 ^ w, { s with free := s.free + 1 })

/-- Hands something to the outside. -/
def State.emit (s : State) (o : Out) : State := { s with out := o :: s.out }

/-- The node's ID; 0 when it holds none (R12, R396). -/
def State.nodeId (s : State) : NodeId :=
  if s.bit Fld.LNK_NODE_ID_VALID then BitVec.ofNat 16 (s.get Fld.LNK_NODE_ID_ID) else 0

/-- The role the node acts in: the ROM recovery loader serves the recovery role's functions alone, whatever the strapped
role, which stays (R2, R4, R381; assumption 96). -/
def State.actingRole (s : State) : Role := if s.quill.recovery then .recovery else s.role

/-- The node runs: READY, ACTIVE, DIM or PARK (R43). -/
def State.running (s : State) : Bool :=
  match s.pwr.state with
  | .ready | .active | .dim | .park => true
  | _ => false

/-- The node is powered beyond the always-on domain. -/
def State.powered (s : State) : Bool :=
  match s.pwr.state with
  | .off | .shutdown => false
  | _ => true

/-- The encoding of a power state (PWR registers). -/
def PState.code : PState → Nat
  | .off => 0 | .boot => 1 | .ready => 2 | .active => 3 | .dim => 4 | .park => 5 | .shutdown => 6

/-- The encoding of a role (*Table — Role strap encoding*). -/
def Role.code : Role → Nat
  | .tile => 0 | .head => 1 | .branch => 2 | .recovery => 3

/-- Role of an encoding. -/
def Role.ofCode (n : Nat) : Role :=
  match n % 4 with
  | 0 => .tile | 1 => .head | 2 => .branch | _ => .recovery

/-- INT of the schedule in effect (TICK_NS_INT). -/
def State.tickInt (s : State) : Nat := s.get (Fld.TIME_SCHED_VALUE 0)

/-- AACC + k × FRAC, where k = (n − AFN) mod 2^32 (R198). -/
def Sched.acc (q : Sched) (n : Word) : Nat := q.aacc.toNat + (n - q.afn).toNat * q.frac.toNat

/-- start(n) = (ADT + k × INT + ((AACC + k × FRAC) >> 32)) mod 2^32 (R198). -/
def Sched.start (q : Sched) (n : Word) : Word := wd (q.adt.toNat + (n - q.afn).toNat * q.int.toNat + q.acc n / 2 ^ 32)

/-- The schedule with its anchor rebased to tick `n` (R198). -/
def Sched.rebase (q : Sched) (n : Word) : Sched := { q with afn := n, adt := q.start n, aacc := wd (q.acc n) }

/-- The schedule in effect: TIME_SCHED. -/
def State.sched (s : State) : Sched :=
  ⟨s.clk.fn, s.word (Reg.TIME_SCHED 0), s.word (Reg.TIME_SCHED 1), s.word (Reg.TIME_SCHED 2), s.word (Reg.TIME_SCHED 3),
    s.word (Reg.TIME_SCHED 4)⟩

/-- The later of two waiting schedules: of two for one tick the one accepted later, `r`, holds. -/
def laterSched (b : Option Sched) (r : Sched) : Option Sched :=
  match b with
  | some q => if later q.at_ r.at_ then some q else some r
  | none => some r

/-- The last of some waiting schedules whose apply tick is `n` or earlier; `q` when there is none. -/
def lastSched (l : List Sched) (n : Word) (q : Sched) : Sched :=
  ((l.filter (fun r => !(later r.at_ n))).foldl laterSched none).getD q

/-- The schedule by which tick `n` starts: one that waits takes effect at its apply tick (R199). -/
def State.schedFor (s : State) (n : Word) : Sched := lastSched s.clk.scheds n s.sched

/-- The start of tick `n`: that of the tick before the running one is kept, since it may have run by another schedule. -/
def State.startOf (s : State) (n : Word) : Word :=
  match s.clk.prev with
  | some t => if n + 1 = s.clk.fn then t else (s.schedFor n).start n
  | none => (s.schedFor n).start n

/-- The lead that applies to frame `f`, not before the running tick (R128). -/
def State.leadFrom (s : State) (f : Word) : Nat :=
  if s.get Fld.TIME_LEAD_NEXT_NS ≠ s.get Fld.TIME_LEAD_NS && !(earlier f (s.word Reg.TIME_LEAD_AT)) then
    s.get Fld.TIME_LEAD_NEXT_NS
  else s.get Fld.TIME_LEAD_NS

/-- The lead that applies to frame `f` (R128). The frame of the tick before the running one keeps the lead it had (R25). -/
def State.leadOf (s : State) (f : Word) : Nat :=
  match s.clk.prevLead with
  | some l => if f + 1 = s.clk.fn then l else s.leadFrom f
  | none => s.leadFrom f

/-- T_show(F) (R24, R128). -/
def State.tshow (s : State) (f : Word) : Word := s.startOf f + wd (s.leadOf f)

/-- T_dec(F) = T_show(F) − 4.000 µs (R127). -/
def State.tdec (s : State) (f : Word) : Word := s.tshow f - wd 4000

/-- A register word with the RWT writes that wait for the tick boundary laid over it. -/
def State.coming (s : State) (x : Nat) : Word :=
  match s.rwt.find? (fun e => decide (e.1 = x)) with
  | some (_, m, v) => (s.word x &&& ~~~m) ||| (v &&& m)
  | none => s.word x

/-- ADV in ns that applies to frame `f` (R127, R128): that of an accepted LEAD_SET from its tick on, and a value written to
CMP_RUNAHEAD from the next tick on. -/
def State.advOf (s : State) (f : Word) : Nat :=
  let own := if later f s.clk.fn then wbits (s.coming Reg.CMP_RUNAHEAD) 15 0 * 1000 else s.get Fld.CMP_RUNAHEAD_ADV * 1000
  match s.heads.advNext with
  | some (a, at_) => if earlier f at_ then own else a * 1000
  | none => own

/-- C(F) = tick start of F − ADV (R127). -/
def State.compose (s : State) (f : Word) : Word := s.startOf f - wd (s.advOf f)

/-- K(F) = tick start of F − 1 (R127). -/
def State.cutoff (s : State) (f : Word) : Word := s.startOf (f - 1)

/-- PD_p(F) = T_show(F) − H_p × 300 ns − 100 µs (R127, R129). -/
def State.pushBy (s : State) (p : Nat) (f : Word) : Word :=
  s.tshow f - wd (s.get (Fld.CMP_PUSH_HOPS_HOPS p) * 300 + 100000)

/-- An instant has passed: DTIME is at or after it. -/
def State.passed (s : State) (t : Word) : Bool := !(earlier s.clk.dtime t)

/-- An instant that belongs to tick `g` has passed. An instant of a tick far ahead has not, although DTIME, which compares
within 2^31 ns (R196), could not tell. -/
def State.tickPassed (s : State) (g t : Word) : Bool := s.passed t && !(later g (s.clk.fn + 16))

/-- The highest level at or below which 2 of the last 3 results lie; none before two results (R261). -/
def median3 (l : List Nat) : Option Nat :=
  match l with
  | [] => none
  | [_] => none
  | [a, b] => some (max a b)
  | a :: b :: c :: _ => some (max (min a b) (min (max a b) c))

/-- VDRV in mV as the sense ADC last measured it: input 8, full scale 6.0 V (R252, R261; assumption 40). -/
def State.vdrvMv (s : State) : Option Nat := (median3 s.drive.vdrv).map (fun c => c * 6000 / 4096)

/-- VMAX in mV: codes below 140 act as 140, above 250 as 250. -/
def State.vmaxMv (s : State) : Nat := 20 * max 140 (min 250 (s.get Fld.DRV_RAIL_CFG_VMAX))

/-- The limit of V_SET (R252). -/
def State.railLimit (s : State) : Nat :=
  match s.vdrvMv with
  | some v => min s.vmaxMv (v - 100)
  | none => s.vmaxMv

/-- Adds `amount` to counter `n` of the performance monitor; past 2^48 − 1 it wraps and sets its overflow bits (R393). -/
def State.pmuAdd (s : State) (n amount : Nat) : State :=
  let v := s.pmu.cnt.getD n 0 + amount
  let s := { s with pmu := { s.pmu with cnt := setAt s.pmu.cnt n (v % 2 ^ 48) } }
  if 2 ^ 48 ≤ v then (s.put ⟨Reg.PMU_OVF, n, n⟩ 1).raise Fld.PMU_INT_OVF else s

/-- Counts an event on every running counter that selects it (R392); `amount` gives the count under a filter kind and
value. While SEC_GATE.PMU_CG is 1 no counter counts. -/
def State.tallyBy (s : State) (code : Nat) (amount : Nat → Nat → Nat) : State :=
  if s.bit Fld.SEC_GATE_PMU_CG then s
  else forEach (List.range 32) (fun n s =>
    if s.bit (Fld.PMU_CNT_CFG_RUN n) && decide (s.get (Fld.PMU_CNT_CFG_EVENT n) = code) then
      s.pmuAdd n (amount (s.get (Fld.PMU_CNT_CFG_FKIND n)) (s.get (Fld.PMU_CNT_CFG_FVAL n)))
    else s) s

/-- Counts `n` of an event that takes no filter. -/
def State.tally (s : State) (code : Nat) (n : Nat := 1) : State :=
  s.tallyBy code (fun k _ => if k = 0 ∨ 5 ≤ k then n else 0)

/-- Counts `n` of an event of filter kind `kind` (1 port, 4 client) for unit `unit`. -/
def State.tallyOf (s : State) (code kind unit : Nat) (n : Nat := 1) : State :=
  s.tallyBy code (fun k v => if k = 0 ∨ 5 ≤ k then n else if k = kind ∧ v = unit then n else 0)

/-- What the performance monitor counts while `n` ns pass (*Table — PMU events*): µs with HOLD received, µs with V_SET at
the limit, ns of channel self-refresh, Quill cycles and cycles asleep, µs in HOLDOVER. -/
def State.tallyTime (s : State) (n : Nat) : State :=
  let us := (s.clk.upNs + n) / 1000 - s.clk.upNs / 1000
  let cyc := (s.clk.upNs + n) * 4 / 5 - s.clk.upNs * 4 / 5
  let s := forEach (List.range 4) (fun p s =>
    match s.link.ports[p]? with
    | some q => if q.tx0.hold || q.tx1.hold then s.tallyOf 0x008 1 p us else s
    | none => s) s
  let s := if s.drive.railUp && decide (s.railLimit ≤ s.get Fld.DRV_RAIL_STAT_VSET) then s.tally 0x108 us else s
  let sr := s.get Fld.DMC_STAT_SR
  let s := s.tally 0x147 ((sr % 2 + sr / 2) * n)
  let s := if s.quill.up then s.tally 0x180 cyc else s
  -- how many of them Quill sleeps is its program's: a free value (assumption 5)
  let s := if s.quill.up && (List.range 32).any (fun n => s.bit (Fld.PMU_CNT_CFG_RUN n) && decide (s.get (Fld.PMU_CNT_CFG_EVENT n) = 0x181))
    then let (f, s) := s.freeNat 32; s.tally 0x181 (f % (cyc + 1)) else s
  if s.get Fld.TIME_STAT_STATE = 3 then s.tally 0x1C1 us else s

/-- Brings DTIME and house time forward by `n` ns (R197, R211); wraps and rollovers that fall in are applied: TIME_INT
WRAP (R214) and the advance of HT_SEC (R211, R213). -/
def State.elapse (s : State) (n : Nat) : State :=
  let s := s.tallyTime n
  let d := s.clk.dtime.toNat + n
  let h := s.clk.htNs + n
  let secs := h / 1000000000
  let htSec' := match s.clk.htPend with
    | some v => if 0 < secs then v + wd (secs - 1) else s.clk.htSec
    | none => s.clk.htSec + wd secs
  let s' := { s with clk := { s.clk with
    dtime := wd d, upNs := s.clk.upNs + n, htNs := h % 1000000000, htSec := htSec',
    htPend := if 0 < secs then none else s.clk.htPend } }
  let s' := if 0 < secs then s'.putBit Fld.TIME_HT_CTL_PEND false else s'
  if 2 ^ 32 ≤ d then s'.raise Fld.TIME_INT_WRAP else s'

/-- Brings DTIME forward to `t` when it is earlier: an event whose instant the spec gives happens at that instant
(assumption 3). -/
def State.advanceTo (s : State) (t : Word) : State :=
  if earlier s.clk.dtime t then s.elapse (t - s.clk.dtime).toNat else s

/-- House time H in ns (R65). -/
def State.houseNs (s : State) : Nat := s.clk.htSec.toNat * 1000000000 + s.clk.htNs

/-- A write to RWT bits of a register waits for the tick boundary (R418); a later write replaces the bits it covers. -/
def State.pend (s : State) (x : Nat) (mask v : Word) : State :=
  let old := (s.rwt.find? (fun e => decide (e.1 = x))).getD (x, 0, 0)
  { s with rwt := s.rwt.filter (fun e => decide (e.1 ≠ x)) ++
      [(x, old.2.1 ||| mask, (old.2.2 &&& ~~~mask) ||| (v &&& mask))] }

/-- Owner of logical SRAM bank `n`; 12 to 15 act as 0, NONE (MEM_BANK_OWNER). -/
def State.bankOwner (s : State) (n : Nat) : Nat :=
  let v := s.get (Fld.MEM_BANK_OWNER_OWNER n)
  if 12 ≤ v then 0 else v

/-- Logical bank `n` keeps what is written into it: once firmware has set the owners, a bank owned by NONE is powered down
(R333). A bank whose new owner takes effect at the next tick counts as powered up. -/
def State.bankHolds (s : State) (n : Nat) : Bool :=
  !(s.pwr.fwStarted) || decide (s.bankOwner n ≠ 0) || s.rwt.any (fun e => decide (e.1 = Reg.MEM_BANK_OWNER n))

end Sys2Proof.Machine
end

