-- ==== Sys2Proof/Machine/Emit.lean ====
section
/-! DEFINITION. What a node sends: packets on a port (R175 to R177, R183), events (R186, R306) and replies (R288). -/

namespace Sys2Proof.Machine

/-- Packet types (*Table — Packet types*). -/
def tyTIME : Nat := 1
def tyCMD : Nat := 2
def tyRPL : Nat := 3
def tyPATCH : Nat := 4
def tySEAL : Nat := 5
def tyVOID : Nat := 6
def tyBAR : Nat := 7
def tySNAP : Nat := 8
def tyEVT : Nat := 9
def tyUPD : Nat := 10
def tyMIRROR : Nat := 11
def tyENUM : Nat := 12
def tyPRIVET : Nat := 13
def tyTEST : Nat := 14

/-- Status codes (*Table — Status codes*). -/
def stOK : Nat := 0x0000
def stPENDING : Nat := 0x0001
def stBUSY : Nat := 0x0100
def stCONFLICT : Nat := 0x0101
def stNO_RESOURCE : Nat := 0x0102
def stBAD_OPCODE : Nat := 0x0200
def stBAD_LENGTH : Nat := 0x0201
def stBAD_PARAM : Nat := 0x0202
def stBAD_TARGET : Nat := 0x0203
def stNOT_OWNER : Nat := 0x0300
def stAUTH_FAIL : Nat := 0x0301
def stSECURE_ONLY : Nat := 0x0302
def stDISCARDED : Nat := 0x0400
def stTIMEOUT : Nat := 0x0401
def stUNREACHABLE : Nat := 0x0402
def stINTERNAL : Nat := 0x0500

/-- The state of port `p`. -/
def State.port (s : State) (p : Nat) : PortSt := s.link.ports.getD p PortSt.reset

/-- Changes the state of port `p`. -/
def State.setPort (s : State) (p : Nat) (v : PortSt) : State :=
  { s with link := { s.link with ports := setAt s.link.ports p v } }

/-- The link of port `p` is up (LNK_PORT_STAT.STATE 2). -/
def State.linkUp (s : State) (p : Nat) : Bool := decide (s.get (Fld.LNK_PORT_STAT_STATE p) = 2)

/-- Port `p` carries packets beyond its neighbour: up, not blocked by a walk and not Isolated (R179, R195). -/
def State.portOpen (s : State) (p : Nat) : Bool :=
  s.linkUp p && !(s.bit (Fld.LNK_NET_STAT_BLOCKED p)) && decide (s.get (Fld.LNK_NET_STAT_LEVEL p) ≠ 3)

/-- Port `p` carries link-local packets: up and not Isolated. -/
def State.portLocal (s : State) (p : Nat) : Bool :=
  s.linkUp p && decide (s.get (Fld.LNK_NET_STAT_LEVEL p) ≠ 3)

/-- Transmit side of logical lane `k`. -/
def PortSt.tx (q : PortSt) (k : Nat) : LaneTx := if k = 0 then q.tx0 else q.tx1

/-- Changes the transmit side of logical lane `k`. -/
def PortSt.setTx (q : PortSt) (k : Nat) (t : LaneTx) : PortSt := if k = 0 then { q with tx0 := t } else { q with tx1 := t }

/-- Receive side of logical lane `k`. -/
def PortSt.rx (q : PortSt) (k : Nat) : LaneRx := if k = 0 then q.rx0 else q.rx1

/-- Changes the receive side of logical lane `k`. -/
def PortSt.setRx (q : PortSt) (k : Nat) (r : LaneRx) : PortSt := if k = 0 then { q with rx0 := r } else { q with rx1 := r }

/-- The logical lane a packet asked for on lane `k` leaves on (R152): lane 0 when outgoing lane 1 is failed or absent,
lane 1 while lane 0 is failed. -/
def State.txLane (s : State) (p k : Nat) : Nat :=
  let q := s.port p
  if q.tx0.failed then 1
  else if k = 1 ∧ (q.tx1.failed = true ∨ bitsOf (s.get (Fld.LNK_LANE_MAP_TX p)) 2 2 = 3) then 0
  else k

/-- The TSHOW by which a replay of a packet must have ended (R163). -/
def State.pktTshow (s : State) (type : Nat) (body : List Word) : Option Word :=
  if type = tyPATCH ∨ type = tySEAL then some (nth body 1)
  else if type = tyVOID then some (s.tshow (nth body 0))
  else none

/-- The two header words of a packet (*Table — Packet header*). -/
def headWords (type : Nat) (dest src : NodeId) (len : Nat) (seq : BitVec 16) : List Word :=
  [wd (type * 2 ^ 28 + dest.toNat * 2 ^ 12 + src.toNat / 16), wd (src.toNat % 16 * 2 ^ 28 + len % 2 ^ 12 * 2 ^ 16 + seq.toNat)]

/-- The CRC field of a packet this node sends with SEQ `seq`: its one's complement when the packet is stomped (R175, R184). -/
def Pkt.crc (k : Pkt) (seq : BitVec 16) : Word :=
  let c := wd (crc32c (wireStream (headWords k.type k.dest k.src k.body.length seq ++ k.body)))
  if k.stomped then ~~~c else c

/-- The bytes of a packet on the wire: header and body words with bits [31:24] first, the CRC with its least significant
byte first (R175). -/
def Pkt.wire (k : Pkt) (seq : BitVec 16) : List Byte :=
  (wireStream (headWords k.type k.dest k.src k.body.length seq ++ k.body) ++ leBytes (k.crc seq)).map (fun b => BitVec.ofNat 8 b)

/-- Bytes of a packet on the wire: an encrypted one carries a tag of 16 bytes more (R175, R191). -/
def Pkt.size (k : Pkt) : Nat := 12 + 4 * k.body.length + (if k.enc then 16 else 0)

/-- Bytes queued on a logical lane (R152). -/
def LaneTx.queued (t : LaneTx) : Nat :=
  (match t.part with | some (_, b) => b.length | none => 0) +
    (t.queue.map (fun i => match i with | .pkt x => x.size | .resync => 0)).sum

/-- A control block: the code byte, its bytes and zeros (R149). -/
def ctlBytes (code : Nat) (args : List Nat) : List Byte :=
  ((code :: args ++ List.replicate 31 0).take 32).map (fun b => BitVec.ofNat 8 b)

/-- Queues a packet on port `p`, logical lane `k` (R152, R176). -/
def State.sendOn (s : State) (p k type : Nat) (dest src : NodeId) (body : List Word) (stomped : Bool := false)
    (enc : Bool := false) : State :=
  let k := s.txLane p k
  let q := s.port p
  let t := q.tx k
  let pkt : Pkt := ⟨type, dest, src, body, stomped, enc, decide (src = s.nodeId), s.pktTshow type body⟩
  let t' := { t with queue := t.queue ++ [.pkt pkt] }
  let s := if src = s.nodeId then s.tallyOf 0x006 1 p else s.tallyOf 0x005 1 p
  let s := if type = tyPATCH then s.tallyOf 0x007 1 p (12 + 4 * body.length) else s
  (s.setPort p (q.setTx k t')).emit (.packet p k pkt)

/-- Queues a control block on port `p`, logical lane `k`; it goes before the packets that wait. -/
def State.sendCtl (s : State) (p k code : Nat) (args : List Nat) : State :=
  let q := s.port p
  let t := q.tx k
  (s.setPort p (q.setTx k { t with ctl := t.ctl ++ [ctlBytes code args] })).emit (.control p k ⟨code, args⟩)

/-- Queues a RESYNC in its place in the packet stream of an outgoing lane (R163). -/
def State.passResync (s : State) (p k : Nat) : State :=
  let k := s.txLane p k
  let q := s.port p
  let t := q.tx k
  (s.setPort p (q.setTx k { t with queue := t.queue ++ [.resync] })).emit (.control p k ⟨1, [0]⟩)

/-- Sends a link-local packet of this node on port `p`. -/
def State.sendLocal (s : State) (p type : Nat) (body : List Word) : State :=
  if s.portLocal p then s.sendOn p 0 type 0 s.nodeId body else s

/-- Index of the LNK_HEAD entry of a head. -/
def State.headIndex (s : State) (h : NodeId) : Option Nat :=
  (List.range 16).find? (fun i => s.bit (Fld.LNK_HEAD_VALID i) && decide (s.get (Fld.LNK_HEAD_HEAD i) = h.toNat))

/-- The heads of the head table, in entry order. -/
def State.headIds (s : State) : List NodeId :=
  ((List.range 16).filter (fun i => s.bit (Fld.LNK_HEAD_VALID i))).map (fun i => BitVec.ofNat 16 (s.get (Fld.LNK_HEAD_HEAD i)))

/-- A node's head table names `h` (R189, R203). A head installs no entry of the table (R179); it knows the heads that its
walks met and the partner of its pair (assumption 18). -/
def State.knowsHead (s : State) (h : NodeId) : Bool :=
  (s.headIndex h).isSome || (decide (s.role = .head) && decide (h ≠ 0) &&
    (decide (s.get Fld.RED_STAT_PARTNER = h.toNat) || s.net.metHead.any (fun e => decide (e.2 = h))))

/-- The first route entry that holds `d` and whose port is up (R183, row 5). -/
def State.routeIndex (s : State) (d : NodeId) : Option Nat :=
  (List.range 64).find? (fun i => s.bit (Fld.LNK_ROUTE_PORT_VALID i) && decide (s.get (Fld.LNK_ROUTE_LOW i) ≤ d.toNat) &&
    decide (d.toNat ≤ s.get (Fld.LNK_ROUTE_HIGH i)) && s.linkUp (s.get (Fld.LNK_ROUTE_PORT_PORT i)))

/-- The port by which a head's last walk met the head `d`; of two, one that is open (assumption 18). -/
def State.headPort (s : State) (d : NodeId) : Option Nat :=
  let met := s.net.metHead.filter (fun e => decide (e.2 = d))
  match met.find? (fun e => s.portOpen e.1) with
  | some e => some e.1
  | none => met.head?.map (·.1)

/-- The port chosen by rows 4 to 6 of R183 for a destination, before the check of the port. A head, which holds no head
table, sends to another head where its walks met that head. -/
def State.routePort (s : State) (d : NodeId) : Option Nat :=
  match s.headIndex d with
  | some i => some (s.get (Fld.LNK_HEAD_PORT i))
  | none =>
    match s.routeIndex d with
    | some i => some (s.get (Fld.LNK_ROUTE_PORT_PORT i))
    | none => if s.role = .head then s.headPort d else some (s.get Fld.LNK_NODE_ID_UPPORT)

/-- The port a packet for `d` leaves on, given its arrival port: none when it is unroutable (R183). -/
def State.outPort (s : State) (d : NodeId) (arrival : Option Nat) : Option Nat :=
  match s.routePort d with
  | some p => if some p ≠ arrival ∧ s.portOpen p = true then some p else none
  | none => none

/-- The ports a broadcast of this node or through it leaves on (R183, row 3). -/
def State.floodPorts (s : State) (arrival : Option Nat) : List Nat :=
  (List.range 4).filter (fun p => decide (some p ≠ arrival) && s.portOpen p)

/-- Counts an unroutable packet (R183). -/
def State.unroute (s : State) (p : Nat) : State :=
  (s.count (Fld.LNK_NETDROP_UNROUTE p)).raise (Fld.LNK_NET_INT_UNROUTE p)

/-- Sends a packet of this node to an assignable ID or to every node. -/
def State.sendTo (s : State) (type : Nat) (dest : NodeId) (body : List Word) : State :=
  if dest = 0xFFFF then forEach (s.floodPorts none) (fun p s => s.sendOn p 0 type dest s.nodeId body) s
  else match s.outPort dest none with
    | some p => s.sendOn p 0 type dest s.nodeId body
    | none => s.unroute (match s.routePort dest with | some p => p | none => 0)

/-- The authentication trailer of R177 and R188 on a body: ORIG high, ORIG low, TAG. The head's ORIG advances by 1. -/
def State.withTag (s : State) (type : Nat) (dest : NodeId) (body : List Word) : List Word × State :=
  let o := s.keys.orig
  let hdr := headWords type dest s.nodeId (body.length + 6) 0
  let ow : List Word := [wd (o / 2 ^ 32), wd o]
  let iv : BitVec 96 := BitVec.ofNat 96 (s.nodeId.toNat * 2 ^ 80 + o)
  let tag := match s.keys.domain with
    | some k => gmac k iv (wireStream (hdr ++ body ++ ow))
    | none => 0
  (body ++ ow ++ [wd (tag.toNat / 2 ^ 96), wd (tag.toNat / 2 ^ 64), wd (tag.toNat / 2 ^ 32), wd tag.toNat],
    { s with keys := { s.keys with orig := o + 1 } })

/-- Makes an authenticated packet and sends it (R188). A head whose ORIG would exceed 2^64 − 2^20 originates none. -/
def State.tagAnd (s : State) (type : Nat) (dest : NodeId) (body : List Word) (send : List Word → State → State) : State :=
  if 2 ^ 64 - 2 ^ 20 < s.keys.orig then { s with keys := { s.keys with origEnd := true } }
  else
    let (b, s) := s.withTag type dest body
    send b s

/-- Sends an authenticated packet (R188). -/
def State.sendAuth (s : State) (type : Nat) (dest : NodeId) (body : List Word) : State :=
  s.tagAnd type dest body (fun b s => s.sendTo type dest b)

/-- Stages an event record for one client of this head (R306). -/
def State.deliver (s : State) (e : EventRec) : State :=
  { s with cmds := { s.cmds with staged := s.cmds.staged ++ [.event e] } }

/-- An event taken by this head: to client 0, and into the journal's records (R306, R327). -/
def State.headEvent (s : State) (code : Nat) (origin : NodeId) (eseq : Nat) (stamp fn : Word) (params : List Word) : State :=
  let e : EventRec := ⟨code, 0, 0, origin, BitVec.ofNat 16 eseq, stamp, fn, params⟩
  let s := if code = 0x0400 ∧ s.bit Fld.JRN_STAT_RUN = true then
      { s with cmds := { s.cmds with journal := s.cmds.journal ++ [e] } } else s
  if code = 0x0100 then s else s.deliver e

/-- Sends EVT to one head; ESEQ counts separately for each head (R177, R186). -/
def State.sendEvt (s : State) (h : NodeId) (code : Nat) (params : List Word) : State :=
  let q := (lookup 0 s.net.eseqOut h + 1) % 2 ^ 16
  let s := { s with net := { s.net with eseqOut := assoc s.net.eseqOut h q } }
  s.sendTo tyEVT h ([wd (code * 2 ^ 16 + q), s.clk.dtime, s.clk.fn] ++ params)

/-- An event of this head for its own client 0. -/
def State.ownEvent (s : State) (code : Nat) (params : List Word) : State :=
  let q := (lookup 0 s.net.eseqOut s.nodeId + 1) % 2 ^ 16
  let s := { s with net := { s.net with eseqOut := assoc s.net.eseqOut s.nodeId q } }
  s.headEvent code s.nodeId q s.clk.dtime s.clk.fn params

/-- An event of this node: to every head of its head table, and, on a head, to its own clients. -/
def State.event (s : State) (code : Nat) (params : List Word) : State :=
  let s := forEach s.headIds (fun h s => s.sendEvt h code params) s
  if s.role = .head then s.ownEvent code params else s

/-- The words of a reply (*Table — Reply header*). -/
def Reply.words (r : Reply) : List Word :=
  [wd (r.status * 2 ^ 16 + (if r.fwd then 2 ^ 15 else 0) + (if r.late then 2 ^ 14 else 0) + r.result.length % 2 ^ 12),
   wd (r.client.toNat * 2 ^ 20 + r.tag.toNat), wd (r.source.toNat * 2 ^ 16 + r.epoch.toNat), r.tick] ++ r.result

/-- The words of an event record (R306). -/
def EventRec.words (e : EventRec) : List Word :=
  [wd (e.code * 2 ^ 16 + e.params.length % 2 ^ 12), wd (e.client.toNat * 2 ^ 20 + e.tag.toNat),
   wd (e.origin.toNat * 2 ^ 16 + e.eseq.toNat), e.stamp, e.fn] ++ e.params

/-- Hands a reply to the client of this node: the reply ring, or the LOCAL port. -/
def State.stageReply (s : State) (route : Route) (r : Reply) : State :=
  match route with
  | .localPort => s.emit (.localReply r)
  | _ => { s with cmds := { s.cmds with staged := s.cmds.staged ++ [.reply r.client r] } }

/-- Sends the reply of a command this node took or was sent (R288, R289). NO_REPLY withholds OK from the client. -/
def State.reply (s : State) (c : Cmd) (status : Nat) (late : Bool) (tick : Word) (result : List Word) : State :=
  let fwd := match c.route with | .broash _ _ => true | _ => false
  let r : Reply := ⟨status, fwd, late, c.client, c.tag, s.nodeId, BitVec.ofNat 16 (s.get Fld.SYS_FAULT_EPOCH_EPOCH), tick, result⟩
  if c.noReply ∧ status = stOK then s
  else match c.route with
    | .broash src _ => s.sendTo tyRPL src r.words
    | _ => s.stageReply c.route r

/-- Event CMD_DONE to the issuing client, with the final status and the result words (R289, R306). At another node
than the head that took the command it travels as an EVT to that head. -/
def State.cmdDone (s : State) (d : PendingDone) (status : Nat) (result : List Word) : State :=
  let params := wd (status * 2 ^ 16) :: result
  match d.route with
  | .broash src _ => s.sendEvt src 0x0100 params
  | _ =>
    let q := (lookup 0 s.net.eseqOut s.nodeId + 1) % 2 ^ 16
    let s := { s with net := { s.net with eseqOut := assoc s.net.eseqOut s.nodeId q } }
    let e : EventRec := ⟨0x0100, d.client, d.tag, s.nodeId, BitVec.ofNat 16 q, s.clk.dtime, s.clk.fn, params⟩
    if d.route = .localPort then s.emit (.localEvent e) else s.deliver e

/-- A unit that a running SELFTEST covers has failed: `kind` 0 link lanes, 1 SRAM banks, 2 sink trims, 3 pixel lanes. -/
def State.selftestFail (s : State) (kind : Nat) : State :=
  { s with mem := { s.mem with selftests := s.mem.selftests.map (fun (t : SelfTest) =>
    if bitsOf t.waiting kind 1 = 1 then { t with failed := setBits t.failed kind 1 1 } else t) } }

end Sys2Proof.Machine
end

