-- ==== Sys2Proof/Machine/CmdCore.lean ====
section
/-! DEFINITION. The form of commands (R286, R287), the opcode tables' columns, authentication (R290 to R294) and the
choice of the apply tick (R131, R132, R304). What each opcode does stands in Machine/Commands.lean. -/

namespace Sys2Proof.Machine

/-! ### Words of a command packet (R286) -/

/-- The authentication trailer's six words: CSEQ, high word first, then the tag. -/
def trailerWords (t : Trailer) : List Word :=
  [wd (t.cseq.toNat / 2 ^ 32), wd t.cseq.toNat, wd (t.tag.toNat / 2 ^ 96), wd (t.tag.toNat / 2 ^ 64),
   wd (t.tag.toNat / 2 ^ 32), wd t.tag.toNat]

/-- A Bool as a bit. -/
def bitNat (b : Bool) : Nat := if b then 1 else 0

/-- The header's four words (*Table — Command header*). -/
def headerWords (op : Nat) (c : Cmd) : List Word :=
  [wd (op % 2 ^ 16 * 2 ^ 16 + bitNat c.trailer.isSome * 2 ^ 15 + bitNat c.atTick * 2 ^ 14 + bitNat c.noReply * 2 ^ 13 +
      bitNat c.urgent * 2 ^ 12 + c.params.length % 2 ^ 12),
   wd (c.client.toNat * 2 ^ 20 + c.tag.toNat), wd (c.target.toNat * 2 ^ 16), c.applyTick]

/-- A command packet as words. -/
def cmdWords (op : Nat) (c : Cmd) : List Word :=
  headerWords op c ++ c.params ++ (match c.trailer with | some t => trailerWords t | none => [])

/-- Reads a trailer from six words. -/
def trailerOf (ws : List Word) : Trailer :=
  ⟨BitVec.ofNat 64 ((nth ws 0).toNat * 2 ^ 32 + (nth ws 1).toNat),
   BitVec.ofNat 128 ((nth ws 2).toNat * 2 ^ 96 + (nth ws 3).toNat * 2 ^ 64 + (nth ws 4).toNat * 2 ^ 32 + (nth ws 5).toNat)⟩

/-- The length in words a header announces (R287). -/
def announced (ws : List Word) : Nat := 4 + wbits (nth ws 0) 11 0 + 6 * wbits (nth ws 0) 15 15

/-- Reads a command packet: opcode and command. Words beyond what the header announces are not part of it. -/
def parseCmd (route : Route) (ws : List Word) : Nat × Cmd :=
  let w0 := nth ws 0
  let plen := wbits w0 11 0
  (wbits w0 31 16,
   ⟨route, BitVec.ofNat 12 (wbits (nth ws 1) 31 20), BitVec.ofNat 16 (wbits (nth ws 1) 15 0),
    BitVec.ofNat 16 (wbits (nth ws 2) 31 16), decide (wbits w0 14 14 = 1), decide (wbits w0 13 13 = 1),
    decide (wbits w0 12 12 = 1), nth ws 3, (ws.drop 4).take plen,
    if wbits w0 15 15 = 1 then some (trailerOf (ws.drop (4 + plen))) else none⟩)

/-- Total length in words (R287). -/
def cmdLength (c : Cmd) : Nat := 4 + c.params.length + (if c.trailer.isSome then 6 else 0)

/-! ### Opcodes -/

def opNOP : Nat := 0x0001
def opECHO : Nat := 0x0002
def opGET_INFO : Nat := 0x0010
def opCLIENT_OPEN : Nat := 0x0100
def opCLIENT_CLOSE : Nat := 0x0101
def opCLIENT_GRANT : Nat := 0x0102
def opKEY_INSTALL : Nat := 0x0103
def opSRC_DEFINE : Nat := 0x0200
def opSRC_ENABLE : Nat := 0x0201
def opSRC_STATUS : Nat := 0x0202
def opSRC_WATCH : Nat := 0x0203
def opWIN_CREATE : Nat := 0x0300
def opWIN_MODIFY : Nat := 0x0301
def opWIN_DELETE : Nat := 0x0302
def opWIN_BATCH : Nat := 0x0303
def opPLANE_ORDER : Nat := 0x0304
def opDOM_ENUMERATE : Nat := 0x0400
def opTILE_PLACE : Nat := 0x0401
def opTILE_QUERY : Nat := 0x0402
def opDOM_BARRIER : Nat := 0x0403
def opDOM_SNAPSHOT : Nat := 0x0404
def opDOM_RESET : Nat := 0x0405
def opNODE_PEEK : Nat := 0x0406
def opNODE_POKE : Nat := 0x0407
def opCOR_LOAD : Nat := 0x0500
def opCOR_COMMIT : Nat := 0x0501
def opLAMP_TEST : Nat := 0x0502
def opWALL_GAIN : Nat := 0x0503
def opAGEING_CTL : Nat := 0x0504
def opHOUSE_TIME : Nat := 0x0600
def opTICK_CONFIG : Nat := 0x0601
def opLEAD_SET : Nat := 0x0602
def opRED_PAIR : Nat := 0x0700
def opRED_SWITCH : Nat := 0x0701
def opRED_RESYNC : Nat := 0x0702
def opRED_TILE : Nat := 0x0703
def opPRIVET_LOAD : Nat := 0x0800
def opPRIVET_SHOW : Nat := 0x0801
def opPRIVET_HIDE : Nat := 0x0802
def opJRN_CONFIG : Nat := 0x0900
def opJRN_START : Nat := 0x0901
def opJRN_STOP : Nat := 0x0902
def opJRN_REPLAY : Nat := 0x0903
def opUPD_BEGIN : Nat := 0x0A00
def opUPD_BLOCK : Nat := 0x0A01
def opUPD_VERIFY : Nat := 0x0A02
def opUPD_ACTIVATE : Nat := 0x0A03
def opUPD_CONFIRM : Nat := 0x0A04
def opPMU_CONFIG : Nat := 0x0B00
def opPMU_READ : Nat := 0x0B01
def opBLOT_READ : Nat := 0x0B02
def opSELFTEST : Nat := 0x0B03
def opLINK_EYE : Nat := 0x0B04

/-- The Issuer column. -/
inductive Issuer where
  | any | zero | own | closing | heads
  | right (bit : Nat)
  deriving DecidableEq, Repr

/-- The Acts column (R299). -/
inductive Acts where
  | tick | now | dtime
  deriving DecidableEq, Repr

/-- One row of the opcode tables: issuer, "Auth", how it acts, whether it acts on a head object (R298), and the roles
that have its function, one bit per role code. -/
structure OpRow where
  issuer  : Issuer
  auth    : Bool
  acts    : Acts
  headObj : Bool
  roles   : Nat
  deriving DecidableEq, Repr

/-- Role sets: tile 1, head 2, branch 4, recovery 8. -/
def rHead : Nat := 2
def rTile : Nat := 1
def rWork : Nat := 7
def rAll : Nat := 15

/-- The opcode tables. Which roles have an opcode's function follows *Table — Functions by role*; the recovery loader
takes UPD_BEGIN, UPD_BLOCK and UPD_VERIFY (R381) and the commands of domain time (R4). -/
def opRow (op : Nat) : Option OpRow :=
  if op = opNOP then some ⟨.any, false, .now, false, rWork⟩
  else if op = opECHO then some ⟨.any, false, .now, false, rWork⟩
  else if op = opGET_INFO then some ⟨.any, false, .now, false, rWork⟩
  else if op = opCLIENT_OPEN then some ⟨.zero, false, .now, true, rHead⟩
  else if op = opCLIENT_CLOSE then some ⟨.closing, false, .tick, true, rHead⟩
  else if op = opCLIENT_GRANT then some ⟨.zero, false, .tick, true, rHead⟩
  else if op = opKEY_INSTALL then some ⟨.zero, true, .now, false, rWork⟩
  else if op = opSRC_DEFINE then some ⟨.right 0, false, .now, true, rHead⟩
  else if op = opSRC_ENABLE then some ⟨.right 0, false, .tick, true, rHead⟩
  else if op = opSRC_STATUS then some ⟨.any, false, .now, true, rHead⟩
  else if op = opSRC_WATCH then some ⟨.any, false, .now, true, rHead⟩
  else if op = opWIN_CREATE then some ⟨.any, false, .tick, true, rHead⟩
  else if op = opWIN_MODIFY then some ⟨.own, false, .tick, true, rHead⟩
  else if op = opWIN_DELETE then some ⟨.own, false, .tick, true, rHead⟩
  else if op = opWIN_BATCH then some ⟨.own, false, .tick, true, rHead⟩
  else if op = opPLANE_ORDER then some ⟨.right 1, false, .tick, true, rHead⟩
  else if op = opDOM_ENUMERATE then some ⟨.right 2, false, .now, false, rHead⟩
  else if op = opTILE_PLACE then some ⟨.right 2, false, .tick, true, rHead⟩
  else if op = opTILE_QUERY then some ⟨.any, false, .now, true, rHead⟩
  else if op = opDOM_BARRIER then some ⟨.right 2, false, .now, false, rHead⟩
  else if op = opDOM_SNAPSHOT then some ⟨.right 6, false, .dtime, false, rHead⟩
  else if op = opDOM_RESET then some ⟨.zero, true, .dtime, false, rAll⟩
  else if op = opNODE_PEEK then some ⟨.right 6, false, .now, false, rWork⟩
  else if op = opNODE_POKE then some ⟨.zero, false, .now, false, rWork⟩
  else if op = opCOR_LOAD then some ⟨.right 3, false, .now, false, rTile⟩
  else if op = opCOR_COMMIT then some ⟨.right 3, false, .tick, false, rTile⟩
  else if op = opLAMP_TEST then some ⟨.right 3, false, .tick, false, rTile⟩
  else if op = opWALL_GAIN then some ⟨.right 3, false, .tick, false, rTile⟩
  else if op = opAGEING_CTL then some ⟨.right 3, false, .tick, false, rTile⟩
  else if op = opHOUSE_TIME then some ⟨.zero, false, .now, false, rAll⟩
  else if op = opTICK_CONFIG then some ⟨.zero, false, .tick, false, rAll⟩
  else if op = opLEAD_SET then some ⟨.zero, false, .tick, false, rAll⟩
  else if op = opRED_PAIR then some ⟨.zero, true, .now, true, rHead⟩
  else if op = opRED_SWITCH then some ⟨.zero, false, .tick, true, rHead⟩
  else if op = opRED_RESYNC then some ⟨.zero, false, .now, true, rHead⟩
  else if op = opRED_TILE then some ⟨.heads, false, .tick, false, rTile⟩
  else if op = opPRIVET_LOAD then some ⟨.zero, true, .tick, true, rHead⟩
  else if op = opPRIVET_SHOW then some ⟨.zero, true, .tick, true, rHead⟩
  else if op = opPRIVET_HIDE then some ⟨.zero, true, .tick, true, rHead⟩
  else if op = opJRN_CONFIG then some ⟨.right 5, false, .now, true, rHead⟩
  else if op = opJRN_START then some ⟨.right 5, false, .tick, true, rHead⟩
  else if op = opJRN_STOP then some ⟨.right 5, false, .tick, true, rHead⟩
  else if op = opJRN_REPLAY then some ⟨.right 5, false, .now, true, rHead⟩
  else if op = opUPD_BEGIN then some ⟨.zero, true, .now, false, rAll⟩
  else if op = opUPD_BLOCK then some ⟨.zero, true, .now, false, 10⟩
  else if op = opUPD_VERIFY then some ⟨.zero, true, .now, false, rAll⟩
  else if op = opUPD_ACTIVATE then some ⟨.zero, true, .dtime, false, rWork⟩
  else if op = opUPD_CONFIRM then some ⟨.zero, true, .now, false, rWork⟩
  else if op = opPMU_CONFIG then some ⟨.right 6, false, .now, false, rWork⟩
  else if op = opPMU_READ then some ⟨.right 6, false, .now, false, rWork⟩
  else if op = opBLOT_READ then some ⟨.right 6, false, .now, false, rWork⟩
  else if op = opSELFTEST then some ⟨.right 6, false, .now, false, rWork⟩
  else if op = opLINK_EYE then some ⟨.right 6, false, .now, false, rWork⟩
  else if op / 4096 = 7 then some ⟨.right 7, false, .now, false, rWork⟩
  else none

/-- The role has the opcode's function. -/
def OpRow.has (o : OpRow) (r : Role) : Bool := decide (bitsOf o.roles r.code 1 = 1)

/-- Number of ones of the 13-bit mask of a WIN_MODIFY word. -/
def maskCount (w : Word) : Nat := ((List.range 13).filter (fun k => decide (wbits w (16 + k) (16 + k) = 1))).length

/-- An entry of a WIN_BATCH (R305): type, mask word and its words. -/
structure BatchEntry where
  kind  : Nat
  head  : Word
  words : List Word
  deriving DecidableEq, Repr

/-- Splits the entries of a WIN_BATCH: none when the length disagrees with the entries announced (R305). -/
def batchEntries (n : Nat) (ws : List Word) : Option (List BatchEntry) :=
  match n with
  | 0 => if ws = [] then some [] else none
  | k + 1 =>
    match ws with
    | [] => none
    | w :: t =>
      let m := match wbits w 31 30 with | 0 => 13 | 2 => 0 | _ => maskCount w
      if t.length < m then none
      else (batchEntries k (t.drop m)).map (fun l => ⟨wbits w 31 30, w, t.take m⟩ :: l)

/-- PLEN agrees with the opcode's layout (R287). -/
def plenOk (op : Nat) (p : List Word) : Bool :=
  let n := p.length
  let w0 := nth p 0
  if op = opNOP ∨ op = opDOM_BARRIER ∨ op = opRED_SWITCH ∨ op = opRED_RESYNC ∨ op = opJRN_START ∨ op = opJRN_STOP ∨
      op = opPMU_READ then n == 0
  else if op = opECHO ∨ op / 4096 = 7 then true
  else if op = opGET_INFO then decide (n ≤ 1)
  else if op = opKEY_INSTALL then
    decide (1 ≤ n) && (match wbits w0 31 24 with
      | 0 => n == 11 | 1 => n == 11 | 2 => n == 25 | 3 => n == 11 || n == 9 | 4 => n == 35 | _ => true)
  else if op = opSRC_DEFINE then decide (15 ≤ n) && (decide (4 < wbits (nth p 14) 2 0) || n == 15 + 4 * wbits (nth p 14) 2 0)
  else if op = opWIN_CREATE then n == 14
  else if op = opWIN_MODIFY then decide (1 ≤ n) && n == 1 + maskCount w0
  else if op = opWIN_BATCH then
    decide (1 ≤ n) && (let k := wbits w0 8 0; decide (k = 0) || decide (256 < k) || (batchEntries k (p.drop 1)).isSome)
  else if op = opDOM_ENUMERATE ∨ op = opTICK_CONFIG then n == 5
  else if op = opTILE_PLACE then n == 9
  else if op = opNODE_POKE then
    decide (2 ≤ n) && (let k := (nth p 1).toNat; decide (k = 0) || decide (1024 < k) || n == 2 + k)
  else if op = opCOR_LOAD then decide (1 ≤ n)
  else if op = opLAMP_TEST then
    decide (1 ≤ n) && (let k := wbits w0 31 16; decide (k = 0) || decide (8156 < k) || n == 1 + (k + 1) / 2)
  else if op = opAGEING_CTL ∨ op = opHOUSE_TIME ∨ op = opJRN_REPLAY ∨ op = opPMU_CONFIG ∨ op = opBLOT_READ ∨ op = opLINK_EYE then
    n == 3
  else if op = opPRIVET_LOAD then decide (15 ≤ n)
  else if op = opJRN_CONFIG then
    decide (1 ≤ n) && (match wbits w0 1 0 with
      | 0 => n == 5
      | 1 => let k := wbits w0 26 24; decide (k = 0) || decide (4 < k) || n == 5 + 16 * k
      | _ => true)
  else if op = opUPD_BLOCK then n == 1026
  else if op = opCLIENT_OPEN ∨ op = opCLIENT_GRANT ∨ op = opDOM_SNAPSHOT ∨ op = opNODE_PEEK ∨ op = opWALL_GAIN ∨ op = opLEAD_SET ∨
      op = opRED_PAIR ∨ op = opRED_TILE ∨ op = opPRIVET_SHOW ∨ op = opPRIVET_HIDE ∨ op = opUPD_BEGIN ∨ op = opUPD_ACTIVATE then
    n == 2
  else n == 1

/-! ### Clients and authentication -/

/-- The client a command acts for: on a LOCAL port, client 0 (R294). -/
def cmdIssuer (c : Cmd) : ClientId := match c.route with | .localPort => 0 | _ => c.client

/-- An entry of the client table; client 0 is always open with class 7 and every right (R290). -/
def State.client (s : State) (n : ClientId) : Client :=
  if n = 0 then ⟨true, false, 7, 0xFF⟩ else SMap.get (fun _ => Client.closed) s.cmds.clients n.toNat

/-- CMD_CLIENT of a client nothing is known of: client 0 is open, with class 7 and every right. -/
def shownDefault (n : Nat) : Word := if n = 0 then 0x800700FF else 0

/-- The key of a client. -/
def State.clientKey (s : State) (n : ClientId) : Option (BitVec 256) :=
  if n = 0 then s.keys.client0 else SMap.find s.keys.clients n.toNat

/-- The last CSEQ accepted from a client. -/
def State.lastCseq (s : State) (n : ClientId) : Nat := SMap.get (fun _ => 0) s.keys.cseq n.toNat

/-- Records an accepted CSEQ (R292). -/
def State.takeCseq (s : State) (n : ClientId) (v : Nat) : State :=
  { s with keys := { s.keys with cseq := SMap.set (fun _ => 0) s.keys.cseq n.toNat v } }

/-- The client tag of a command verifies under `key` (R291). -/
def clientTagOk (key : BitVec 256) (op : Nat) (c : Cmd) : Bool :=
  match c.trailer with
  | none => false
  | some t =>
    let iv : BitVec 96 := BitVec.ofNat 96 (c.client.toNat * 2 ^ 80 + t.cseq.toNat)
    gmac key iv (leStream (headerWords op c ++ c.params ++ [wd (t.cseq.toNat / 2 ^ 32), wd t.cseq.toNat])) == t.tag

/-- Opcodes that a tile accepts on LOCAL without AUTH (R294). -/
def localFree (op : Nat) : Bool :=
  op == opNOP || op == opECHO || op == opGET_INFO || op == opNODE_PEEK || op == opCOR_LOAD || op == opCOR_COMMIT ||
    op == opLAMP_TEST || op == opSELFTEST

/-- The provisioning forms of R293: kind 3 unwrapped from a ring or a LOCAL port, kind 4 by any path. -/
def provisioning (op : Nat) (c : Cmd) : Bool :=
  decide (op = opKEY_INSTALL) &&
    (match c.route with
     | .broash _ _ => decide (wbits (nth c.params 0) 31 24 = 4)
     | _ => decide (wbits (nth c.params 0) 31 24 = 4) || (decide (wbits (nth c.params 0) 31 24 = 3) && c.params.length == 9))

/-- The recovery loader takes UPD_BEGIN, UPD_BLOCK and UPD_VERIFY on LOCAL without AUTH while no client-0 key is held
(R381). -/
def State.recoveryFree (s : State) (op : Nat) (c : Cmd) : Bool :=
  decide (s.actingRole = .recovery) && decide (c.route = .localPort) &&
    (op == opUPD_BEGIN || op == opUPD_BLOCK || op == opUPD_VERIFY) && s.keys.client0.isNone

/-- The authentication check where a command is taken from a ring or a LOCAL port (R292 to R294): passed, and the state
with the sequence recorded. -/
def State.authenticate (s : State) (op : Nat) (auth : Bool) (c : Cmd) : Bool × State :=
  let n := cmdIssuer c
  match c.trailer with
  | some t =>
    match s.clientKey n with
    | none => (false, s)
    | some k =>
      if clientTagOk k op c && decide (s.lastCseq n < t.cseq.toNat) then (true, s.takeCseq n t.cseq.toNat) else (false, s)
  | none =>
    let free := (decide (c.route = .localPort) && localFree op) || s.recoveryFree op c
    if free then (true, s)
    else if n = 0 then
      if s.keys.client0.isNone then (op == opNOP || op == opECHO || op == opGET_INFO || provisioning op c, s) else (false, s)
    else (!(auth || (s.client n).authReq), s)

/-! ### Apply ticks -/

/-- The earliest tick whose cut-off has not passed (R131). -/
def State.earliestTick (s : State) : Word :=
  ([s.clk.fn, s.clk.fn + 1, s.clk.fn + 2].find? (fun g => !(s.passed (s.cutoff g)))).getD (s.clk.fn + 2)

/-- The tick a command of a head takes (R131), whether the reply carries LATE, and whether the command was moved. -/
def State.pickTick (s : State) (c : Cmd) : Word × Bool × Bool :=
  let e := s.earliestTick
  if c.atTick = false ∨ c.applyTick = 0 then (e, false, false)
  else if earlier c.applyTick s.clk.fn = true ∨ s.tickPassed c.applyTick (s.cutoff c.applyTick) = true then
    (e, decide (e ≠ c.applyTick), true)
  else (c.applyTick, false, false)

/-- The first frame whose T_dec has not passed (R132). -/
def State.openDecision (s : State) : Word :=
  (((if s.clk.prev.isSome then [s.clk.fn - 1] else []) ++ [s.clk.fn, s.clk.fn + 1]).find? (fun g => earlier s.clk.dtime (s.tdec g) &&
    (match s.tile.decided with | some d => later g d | none => true))).getD (s.clk.fn + 2)

/-- The frame a T command takes at a tile (R132), and LATE. -/
def State.pickFrame (s : State) (c : Cmd) : Word × Bool :=
  let e := s.openDecision
  if c.atTick = false ∨ c.applyTick = 0 then (e, false)
  else if earlier c.applyTick e then (e, true)
  else (c.applyTick, false)

/-- An APPLY_TICK more than 2^20 ticks ahead (R299); 0 names no tick (R131). -/
def State.tooFar (s : State) (c : Cmd) : Bool :=
  c.atTick && decide (c.applyTick ≠ 0) && later c.applyTick s.clk.fn && decide (2 ^ 20 < (c.applyTick - s.clk.fn).toNat)

/-- Two commands' objects (*Table — Command objects*): a kind and a number. -/
abbrev Obj := Nat × Nat

def objWindow : Nat := 0
def objTile : Nat := 1
def objSource : Nat := 2
def objOrder : Nat := 3
def objClient : Nat := 4
def objPrivet : Nat := 5
def objSchedule : Nat := 6
def objPair : Nat := 7
def objNode : Nat := 8

end Sys2Proof.Machine
end

