-- ==== Sys2Proof/Machine/Blots.lean ====
section
/-! DEFINITION. Logging a blot (R396 to R400). Steps 2 to 5 of fault handling stand in Machine/Faults.lean; `logBlot`
takes step 1 and leaves the rest due in `blots.work`. -/

namespace Sys2Proof.Machine

/-- BLOCK numbers of R396. -/
def blkSYS : Nat := 0
def blkICU : Nat := 2
def blkNVM : Nat := 5
def blkTHM : Nat := 6
def blkMEM : Nat := 7
def blkDMC : Nat := 8
def blkLNK (p : Nat) : Nat := 9 + p
def blkSRC : Nat := 13
def blkCMP : Nat := 14
def blkDRV : Nat := 16
def blkCOR : Nat := 17
def blkJRN : Nat := 18
def blkRED : Nat := 19
def blkSEC : Nat := 20
def blkUPD : Nat := 21
def blkQUILL : Nat := 25

/-- CLASS values of R396. -/
def clsINFO : Nat := 0
def clsDEGRADED : Nat := 1
def clsFAULT : Nat := 2
def clsFATAL : Nat := 3

/-- The eight words of a blot (*Table — Blot record*). -/
def Blot.words (b : Blot) : List Word :=
  [b.dtime, b.fn,
   wd (b.node.toNat * 2 ^ 16 + b.cls % 4 * 2 ^ 14 + b.block % 64 * 2 ^ 8 + (if b.nested then 2 ^ 7 else 0)),
   wd (b.code * 2 ^ 16 + b.epoch.toNat), b.p0, b.p1, b.p2, b.bseq]

/-- A blot no ring position holds yet. -/
def Blot.empty : Blot := ⟨0, 0, 0, 0, 0, false, 0, 0, 0, 0, 0, 0⟩

/-- Adds 1 to FAULT_EPOCH, modulo 2^16, kept in the MRAM node records (R399, step 1). -/
def State.epochUp (s : State) : State :=
  let e := (s.get Fld.SYS_FAULT_EPOCH_EPOCH + 1) % 2 ^ 16
  { s.put Fld.SYS_FAULT_EPOCH_EPOCH e with saved := { s.saved with faultEpoch := BitVec.ofNat 16 e } }

/-- Writes a blot into the MRAM ring, or leaves it in the SRAM ring only when the pool is empty (R397, R365). -/
def State.mramBlot (s : State) (b : Blot) : State :=
  if s.get Fld.NVM_POOL_FREE = 0 then s.raise Fld.SYS_FAULT_STAT_MLOST
  else
    let n := (s.saved.mnext + 1) % 256
    { s.put Fld.SYS_BLOT_STAT_MNEXT n with
      saved := { s.saved with blotRing := SMap.put s.saved.blotRing s.saved.mnext b, mnext := n } }

/-- Writes the words of a nested blot into SYS_BLOT_OVF (R400). -/
def State.ovfBlot (s : State) (ws : List Word) (i : Nat) : State :=
  match ws with
  | [] => s
  | w :: t => State.ovfBlot (s.setWord (Reg.SYS_BLOT_OVF i) w) t (i + 1)

/-- Sends EVT BLOT to the heads of the head table, at most RATE in an interval (R398). -/
def State.evtBlot (s : State) (b : Blot) : State :=
  let rate := max 1 (s.get Fld.SYS_BLOT_CFG_RATE)
  let s :=
    if s.headIds = [] then s
    else if s.blots.evtSent < rate then
      let s := { s with blots := { s.blots with evtSent := s.blots.evtSent + 1 } }
      forEach s.headIds (fun h s => s.sendEvt h 0x0400 b.words) s
    else s.count Fld.SYS_BLOT_STAT_EVTDROP
  if s.role = .head then s.ownEvent 0x0400 b.words else s

/-- Whether a blot is the thermal shutdown trigger, of which only step 1 of R399 takes place (R388). -/
def isShutdown (block code : Nat) : Bool := decide (block = blkTHM) && decide (code = 4)

/-- Logs a blot: block, code, class and parameters of *Table — Fault codes*. The recovery role has no Blot log (R4). -/
def State.logBlot (s : State) (block code cls : Nat) (p0 p1 p2 : Nat := 0) : State :=
  if s.role = .recovery then s else
  let nested := s.bit Fld.SYS_FAULT_STAT_HANDLING && decide (2 ≤ cls)
  let start := decide (2 ≤ cls) && !nested
  let s := if start then s.epochUp else s
  let seq := s.get Fld.SYS_BLOT_SEQ_BSEQ + 1
  let s := (s.put Fld.SYS_BLOT_SEQ_BSEQ seq).tally 0x186
  let b : Blot := ⟨s.clk.dtime, s.clk.fn, s.nodeId, cls, block, nested, code,
    BitVec.ofNat 16 (s.get Fld.SYS_FAULT_EPOCH_EPOCH), wd p0, wd p1, wd p2, wd seq⟩
  -- the SRAM ring, then the MRAM ring (R397); the shutdown's blot waits for nothing (R388)
  let n := s.get Fld.SYS_BLOT_STAT_SNEXT
  let s := if s.bankHolds 13 then { s with blots := { s.blots with sram := SMap.put s.blots.sram n b } } else s
  let s := s.put Fld.SYS_BLOT_STAT_SNEXT ((n + 1) % 1024)
  let s := if 2 ≤ cls then
      if s.bit Fld.NVM_STAT_BUSY && !(isShutdown block code) then { s with blots := { s.blots with mramWait := s.blots.mramWait ++ [b] } }
      else s.mramBlot b
    else s
  -- a nested blot (R400)
  let s := if nested then
      let s := { s with blots := { s.blots with nestedHit := true } }
      if s.bit Fld.SYS_FAULT_STAT_OVF then s.count Fld.SYS_FAULT_STAT_NESTED
      else (s.ovfBlot b.words 0).raise Fld.SYS_FAULT_STAT_OVF
    else s
  -- handling starts (R399); the exemption of R341 from the hold state is for DMC TRAINFAIL
  let s := if start && !(isShutdown block code) then
      let s := s.raise Fld.SYS_FAULT_STAT_HANDLING
      { s with blots := { s.blots with
        fatal := decide (cls = clsFATAL) && !(decide (block = blkDMC) && decide (code = 1)),
        nestedHit := false, work := true } }
    else s
  if s.get Fld.SYS_BLOT_CFG_EVTMIN ≤ cls && !(isShutdown block code) then s.evtBlot b else s

end Sys2Proof.Machine
end

