-- ==== Sys2Proof/Machine/Dram.lean ====
section
/-! DEFINITION. The DRAM controller's handling of requests (R342 to R347, R349): where an address lies, the order in which
queued requests are served, activates, refresh management, row-disturb refresh and refresh. The data it holds are the words of the Inkwell and
preview areas. -/

namespace Sys2Proof.Machine

/-- A head whose DRAM controller is powered. -/
def State.dmcOn (s : State) : Bool := decide (s.role = .head) && s.powered

/-- A request to the DRAM ends self-refresh outside PARK (R345). Consecutive bursts spread over both channels. -/
def State.dramAccess (s : State) : State := if s.pwr.state = .park then s else s.put Fld.DMC_STAT_SR 0

/-- Where a DRAM address lies (R342). -/
structure DramAddr where
  sub  : Nat
  chan : Nat
  bg   : Nat
  ba   : Nat
  rank : Nat
  row  : Nat
  deriving DecidableEq, Repr

/-- Fields of *Table — Address map orders* from bit 6 upward, as codes: 0 subchannel, 1 channel, 2 bank group, 3 bank,
4 column, 5 rank, 6 row. -/
def mapOrder : Nat → List Nat
  | 0 => [0, 1, 2, 3, 4, 5, 6]
  | 1 => [0, 1, 4, 2, 3, 5, 6]
  | 2 => [1, 0, 2, 4, 3, 5, 6]
  | _ => [4, 0, 1, 2, 3, 5, 6]

/-- Width of a field; a burst takes the four lowest column bits (16 columns of 32 bits). -/
def State.mapWidth (s : State) (f : Nat) : Nat :=
  match f with
  | 0 => 1
  | 1 => 1
  | 2 => s.get Fld.DMC_GEOM_BGBITS
  | 3 => s.get Fld.DMC_GEOM_BABITS
  | 4 => s.get Fld.DMC_GEOM_COLBITS - 4
  | 5 => if s.get Fld.DMC_GEOM_RANKS = 2 then 1 else 0
  | _ => s.get Fld.DMC_GEOM_ROWBITS

/-- Value of field `f` of an address, fields listed from bit `at_` upward. -/
def State.mapField (s : State) (addr f : Nat) (l : List Nat) (at_ : Nat) : Nat :=
  match l with
  | [] => 0
  | g :: t => if g = f then bitsOf addr at_ (s.mapWidth g) else s.mapField addr f t (at_ + s.mapWidth g)

/-- The place of an address, with the bank hash (R342). -/
def State.dramAt (s : State) (addr : Nat) : DramAddr :=
  let l := mapOrder (s.get Fld.DMC_MAP_ORDER)
  let v := fun f => s.mapField addr f l 6
  let row := v 6
  let h := fun f => if s.bit Fld.DMC_MAP_HASH then v f ^^^ bitsOf row 0 (s.mapWidth f) else v f
  ⟨v 0, v 1, h 2, h 3, v 5, row⟩

/-- Installed capacity in bytes: four subchannels of 32 data bits. -/
def State.dramBytes (s : State) : Nat :=
  16 * (if s.get Fld.DMC_GEOM_RANKS = 2 then 2 else 1) *
    2 ^ (s.get Fld.DMC_GEOM_ROWBITS + s.get Fld.DMC_GEOM_COLBITS + s.get Fld.DMC_GEOM_BGBITS + s.get Fld.DMC_GEOM_BABITS)

/-- A number for the bank group of an address. -/
def DramAddr.group (a : DramAddr) : Nat := ((a.chan * 2 + a.sub) * 2 + a.rank) * 16 + a.bg

/-- A number for the row of an address. -/
def DramAddr.rowKey (a : DramAddr) : Nat := (a.group * 16 + a.ba) * 2 ^ 16 + a.row

/-- Records an error in DMC_ERR. -/
def State.dmcErr (s : State) (kind addr : Nat) : State := (s.put Fld.DMC_ERR_KIND kind).put Fld.DMC_ERR_ADDR (addr / 64)

/-- A number for the bank of an address. -/
def DramAddr.bank (a : DramAddr) : Nat := a.group * 16 + a.ba

/-- A read returned a burst marked poisoned: counted and recorded (R349). -/
def State.poisoned (s : State) (addr : Nat) : State :=
  let a := s.dramAt addr
  ((s.count (Fld.DMC_ECC_CNT_UNCORR (2 * a.chan + a.sub))).dmcErr 1 addr).raise Fld.DMC_INT_UNCORR

/-- An access at or above the installed capacity (R343). -/
def State.rangeErr (s : State) (addr : Nat) : State :=
  let s := s.dmcErr 2 addr
  s.logBlot blkDMC 3 clsDEGRADED (s.word Reg.DMC_ERR).toNat

/-! ### Activates and refresh (R344) -/

/-- Average refresh interval of a bank of subchannel `u` in ns: half as long while a component is above 85 °C. -/
def State.refreshEvery (s : State) (u : Nat) : Nat := if u ∈ s.mem.hot then 1950 else 3900

/-- One more activate of a bank: before its rolling count reaches the components' limit, refresh management starts it
anew. -/
def countAct (n : Nat) : Nat := if Config.actLimit ≤ n + 1 then 1 else n + 1

/-- K of R346: below 8 acts as 8, above 14 as 14. -/
def State.rowDrawBits (s : State) : Nat := max 8 (min 14 (s.get Fld.DMC_RD_K))

/-- Rows refreshed on a draw of R346 around row `r`: those at distance 1, and with RADIUS also those at distance 2. -/
def State.nearRows (s : State) (r : Nat) : List Nat :=
  let at_ (d : Nat) : List Nat := (if d ≤ r then [r - d] else []) ++ (if r + d < 2 ^ s.get Fld.DMC_GEOM_ROWBITS then [r + d] else [])
  at_ 1 ++ (if s.bit Fld.DMC_RD_RADIUS then at_ 2 else [])

/-- A row of a bank is opened (R344). With probability 2^−K the rows beside it are activated and precharged, and the row
is opened again, before any other request to the bank is served (R346). -/
def State.activate (s : State) (bank row : Nat) : State :=
  let (f, s) := s.freeNat s.rowDrawBits
  let more := if f = 0 then (s.nearRows row).length + 1 else 0
  let s := (s.tally 0x144).tally 0x145 (more - 1)
  let n := (List.range (more + 1)).foldl (fun a _ => countAct a) (SMap.get (fun _ => 0) s.mem.acts bank)
  { s with mem := { s.mem with
    opened := SMap.put s.mem.opened bank row
    acts := SMap.set (fun _ => 0) s.mem.acts bank n } }

/-- Same-bank refresh of bank `ba` of every bank group of subchannel `u`: its rows close, its counts fall by what the
components declare, and the next refresh is due one interval later. -/
def State.refreshBank (s : State) (u ba : Nat) (hot : Bool) : State :=
  let mine (b : Nat) : Bool := decide (b % 16 = ba) && decide (b / 512 = u)
  let others := s.mem.hot.filter (fun q => decide (q ≠ u))
  let s := { s with mem := { s.mem with hot := if hot then u :: others else others } }
  let key := 16 * u + ba
  let due := SMap.get (fun _ => s.clk.upNs) s.mem.refDue key
  { s with mem := { s.mem with
    opened := s.mem.opened.filter (fun e => !(mine e.1))
    acts := (s.mem.acts.map (fun e => if mine e.1 then (e.1, e.2 - Config.actRefresh) else e)).filter (fun e => decide (e.2 ≠ 0))
    refDue := SMap.put s.mem.refDue key (due + s.refreshEvery u) } }

/-! ### The order of requests (R347) -/

/-- The bank and the row of a burst. -/
def State.bankRow (s : State) (burst : Nat) : Nat × Nat := let a := s.dramAt (64 * burst); (a.bank, a.row)

/-- A request hits the row open in its bank. -/
def State.rowHit (s : State) (r : DramReq) : Bool :=
  let (b, row) := s.bankRow r.burst
  decide (SMap.find s.mem.opened b = some row)

/-- Banks that enter in-order mode: on an open row, a queued read matches the address of an earlier queued write. -/
def State.ordering (s : State) (l : List DramReq) : List Nat :=
  match l with
  | [] => []
  | r :: t =>
    (if r.write.isSome && s.rowHit r && t.any (fun q => q.write.isNone && decide (q.burst = r.burst)) then [(s.bankRow r.burst).1] else []) ++
      s.ordering t

/-- A bank stays in in-order mode until no write waits that a queued read matches. -/
def State.stillOrdered (s : State) (l : List DramReq) (b : Nat) : Bool :=
  match l with
  | [] => false
  | r :: t =>
    (r.write.isSome && decide ((s.bankRow r.burst).1 = b) && t.any (fun q => q.write.isNone && decide (q.burst = r.burst))) ||
      s.stillOrdered t b

/-- The request may be served before those ahead of it: none of them is of its burst, reads among themselves apart, and in
an in-order bank none is of its bank. -/
def State.mayPass (s : State) (ahead : List DramReq) (r : DramReq) : Bool :=
  let b := (s.bankRow r.burst).1
  ahead.all (fun q =>
    !(decide (q.burst = r.burst) && (q.write.isSome || r.write.isSome)) &&
    !(decide (b ∈ s.mem.ordered) && decide ((s.bankRow q.burst).1 = b)))

/-- The next request served: the first row hit that may go, else the first that may go. -/
def State.nextReq (s : State) (ahead l : List DramReq) (hit : Bool) : Option (List DramReq × DramReq × List DramReq) :=
  match l with
  | [] => none
  | r :: t =>
    if s.mayPass ahead r && (!hit || s.rowHit r) then some (ahead, r, t) else s.nextReq (ahead ++ [r]) t hit

/-- The eight words of a burst; a word that nothing has written reads 0 (assumption 105). -/
def burstRead (m : SMap (BitVec 64)) (burst : Nat) : List (BitVec 64) :=
  (List.range 8).map (fun n => SMap.get (fun _ => 0) m (8 * burst + n))

/-- Writes the eight words of a burst. -/
def burstWrite (m : SMap (BitVec 64)) (burst : Nat) (ws : List (BitVec 64)) : SMap (BitVec 64) :=
  m.filter (fun e => decide (e.1 < 8 * burst)) ++
    ((List.range 8).map (fun n => (8 * burst + n, ws.getD n 0))).filter (fun e => decide (e.2 ≠ 0)) ++
    m.filter (fun e => decide (8 * burst + 8 ≤ e.1))

/-- Serves one request: its row is opened, a write retires, a read returns the burst. -/
def State.serveReq (s : State) (r : DramReq) : Option (Nat × List (BitVec 64)) × State :=
  let (b, row) := s.bankRow r.burst
  let s := if s.rowHit r then s else s.activate b row
  match r.write with
  | some ws => (none, { s with comp := { s.comp with area := burstWrite s.comp.area r.burst ws } })
  | none => (some (r.burst, burstRead s.comp.area r.burst), s)

/-- Serves queued requests, `fuel` of them at most: the bursts read, in the order served. -/
def State.serveAll (s : State) (fuel : Nat) : List (Nat × List (BitVec 64)) × State :=
  match fuel with
  | 0 => ([], s)
  | k + 1 =>
    let s := { s with mem := { s.mem with
      ordered := (s.mem.ordered ++ s.ordering s.mem.reqs).eraseDups.filter (s.stillOrdered s.mem.reqs) } }
    match (s.nextReq [] s.mem.reqs true).or (s.nextReq [] s.mem.reqs false) with
    | none => ([], s)
    | some (ahead, r, t) =>
      let (x, s) := { s with mem := { s.mem with reqs := ahead ++ t } }.serveReq r
      let (l, s) := s.serveAll k
      (x.toList ++ l, s)

/-- Accepts requests in order and serves all that wait (R343, R345, R347): the bursts read. What is queued is served before
the command that queued it ends (assumption 113). -/
def State.dramIssue (s : State) (l : List DramReq) : List (Nat × List (BitVec 64)) × State :=
  let far := l.filter (fun r => decide (s.dramBytes ≤ 64 * r.burst))
  let near := l.filter (fun r => decide (64 * r.burst < s.dramBytes))
  let s := forEach far (fun r s => s.rangeErr (64 * r.burst)) s
  let s := s.dramAccess
  let s := (s.tally 0x142 (near.filter (fun r => r.write.isNone)).length).tally 0x143 (near.filter (fun r => r.write.isSome)).length
  let s := { s with mem := { s.mem with reqs := s.mem.reqs ++ near } }
  s.serveAll s.mem.reqs.length

/-- The 30 bursts of the patch at address `a`; none where one lies above the capacity and reads poisoned (R343). -/
def State.readPatch (s : State) (a : Nat) : Option (List (BitVec 64)) × State :=
  let (l, s) := s.dramIssue ((List.range 30).map (fun n => ⟨a / 64 + n, none⟩))
  if l.length = 30 then (some ((List.range 30).flatMap (fun n => lookup [] l (a / 64 + n))), s) else (none, s)

/-- Writes the 240 words of the patch at address `a`. -/
def State.writePatch (s : State) (a : Nat) (ws : List (BitVec 64)) : State :=
  (s.dramIssue ((List.range 30).map (fun n => ⟨a / 64 + n, some (ws.drop (8 * n) |>.take 8)⟩))).2

end Sys2Proof.Machine
end

