-- ==== Sys2Proof/Machine/Recv.lean ====
section
/-! DEFINITION. What every received packet goes through before its own meaning (R175 to R178, R181, R183, R184, R188,
R189, R191, R194, R195), and the forwarding of packets. -/

namespace Sys2Proof.Machine

/-- Escalation counts of port `p`. -/
def State.escalOf (s : State) (p : Nat) : Escal := s.link.escal.getD p Escal.reset

/-- Changes the escalation counts of port `p`. -/
def State.setEscal (s : State) (p : Nat) (e : Escal) : State :=
  { s with link := { s.link with escal := setAt s.link.escal p e } }

/-- The link keys of port `p`. -/
def State.keysOf (s : State) (p : Nat) : LinkKeys := s.link.keys.getD p LinkKeys.reset

/-- Changes the link keys of port `p`. -/
def State.setKeys (s : State) (p : Nat) (k : LinkKeys) : State :=
  { s with link := { s.link with keys := setAt s.link.keys p k } }

/-- Counts a partner violation of kind `k` on port `p` (R194, R195). -/
def State.violation (s : State) (p k : Nat) : State :=
  let s := ((s.count (Fld.LNK_VIOL_COUNT p k)).raise (Fld.LNK_NET_INT_VIOL p)).tallyOf 0x00B 1 p
  let e := s.escalOf p
  s.setEscal p { e with count := if k = 3 then e.count else e.count + 1, tags := if k = 5 then e.tags + 1 else e.tags }

/-- Lengths a PATCH may have, by FMT and ENC (*Table — Packet types*). -/
def patchLen (w2 : Word) : Nat :=
  (match wbits w2 10 9 with | 0 => 230 | 1 => 275 | 2 => 365 | _ => 0) + (if wbits w2 12 12 = 1 then 4 else 0)

/-- LEN allowed for the type, the ENUM OP, and the FMT and ENC of a PATCH (R175, R178, R179). -/
def lenOk (type : Nat) (body : List Word) : Bool :=
  let n := body.length
  match type with
  | 1 => n == 5
  | 2 => decide (10 ≤ n) && decide (n ≤ 4095)
  | 3 => decide (4 ≤ n) && decide (n ≤ 4095)
  | 4 => decide (wbits (nth body 2) 10 9 ≠ 3) && n == patchLen (nth body 2)
  | 5 => n == 4
  | 6 => n == 2
  | 7 => n == 3
  | 8 => n == 3
  | 9 => decide (3 ≤ n) && decide (n ≤ 4095)
  | 10 => n == 1032
  | 11 => decide (8 ≤ n) && decide (n ≤ 4095)
  | 12 =>
    match wbits (nth body 0) 31 24 with
    | 1 => n == 3 | 2 => n == 4 | 3 => n == 5 | 4 => n == 30 | 5 => n == 6 | _ => true
  | 13 => decide (8 ≤ n) && decide (n ≤ 4095)
  | 14 => decide (2 ≤ n) && decide (n ≤ 4095)
  | _ => true

/-- TYPE not 0xF, DEST allowed for the type, ENUM OP in the table (kind TYPE of R194). -/
def typeOk (type : Nat) (dest : NodeId) (body : List Word) : Bool :=
  let asg := dest != 0 && dest != 0xFFFF
  let bc := dest == 0xFFFF
  match type with
  | 1 => dest == 0
  | 2 => asg || bc
  | 3 => asg
  | 4 => asg
  | 5 => asg
  | 6 => asg
  | 7 => if wbits (nth body 0) 15 8 = 0 then bc else asg
  | 8 => asg || bc
  | 9 => asg
  | 10 => dest == 0
  | 11 => asg
  | 12 =>
    match wbits (nth body 0) 31 24 with
    | 1 => dest == 0 | 2 => dest == 0 | 3 => asg | 4 => dest == 0 | 5 => dest == 0 | _ => false
  | 13 => asg || bc
  | 14 => true
  | _ => false

/-- Types a Quarantined port drops (R195). -/
def quarantined (type : Nat) (body : List Word) : Bool :=
  match type with
  | 2 | 13 | 10 | 11 | 7 | 8 => true
  | 12 => let op := wbits (nth body 0) 31 24; decide (op ≠ 4) && decide (op ≠ 5)
  | _ => false

/-- Extends a link sequence number to the value nearest to the last one (R176). -/
def extendSeq (last : Option Nat) (q : Nat) : Nat :=
  match last with
  | none => q
  | some e =>
    let up := (q + 65536 - e % 65536) % 65536
    if up ≤ 32768 then e + up else if 65536 ≤ e + up then e + up - 65536 else e + up

/-- Takes the sequence number of an arriving packet (R176): a gap not directly after a RESYNC of reason 0 or 1 is a
violation of kind SEQ, and the packet is still accepted. -/
def State.takeSeq (s : State) (x : Rx) : State :=
  let q := s.port x.port.val
  let r := q.rx x.lane.val
  let e := extendSeq r.seqE x.seq.toNat
  let expected := match r.seqE with | none => 0 | some l => l + 1
  let s := s.setPort x.port.val (q.setRx x.lane.val { r with seqE := some e, gapOk := false })
  if e ≠ expected ∧ r.gapOk = false then s.violation x.port.val 3 else s

/-- A NACK of a logical lane goes out in one header, the next: ACK there names the codeword after which the sender is to
replay (R162). -/
def State.sendNack (s : State) (p k : Nat) (after : BitVec 16) : State :=
  let s := (s.count (Fld.LNK_RETRYCNT_NACK p)).tallyOf 0x003 1 p
  let q := s.port p
  s.setPort p (q.setRx k { q.rx k with nackOut := some after })

/-- A NACK from codeword `cw` on, taken before (R194): that codeword is the next in order again, and the packet stream goes on
from its start. -/
def State.nackFrom (s : State) (p k : Nat) (cw : BitVec 16) : State :=
  let q := s.port p
  let r := q.rx k
  (s.setPort p (q.setRx k { r with
    expect := cw
    nacked := true
    nackDue := false
    early := []
    padding := false
    packet := match r.marks.find? (fun e => decide (e.1 = cw)) with | some e => e.2 | none => [] })).sendNack p k (cw - 1)

/-- The last codeword of a logical lane that this node has acknowledged: what ACK of the last header sent names. -/
def PortSt.acked (q : PortSt) (k : Nat) : Option (BitVec 16) := (q.said[k]?).map (BitVec.ofNat 16)

/-- A received codeword is still in the sender's replay buffer (R162, R163): it is one of the last 304, and none of the
headers sent has acknowledged it. -/
def PortSt.replayable (q : PortSt) (k : Nat) (cw : BitVec 16) : Bool :=
  decide (((q.rx k).expect - cw).toNat ≤ 304) && decide (1 ≤ ((q.rx k).expect - cw).toNat) &&
    (match q.acked k with
    | some a => decide (1 ≤ (cw - a).toNat) && decide ((cw - a).toNat < 2 ^ 15)
    | none => true)

/-- What the CRC field of a received packet shows (R175): the correct value, its one's complement, or neither. -/
inductive CrcCheck where
  | good
  | stomped
  | bad
  deriving DecidableEq, Repr

/-- The check of the CRC of a received packet. -/
def crcCheck (x : Rx) : CrcCheck :=
  let c := wd (crc32c (wireStream (headWords x.type.toNat x.dest x.src x.body.length x.seq ++ x.body)))
  if x.crc = c then .good else if x.crc = ~~~c then .stomped else .bad

/-- The node's own valid ID arrived as SRC (R181). -/
def State.checkDup (s : State) (x : Rx) : State :=
  if s.bit Fld.LNK_NODE_ID_VALID && decide (x.src = s.nodeId) && !(s.bit Fld.LNK_NODE_ID_DUP) then
    let s := s.raise Fld.LNK_NODE_ID_DUP
    let s := s.event 0x0005 [wd (x.port.val * 2 ^ 14)]
    s.logBlot (blkLNK x.port.val) 2 clsDEGRADED x.port.val
  else s

/-- A BAR ARRIVE whose DEST is no head that this node knows (*Table — Packet types*). -/
def State.strayArrive (s : State) (x : Rx) : Bool :=
  decide (x.type.toNat = tyBAR) && decide (wbits (nth x.body 0) 15 8 ≠ 0) &&
    !(s.knowsHead x.dest || (decide (s.role = .head) && decide (x.dest = s.nodeId)))

/-- What the header and the CRC of a packet decide (R175, R176, R181, R194, R195): the Bool is true when the packet is
taken further, and the second one when a failed check spoils the copy being forwarded (R184). -/
def State.letIn (s : State) (x : Rx) : Bool × Bool × State :=
  let p := x.port.val
  let body := x.body
  if !(s.running) || !(s.linkUp p) || s.get (Fld.LNK_NET_STAT_LEVEL p) = 3 then (false, false, s)
  else
    -- what a Quarantined port drops goes no further, whatever its tail says (R195)
    let drop := decide (2 ≤ s.get (Fld.LNK_NET_STAT_LEVEL p)) && quarantined x.type.toNat body
    match crcCheck x with
    | .stomped => (false, !drop, ((s.takeSeq x).count (Fld.LNK_NETDROP_STOMP p)).tallyOf 0x00A 1 p)
    | .bad =>
      let s := s.violation p 0
      -- one NACK from the codeword with the packet's first byte, while it can be replayed (R194)
      (false, !drop, if (s.port p).replayable x.lane.val x.cw then s.nackFrom p x.lane.val x.cw else s)
    | .good =>
      let s := s.takeSeq x
      if !(typeOk x.type.toNat x.dest body) || s.strayArrive x then (false, false, s.violation p 1)
      else if !(lenOk x.type.toNat body) then (false, false, s.violation p 2)
      else if drop then (false, false, s)
      else
        let s := s.checkDup x
        let s := if x.dest = 0 ∧ x.src ≠ 0 then s.put (Fld.LNK_NET_STAT_NEIGHBOUR p) x.src.toNat else s
        (true, false, s)

/-- The header words a tag covers, with SEQ taken as 0 (R188). -/
def hdrWords (type : Nat) (dest src : NodeId) (len : Nat) : List Word := headWords type dest src len 0

/-- A 128-bit tag from four words, high word first. -/
def tagOf (w : List Word) : BitVec 128 :=
  BitVec.ofNat 128 ((nth w 0).toNat * 2 ^ 96 + (nth w 1).toNat * 2 ^ 64 + (nth w 2).toNat * 2 ^ 32 + (nth w 3).toNat)

/-- Outcome of the domain tag check (R188, R189). -/
inductive TagCheck where
  | ok | noKey | tag | replay
  deriving DecidableEq, Repr

/-- Checks the domain tag and the ORIG window of a packet (R188, R189). -/
def State.tagCheck (s : State) (x : Rx) : TagCheck :=
  match s.keys.domain with
  | none => .noKey
  | some k =>
    let n := x.body.length - 6
    let o := (nth x.body n).toNat * 2 ^ 32 + (nth x.body (n + 1)).toNat
    let aad := hdrWords x.type.toNat x.dest x.src x.body.length ++ x.body.take (n + 2)
    let iv : BitVec 96 := BitVec.ofNat 96 (x.src.toNat * 2 ^ 80 + o)
    if gmac k iv (wireStream aad) ≠ tagOf (x.body.drop (n + 2)) then .tag
    else if !(s.knowsHead x.src) then .replay
    else
      let w := lookup (0, []) s.net.origins x.src
      if (64 ≤ w.1 ∧ o ≤ w.1 - 64) ∨ o ∈ w.2 then .replay else .ok

/-- Records an accepted ORIG (R189). -/
def State.takeOrig (s : State) (x : Rx) : State :=
  let n := x.body.length - 6
  let o := (nth x.body n).toNat * 2 ^ 32 + (nth x.body (n + 1)).toNat
  let w := lookup (0, []) s.net.origins x.src
  let hi := max w.1 o
  let seen := (o :: w.2).filter (fun v => decide (hi < v + 64))
  { s with net := { s.net with origins := assoc s.net.origins x.src (hi, seen) } }

/-- Counts the violation of a failed tag check (R189, R194). -/
def State.tagFail (s : State) (p : Nat) (c : TagCheck) : State :=
  match c with
  | .tag => s.violation p 5
  | .replay => s.violation p 6
  | _ => s

/-- The nonce of an encrypted PATCH (R191): EPOCH, then 2 × E + the logical lane. -/
def nonceOf (epoch e lane : Nat) : BitVec 96 := BitVec.ofNat 96 (epoch * 2 ^ 64 + (2 * e + lane) % 2 ^ 64)

/-- The authenticated data of an encrypted PATCH: the header with SEQ, and words 0 to 4 (R191). -/
def patchAad (dest src : NodeId) (len seq : Nat) (body : List Word) : List Word :=
  headWords tyPATCH dest src len (BitVec.ofNat 16 seq) ++ body.take 5

/-- The body with ENC and KEP set as given in word 2. -/
def withEnc (body : List Word) (enc : Bool) (kep : Nat) : List Word :=
  setAt body 2 (wd (setBits (setBits (nth body 2).toNat 12 1 (if enc then 1 else 0)) 11 1 kep))

/-- The port may send encrypted PATCHes: a key is agreed, and no KEYSTOP holds (R190, R193). -/
def LinkKeys.sends (ks : LinkKeys) : Bool := ks.agreed && !ks.stopped

/-- Sends a PATCH on port `p`, to be encrypted under the port's sending key when LNK_SEC_CFG.ENC is 1 (R191, R193). `plain`
is the body with an unencrypted payload. -/
def State.sendPatch (s : State) (p k : Nat) (dest src : NodeId) (plain : List Word) (stomped : Bool) : State :=
  if s.bit (Fld.LNK_SEC_CFG_ENC p) then
    if (s.keysOf p).sends then s.sendOn p k tyPATCH dest src (withEnc plain false 0) stomped true else s
  else s.sendOn p k tyPATCH dest src (withEnc plain false 0) stomped

/-- The body of a PATCH encrypted under the sending key of a port, as packet number `e` of logical lane `lane` (R191). -/
def LinkKeys.sealBody (ks : LinkKeys) (lane e : Nat) (x : Pkt) : List Word :=
  let b := withEnc x.body true (ks.sendEpoch % 2)
  let aad := patchAad x.dest x.src (x.body.length + 4) e b
  let (c, t) := gcmSeal ks.sendKey (nonceOf ks.sendEpoch e lane) aad (b.drop 5)
  b.take 5 ++ c ++ [wd (t.toNat / 2 ^ 96), wd (t.toNat / 2 ^ 64), wd (t.toNat / 2 ^ 32), wd t.toNat]

/-- The bytes of a packet that starts to leave on port `p`, logical lane `k`, as number `e` (R175, R176, R191); none where its
key is gone. -/
def State.wireOf (s : State) (p k e : Nat) (x : Pkt) : Option (List Byte) :=
  if x.enc then
    let ks := s.keysOf p
    if ks.sends then some (({ x with body := ks.sealBody k e x }).wire (BitVec.ofNat 16 e)) else none
  else some (x.wire (BitVec.ofNat 16 e))

/-- The old receiving key, when a KEP names it. -/
def LinkKeys.oldFor (ks : LinkKeys) (kep : Nat) : Option (Nat × BitVec 256) :=
  match ks.oldRecv with
  | some (ep, k) => if ep % 2 = kep then some (ep, k) else none
  | none => none

/-- EPOCH and receiving key that the KEP of an encrypted PATCH names: the key in use, the one before it, or the one of a
rollover whose sender has changed already (R191, R192). -/
def LinkKeys.forKep (ks : LinkKeys) (kep : Nat) : Option (Nat × BitVec 256) :=
  if ks.agreed = true ∧ ks.recvEpoch % 2 = kep then some (ks.recvEpoch, ks.recvKey)
  else match ks.newKeys with
    | some (ep, _, k) => if ks.agreed = true ∧ ep % 2 = kep then some (ep, k) else ks.oldFor kep
    | none => ks.oldFor kep

/-- The count E of an arriving packet (R176). -/
def State.seqCount (s : State) (x : Rx) : Nat :=
  match ((s.port x.port.val).rx x.lane.val).seqE with | some v => v | none => x.seq.toNat

/-- The ciphertext of an encrypted PATCH. -/
def cipherOf (x : Rx) : List Word := (x.body.take (x.body.length - 4)).drop 5

/-- The body of an encrypted PATCH decrypted without a look at its tag, for a copy that is stomped (R184). -/
def State.plainOf (s : State) (x : Rx) : Option (List Word) :=
  let w2 := nth x.body 2
  if wbits w2 12 12 = 0 then some x.body
  else match (s.keysOf x.port.val).forKep (wbits w2 11 11) with
    | some (ep, k) => some (withEnc (x.body.take 5) false 0 ++
        wireWords (gcmCrypt k (nonceOf ep (s.seqCount x) x.lane.val) (wireStream (cipherOf x))))
    | none => none

/-- Reads the payload of an arriving PATCH (R191, R192): the plain body, or the kind of the violation. -/
def State.openPatch (s : State) (x : Rx) : Except Nat (List Word) :=
  let p := x.port.val
  let w2 := nth x.body 2
  if wbits w2 12 12 = 0 then
    if s.bit (Fld.LNK_SEC_CFG_ENC p) then .error 7 else .ok x.body
  else match (s.keysOf p).forKep (wbits w2 11 11) with
    | none => .error 7
    | some (ep, k) =>
      match gcmOpen k (nonceOf ep (s.seqCount x) x.lane.val) (patchAad x.dest x.src x.body.length x.seq.toNat x.body) (cipherOf x)
          (tagOf (x.body.drop (x.body.length - 4))) with
      | some d => .ok (withEnc (x.body.take 5) false 0 ++ d)
      | none => .error 5

/-- The first PATCH with the new KEP ends the use of the old receiving key (R192), before this end's own change too. -/
def State.dropOldKey (s : State) (x : Rx) : State :=
  let p := x.port.val
  let ks := s.keysOf p
  let kep := wbits (nth x.body 2) 11 11
  if wbits (nth x.body 2) 12 12 = 0 then s
  else if ks.recvEpoch % 2 = kep then (if ks.oldRecv = none then s else s.setKeys p { ks with oldRecv := none })
  else match ks.newKeys with
    | some (ep, _, k) => if ep % 2 = kep then s.setKeys p { ks with recvEpoch := ep, recvKey := k, oldRecv := none } else s
    | none => s

/-- Sends the copies of a packet that passes through this node (R183, rows 3 to 6). -/
def State.passOn (s : State) (x : Rx) (body : List Word) (stomped : Bool) : State :=
  let a := x.port.val
  if x.dest = 0 || !(s.bit Fld.LNK_NODE_ID_VALID) then s
  else if x.dest = 0xFFFF then
    if s.role = .head then s
    else forEach (s.floodPorts (some a)) (fun p s => s.sendOn p x.lane.val x.type.toNat x.dest x.src body stomped) s
  else if x.dest = s.nodeId then s
  else match s.outPort x.dest (some a) with
    | some p =>
      if x.type.toNat = tyPATCH then s.sendPatch p x.lane.val x.dest x.src body stomped
      else s.sendOn p x.lane.val x.type.toNat x.dest x.src body stomped
    | none =>
      let s := s.unroute a
      if x.type.toNat = tyCMD ∧ stomped = false then
        -- R183: RPL UNREACHABLE with the command's CLIENT and TAG
        let r : Reply := ⟨stUNREACHABLE, true, false, BitVec.ofNat 12 (wbits (nth x.body 1) 31 20),
          BitVec.ofNat 16 (wbits (nth x.body 1) 15 0), s.nodeId, BitVec.ofNat 16 (s.get Fld.SYS_FAULT_EPOCH_EPOCH), 0, []⟩
        s.sendTo tyRPL x.src r.words
      else s

/-- The copies of a packet that failed a check at its tail go on stomped (R184); an encrypted PATCH is decrypted and encrypted
again on the way. -/
def State.passStomped (s : State) (x : Rx) : State :=
  if x.type.toNat = tyPATCH then
    match s.plainOf x with
    | some b => s.passOn x b true
    | none => s
  else s.passOn x x.body true

/-- Whether this node consumes a packet: link-local, addressed to it, or broadcast (R183, rows 1 to 3). A node without
a valid ID consumes link-local packets only, and broadcasts and forwards nothing. -/
def State.consumes (s : State) (x : Rx) : Bool :=
  x.dest == 0 || (s.bit Fld.LNK_NODE_ID_VALID && (x.dest == s.nodeId || x.dest == 0xFFFF))

/-- Types whose packets carry the domain tag (*Table — Packet types*). -/
def tagged (type : Nat) : Bool := type == tyCMD || type == tyUPD || type == tyMIRROR || type == tyPRIVET

/-- Takes a packet in: header checks, tag checks, forwarding of a copy, and then `act` when this node consumes it.
`onTag` is what a consumed packet whose tag check fails draws (R189). -/
def State.receive (s : State) (x : Rx) (act : List Word → State → State)
    (onTag : TagCheck → State → State := fun _ s => s) : State :=
  let (ok, spoil, s) := s.letIn x
  if spoil then
    -- the spoiled copy goes on stomped (R184)
    if s.running && s.linkUp x.port.val then s.passStomped x else s
  else if !ok then s
  else if tagged x.type.toNat then
    match s.tagCheck x with
    | .ok =>
      let s := s.takeOrig x
      let s := s.passOn x x.body false
      if s.consumes x then act x.body s else s
    | .noKey =>
      let s := s.passOn x x.body false
      if s.consumes x then onTag .noKey s else s
    | c =>
      let s := s.tagFail x.port.val c
      let s := s.passOn x x.body true
      if s.consumes x then onTag c s else s
  else if x.type.toNat = tyPATCH then
    match s.openPatch x with
    | .ok b =>
      let s := s.dropOldKey x
      let s := s.passOn x b false
      if s.consumes x then act b s else s
    | .error k =>
      let s := s.violation x.port.val k
      if k = 5 then s.passStomped x else s
  else
    let s := s.passOn x x.body false
    if s.consumes x then act x.body s else s

end Sys2Proof.Machine
end

