-- ==== Sys2Proof/Machine/Ingest.lean ====
section
/-! DEFINITION. Source ingest (R53 to R83): colour conversion, frame geometry, loss, freeze and black detection, ST 2110
packets and host doorbells. -/

namespace Sys2Proof.Machine

/-- The source `n`. -/
def State.src (s : State) (n : Nat) : Source := SMap.get (fun _ => Source.reset) s.ingest.srcs n

/-- Changes the source `n`. -/
def State.setSrc (s : State) (n : Nat) (v : Source) : State :=
  { s with ingest := { s.ingest with srcs := SMap.set (fun _ => Source.reset) s.ingest.srcs n v } }

/-- Ingest runs: a head that is not in PARK, where ingest is clock-gated (R43). -/
def State.ingestRuns (s : State) : Bool :=
  decide (s.role = .head) && (decide (s.pwr.state = .ready) || decide (s.pwr.state = .active))

/-! ### Colour conversion (R67 to R73) -/

def clampI (x lo hi : Int) : Int := if x < lo then lo else if hi < x then hi else x

/-- A colour sample before and after a stage. -/
structure Tri where
  a : Int
  b : Int
  c : Int
  deriving DecidableEq, Repr

/-- Stage 1 (R67): widening of one component code, by SRC_CFG.FORMAT. -/
def widen (format code : Nat) : Nat :=
  match format with
  | 0 => 4 * code
  | 1 => 4 * code
  | 3 => 4 * code
  | 5 => 16 * code + code / 16
  | 6 => code / 16
  | _ => code

/-- Stage 1 for alpha (R67). -/
def widenAlpha (format a : Nat) : Nat :=
  match format with
  | 5 => (a * 1028 + 128) / 256
  | 6 => (a * 1024 + 32768) / 65536
  | _ => 1024

/-- Stage 2 (R68) for one code: the code passed on, and whether it lies below or above the range. -/
def ranged (full clip chroma : Bool) (c : Nat) : Nat × Nat × Nat :=
  let hi := if chroma then 3840 else 3760
  if full then (c, 0, 0)
  else if c < 256 then (if clip then 256 else c, 1, 0)
  else if hi < c then (if clip then hi else c, 0, 1)
  else (c, 0, 0)

/-- Stage 2 over a list of codes. -/
def rangedList (full clip chroma : Bool) (l : List Nat) : List Nat × Nat × Nat :=
  l.foldr (fun c acc =>
    let (v, lo, hi) := ranged full clip chroma c
    (v :: acc.1, acc.2.1 + lo, acc.2.2 + hi)) ([], 0, 0)

/-- A chroma sample with the ends repeated (R69). -/
def chromaAt (l : List Nat) (j : Int) : Int :=
  let n := l.length
  (l.getD (if j < 0 then 0 else if (n : Int) ≤ j then n - 1 else j.toNat) 0 : Nat)

/-- Stage 3 (R69): the chroma of pixel `x` of a 4:2:2 line. -/
def upsample (l : List Nat) (x : Nat) : Nat :=
  if x % 2 = 0 then (chromaAt l (x / 2 : Nat)).toNat
  else
    let j : Int := ((x - 1) / 2 : Nat)
    (clampI ((-6 * chromaAt l (j - 1) + 38 * chromaAt l j + 38 * chromaAt l (j + 1) - 6 * chromaAt l (j + 2) + 32) / 64)
      0 4095).toNat

/-- Stage 4 (R70): the three table indices of one pixel. `cm` holds SRC_CMAT words 0 and 1. -/
def codeMatrix (rgb full : Bool) (cm : List Word) (y cb cr : Nat) : Nat × Nat × Nat :=
  let k : Int := if full then 0 else 256
  let krv : Int := wbits (nth cm 0) 15 0
  let kgu : Int := wbits (nth cm 0) 31 16
  let kgv : Int := wbits (nth cm 1) 15 0
  let kbu : Int := wbits (nth cm 1) 31 16
  let ix (v : Int) : Nat := (clampI (v + k) 0 4095).toNat
  if rgb then (ix (y - k), ix (cb - k), ix (cr - k))
  else
    let yo : Int := y - k
    let cbo : Int := (cb : Int) - 2048
    let cro : Int := (cr : Int) - 2048
    (ix (yo + (krv * cro + 4096) / 8192), ix (yo - (kgu * cbo + kgv * cro + 4096) / 8192),
     ix (yo + (kbu * cbo + 4096) / 8192))

/-- Coefficient M[i][j] of the linear matrix from SRC_LMAT words (R72). -/
def lmatAt (lm : List Word) (k : Nat) : Int :=
  let w := nth lm (k / 2)
  signed 16 (if k % 2 = 0 then wbits w 15 0 else wbits w 31 16)

/-- Stage 6 (R72): output component `i`. -/
def linMatrix (lm : List Word) (l : Tri) (i : Nat) : Nat :=
  (clampI ((lmatAt lm (3 * i) * l.a + lmatAt lm (3 * i + 1) * l.b + lmatAt lm (3 * i + 2) * l.c + 4096) / 8192)
    0 1048575).toNat

/-- The largest code s in 0 to 4,095 with T[s] ≤ v, or 0 when v < T[0], for a non-decreasing table (R73). -/
def encodeBy (t : Nat → Nat) (v : Nat) : Nat :=
  [2048, 1024, 512, 256, 128, 64, 32, 16, 8, 4, 2, 1].foldl
    (fun s step => if t (s + step) ≤ v then s + step else s) 0

/-- SLUT[i] (R73). -/
def State.slutAt (s : State) (i : Nat) : Nat := SMap.get (fun _ => 0) s.ingest.slut i

/-- Stage 7 (R73). -/
def State.encode (s : State) (v : Nat) : Nat := encodeBy s.slutAt v

/-- Stages 4 to 7 for one pixel. -/
def State.convert (s : State) (rgb full : Bool) (cur : CurFrame) (y cb cr alpha : Nat) : Px :=
  let (i0, i1, i2) := codeMatrix rgb full cur.cmat y cb cr
  let tf (i : Nat) : Int := (SMap.get (fun _ => (0 : Nat)) cur.tf i : Nat)
  let l : Tri := ⟨tf i0, tf i1, tf i2⟩
  ⟨s.encode (linMatrix cur.lmat l 0), s.encode (linMatrix cur.lmat l 1), s.encode (linMatrix cur.lmat l 2), alpha⟩

/-- Counts codes out of range (R68). -/
def State.countRange (s : State) (n lo hi : Nat) : State :=
  let s := s.count (Fld.SRC_RANGECNT_LOW n) lo
  let s := s.count (Fld.SRC_RANGECNT_HIGH n) hi
  if lo + hi = 0 then s else s.raise (Fld.SRC_STAT_RANGE n)

/-- A line of 4:2:2 samples through stages 2 to 7; codes are widened already. -/
def State.convert422 (s : State) (n : Nat) (cur : CurFrame) (ys cbs crs : List Nat) : List Px × State :=
  let full := s.bit (Fld.SRC_CFG_RANGE n)
  let clip := s.bit (Fld.SRC_CFG_CLIP n)
  let (ys, l1, h1) := rangedList full clip false ys
  let (cbs, l2, h2) := rangedList full clip true cbs
  let (crs, l3, h3) := rangedList full clip true crs
  let px := (List.range ys.length).map (fun x =>
    s.convert false full cur (ys.getD x 0) (upsample cbs x) (upsample crs x) 1024)
  (px, s.countRange n (l1 + l2 + l3) (h1 + h2 + h3))

/-- A line of 4:4:4 pixels through stages 1 to 7. -/
def State.convert444 (s : State) (n : Nat) (cur : CurFrame) (l : List RawPixel) : List Px × State :=
  let fmt := s.get (Fld.SRC_CFG_FORMAT n)
  let rgb := decide (3 ≤ fmt)
  let full := s.bit (Fld.SRC_CFG_RANGE n)
  let clip := s.bit (Fld.SRC_CFG_CLIP n)
  let (c0, l1, h1) := rangedList full clip false (l.map (fun p => widen fmt p.c0.toNat))
  let (c1, l2, h2) := rangedList full clip (!rgb) (l.map (fun p => widen fmt p.c1.toNat))
  let (c2, l3, h3) := rangedList full clip (!rgb) (l.map (fun p => widen fmt p.c2.toNat))
  let al := l.map (fun p => widenAlpha fmt p.alpha.toNat)
  let px := (List.range l.length).map (fun x =>
    s.convert rgb full cur (c0.getD x 0) (c1.getD x 0) (c2.getD x 0) (al.getD x 1024))
  (px, s.countRange n (l1 + l2 + l3) (h1 + h2 + h3))

/-! ### Frames -/

/-- Height and width of the configured raster (SRC_RASTER). -/
def State.rasterH (s : State) (n : Nat) : Nat := s.get (Fld.SRC_RASTER_HEIGHT n)
def State.rasterW (s : State) (n : Nat) : Nat := s.get (Fld.SRC_RASTER_WIDTH n)

/-- Frame buffers of a source; values outside 3 to 8 act as 3. -/
def State.nbuf (s : State) (n : Nat) : Nat :=
  let v := s.get (Fld.SRC_CFG_NBUF n)
  if 3 ≤ v ∧ v ≤ 8 then v else 3

/-- Frames of a source that a tick's composition still uses (R81): those picked for a frame whose T_show has not passed. -/
def State.picked (s : State) (n : Nat) : List Nat :=
  s.heads.frames.filterMap (fun f => SMap.find f.picks n)

/-- Frames of a source that STATIC windows have latched (R113). -/
def State.latchedNos (s : State) (n : Nat) : List Nat :=
  s.comp.latched.filterMap (fun e =>
    match e.2, SMap.find s.comp.windows e.1 with
    | some f, some w => if wbits (nth w.words 0) 15 10 = n then some f.no else none
    | _, _ => none)

/-- The frames of a source that are stored and have not completed, oldest first, with the SRC_FCNT values they will have. -/
def Source.opens (src : Source) : List (Nat × CurFrame) :=
  ((src.waiting ++ src.cur.toList).filter (fun c => c.stored)).zipIdx.map (fun (e : CurFrame × Nat) => ((src.count + 1 + e.2) % 2 ^ 32, e.1))

/-- Makes room for an incoming frame (R81): the frames kept are those in use, the newest regular one, the hold frame and
the newest; none when every buffer is in use. -/
def State.takeBuffer (s : State) (n : Nat) : Option (List SrcFrame) :=
  let src := s.src n
  let used := s.picked n ++ s.latchedNos n
  let newestReg := (src.frames.find? (fun f => f.regular)).map (·.no)
  let free := s.nbuf n - 1 - src.waiting.length
  let isFree (f : SrcFrame) : Bool :=
    !(f.no ∈ used) && decide (newestReg ≠ some f.no) && decide ((src.hold.map (·.no)) ≠ some f.no)
  if src.frames.length ≤ free then some src.frames
  else
    -- the oldest frame not in use is overwritten
    match (src.frames.reverse.find? isFree).map (·.no) with
    | some k => some (src.frames.filter (fun f => decide (f.no ≠ k)))
    | none => none

/-- Conversion tables in force for a frame whose first line arrives now (R74). -/
def State.newFrame (s : State) (n : Nat) (rtp : Option Word) (stored : Bool) : CurFrame :=
  let t := s.get (Fld.SRC_CFG_TF_SEL n)
  let tf := (s.ingest.tf.filter (fun e => decide (e.1 / 4096 = t))).map (fun e => (e.1 % 4096, e.2))
  ⟨[], [], [], [], false, false, false, false, s.clk.dtime, [s.word (Reg.SRC_CMAT n 0), s.word (Reg.SRC_CMAT n 1)],
    (List.range 5).map (fun i => s.word (Reg.SRC_LMAT n i)), tf, rtp, none, s.houseNs, none, stored⟩

/-- Starts a frame when none is being received; an incoming frame that finds every buffer in use is dropped and
counted (R81). -/
def State.openFrame (s : State) (n : Nat) (rtp : Option Word) : CurFrame × State :=
  match (s.src n).cur with
  | some c => (c, s)
  | none =>
    match s.takeBuffer n with
    | some fs =>
      let c := s.newFrame n rtp true
      (c, s.setSrc n { s.src n with frames := fs, cur := some c })
    | none =>
      let c := s.newFrame n rtp false
      ((c, ((s.setSrc n { s.src n with cur := some c }).count (Fld.SRC_SYNCCNT_DROP n)).tally 0x0C3))

/-- A Bool as 0 or 1. -/
def bitNat01 (b : Bool) : Nat := if b then 1 else 0

/-- A padding pixel (R79). -/
def padPx : Px := ⟨0, 0, 0, 1024⟩

/-- Fits a converted line to the configured width (*Table — Frame irregularities*). A line both of a wrong length and with
a CRC mismatch is PADDED, and its frame has both flags (assumption 101). -/
def fitLine (w : Nat) (px : List Px) (crcOk : Bool) : SrcLine × Bool :=
  if px.length = w then (⟨if crcOk then .valid else .crcerr, px⟩, false)
  else (⟨.padded, px.take w ++ List.replicate (w - px.length) padPx⟩, true)

/-- An active line came; one that lacks samples of a link of the quad-link stays MISSING (R58). -/
def State.lostLine (s : State) (n line : Nat) : State :=
  match (s.src n).cur with
  | some cur => s.setSrc n { s.src n with cur := some { cur with got := line :: cur.got, gap := true } }
  | none => s

/-- Stores a converted line in the frame being received. -/
def State.storeLine (s : State) (n : Nat) (cur : CurFrame) (line : Nat) (px : List Px) (crcOk : Bool) : State :=
  if cur.stored = false then s
  else if s.rasterH n ≤ line then s.setSrc n { s.src n with cur := some { cur with long := true } }
  else
    let (l, bad) := fitLine (s.rasterW n) px crcOk
    let s := s.setSrc n { s.src n with cur := some { cur with
      lines := SMap.put cur.lines line l
      got := line :: cur.got
      badlen := cur.badlen || bad
      crc := cur.crc || !crcOk } }
    (s.put Fld.DMC_STAT_SR 0).tally 0x0C6 l.px.length

/-- A receiver reports its lane (R54, R57): the rate it found or that it has none, and the audio and ancillary packets
discarded. -/
def State.reportLane (s : State) (p : SdiPart) : State :=
  let i := p.lane.val
  let s := s.count (Fld.SRC_LANE_STAT_ANC i) p.ancillary
  let s := (s.putBit (Fld.SRC_LANE_STAT_LOCK i) (p.rate != 0)).put (Fld.SRC_LANE_STAT_RATE i) p.rate.toNat
  s.putBit (Fld.SRC_LANE_STAT_M1001 i) (p.m1001 && p.rate != 0)

/-- One picture line of an SDI source (R57, R59, R67 to R73, R79). Codes out of range in a line or a part of one that is
then discarded count too: the check comes first (assumption 102). -/
def State.sdiLine (s : State) (n line : Nat) (f2 : Bool) (ys cbs crs : List (BitVec 10)) (crcOk : Bool) : State :=
  let (cur, s) := s.openFrame n none
  if cur.stored = false then s
  else
    let il := s.bit (Fld.SRC_RASTER_INTERLACED n)
    let cur := if il && f2 then { cur with f2 := some 0 } else cur
    let (px, s) := s.convert422 n cur (ys.map (fun v => widen 0 v.toNat)) (cbs.map (fun v => widen 0 v.toNat))
      (crs.map (fun v => widen 0 v.toNat))
    s.storeLine n cur (if il then 2 * line + bitNat01 f2 else line) px crcOk

/-- Pairs of two lists in turn: luma of two links of a two-sample interleave. -/
def weavePairs {α : Type} : List α → List α → List α
  | a :: b :: s, c :: d :: t => a :: b :: c :: d :: weavePairs s t
  | s, t => s ++ t

/-- Elements of two lists in turn: chroma of two links of a two-sample interleave. -/
def weaveOnes {α : Type} : List α → List α → List α
  | a :: s, b :: t => a :: b :: weaveOnes s t
  | s, t => s ++ t

/-- The part of link `k` of the quad-link, within 4 lines of skew (R58). -/
def quadPart (l : List SdiPart) (k : Nat) : Option SdiPart := l.find? (fun p => decide (p.link = k) && decide (p.lag ≤ 4))

/-- A line of each of the four links carries two picture lines: links 1 and 2 the upper one, 3 and 4 the lower one, each in
pairs of samples in turn (R58; assumption 103). Without all four both are MISSING. -/
def State.quadLines (s : State) (n line : Nat) (l : List SdiPart) : State :=
  match quadPart l 1, quadPart l 2, quadPart l 3, quadPart l 4 with
  | some a, some b, some c, some d =>
    let s := s.sdiLine n (2 * line) false (weavePairs a.luma b.luma) (weaveOnes a.cb b.cb) (weaveOnes a.cr b.cr) (a.crcOk && b.crcOk)
    s.sdiLine n (2 * line + 1) false (weavePairs c.luma d.luma) (weaveOnes c.cb d.cb) (weaveOnes c.cr d.cr) (c.crcOk && d.crcOk)
  | _, _, _, _ =>
    let s := (s.openFrame n none).2
    (s.lostLine n (2 * line)).lostLine n (2 * line + 1)

/-- The enabled sources that take input from a lane or group (R53). -/
def State.inputOf (s : State) (kind input : Nat) : List Nat :=
  (List.range 64).filter (fun n => s.bit (Fld.SRC_CFG_ENABLED n) && decide (s.get (Fld.SRC_CFG_KIND n) = kind) &&
    decide (s.get (Fld.SRC_CFG_INPUT n) = input))

/-- Mode of the group of a lane in effect. -/
def State.laneMode (s : State) (lane : Nat) : Nat := s.ingest.gmode.getD (lane / 4) 3

/-- SDI_LINE_RECEIVED (R54, R57 to R59, R67 to R73, R79). Receivers work only in the SDI modes. -/
def doSdiLine (l : SdiLine) (s : State) : State :=
  if !(s.ingestRuns) then s
  else
    let parts := l.parts.filter (fun p => decide (s.laneMode p.lane.val ≤ 1))
    let live := parts.filter (fun p => p.rate != 0)
    let single := live.filter (fun p => decide (s.laneMode p.lane.val = 0))
    let quad (g : Nat) := live.filter (fun p => decide (p.lane.val / 4 = g) && decide (s.laneMode p.lane.val = 1))
    let s := forEach parts (fun p s => s.reportLane p) s
    let s := forEach single (fun p s =>
      forEach (s.inputOf 1 p.lane.val) (fun n s => s.sdiLine n l.line l.field2 p.luma p.cb p.cr p.crcOk) s) s
    forEach [0, 1] (fun g s =>
      if quad g = [] then s else forEach (s.inputOf 2 g) (fun n s => s.quadLines n l.line (quad g)) s) s

/-! ### Pyramid (R76) -/

/-- The average of four decoded components, encoded again. -/
def State.avg4 (s : State) (f : Px → Nat) (a b c d : Px) : Nat :=
  s.encode ((s.slutAt (f a) + s.slutAt (f b) + s.slutAt (f c) + s.slutAt (f d) + 2) / 4)

/-- One pixel of the next level. -/
def State.pyrPx (s : State) (a b c d : Px) : Px :=
  ⟨s.avg4 (·.r) a b c d, s.avg4 (·.g) a b c d, s.avg4 (·.b) a b c d, (a.a + b.a + c.a + d.a + 2) / 4⟩

/-- One line of the next level from two lines of a level: width ceil(W / 2), the last column repeated. -/
def State.pyrRow (s : State) (w : Nat) (p q : List Px) : List Px :=
  (List.range ((w + 1) / 2)).map (fun x =>
    let x0 := 2 * x
    let x1 := min (2 * x + 1) (w - 1)
    s.pyrPx (p.getD x0 padPx) (p.getD x1 padPx) (q.getD x0 padPx) (q.getD x1 padPx))

/-- The next level of a level of `h` lines of `w` pixels: a line is MISSING when a line it averages is MISSING. -/
def State.pyrLevel (s : State) (w h : Nat) (m : SMap SrcLine) : SMap SrcLine :=
  (List.range ((h + 1) / 2)).foldl (fun acc y =>
    match SMap.find m (2 * y), SMap.find m (min (2 * y + 1) (h - 1)) with
    | some p, some q =>
      if p.st = .missing ∨ q.st = .missing then acc
      else SMap.put acc y ⟨.valid, s.pyrRow w p.px q.px⟩
    | _, _ => acc) []

/-! ### Signatures (R83) -/

/-- A pixel whose stored value the spec leaves open, numbered from `k` (assumption 5). -/
def freePx (k : Nat) : Px :=
  ⟨Config.freeValue k % 4096, Config.freeValue (k + 1) % 4096, Config.freeValue (k + 2) % 4096, 1024⟩

/-- The sampled pixels of a frame, (x + y) mod 4 = 0, in raster order. What a MISSING line of level 0 holds the spec does
not say: free values from `k` (assumption 15). -/
def samplePx (w h : Nat) (m : SMap SrcLine) (k : Nat) : List Px :=
  (List.range h).flatMap (fun y =>
    let l := (SMap.find m y).map (·.px)
    ((List.range w).filter (fun x => decide ((x + y) % 4 = 0))).map (fun x =>
      match l with | some p => p.getD x padPx | none => freePx (k + 3 * (y * w + x))))

/-- The bytes of a sampled pixel: three 16-bit little-endian values. -/
def pxBytes (p : Px) : List Nat := [p.r % 256, p.r / 256, p.g % 256, p.g / 256, p.b % 256, p.b / 256]

/-- The signature of a frame. -/
def frameSig (l : List Px) : Nat := crc32c (l.flatMap pxBytes)

/-- Mean luma of the sample: floor(sum / count). -/
def State.meanLuma (s : State) (l : List Px) : Nat :=
  (l.map (fun p => (1076 * s.slutAt p.r + 2777 * s.slutAt p.g + 243 * s.slutAt p.b) / 4096)).sum / max 1 l.length

/-! ### Source events -/

/-- The clients that get a source event beside client 0 (R306): those that watch it with SRC_WATCH, and the owners of
windows with FREEZE_WATCH that name the source. -/
def State.watchers (s : State) (code n : Nat) : List ClientId :=
  let bit := match code with | 0x0200 => 0 | 0x0201 => 1 | _ => 2
  let a := (s.cmds.watches.filter (fun w => decide (w.2.1 = n) && decide (bitsOf w.2.2 bit 1 = 1))).map (·.1)
  let b := (s.comp.windows.filter (fun w =>
    let w0 := nth w.2.words 0
    decide (wbits w0 0 0 = 1) && decide (wbits w0 16 16 = 0) && decide (wbits w0 15 10 = n) && decide (code ≠ 0x0200))).map
      (fun w => w.2.owner)
  ((a ++ b).filter (fun c => decide (c ≠ 0))).eraseDups

/-- Raises a source event (R80, R83, R306). -/
def State.srcRaise (s : State) (code n : Nat) (set : Bool) : State :=
  let p := wd ((if set then 2 ^ 31 else 0) + n)
  let s := s.event code [p]
  let q : BitVec 16 := BitVec.ofNat 16 (lookup 0 s.net.eseqOut s.nodeId)
  forEach (s.watchers code n) (fun c s => s.deliver ⟨code, c, 0, s.nodeId, q, s.clk.dtime, s.clk.fn, [p]⟩) s

/-- Enters or leaves LOST (R80). -/
def State.setLost (s : State) (n : Nat) (b : Bool) : State :=
  if s.bit (Fld.SRC_STAT_LOST n) = b then s
  else
    let s := s.putBit (Fld.SRC_STAT_LOST n) b
    -- the regular frames that clear LOST are those that come while it is set
    let s := if b then s.setSrc n { s.src n with goodRun := 0 } else s
    let s := s.srcRaise 0x0200 n b
    s.logBlot blkSRC 1 clsINFO n (if b then 1 else 0)

/-- Freeze and black detection on a completed frame (R83). -/
def State.detect (s : State) (n : Nat) (smp : List Px) : State :=
  let src := s.src n
  let sig := frameSig smp
  let same := decide (src.lastSig = some sig)
  let run := if same then src.freezeRun + 1 else 1
  let need := let v := s.get (Fld.SRC_DETECT_FREEZE_N n); if v < 2 then 2 else v
  let dark := decide (s.meanLuma smp < s.get (Fld.SRC_DETECT_BLACK_THR n))
  let bneed := let v := s.get (Fld.SRC_DETECT_BLACK_N n); if v < 2 then 2 else v
  let brun := if dark then src.blackRun + 1 else 0
  let s := s.setSrc n { src with lastSig := some sig, freezeRun := run, blackRun := brun }
  let s := s.setWord (Reg.SRC_SIG n) (wd sig)
  let s := if s.bit (Fld.SRC_STAT_FREEZE n) then
      if same then s else (s.putBit (Fld.SRC_STAT_FREEZE n) false).srcRaise 0x0201 n false
    else if s.bit (Fld.SRC_CFG_LIVE n) && decide (need ≤ run) then
      (s.putBit (Fld.SRC_STAT_FREEZE n) true).srcRaise 0x0201 n true
    else s
  if s.bit (Fld.SRC_STAT_BLACK n) then
    if dark then s else (s.putBit (Fld.SRC_STAT_BLACK n) false).srcRaise 0x0202 n false
  else if bneed ≤ brun then (s.putBit (Fld.SRC_STAT_BLACK n) true).srcRaise 0x0202 n true
  else s

/-- E of R65: floor(H × 90,000 / 10^9) mod 2^32. -/
def rtpE (h : Nat) : Nat := h * 90000 / 1000000000 % 2 ^ 32

/-- The lanes of an SDI source: one, or the four of its group. -/
def State.sdiLanes (s : State) (n : Nat) : List Nat :=
  let i := s.get (Fld.SRC_CFG_INPUT n)
  match s.get (Fld.SRC_CFG_KIND n) with
  | 1 => [i % 8]
  | 2 => (List.range 4).map (fun k => 4 * (i % 2) + k)
  | _ => []

/-- The payload identifier disagrees with SRC_RASTER or SRC_RATE, names a format the head never accepts, or is missing on a
link above 1.5 Gbit/s (R56, R57). -/
def State.formatWrong (s : State) (n : Nat) (info : FrameInfo) : Bool :=
  match info.pid with
  | some p =>
    decide (p.width ≠ s.rasterW n) || decide (p.height ≠ s.rasterH n) ||
      decide (p.num * s.get (Fld.SRC_RATE_DEN n) ≠ s.get (Fld.SRC_RATE_NUM n) * p.den) ||
      decide (p.interlaced ≠ s.bit (Fld.SRC_RASTER_INTERLACED n)) || !p.is422 || decide (p.bits ≠ 10) ||
      decide (p.mapping ≠ .supported)
  | none => (s.sdiLanes n).any (fun i => decide (2 ≤ s.get (Fld.SRC_LANE_STAT_RATE i)))

/-- Stages 3 to 7 for a line of codes that have passed stage 2. -/
def State.finishCodes (s : State) (n : Nat) (cur : CurFrame) (l : List Code) : List Px :=
  let fmt := s.get (Fld.SRC_CFG_FORMAT n)
  let full := s.bit (Fld.SRC_CFG_RANGE n)
  let at_ (x : Nat) : Code := l.getD x ⟨0, 0, 0, 1024⟩
  if fmt = 0 then
    let even := (List.range ((l.length + 1) / 2)).map (fun j => at_ (2 * j))
    (List.range l.length).map (fun x =>
      s.convert false full cur (at_ x).c0 (upsample (even.map (·.c1)) x) (upsample (even.map (·.c2)) x) 1024)
  else l.map (fun c => s.convert (decide (3 ≤ fmt)) full cur c.c0 c.c1 c.c2 c.al)

/-- A code that the spec leaves open, numbered from `k` (assumption 15). -/
def freeCode (k : Nat) : Code :=
  ⟨Config.freeValue k % 4096, Config.freeValue (k + 1) % 4096, Config.freeValue (k + 2) % 4096, 1024⟩

/-- The state of a line of a flow whose pixels are all there. -/
def flowLine (cur : CurFrame) (line : Nat) (px : List Px) : SrcLine := ⟨if line ∈ cur.cut then .padded else .valid, px⟩

/-- A line that accepted packets covered only in part (R63): what was not covered is a free value, and the line is stored
as one that was covered (assumptions 15 and 140). -/
def State.coverRest (s : State) (n : Nat) (c : CurFrame) : CurFrame × State :=
  c.raw.foldl (fun acc e =>
    let (c, s) := acc
    let k := s.free
    let codes := e.2.zipIdx.map (fun (q : Option Code × Nat) => q.1.getD (freeCode (k + 3 * q.2)))
    ({ c with lines := SMap.put c.lines e.1 (flowLine c e.1 (s.finishCodes n c codes)) },
      { s with free := k + 3 * e.2.length })) ({ c with raw := [] }, s)

/-- The first line of the raster that did not come, after which every line is MISSING in a SHORT frame. -/
def firstMissing (h : Nat) (got : List Nat) : Option Nat := (List.range h).find? (fun y => !(y ∈ got))

/-- Completes a frame (R57, R63, R65, R76, R79, R80, R83). A frame dropped unstored does not complete (R81;
assumption 16). -/
def State.completeCur (s : State) (n : Nat) (c : CurFrame) (fmt : Bool) : State :=
  if c.stored = false then s
  else
    let h := s.rasterH n
    let w := s.rasterW n
    let flow := decide (s.get (Fld.SRC_CFG_KIND n) = 3)
    let sdi := decide (s.get (Fld.SRC_CFG_KIND n) = 1) || decide (s.get (Fld.SRC_CFG_KIND n) = 2)
    let (c, s) := s.coverRest n c
    let src := s.src n
    let missing := if sdi then firstMissing h c.got else none
    let short := missing.isSome
    let lines := match missing with
      | some m => c.lines.filter (fun e => decide (e.1 < m))
      | none => c.lines
    let gap := c.gap || (flow && decide (c.lines.length < h))
    let irregular := short || c.long || c.badlen || gap || fmt
    let no := (src.count + 1) % 2 ^ 32
    let pyr := s.bit (Fld.SRC_CFG_PYR n)
    let l1 := if pyr then s.pyrLevel w h lines else []
    let l2 := if pyr then s.pyrLevel ((w + 1) / 2) ((h + 1) / 2) l1 else []
    let f : SrcFrame := ⟨no, lines, l1, l2, s.clk.dtime, c.firstAt, !irregular⟩
    let bad := if irregular then src.badRun + 1 else 0
    let good := if irregular then 0 else src.goodRun + 1
    let s := s.setSrc n { src with
      frames := f :: src.frames
      count := no
      badRun := bad
      goodRun := good
      since := true }
    let s := if irregular then { s with ingest := { s.ingest with irregular := s.ingest.irregular ++ [(n, no)] } } else s
    let s := if s.bit Fld.JRN_STAT_RUN then { s with ingest := { s.ingest with completed := s.ingest.completed ++ [(n, f)] } } else s
    let s := (s.setWord (Reg.SRC_FCNT n) (wd no)).tally 0x0C0
    let s := if irregular then s.tally 0x0C1 else s
    let s := if short then s.raise (Fld.SRC_STAT_SHORT n) else s
    let s := if c.long then s.raise (Fld.SRC_STAT_LONG n) else s
    let s := if c.badlen then s.raise (Fld.SRC_STAT_BADLEN n) else s
    let s := if gap then (s.raise (Fld.SRC_STAT_GAP n)).count (Fld.SRC_ERRCNT_GAP n) else s
    let s := if fmt then s.raise (Fld.SRC_STAT_FMT n) else s
    let s := if c.crc then (s.raise (Fld.SRC_STAT_CRCERR n)).count (Fld.SRC_ERRCNT_CRC n) else s
    let s := match c.rtp with
      | some t =>
        s.setWord (Reg.SRC_RTPOFS n) (if s.bit Fld.TIME_HT_CTL_SET then t - wd (rtpE c.house) else 0x80000000)
      | none => s
    let s := if max 1 (s.get (Fld.SRC_GEOM_LOST_N n)) ≤ bad then s.setLost n true
      else if s.bit (Fld.SRC_STAT_LOST n) && decide (max 1 (s.get (Fld.SRC_GEOM_REGAIN_N n)) ≤ good) then s.setLost n false
      else s
    let k := s.free
    let s := if lines.length < h then { s with free := k + 3 * w * h } else s
    s.detect n (samplePx w h lines k)

/-- A lone field: an interlaced frame whose field 2 has not begun (R59). A host buffer holds a whole frame (R66). -/
def State.loneField (s : State) (n : Nat) (c : CurFrame) : Bool :=
  s.bit (Fld.SRC_RASTER_INTERLACED n) && c.f2.isNone && decide (s.get (Fld.SRC_CFG_KIND n) ≠ 4)

/-- The frame being received completes. A lone field is never shown: it is discarded (R59; assumption 104). -/
def State.completeFrame (s : State) (n : Nat) (fmt : Bool) : State :=
  match (s.src n).cur with
  | none => s
  | some c =>
    let s := s.setSrc n { s.src n with cur := none }
    if s.loneField n c then s else s.completeCur n c fmt

/-! ### The end of a flow's frame (R62, R63) -/

/-- Filters on both ports map to the source: two legs are merged (R62). -/
def State.merged (s : State) (n : Nat) : Bool :=
  [0, 1].all (fun p => (List.range 256).any (fun i =>
    s.bit (Fld.SRC_FLOW_CFG_VALID (256 * p + i)) && decide (s.get (Fld.SRC_FLOW_MAP_SOURCE (256 * p + i)) = n)))

/-- A frame that has ended completes: it is whole, no other leg can fill it, or the 10 ms of R62 are over. -/
def State.flowReady (s : State) (n : Nat) (c : CurFrame) : Bool :=
  !c.stored || (c.raw.isEmpty && decide (s.rasterH n ≤ c.lines.length)) || !(s.merged n) ||
    (match c.ended with | some t => decide (t + 10000000 ≤ s.clk.upNs) | none => false)

/-- Completes the frames of a flow that have ended, in their order. -/
def State.drainFlow (s : State) (n : Nat) : State :=
  forEach (s.src n).waiting (fun _ s =>
    match (s.src n).waiting with
    | c :: t => if s.flowReady n c then (s.setSrc n { s.src n with waiting := t }).completeCur n c false else s
    | [] => s) s

/-- The frame of a flow being received ends here (R63). -/
def State.endFlow (s : State) (n : Nat) : State :=
  match (s.src n).cur with
  | none => s
  | some c =>
    let s := s.setSrc n { s.src n with cur := none, lastRtp := c.rtp.toList ++ c.f2.toList }
    if s.loneField n c then s
    else
      (s.setSrc n { s.src n with waiting := (s.src n).waiting ++ [{ c with ended := some s.clk.upNs }] }).drainFlow n

/-- SOURCE_FRAME_COMPLETE (R79): the last line of an enabled source's frame has come. An SDI receiver reports the payload
identifier on its lanes, also for a source that is not enabled. A flow's frame ends with its packets (R63), so only a wait
for the other leg can end here; a host frame completes with its fetch. -/
def doFrameComplete (n : Nat) (info : FrameInfo) (s : State) : State :=
  if !(s.ingestRuns) then s
  else
    let s := forEach (s.sdiLanes n) (fun i s =>
      if s.laneMode i ≤ 1 then s.putBit (Fld.SRC_LANE_STAT_PID i) info.pid.isSome else s) s
    if s.bit (Fld.SRC_CFG_ENABLED n) = false then s
    else match s.get (Fld.SRC_CFG_KIND n) with
    | 1 => s.completeFrame n (s.formatWrong n info)
    | 2 => s.completeFrame n (s.formatWrong n info)
    | 3 => s.drainFlow n
    | _ => s

/-- SOURCE_LOST_TIMEOUT (R80). -/
def doLostTimeout (n : Nat) (s : State) : State :=
  if s.ingestRuns && s.bit (Fld.SRC_CFG_ENABLED n) then s.setLost n true else s

/-! ### ST 2110 (R60 to R65) -/

/-- Counts a packet error of kind `k` on Ethernet port `p` (R64). -/
def State.ethErr (s : State) (p k : Nat) : State := (s.count (Fld.SRC_ETHERR_COUNT (8 * p + k))).tally 0x0C5

/-- The lowest filter of a port that matches a packet: UDP to a multicast destination, 224.0.0.0 to 239.255.255.255
(R60). -/
def State.matchFlow (s : State) (f : EthFrame) : Option Nat :=
  if f.udp = false ∨ wbits f.dstIp 31 28 ≠ 14 then none
  else ((List.range 256).map (fun i => 256 * f.eth.val + i)).find? (fun i =>
    s.bit (Fld.SRC_FLOW_CFG_VALID i) && s.bit (Fld.SRC_CFG_ENABLED (s.get (Fld.SRC_FLOW_MAP_SOURCE i))) &&
      decide (s.word (Reg.SRC_FLOW_ADDR i) = f.dstIp) && decide (s.get (Fld.SRC_FLOW_CFG_DST_PORT i) = f.dstPort.toNat) &&
      (if s.bit (Fld.SRC_FLOW_CFG_VLAN_EN i) then decide (f.vlanTags = 1) && decide (s.get (Fld.SRC_FLOW_CFG_VLAN i) = f.vlanId.toNat)
       else decide (f.vlanTags = 0)))

/-- Octets and pixels of a pgroup by SRC_CFG.FORMAT (*Table — Supported ST 2110-20 packings*). -/
def pgroup (fmt : Nat) : Nat × Nat :=
  match fmt with
  | 0 => (5, 2)
  | 1 => (15, 4)
  | 2 => (9, 2)
  | 3 => (15, 4)
  | _ => (9, 2)

/-- Lays codes over a line from an offset. -/
def overlayCodes (base : List (Option Code)) (ofs : Nat) (l : List Code) : List (Option Code) :=
  base.take ofs ++ l.map some ++ base.drop (ofs + l.length)

/-- Stages 1 and 2 for the pixels of a sample row, from pixel `ofs` on; of a 4:2:2 row only even pixels carry chroma. -/
def State.takeCodes (s : State) (n ofs : Nat) (l : List RawPixel) : List Code × State :=
  let fmt := s.get (Fld.SRC_CFG_FORMAT n)
  let full := s.bit (Fld.SRC_CFG_RANGE n)
  let clip := s.bit (Fld.SRC_CFG_CLIP n)
  let one (chroma used : Bool) (c : Nat) : Nat × Nat × Nat :=
    if used then ranged full clip chroma (widen fmt c) else (0, 0, 0)
  let out := l.zipIdx.map (fun (e : RawPixel × Nat) =>
    let c := decide (fmt ≠ 0) || decide ((ofs + e.2) % 2 = 0)
    (one false true e.1.c0.toNat, one (decide (fmt < 3)) c e.1.c1.toNat, one (decide (fmt < 3)) c e.1.c2.toNat))
  let lo := (out.map (fun e => e.1.2.1 + e.2.1.2.1 + e.2.2.2.1)).sum
  let hi := (out.map (fun e => e.1.2.2 + e.2.1.2.2 + e.2.2.2.2)).sum
  (out.map (fun e => ⟨e.1.1, e.2.1.1, e.2.2.1, 1024⟩), s.countRange n lo hi)

/-- Puts one sample row into a frame: the line is converted once it is covered whole, so that chroma at the edges of rows
has its neighbours (R69). A row that runs past the width is cut (*Table — Frame irregularities*), its chroma samples
beyond the width with it (assumption 141). -/
def State.storeSrd (s : State) (n : Nat) (field2 : Bool) (r : Srd) (cur : CurFrame) : CurFrame × State :=
  let w := s.rasterW n
  let pg := pgroup (s.get (Fld.SRC_CFG_FORMAT n))
  let (codes, s) := s.takeCodes n r.offset (r.pixels.take (r.octets / pg.1 * pg.2))
  let line := if s.bit (Fld.SRC_RASTER_INTERLACED n) then 2 * r.line + bitNat01 field2 else r.line
  let wide := decide (w < r.offset + codes.length)
  let cur := if wide then { cur with badlen := true, cut := line :: cur.cut } else cur
  if (SMap.find cur.lines line).isSome then (cur, s)
  else
    let base := (SMap.find cur.raw line).getD (List.replicate w none)
    let row := overlayCodes base r.offset (codes.take (w - r.offset))
    let cur := { cur with got := line :: cur.got }
    if row.all (·.isSome) then
      let px := s.finishCodes n cur (row.map (fun c => c.getD ⟨0, 0, 0, 1024⟩))
      ({ cur with lines := SMap.put cur.lines line (flowLine cur line px), raw := SMap.erase cur.raw line },
        s.tally 0x0C6 w)
    else ({ cur with raw := SMap.put cur.raw line row }, s)

/-- Every sample row of a packet. -/
def State.storeSrds (s : State) (n : Nat) (field2 : Bool) (l : List Srd) (cur : CurFrame) : CurFrame × State :=
  match l with
  | [] => (cur, s)
  | r :: t => let (c, s) := s.storeSrd n field2 r cur; s.storeSrds n field2 t c

/-- Lines a field of the source has: the raster, or half of it when woven (R59). -/
def State.fieldH (s : State) (n : Nat) : Nat :=
  if s.bit (Fld.SRC_RASTER_INTERLACED n) then (s.rasterH n + 1) / 2 else s.rasterH n

/-- The newest of the sequence numbers held and `q`, as the 32-bit count wraps. -/
def newestSeq (q : Nat) (l : List (Nat × Nat × Nat)) : Nat :=
  l.foldl (fun a e => let d := (e.1 + 2 ^ 32 - a) % 2 ^ 32; if 1 ≤ d ∧ d < 2 ^ 31 then e.1 else a) q

/-- A sequence number is older than the receive buffer of filter `i`, which keeps 1,024 (R61, R64). -/
def olderThanBuffer (i q : Nat) (l : List (Nat × Nat × Nat)) : Bool :=
  let d := (newestSeq q (l.filter (fun e => decide (e.2.1 = i))) + 2 ^ 32 - q) % 2 ^ 32
  decide (1024 ≤ d) && decide (d < 2 ^ 31)

/-- Keeps a sequence number in the buffer of its filter; what came within the last 10 ms stays beside the 1,024 of the
buffer, since its twin is still DUP (R62). -/
def keepSeq (q i now : Nat) (l : List (Nat × Nat × Nat)) : List (Nat × Nat × Nat) :=
  let mine := l.filter (fun e => decide (e.2.1 = i))
  (q, i, now) :: (mine.take 1023 ++ (mine.drop 1023).filter (fun e => decide (now ≤ e.2.2 + 10000000))) ++
    l.filter (fun e => decide (e.2.1 ≠ i))

/-- A frame carries the RTP timestamp `t`. -/
def CurFrame.hasStamp (c : CurFrame) (t : Word) : Bool := decide (c.rtp = some t) || decide (c.f2 = some t)

/-- Puts a packet into the frame being received, and ends it at the marker, that of field 2 when interlaced (R59, R63). -/
def State.fillCur (s : State) (n : Nat) (f : EthFrame) : State :=
  match (s.src n).cur with
  | none => s
  | some c =>
    let (c, s) := if c.stored then s.storeSrds n f.field2 f.srds c else (c, s)
    let s := s.setSrc n { s.src n with cur := some c }
    if f.marker && (!(s.bit (Fld.SRC_RASTER_INTERLACED n)) || f.field2) then s.endFlow n else s

/-- A packet that neither a twin nor the buffer turned away goes to its frame (R62, R63): that being received, its field
2, one that has ended and waits for the other leg, or a new one: any RTP timestamp that the frame and the last one do not
carry is new, for frames are ordered by arrival (R65). A packet of the last frame, which has ended, is LATE
(assumption 139); a field 2 without a field 1 starts no frame (R59). -/
def State.takePacket (s : State) (n p : Nat) (f : EthFrame) : State :=
  let il := s.bit (Fld.SRC_RASTER_INTERLACED n)
  let t := f.timestamp
  let src := s.src n
  let fresh (s : State) : State :=
    let s := s.endFlow n
    if il && f.field2 then s else ((s.openFrame n (some t)).2).fillCur n f
  if src.waiting.any (fun c => c.hasStamp t) then
    let (l, s) := src.waiting.foldl (fun acc c =>
      if c.hasStamp t && c.stored then
        let (c, s) := acc.2.storeSrds n f.field2 f.srds c
        (acc.1 ++ [c], s)
      else (acc.1 ++ [c], acc.2)) (([] : List CurFrame), s)
    (s.setSrc n { s.src n with waiting := l }).drainFlow n
  else match src.cur with
  | some c =>
    if c.hasStamp t then s.fillCur n f
    else if t ∈ src.lastRtp then s.ethErr p 7
    else if il && f.field2 && c.f2.isNone then (s.setSrc n { src with cur := some { c with f2 := some t } }).fillCur n f
    else fresh s
  | none => if t ∈ src.lastRtp then s.ethErr p 7 else fresh s

/-- ST2110_PACKET_RECEIVED (R60 to R65). Of several faults of one packet the first in this order counts
(assumption 142). -/
def doSt2110 (f : EthFrame) (s : State) : State :=
  let p := f.eth.val
  if !(s.ingestRuns) ∨ s.ingest.gmode.getD p 3 ≠ 2 then s
  else
  -- a frame comes only over aligned PCS lanes
  let s := forEach (List.range 4) (fun i s => s.raise (Fld.SRC_LANE_STAT_LOCK (4 * p + i))) s
  if f.fcsOk = false then s.ethErr p 0
  else if f.ipv4 = false ∨ f.fragment = true ∨ 1 < f.vlanTags then s.ethErr p 1
  else match s.matchFlow f with
  | none => s.ethErr p 1
  | some i =>
    let n := s.get (Fld.SRC_FLOW_MAP_SOURCE i)
    let pg := (pgroup (s.get (Fld.SRC_CFG_FORMAT n))).1
    if f.ipSumOk = false ∨ (f.udpSum ≠ 0 ∧ f.udpSumOk = false) then s.ethErr p 2
    else if f.rtpVer ≠ 2 ∨ f.payloadType.toNat ≠ s.get (Fld.SRC_FLOW_MAP_PT i) then s.ethErr p 3
    else if s.get (Fld.SRC_FLOW_MAP_KIND i) = 1 then s.ethErr p 4
    else if f.srds.any (fun r => decide (s.fieldH n ≤ r.line) || decide (s.rasterW n ≤ r.offset) || decide (r.octets % pg ≠ 0)) then
      s.ethErr p 5
    else
      let src := s.src n
      let q := f.seq.toNat
      let now := s.clk.upNs
      match src.seqs.find? (fun e => decide (e.1 = q)) with
      | some (_, _, at_) =>
        -- the twin: DUP, or LATE beyond the differential of 10 ms (R62)
        if at_ + 10000000 < now then s.ethErr p 7 else s.ethErr p 6
      | none =>
        if f.full || olderThanBuffer i q src.seqs then s.ethErr p 7
        else (((s.setSrc n { src with seqs := keepSeq q i now src.seqs }).tally 0x0C4).drainFlow n).takePacket n p f

/-! ### Host sources (R66) -/

/-- SRC_HREADY_WRITE (R66). A doorbell written while one is still held replaces it. -/
def doHready (n : Nat) (v : Word) (s : State) : State :=
  if !(s.ingestRuns) then s
  else
    let src := s.src n
    let buf := wbits v 1 0
    if s.get (Fld.SRC_CFG_KIND n) ≠ 4 ∨ s.bit (Fld.SRC_CFG_ENABLED n) = false ∨ src.bufs.length ≤ buf then
      s.raise (Fld.SRC_STAT_HRDY_ERR n)
    else match src.fetching, src.heldBell with
      | none, none => s.setSrc n { src with fetching := some buf }
      | _, held =>
        let s := if held.isSome then s.count (Fld.SRC_SYNCCNT_DROP n) else s
        s.setSrc n { s.src n with heldBell := some buf }

/-- HELD_DOORBELL_FETCH (R66): the fetch of the doorbell that was held starts. -/
def doHeldBell (n : Nat) (s : State) : State :=
  let src := s.src n
  if !(s.ingestRuns) then s
  else match src.fetching, src.heldBell with
    | none, some b => s.setSrc n { src with fetching := some b, heldBell := none }
    | _, _ => s

/-- The frame of a host source stored whole, and completed (R66). -/
def State.hostFrame (s : State) (n : Nat) (rows : List (List RawPixel)) : State :=
  let (_, s) := s.openFrame n none
  let s := forEach (rows.zipIdx) (fun r s =>
    match (s.src n).cur with
    | some cur => let (px, s) := s.convert444 n cur r.1; s.storeLine n cur r.2 px true
    | none => s) s
  let s := s.completeFrame n false
  s.setSrc n { s.src n with fetching := none }

/-- A fetch that a fault stopped: the partial frame is discarded and FETCH is set (R66). -/
def State.fetchFail (s : State) (n : Nat) : State :=
  (s.setSrc n { s.src n with cur := none, fetching := none }).raise (Fld.SRC_STAT_FETCH n)

/-! ### Groups and tables (R53, R71, R73, R74) -/

/-- An enabled source takes input from group `g` (R53). -/
def State.groupBusy (s : State) (g : Nat) : Bool :=
  (List.range 64).any (fun n =>
    s.bit (Fld.SRC_CFG_ENABLED n) &&
      (match s.get (Fld.SRC_CFG_KIND n) with
       | 1 => decide (s.get (Fld.SRC_CFG_INPUT n) / 4 = g)
       | 2 => decide (s.get (Fld.SRC_CFG_INPUT n) = g)
       | 3 => (List.range 256).any (fun i => s.bit (Fld.SRC_FLOW_CFG_VALID (256 * g + i)) &&
           decide (s.get (Fld.SRC_FLOW_MAP_SOURCE (256 * g + i)) = n))
       | _ => false))

/-- SRC_GMODE_WRITE (R53): the value written to SRC_GRP_CFG[g]. -/
def doGmodeWrite (g : Nat) (v : Word) (s : State) : State :=
  if s.role ≠ .head ∨ s.powered = false then s
  else
    let s := if wbits v 8 8 = 1 then s.put (Fld.SRC_GRP_CFG_ERR g) 0 else s
    let s := s.put (Fld.SRC_GRP_CFG_FEC g) (wbits v 4 4)
    if s.groupBusy g then s.raise (Fld.SRC_GRP_CFG_ERR g)
    else s.put (Fld.SRC_GRP_CFG_GMODE g) (wbits v 1 0)

/-- GMODE_TAKE_EFFECT (R53): the group works in the mode written, and its lanes retrain. -/
def doGmodeTake (g : Nat) (s : State) : State :=
  if s.role ≠ .head ∨ s.powered = false then s
  else
    let m := s.get (Fld.SRC_GRP_CFG_GMODE g)
    if s.ingest.gmode.getD g 3 = m then s
    else
      let s := { s with ingest := { s.ingest with gmode := setAt s.ingest.gmode g m } }
      forEach (List.range 4) (fun i s =>
        ((((s.put (Fld.SRC_LANE_STAT_LOCK (4 * g + i)) 0).put (Fld.SRC_LANE_STAT_RATE (4 * g + i)) 0).put
          (Fld.SRC_LANE_STAT_M1001 (4 * g + i)) 0).put (Fld.SRC_LANE_STAT_PID (4 * g + i)) 0)) s

/-- The new SLUT is non-decreasing (R74). -/
def nonDecreasing (m : SMap Nat) : Bool :=
  (List.range 4095).all (fun i => decide (SMap.get (fun _ => 0) m i ≤ SMap.get (fun _ => 0) m (i + 1)))

/-- SRC_LUT_SWAP (R71, R73, R74): the value written to SRC_LUT_CTL. -/
def doLutSwap (v : Word) (s : State) : State :=
  if s.role ≠ .head ∨ s.powered = false then s
  else
    let s := if wbits v 17 17 = 1 then s.put Fld.SRC_LUT_CTL_ERR 0 else s
    let s := (s.put Fld.SRC_LUT_CTL_TABLE (wbits v 15 12)).put Fld.SRC_LUT_CTL_INDEX (wbits v 11 0)
    if wbits v 16 16 = 1 ∧ wbits v 15 12 ≤ 8 then
      let t := wbits v 15 12
      ({ s with ingest := { s.ingest with swaps := if t ∈ s.ingest.swaps then s.ingest.swaps else t :: s.ingest.swaps } }).raise
        Fld.SRC_LUT_CTL_SWAP
    else s

/-- Applies the table swaps due at a tick start (R74). -/
def State.applyLuts (s : State) : State :=
  let s := forEach s.ingest.swaps (fun t s =>
    if t = 8 then
      if (List.range 64).any (fun n => s.bit (Fld.SRC_CFG_ENABLED n)) || !(nonDecreasing s.ingest.slutShadow) then
        s.raise Fld.SRC_LUT_CTL_ERR
      else { s with
        ingest := { s.ingest with slut := s.ingest.slutShadow }
        comp := { s.comp with slutDone := true } }
    else
      let keep := s.ingest.tf.filter (fun e => decide (e.1 / 4096 ≠ t))
      let new := s.ingest.tfShadow.filter (fun e => decide (e.1 / 4096 = t))
      { s with ingest := { s.ingest with tf := new.foldl (fun m e => SMap.put m e.1 e.2) keep } }) s
  ({ s with ingest := { s.ingest with swaps := [] } }).put Fld.SRC_LUT_CTL_SWAP 0

/-- A read of SRC_LUT_DATA: the shadow entry; INDEX advances (R71). -/
def State.readLutData (s : State) : Word × State :=
  let t := s.get Fld.SRC_LUT_CTL_TABLE
  let i := s.get Fld.SRC_LUT_CTL_INDEX
  let v := if t = 8 then SMap.get (fun _ => 0) s.ingest.slutShadow i
    else if t < 8 then SMap.get (fun _ => 0) s.ingest.tfShadow (t * 4096 + i) else 0
  (wd v, s.countWrap Fld.SRC_LUT_CTL_INDEX)

/-- A write of SRC_LUT_DATA (R71). -/
def State.writeLutData (s : State) (v : Word) : State :=
  let t := s.get Fld.SRC_LUT_CTL_TABLE
  let i := s.get Fld.SRC_LUT_CTL_INDEX
  let e := wbits v 19 0
  let s := if t = 8 then { s with ingest := { s.ingest with slutShadow := SMap.set (fun _ => 0) s.ingest.slutShadow i e } }
    else if t < 8 then { s with ingest := { s.ingest with tfShadow := SMap.set (fun _ => 0) s.ingest.tfShadow (t * 4096 + i) e } }
    else s
  s.countWrap Fld.SRC_LUT_CTL_INDEX

/-- SRC_LUT_DATA_ACCESS: a write carries the value, a read none. -/
def doLutData (w : Option Word) (s : State) : State :=
  if s.role ≠ .head ∨ s.powered = false then s
  else match w with
    | some v => s.writeLutData v
    | none => let (v, s) := s.readLutData; s.emit (.readValue Reg.SRC_LUT_DATA v)

/-! ### SRC_DEFINE and the loads (R56, R77, R78) -/

/-- The frame rate lies in 23.976 to 120 Hz (R78), in exact integers: 24,000 / 1,001 to 120. -/
def rateOk (num den : Nat) : Bool :=
  decide (den ≠ 0) && decide (24000 * den ≤ num * 1001) && decide (num ≤ 120 * den)

/-- Formats a kind can carry (R56, R60, R66, R78): kind 1 and 2 SDI 4:2:2, kind 3 the packings, kind 4 H8 or H16. -/
def formatOk (kind fmt : Nat) : Bool :=
  match kind with
  | 1 => decide (fmt = 0)
  | 2 => decide (fmt = 0)
  | 3 => decide (fmt ≤ 4)
  | 4 => decide (fmt = 5) || decide (fmt = 6)
  | 0 => true
  | _ => false

/-- The raster and rate are of a supported SDI format (*Table — Supported SDI formats*, R56). The table states no rate for
1920 × 1080 interlaced: up to 30 frames, 60 fields, a second are accepted (assumption 100). -/
def sdiOk (kind w h num den : Nat) (il : Bool) : Bool :=
  let le60 := decide (num ≤ 60 * den)
  let le30 := decide (num ≤ 30 * den)
  match kind with
  | 1 => (decide (w = 1920) && decide (h = 1080) && (if il then le30 else le60)) ||
      (decide (w = 1280) && decide (h = 720) && !il && le60) ||
      (decide (w = 3840) && decide (h = 2160) && !il && le60)
  | 2 => decide (w = 7680) && decide (h = 4320) && !il && le60
  | _ => true

/-- The exact period of R199: the rate num / den equals the tick rate of INT and FRAC within the table's precision. -/
def tickRateIs (int frac num den : Nat) : Bool :=
  -- period 10^9 × den / num ns; INT its integer part, FRAC the nearest 32-bit fraction
  let p := 1000000000 * den
  decide (num ≠ 0) && decide (p / num = int) && decide (((p % num) * 2 ^ 33 + num) / (2 * num) = frac)

/-- The write rate of a source as numerator over SRC_RATE.DEN × … in bytes: 64 × Σ H_l × ceil(W_l / P) × NUM (R77). -/
def writeUnits (w h : Nat) (pyr alpha : Bool) : Nat :=
  let p := if alpha then 10 else 14
  let u (w h : Nat) := h * ((w + p - 1) / p)
  let w1 := (w + 1) / 2
  let h1 := (h + 1) / 2
  64 * (u w h + (if pyr then u w1 h1 + u ((w1 + 1) / 2) ((h1 + 1) / 2) else 0))

/-- The two loads of a source (R77), as rationals: px/s and bytes/s. -/
def State.srcLoad (s : State) (n : Nat) : Rat × Rat :=
  let w := s.rasterW n
  let h := s.rasterH n
  let f : Rat := (s.get (Fld.SRC_RATE_NUM n) : Rat) / (s.get (Fld.SRC_RATE_DEN n) : Rat)
  let alpha := decide (s.get (Fld.SRC_CFG_KIND n) = 4)
  ((w * h : Nat) * f, (writeUnits w h (s.bit (Fld.SRC_CFG_PYR n)) alpha : Nat) * f)

/-- The sums over the enabled sources. -/
def State.srcLoads (s : State) : Rat × Rat :=
  (List.range 64).foldl (fun a n =>
    if s.bit (Fld.SRC_CFG_ENABLED n) then let l := s.srcLoad n; (a.1 + l.1, a.2 + l.2) else a) (0, 0)

end Sys2Proof.Machine
end

