-- ==== Sys2Proof/Machine/Espalier.lean ====
section
/-! DEFINITION. The colour Espalier produces at a sample point (R84 to R108): mapping, visible windows, scaling, blending
and encoding to the wire format. Everything here reads the configuration a frame is composed from. -/

namespace Sys2Proof.Machine

/-! ### Descriptor fields -/

/-- A 20-bit field of a window descriptor word. -/
def w20 (w : Win) (i : Nat) : Nat := wbits (nth w.words i) 19 0
def Win.plane (w : Win) : Nat := wbits (nth w.words 0) 19 17
def Win.isFill (w : Win) : Bool := wbits (nth w.words 0) 16 16 == 1
def Win.source (w : Win) : Nat := wbits (nth w.words 0) 15 10
def Win.filter (w : Win) : Nat := wbits (nth w.words 0) 9 6
def Win.premul (w : Win) : Bool := wbits (nth w.words 0) 5 5 == 1
def Win.visible (w : Win) : Bool := wbits (nth w.words 0) 4 4 == 1
def Win.live (w : Win) : Bool := wbits (nth w.words 0) 3 3 == 1
def Win.static (w : Win) : Bool := wbits (nth w.words 0) 2 2 == 1
def Win.inkwell (w : Win) : Bool := wbits (nth w.words 0) 1 1 == 1
def Win.fbHold (w : Win) : Nat := wbits (nth w.words 1) 31 16
def Win.fbMode (w : Win) : Nat := wbits (nth w.words 1) 15 14
/-- ALPHA; values above 1024 act as 1024. -/
def Win.alpha (w : Win) : Nat := min (wbits (nth w.words 1) 10 0) 1024
def Win.cx (w : Win) : Nat := w20 w 2
def Win.cy (w : Win) : Nat := w20 w 3
def Win.cw (w : Win) : Nat := w20 w 4
def Win.ch (w : Win) : Nat := w20 w 5
def Win.dx (w : Win) : Nat := w20 w 6
def Win.dy (w : Win) : Nat := w20 w 7
def Win.dw (w : Win) : Nat := w20 w 8
def Win.dh (w : Win) : Nat := w20 w 9

/-- A colour of three L20 components. -/
structure Rgb where
  r : Nat
  g : Nat
  b : Nat
  deriving DecidableEq, Repr

def Win.fillColour (w : Win) : Rgb := ⟨w20 w 10, w20 w 11, w20 w 12⟩

/-- A canvas rectangle [x0, x1) × [y0, y1) in 1/16 pixel. -/
structure Rect where
  x0 : Nat
  y0 : Nat
  x1 : Nat
  y1 : Nat
  deriving DecidableEq, Repr

def Win.rect (w : Win) : Rect := ⟨w.dx, w.dy, w.dx + w.dw, w.dy + w.dh⟩

/-- Fields of a tile descriptor (R103). -/
def tdNode (d : List Word) : Nat := wbits (nth d 0) 31 16
def tdPort (d : List Word) : Nat := wbits (nth d 0) 15 14
def tdFmt (d : List Word) : Nat := wbits (nth d 0) 13 12
def tdWq (d : List Word) : Nat := wbits (nth d 0) 11 8
def tdHq (d : List Word) : Nat := wbits (nth d 0) 7 5
def tdOrient (d : List Word) : Nat := wbits (nth d 0) 4 3
def tdMirror (d : List Word) : Bool := wbits (nth d 0) 2 2 == 1
def tdPreview (d : List Word) : Bool := wbits (nth d 0) 1 1 == 1

/-! ### From lamp field to canvas (R106, R107) -/

/-- The sample point of tile pixel (x, y). -/
def samplePoint (d : List Word) (x y : Nat) : Int × Int :=
  let w : Int := 16 * (16 * tdWq d : Nat)
  let h : Int := 16 * (15 * tdHq d : Nat)
  let px0 : Int := (16 * x + 8 : Nat)
  let py : Int := (16 * y + 8 : Nat)
  let px := if tdMirror d then w - px0 else px0
  let (u, v) := match tdOrient d with
    | 0 => (px, py)
    | 1 => (h - py, px)
    | 2 => (w - px, h - py)
    | _ => (py, w - px)
  let m (i : Nat) : Int := signed 24 (nth d i).toNat
  (16 * (wbits (nth d 1) 15 0 : Int) + (16 * (m 2 * u + m 3 * v) + m 6 * 2 ^ 20 + 2 ^ 23) / 2 ^ 24,
   16 * (wbits (nth d 1) 31 16 : Int) + (16 * (m 4 * u + m 5 * v) + m 7 * 2 ^ 20 + 2 ^ 23) / 2 ^ 24)

/-- The point lies on the canvas (R107). -/
def onCanvas (p : Int × Int) : Bool :=
  decide (0 ≤ p.1) && decide (p.1 ≤ 1048575) && decide (0 ≤ p.2) && decide (p.2 ≤ 1048575)

/-- The pixel of patch `i` that comes `k`-th in raster order. -/
def patchPixel (i k : Nat) : Nat × Nat := (16 * (i % 10) + k % 16, 15 * (i / 10) + k / 16)

/-- The patches of a field (R20). -/
def fieldPatches (wq hq : Nat) : List Nat := (List.range 60).filter (fun i => decide (i % 10 < wq) && decide (i / 10 < hq))

/-- A set of patches as a mask. -/
def maskOf (l : List Nat) : BitVec 60 := l.foldl (fun m i => m ||| (1#60 <<< i)) 0

/-- The patches of a mask, in ascending order. -/
def patchesOf (m : BitVec 60) : List Nat := (List.range 60).filter (fun i => m.getLsbD i)

/-- The patch box (R110): BXmin, BYmin, BXmax, BYmax. -/
def patchBox (d : List Word) (i : Nat) : Int × Int × Int × Int :=
  let c (dx dy : Nat) := samplePoint d (16 * (i % 10) + dx) (15 * (i / 10) + dy)
  let a := c 0 0
  let b := c 15 0
  let e := c 0 14
  let f := c 15 14
  (min (min a.1 b.1) (min e.1 f.1), min (min a.2 b.2) (min e.2 f.2),
   max (max a.1 b.1) (max e.1 f.1), max (max a.2 b.2) (max e.2 f.2))

/-- A canvas rectangle touches a patch box (R110). -/
def touches (r : Rect) (b : Int × Int × Int × Int) : Bool :=
  decide (b.1 < r.x1) && decide ((r.x0 : Int) ≤ b.2.2.1) && decide (b.2.1 < r.y1) && decide ((r.y0 : Int) ≤ b.2.2.2)

/-! ### Privet items (R93, R280) -/

/-- A little-endian number of bytes `i` up, `n` of them. -/
def leAt (l : List Nat) (i n : Nat) : Nat :=
  match n with
  | 0 => 0
  | k + 1 => l.getD i 0 + 256 * leAt l (i + 1) k

/-- Stands in an item for a byte that a tile does not keep (R281). -/
def lostMark : Nat := 256

/-- An item as a tile reads it: the bytes it did not keep are open. -/
def readItem (n : Nat) (t : PrivetItem) : PrivetItem := t.mapIdx (fun i b => if b = lostMark then Config.lostByte n i % 256 else b)

def itOx (t : PrivetItem) : Nat := leAt t 0 2
def itOy (t : PrivetItem) : Nat := leAt t 2 2
def itW (t : PrivetItem) : Nat := leAt t 4 2
def itH (t : PrivetItem) : Nat := leAt t 6 2
def itBpp (t : PrivetItem) : Nat := t.getD 8 0
def itLocal (t : PrivetItem) : Bool := t.getD 9 0 % 2 == 1
def itSafe (t : PrivetItem) : Bool := t.getD 9 0 / 2 % 2 == 1
def itPersist (t : PrivetItem) : Bool := t.getD 9 0 / 4 % 2 == 1

/-- The rectangle of an item (R110). -/
def itRect (t : PrivetItem) : Rect := ⟨16 * itOx t, 16 * itOy t, 16 * (itOx t + itW t), 16 * (itOy t + itH t)⟩

/-- The palette index of bitmap pixel (x, y): the first pixel takes the most significant bits of a byte. -/
def itIndex (t : PrivetItem) (x y : Nat) : Nat :=
  let bpp := itBpp t
  let base := 16 + 12 * 2 ^ bpp + y * ((itW t * bpp + 7) / 8)
  if bpp = 8 then t.getD (base + x) 0
  else t.getD (base + x / 4) 0 / 2 ^ (6 - 2 * (x % 4)) % 4

/-- The palette entry of a bitmap pixel: colour and alpha. -/
def itEntry (t : PrivetItem) (x y : Nat) : Rgb × Nat :=
  let p := 16 + 12 * itIndex t x y
  let w0 := leAt t p 4
  (⟨bitsOf w0 0 20, bitsOf (leAt t (p + 4) 4) 0 20, bitsOf (leAt t (p + 8) 4) 0 20⟩, bitsOf w0 20 11)

/-- The item seen at P: the shown item with the highest number that covers P (R92, R93); none off the canvas (R107). -/
def privetAt (items : SMap PrivetItem) (shown : List Nat) (p : Int × Int) : Option (Rgb × Nat) :=
  if onCanvas p then
    shown.foldl (fun acc n =>
      match SMap.find items n with
      | some t =>
        let r := itRect t
        if (r.x0 : Int) ≤ p.1 ∧ p.1 < r.x1 ∧ (r.y0 : Int) ≤ p.2 ∧ p.2 < r.y1 then
          some (itEntry t ((p.1.toNat - r.x0) / 16) ((p.2.toNat - r.y0) / 16))
        else acc
      | none => acc) none
  else none

/-! ### Scaling (R96 to R98) -/

/-- The pyramid level of a window (R96); 3 when it needs more than 1:16. -/
def Win.level (w : Win) : Nat :=
  if w.cw ≤ 4 * w.dw ∧ w.ch ≤ 4 * w.dh then 0
  else if w.cw ≤ 8 * w.dw ∧ w.ch ≤ 8 * w.dh then 1
  else if w.cw ≤ 16 * w.dw ∧ w.ch ≤ 16 * w.dh then 2
  else 3

/-- The vertical bank is V6 (R96). -/
def Win.usesV6 (w : Win) : Bool := decide (w.ch ≤ 2 * w.dh * 2 ^ w.level)

/-- Coefficients at reset (R98): 1024 on the tap at source pixel i. -/
def filtReset (k : Nat) : Int :=
  let i := k % 1152
  if i < 512 then (if i % 8 = 3 then 1024 else 0)
  else if i < 896 then (if (i - 512) % 6 = 2 then 1024 else 0)
  else (if (i - 896) % 4 = 1 then 1024 else 0)

/-- Position of R97: the source pixel at or left of the sample, and the phase. -/
def scalePos (p : Int) (c0 cs d0 ds l : Nat) : Int × Nat :=
  let u : Int := c0 * 64 + ((p - d0) * cs * 64 + (ds / 2 : Nat)) / ds
  let v : Int := u / 2 ^ l - 512
  let q : Int := (v + 8) / 16
  (q / 64, (q % 64).toNat)

/-- Clamps a tap index into the crop at level `l`, then into the level's raster of `n` (R97). -/
def tapClamp (i : Int) (c0 cs l n : Nat) : Nat :=
  let i := clampI i (c0 / 16 / 2 ^ l : Nat) ((c0 + cs - 1) / 16 / 2 ^ l : Nat)
  (clampI i 0 (n - 1 : Nat)).toNat

/-- What a window's taps read: the lines of the level in use, its width and height, and whether lines may still come. -/
structure View where
  lines : SMap SrcLine
  w     : Nat
  h     : Nat
  open_ : Bool
  deriving DecidableEq, Repr

/-- Halves a raster dimension `l` times, rounding up (R76). -/
def halved (n l : Nat) : Nat :=
  match l with
  | 0 => n
  | k + 1 => halved ((n + 1) / 2) k

/-- The view of a stored frame at level `l`. -/
def State.viewOf (s : State) (n : Nat) (f : SrcFrame) (l : Nat) : View :=
  ⟨(match l with | 0 => f.l0 | 1 => f.l1 | _ => f.l2), halved (s.rasterW n) l, halved (s.rasterH n) l, false⟩

/-- The view of frame number `no` of source `n` at level `l`: a completed frame, or the one being received (R82). -/
def State.viewNo (s : State) (n no l : Nat) : View :=
  let src := s.src n
  let w := s.rasterW n
  let h := s.rasterH n
  match src.frames.find? (fun f => decide (f.no = no)) with
  | some f => s.viewOf n f l
  | none =>
    let lines := match src.opens.find? (fun e => decide (e.1 = no)) with
      | some (_, c) =>
        let l1 := if l = 0 then [] else s.pyrLevel w h c.lines
        match l with | 0 => c.lines | 1 => l1 | _ => s.pyrLevel (halved w 1) (halved h 1) l1
      | none => []
    let ahead := (no + 2 ^ 32 - src.count) % 2 ^ 32
    ⟨lines, halved w l, halved h l, decide (1 ≤ ahead) && decide (ahead < 2 ^ 31)⟩

/-- The lines that the vertical taps of a window read for the sample row `py` (R97). -/
def Win.tapLines (w : Win) (v : View) (py : Int) : List Nat :=
  let l := w.level
  let (i, _) := scalePos py w.cy w.ch w.dy w.dh l
  let (first, n) := if w.usesV6 then (i - 2, 6) else (i - 1, 4)
  (List.range n).map (fun k => tapClamp (first + (k : Nat)) w.cy w.ch l v.h)

/-- A filtered sum of R98, clamped to 0 … hi. -/
def filterSum (coef : List Int) (v : List Nat) (hi : Int) : Nat :=
  (clampI (((coef.zip v).foldl (fun a p => a + p.1 * (p.2 : Int)) 0 + 512) / 1024) 0 hi).toNat

/-- The filtered colour and alpha of a window at P (R95, R97, R98). `dec` decodes a storage code through SLUT. -/
def Win.sample (w : Win) (filt : SMap Int) (dec : Nat → Nat) (v : View) (p : Int × Int) : Rgb × Nat :=
  let l := w.level
  let (ix, phx) := scalePos p.1 w.cx w.cw w.dx w.dw l
  let (_, phy) := scalePos p.2 w.cy w.ch w.dy w.dh l
  let coef (k : Nat) : Int := SMap.get filtReset filt (1152 * w.filter + k)
  let hc := (List.range 8).map (fun k => coef (phx * 8 + k))
  let vc := if w.usesV6 then (List.range 6).map (fun k => coef (512 + phy * 6 + k))
    else (List.range 4).map (fun k => coef (896 + phy * 4 + k))
  let cols := (List.range 8).map (fun k => tapClamp (ix - 3 + (k : Nat)) w.cx w.cw l v.w)
  let fill := w.fillColour
  let row (y : Nat) : Px :=
    let taps : List Px := match SMap.find v.lines y with
      | some line =>
        if line.st = .missing then cols.map (fun _ => ⟨fill.r, fill.g, fill.b, 1024⟩)
        else cols.map (fun x => let q := line.px.getD x padPx; ⟨dec q.r, dec q.g, dec q.b, q.a⟩)
      | none => cols.map (fun _ => ⟨fill.r, fill.g, fill.b, 1024⟩)
    ⟨filterSum hc (taps.map (·.r)) 1048575, filterSum hc (taps.map (·.g)) 1048575,
     filterSum hc (taps.map (·.b)) 1048575, filterSum hc (taps.map (·.a)) 1024⟩
  let rows := (w.tapLines v p.2).map row
  (⟨filterSum vc (rows.map (·.r)) 1048575, filterSum vc (rows.map (·.g)) 1048575,
    filterSum vc (rows.map (·.b)) 1048575⟩, filterSum vc (rows.map (·.a)) 1024)

/-! ### Layers and blending (R88, R99 to R102) -/

/-- (c × a + 512) >> 10 per component. -/
def scaleBy (c : Rgb) (a : Nat) : Rgb := ⟨(c.r * a + 512) / 1024, (c.g * a + 512) / 1024, (c.b * a + 512) / 1024⟩

/-- One component of the blend step of R100: the new value, and whether the clamp acted. -/
def blend1 (b f a : Nat) : Nat × Bool :=
  let v := f + (b * (1024 - a) + 512) / 1024
  if 1048575 < v then (1048575, true) else (v, false)

/-- The blend step of R100 over the three components, with the number of clamps. -/
def blend (b : Rgb) (a : Nat) (f : Rgb) : Rgb × Nat :=
  let r := blend1 b.r f.r a
  let g := blend1 b.g f.g a
  let l := blend1 b.b f.b a
  (⟨r.1, g.1, l.1⟩, r.2.toNat + g.2.toNat + l.2.toNat)

/-- The visible window of a plane at P: the covering window with the highest number (R88). -/
def FrameCfg.windowAt (c : FrameCfg) (plane : Nat) (p : Int × Int) : Option (Nat × Win) :=
  c.wins.foldl (fun acc e =>
    let w := e.2
    let r := w.rect
    if w.visible && decide (w.plane = plane) && decide (SMap.get (fun _ => Shows.fill) c.shows e.1 ≠ .hidden) &&
        decide ((r.x0 : Int) ≤ p.1) && decide (p.1 < r.x1) && decide ((r.y0 : Int) ≤ p.2) && decide (p.2 < r.y1)
    then some e else acc) none

/-- The plane at a stack position (R90). -/
def planeAt (order : Word) (pos : Nat) : Nat :=
  ((List.range 7).find? (fun p => decide (bitsOf order.toNat (3 * p) 3 = pos))).getD 7

/-- The stack position of a plane (R90). -/
def posOf (order : Word) (plane : Nat) : Nat := bitsOf order.toNat (3 * plane) 3

/-- The view a window's taps read in a frame; none when it acts as fill. -/
def State.viewFor (s : State) (c : FrameCfg) (n : Nat) (w : Win) : Option View :=
  let v := if w.isFill then none
    else match SMap.get (fun _ => Shows.fill) c.shows n with
      | .still f => some (s.viewOf w.source f w.level)
      | .pick no => some (s.viewNo w.source no w.level)
      | _ => none
  -- a line whose unit reads poisoned is MISSING to this composition (R349)
  if c.poison = [] then v
  else v.map (fun q => { q with lines := q.lines.filter (fun e => !((w.source, e.1) ∈ c.poison)) })

/-- Layer of a window at P: A and F (R99). -/
def State.layer (s : State) (c : FrameCfg) (n : Nat) (w : Win) (p : Int × Int) : Nat × Rgb :=
  match s.viewFor c n w with
  | none => (w.alpha, scaleBy w.fillColour w.alpha)
  | some v =>
    let (col, as) := w.sample c.filt (fun k => SMap.get (fun _ => 0) c.slut k) v p
    let a := (as * w.alpha + 512) / 1024
    (a, scaleBy col (if w.premul then w.alpha else a))

/-- The background colour (CMP_BG). -/
def FrameCfg.back (c : FrameCfg) : Rgb := ⟨c.bg.getD 0 0, c.bg.getD 1 0, c.bg.getD 2 0⟩

/-- A layer taken at a sample point: its window, its plane and the components it clamped. Plane 7 has no window. -/
structure Use where
  win    : Option Nat
  plane  : Nat
  clamps : Nat
  deriving DecidableEq, Repr

/-- Blends stack positions `pos` up, `n` of them, over `b` (R100): the colour and the layers taken. -/
def State.stack (s : State) (c : FrameCfg) (p : Int × Int) (pos n : Nat) (b : Rgb) : Rgb × List Use :=
  match n with
  | 0 => (b, [])
  | k + 1 =>
    match c.windowAt (planeAt c.order pos) p with
    | some (i, w) =>
      let (a, f) := s.layer c i w p
      let (b', n1) := blend b a f
      let (b'', us) := s.stack c p (pos + 1) k b'
      (b'', ⟨some i, w.plane, n1⟩ :: us)
    | none => s.stack c p (pos + 1) k b

/-- The value after the lowest `k` stack positions at P (R102, R114). -/
def State.lowAt (s : State) (c : FrameCfg) (k : Nat) (p : Int × Int) : Rgb × List Use :=
  if onCanvas p then s.stack c p 0 k c.back else (c.back, [])

/-- The result O at P from the value `b` after `k` stack positions: the rest of the stack, then plane 7 (R92, R100). -/
def State.highAt (s : State) (c : FrameCfg) (k : Nat) (b : Rgb) (p : Int × Int) : Rgb × List Use :=
  if onCanvas p then
    let (b, us) := s.stack c p k (7 - k) b
    match privetAt c.items c.shown p with
    | some (col, a) => let (b', m) := blend b a (scaleBy col a); (b', us ++ [⟨none, 7, m⟩])
    | none => (b, us)
  else (c.back, [])

/-- Components clamped in some layers. -/
def clampsOf (l : List Use) : Nat := (l.map (·.clamps)).sum

/-! ### Encoding (R108) -/

/-- Wire tables at reset: WT[0][s] = 1,024 s and WT[1][s] = 256 s. -/
def wlutReset (k : Nat) : Nat := if k / 4096 = 0 then 1024 * (k % 4096) else 256 * (k % 4096)

/-- The largest code at or below `last` with T[code] ≤ v, by steps of falling powers of two. -/
def codeBelow (t : Nat → Nat) (v last : Nat) : Nat :=
  [2048, 1024, 512, 256, 128, 64, 32, 16, 8, 4, 2, 1].foldl
    (fun s step => if s + step ≤ last ∧ t (s + step) ≤ v then s + step else s) 0

/-- The wire code of a component. -/
def FrameCfg.encode (c : FrameCfg) (fmt o : Nat) : Nat :=
  if fmt = 2 then (o * 65535 + 524287) / 1048575
  else
    let t (i : Nat) : Nat := SMap.get wlutReset c.wlut (4096 * fmt + i)
    let last := if fmt = 0 then 1023 else 4095
    if o < t 0 then 0
    else
      let s := codeBelow t o last
      if s < last ∧ t (s + 1) - o < o - t s then s + 1 else s

/-- Bits of a component code on the wire. -/
def fmtBits (fmt : Nat) : Nat := match fmt with | 0 => 10 | 1 => 12 | _ => 16

/-- The payload words of a patch (R178): codes concatenated most significant bit first. -/
def packCodes (bits : Nat) (codes : List Nat) : List Word :=
  let total := codes.foldl (fun a c => a * 2 ^ bits + c % 2 ^ bits) 0
  let n := codes.length * bits / 32
  (List.range n).map (fun i => wd (total / 2 ^ (32 * (n - 1 - i))))

/-- The component codes of a payload (R178). -/
def unpackCodes (bits : Nat) (ws : List Word) : List Nat :=
  let total := ws.foldl (fun a w => a * 2 ^ 32 + w.toNat) 0
  let n := ws.length * 32 / bits
  (List.range n).map (fun i => total / 2 ^ (ws.length * 32 - bits * (i + 1)) % 2 ^ bits)

/-- The codes of a patch's pixels, R, G, B each. -/
def FrameCfg.codes (c : FrameCfg) (fmt : Nat) (l : List Rgb) : List Nat :=
  l.flatMap (fun o => [c.encode fmt o.r, c.encode fmt o.g, c.encode fmt o.b])

/-! ### Inkwell depth and composing a patch (R114 to R116) -/

/-- Windows of a frame that are visible, not hidden by their fallback, and touch a box. -/
def FrameCfg.touching (c : FrameCfg) (b : Int × Int × Int × Int) : List (Nat × Win) :=
  c.wins.filter (fun e => e.2.visible && decide (SMap.get (fun _ => Shows.fill) c.shows e.1 ≠ .hidden) && touches e.2.rect b)

/-- The depth K of a patch (R114): the lowest position with a window touching it that is not flattenable. -/
def FrameCfg.depth (c : FrameCfg) (inkEn : Bool) (b : Int × Int × Int × Int) : Nat :=
  if inkEn then
    let hot := ((c.touching b).filter (fun e => !(e.2.static && e.2.inkwell))).map (fun e => posOf c.order e.2.plane)
    match hot with
    | [] => 0
    | x :: t => t.foldl min x
  else 0

/-- Every source line that a patch needs is stored, or can no longer come (R82). -/
def State.patchReady (s : State) (c : FrameCfg) (d : List Word) (i : Nat) : Bool :=
  (c.touching (patchBox d i)).all (fun e =>
    match s.viewFor c e.1 e.2 with
    | some v =>
      !v.open_ || (List.range 240).all (fun k =>
        let (x, y) := patchPixel i k
        let p := samplePoint d x y
        let r := e.2.rect
        if (r.x0 : Int) ≤ p.1 ∧ p.1 < r.x1 ∧ (r.y0 : Int) ≤ p.2 ∧ p.2 < r.y1 then
          (e.2.tapLines v p.2).all (fun y => (SMap.find v.lines y).isSome)
        else true)
    | none => true)

/-! ### The Inkwell and preview areas (R115, R118) -/

/-- One word of an area: the three components, then the flags CLAMPED and COVERED. -/
def areaWord (v : Nat × Nat × Nat) (clamped covered : Bool) : BitVec 64 :=
  BitVec.ofNat 64 (v.1 % 2 ^ 20 + v.2.1 % 2 ^ 20 * 2 ^ 20 + v.2.2 % 2 ^ 20 * 2 ^ 40 + clamped.toNat * 2 ^ 60 + covered.toNat * 2 ^ 61)

/-- The three components of a word. -/
def areaPixel (w : BitVec 64) : Nat × Nat × Nat := (bitsOf w.toNat 0 20, bitsOf w.toNat 20 20, bitsOf w.toNat 40 20)

/-- Address of the entry of patch `i` of descriptor `t` in an area that starts at `base` × 2^20. -/
def areaAddr (base t i : Nat) : Nat := base * 2 ^ 20 + (60 * t + i) * 1920

/-- A tag byte: VALID in bit 7, K in bits [6:4] (R115). -/
def tagByte (k : Nat) : Nat := 128 + 16 * k

/-- K of a tag byte. -/
def tagK (b : Nat) : Nat := bitsOf b 4 3

/-- An entry of depth `k` as its words give it. -/
def InkEntry.ofWords (k : Nat) (ws : List (BitVec 64)) : InkEntry :=
  ⟨k, ws.map areaPixel, ws.map (fun w => w.getLsbD 60), ws.map (fun w => w.getLsbD 61)⟩

/-- The words of an entry (R115). -/
def InkEntry.words (e : InkEntry) : List (BitVec 64) :=
  (e.vals.zip (e.clamped.zip e.covered)).map (fun q => areaWord q.1 q.2.1 q.2.2)

/-- Reads the entry of a patch (R116); none where it reads poisoned. -/
def State.readInk (s : State) (t i k : Nat) : Option InkEntry × State :=
  let (r, s) := s.readPatch (areaAddr (s.get Fld.CMP_INK_CTL_BASE) t i)
  (r.map (InkEntry.ofWords k), s)

/-- Writes an entry and its tag (R116). -/
def State.putInk (s : State) (t i : Nat) (e : InkEntry) : State :=
  let tags := if s.bankHolds 5 then SMap.put s.comp.tags (60 * t + i) (tagByte e.k) else s.comp.tags
  ({ s with comp := { s.comp with tags := tags } }).writePatch
    (areaAddr (s.get Fld.CMP_INK_CTL_BASE) t i) e.words

/-- A patch composed: the results, the layers computed, whether the Inkwell entry was read, and the entry written
(R116). -/
structure Composed where
  out    : List Rgb
  uses   : List Use
  hit    : Bool
  entry  : Option InkEntry
  deriving DecidableEq, Repr

/-- Composes the first `m` pixels of patch `i` of descriptor words `d` with depth `k`, from the Inkwell entry read for it
if there is one (R102, R116); an entry is written only for a whole patch. -/
def State.composePatch (s : State) (c : FrameCfg) (k : Nat) (held : Option InkEntry) (d : List Word) (i m : Nat) : Composed :=
  let pts := (List.range m).map (fun n => let (x, y) := patchPixel i n; samplePoint d x y)
  match held with
  | some e =>
    let high := (pts.zip e.vals).map (fun q => s.highAt c k ⟨q.2.1, q.2.2.1, q.2.2.2⟩ q.1)
    ⟨high.map (·.1), high.flatMap (·.2), true, none⟩
  | none =>
    let low := pts.map (s.lowAt c k)
    let high := (pts.zip low).map (fun e => s.highAt c k e.2.1 e.1)
    ⟨high.map (·.1), low.flatMap (·.2) ++ high.flatMap (·.2), false,
      if k = 0 ∨ m < 240 then none else some ⟨k, low.map (fun e => (e.1.r, e.1.g, e.1.b)),
        low.map (fun e => decide (0 < clampsOf e.2)), low.map (fun e => !(e.2.isEmpty))⟩⟩

end Sys2Proof.Machine
end

