-- ==== Sys2Proof/Machine/Compose.lean ====
section
/-! DEFINITION. A frame at compose start (R81, R82, R94, R109 to R117, R124, R127, R135): picks, fallbacks, damage,
Inkwell tags and the plan; and the three admission budgets (R119 to R123). -/

namespace Sys2Proof.Machine

/-- The history of descriptor `t`. -/
def State.histOf (s : State) (t : Nat) : TileHist := SMap.get (fun _ => TileHist.reset) s.heads.hist t

/-- Changes the history of descriptor `t`. -/
def State.setHist (s : State) (t : Nat) (h : TileHist) : State :=
  { s with heads := { s.heads with hist := SMap.set (fun _ => TileHist.reset) s.heads.hist t h } }

/-- Compositor work of a head: READY and ACTIVE (*Table — Power states by role*). -/
def State.composes (s : State) : Bool :=
  decide (s.role = .head) && (decide (s.pwr.state = .ready) || decide (s.pwr.state = .active))

/-- The head pushes PATCH, SEAL and VOID (R135, R277, R399, R401). In ACTIVE a transition in progress leaves it, and pushing
has stopped at its starting boundary (*Table — Transition durations*). -/
def State.pushes (s : State) : Bool :=
  decide (s.role = .head) && decide (s.pwr.state = .active) && s.pwr.trans.isNone && !(s.bit Fld.SYS_FAULT_STAT_HOLD) &&
    !(s.bit Fld.RED_STAT_OOS && decide (s.get Fld.RED_STAT_ROLE = 2))

/-- The first frame whose C(F) is still to come. -/
def State.firstCompose (s : State) : Word :=
  ([s.clk.fn, s.clk.fn + 1].find? (fun f => !(earlier (s.compose f) s.clk.dtime))).getD (s.clk.fn + 2)

/-- The next frame to compose: the one after the last whose C has taken place, although a new ADV may have put its C into the
past (R128); where C of none near the running tick has taken place, the first whose C is still to come. -/
def State.nextCompose (s : State) : Word :=
  match s.heads.lastC with
  | some g => if (g + 1 - s.clk.fn).toNat ≤ 3 then g + 1 else s.firstCompose
  | none => s.firstCompose

/-! ### Source picks (R81, R82) -/

/-- The newest stored frame completed at or before compose start (R81). -/
def State.syncPick (s : State) (n : Nat) : Option Nat :=
  ((s.src n).frames.find? (fun f => !(later f.doneAt s.clk.dtime))).map (·.no)

/-- Takes the frame-sync pick of a source: counts a repeat and the frames passed over (R81). -/
def State.takeSync (s : State) (n no : Nat) : State :=
  let src := s.src n
  let s := match src.pick with
    | some p =>
      let d := (no + 2 ^ 32 - p) % 2 ^ 32
      if d = 0 then (s.count (Fld.SRC_SYNCCNT_REPEAT n)).tally 0x0C2
      -- a chased frame that the source was on is newer than the stored one it falls back to: none was passed over
      else if 2 ^ 31 ≤ d then s
      else (s.count (Fld.SRC_SYNCCNT_DROP n) (d - 1)).tally 0x0C3 (d - 1)
    | none => s
  s.setSrc n { s.src n with pick := some no }

/-- The frame of source `n` whose first active line arrived in the interval of R82 that starts at `t`. -/
def State.chasePick (s : State) (n : Nat) (t : Word) : Option Nat :=
  let inside (a : Word) : Bool := !(earlier a t) && earlier a (t + wd s.tickInt)
  let src := s.src n
  match src.opens.find? (fun e => inside e.2.firstAt) with
  | some e => some e.1
  | none => (src.frames.find? (fun f => inside f.firstAt)).map (·.no)

/-- A chased frame fell inside its interval (R82): CHASING sets after 8 in a row. -/
def State.chaseHit (s : State) (n no : Nat) : State :=
  let run := (s.src n).chaseRun + 1
  let s := s.setSrc n { s.src n with chaseRun := run, pick := some no }
  if 8 ≤ run then s.raise (Fld.SRC_STAT_CHASING n) else s

/-- No frame's first line fell in the interval (R82). -/
def State.chaseMiss (s : State) (n : Nat) : State :=
  ((s.setSrc n { s.src n with chaseRun := 0 }).raise (Fld.SRC_STAT_CHASE_LOST n)).put (Fld.SRC_STAT_CHASING n) 0

/-- ADV of a chased source in ns, at most one tick (R82). -/
def State.chaseAdv (s : State) (n : Nat) : Nat := min (s.get (Fld.SRC_CHASE_ADV n) * 1000) s.tickInt

/-- Picks the frame of source `n` for frame `f`: the pick, and the chase entry while its interval is still open. -/
def State.pickSource (s : State) (f : Word) (n : Nat) : Option Nat × Option (Nat × Word × Nat) × State :=
  let start := s.compose f - wd (s.chaseAdv n)
  if s.bit (Fld.SRC_CFG_CHASE n) then
    match s.chasePick n start with
    | some no => (some no, none, s.chaseHit n no)
    | none =>
      let sync := s.syncPick n
      if s.passed (start + wd s.tickInt) then
        let s := s.chaseMiss n
        match sync with | some no => (some no, none, s.takeSync n no) | none => (none, none, s)
      else
        -- the interval is still open: the frame to come is expected
        (some (((s.src n).count + 1 + (s.src n).opens.length) % 2 ^ 32), some (n, start, sync.getD (2 ^ 32)), s)
  else match s.syncPick n with
    | some no => (some no, none, s.takeSync n no)
    | none => (none, none, s)

/-- Picks for every source not in fallback for want of its enable (R94, R127). -/
def State.pickAll (s : State) (f : Word) (l : List Nat) (acc : SMap Nat × List (Nat × Word × Nat)) :
    (SMap Nat × List (Nat × Word × Nat)) × State :=
  match l with
  | [] => (acc, s)
  | n :: t =>
    -- a disabled source is in fallback only from the tick after its disable (R94)
    if s.bit (Fld.SRC_CFG_ENABLED n) || (s.src n).fbStart.isNone then
      let (p, c, s) := s.pickSource f n
      s.pickAll f t (match p with | some no => SMap.put acc.1 n no | none => acc.1,
        match c with | some e => acc.2 ++ [e] | none => acc.2)
    else s.pickAll f t acc

/-- A configuration with another frame of source `n` picked. -/
def FrameCfg.repick (c : FrameCfg) (n no : Nat) : FrameCfg :=
  { c with
    shows := c.shows.map (fun w =>
      match w.2, SMap.find c.wins w.1 with
      | .pick _, some win => if win.source = n then (w.1, .pick no) else w
      | _, _ => w) }

/-- The configuration that the next damage is measured against follows a repick in the last frame begun (R111). -/
def State.noteRepick (s : State) (h : HeadFrame) : State :=
  if s.heads.lastC = some h.fn then { s with comp := { s.comp with last := s.comp.last.map (fun _ => h.cfg) } } else s

/-- Settles the chased sources of a frame whose interval has ended or whose frame has come (R82). -/
def State.settleChase (s : State) (h : HeadFrame) : HeadFrame × State :=
  let r := h.chase.foldl (fun (acc : HeadFrame × State) e =>
    let (h, s) := acc
    let (n, start, sync) := e
    let drop (h : HeadFrame) : HeadFrame := { h with chase := h.chase.filter (fun c => decide (c.1 ≠ n)) }
    let repick (h : HeadFrame) (no : Nat) : HeadFrame :=
      { drop h with picks := SMap.put h.picks n no, cfg := h.cfg.repick n no }
    match s.chasePick n start with
    | some no => (repick h no, s.chaseHit n no)
    | none =>
      if s.passed (start + wd s.tickInt) then
        let s := s.chaseMiss n
        if sync < 2 ^ 32 then (repick h sync, s.takeSync n sync) else (drop h, s)
      else (h, s)) (h, s)
  (r.1, r.2.noteRepick r.1)

/-- Replaces a frame of the head by its FN. -/
def State.setFrame (s : State) (h : HeadFrame) : State :=
  { s with heads := { s.heads with frames := s.heads.frames.map (fun g => if g.fn = h.fn then h else g) } }

/-- Settles what every frame begun still waits for. -/
def State.settleAll (s : State) : State :=
  forEach s.heads.frames (fun h s => let (h, s) := s.settleChase h; s.setFrame h) s

/-! ### Fallback (R94) and what windows show -/

/-- Source `n` is in fallback: LOST, not enabled, or without a frame since it was last enabled. -/
def State.inFallback (s : State) (n : Nat) : Bool :=
  s.bit (Fld.SRC_STAT_LOST n) || !(s.bit (Fld.SRC_CFG_ENABLED n)) || !((s.src n).since)

/-- Starts or ends the fallback of source `n` at frame `f`. It runs before the commands due at `f` take effect: what enters
a case at tick `f` starts the fallback at the tick after. -/
def State.stepFallback (s : State) (f : Word) (n : Nat) : State :=
  let src := s.src n
  if s.inFallback n then
    match src.fbStart with
    | some _ => s
    | none => s.setSrc n { src with fbStart := some f, hold := src.frames.find? (fun q => q.regular) }
  else if src.fbStart.isSome then s.setSrc n { src with fbStart := none, hold := none } else s

/-- The fallback of source `n`: its first tick and the hold frame. -/
def State.fallOf (s : State) (n : Nat) : Option (Word × Option SrcFrame) := (s.src n).fbStart.map (fun st => (st, (s.src n).hold))

/-- The sources in fallback, each with its fallback. -/
def State.fallsNow (s : State) : SMap (Word × Option SrcFrame) :=
  (List.range 64).filterMap (fun n => (s.fallOf n).map (fun e => (n, e)))

/-- What a window that is neither a fill nor a STATIC one shows in frame `f`, `fall` being the fallback of its source
(*Table — Fallback modes*). -/
def winShows (f : Word) (picks : SMap Nat) (fall : Option (Word × Option SrcFrame)) (w : Win) : Shows :=
  match fall with
  | some (st, hold) =>
    let held : Shows := match hold with | some q => .still q | none => .fill
    match w.fbMode with
    | 0 => if (f - st).toNat < w.fbHold then held else .fill
    | 1 => .fill
    | 2 => held
    | _ => .hidden
  | none => match SMap.find picks w.source with | some no => .pick no | none => .fill

/-- What a STATIC window that latched `q` shows (R113). -/
def latchShows (q : Option SrcFrame) : Shows := match q with | some q => .still q | none => .fill

/-- What window `n` shows in frame `f` (*Table — Fallback modes*, R113). -/
def State.showsOf (s : State) (f : Word) (picks : SMap Nat) (n : Nat) (w : Win) : Shows :=
  if w.isFill then .fill
  else if w.static then latchShows (SMap.get (fun _ => none) s.comp.latched n)
  else winShows f picks (s.fallOf w.source) w

/-- The frame that a STATIC window on source `n` whose descriptor takes effect at tick `g` latches: the one R81 chooses at
C(g) (R113). -/
def State.latchAt (s : State) (g : Word) (n : Nat) : Option SrcFrame :=
  (s.src n).frames.find? (fun q => !(later q.doneAt (s.compose g)))

/-- Latches the frame of a STATIC window whose descriptor takes effect at `f`: the one R81 chooses (R113). -/
def State.latchNew (s : State) (f : Word) : State :=
  let l := s.comp.windows.foldl (fun acc e =>
    let w := e.2
    if w.static && !w.isFill then
      if nth w.words 13 = f ∨ (SMap.find acc e.1).isNone then
        SMap.put acc e.1 (s.latchAt f w.source)
      else acc
    else SMap.erase acc e.1) s.comp.latched
  { s with comp := { s.comp with latched := l.filter (fun e => (SMap.find s.comp.windows e.1).isSome) } }

/-! ### Damage (R110 to R112) -/

/-- Damage of a frame: rectangles, rectangles of Privet changes, and descriptors changed whole. -/
structure Damage where
  rects  : List Rect
  privet : List Rect
  whole  : List Nat
  all    : Bool
  deriving DecidableEq, Repr

/-- Damage of one window between two configurations. -/
def winDamage (a b : FrameCfg) (n : Nat) : List Rect :=
  match SMap.find a.wins n, SMap.find b.wins n with
  | none, none => []
  | none, some w => [w.rect]
  | some w, none => [w.rect]
  | some v, some w =>
    if v.words ≠ w.words then [v.rect, w.rect]
    else if w.visible = false then []
    else
      let x := SMap.get (fun _ => Shows.fill) a.shows n
      let y := SMap.get (fun _ => Shows.fill) b.shows n
      match x, y with
      | .pick i, .pick j => if w.live && decide (i ≠ j) then [w.rect] else []
      | _, _ => if x = y then [] else [w.rect]

/-- Rectangles of the items in a list, in either configuration. -/
def itemRects (a b : FrameCfg) (l : List Nat) : List Rect :=
  l.flatMap (fun n => ((SMap.find a.items n).map itRect).toList ++ ((SMap.find b.items n).map itRect).toList)

/-- Windows of either configuration, without repeats. -/
def winKeys (a b : FrameCfg) : List Nat := (a.wins.map (·.1) ++ b.wins.map (·.1)).eraseDups

/-- Damage between the configurations of two frames (*Table — Damage sources*); `filts` and `wluts` are the filter sets
and wire tables swapped, `placed` the descriptors placed or removed, `loaded` the Privet items reloaded. -/
def damageOf (a b : FrameCfg) (filts wluts placed loaded : List Nat) : Damage :=
  let wins := (winKeys a b).flatMap (winDamage a b)
  let byFilter := (b.wins.filter (fun e => e.2.visible && decide (e.2.filter ∈ filts))).map (fun e => e.2.rect)
  let byOrder := if a.order = b.order then [] else
    (b.wins.filter (fun e => e.2.visible && decide (posOf a.order e.2.plane ≠ posOf b.order e.2.plane))).map (fun e => e.2.rect)
  let changed := (a.shown.filter (fun n => !(n ∈ b.shown))) ++ (b.shown.filter (fun n => !(n ∈ a.shown)))
  let again := loaded.filter (fun n => (SMap.find a.items n).isSome || decide (n ∈ b.shown))
  ⟨wins ++ byFilter ++ byOrder, itemRects a b (changed ++ again),
    placed ++ (b.tiles.filter (fun t => decide (tdFmt t.2 ∈ wluts))).map (·.1), a.bg ≠ b.bg⟩

/-- The patches of a descriptor that some rectangle touches. -/
def touchedBy (d : List Word) (rs : List Rect) : BitVec 60 :=
  maskOf ((fieldPatches (tdWq d) (tdHq d)).filter (fun i => rs.any (fun r => touches r (patchBox d i))))

/-- The full mask of a descriptor's field. -/
def fullMask (d : List Word) : BitVec 60 := maskOf (fieldPatches (tdWq d) (tdHq d))

/-! ### Inkwell tags (R117) -/

/-- What window `n` of a configuration puts into Inkwell entries: its descriptor, and the frame a STATIC one shows. -/
def FrameCfg.inkPart (c : FrameCfg) (n : Nat) : Option (Win × Shows) :=
  (SMap.find c.wins n).map (fun w => (w, if w.static then SMap.get (fun _ => Shows.fill) c.shows n else .fill))

/-- Tags kept after the changes between two configurations. A STATIC window whose latched frame SRC_DEFINE discarded
counts as changed (assumption 106). -/
def inkKeep (a b : FrameCfg) (filts placed : List Nat) (slut : Bool) (tags : SMap Nat) : SMap Nat :=
  if slut || decide (a.order ≠ b.order) || decide (a.bg ≠ b.bg) || decide (filts ≠ []) then []
  else
    let changed := (winKeys a b).filter (fun n => decide (a.inkPart n ≠ b.inkPart n))
    let hits (d : List Word) (i k : Nat) : Bool := changed.any (fun n =>
      ((SMap.find a.wins n).toList ++ (SMap.find b.wins n).toList).any (fun w =>
        decide (posOf b.order w.plane < k) && touches w.rect (patchBox d i)))
    tags.filter (fun e =>
      let t := e.1 / 60
      !(t ∈ placed) && (match SMap.find b.tiles t with
        | some d => !(hits d (e.1 % 60) (tagK e.2))
        | none => false))

/-- An entry of depth `k` of patch (t, i) that frame `h` composes holds what the last frame begun would compose too:
nothing that clears its tag has taken effect since (R102, R117). -/
def State.inkCurrent (s : State) (h : HeadFrame) (t i k : Nat) : Bool :=
  match s.comp.last with
  | some c => !(inkKeep h.cfg c h.after.filts h.after.placed h.after.slut [(60 * t + i, tagByte k)]).isEmpty
  | none => true

/-! ### The plan (R124) -/

/-- What one tile brings to the plan of a frame: its descriptor number and words, its mask, the patches of a Privet
change, whether a Full frame is owed, and the patches deferred before. -/
structure Want where
  t     : Nat
  d     : List Word
  mask  : BitVec 60
  priv  : BitVec 60
  full  : Bool
  old   : List (Nat × Word)
  wait  : Option Word
  deriving DecidableEq, Repr

/-- Takes patches in order while the budget lasts: the planned (tile, patch) pairs and what is left. -/
def takePatches (l : List (Nat × Nat)) (got : List (Nat × Nat)) (left : Nat) : List (Nat × Nat) × Nat :=
  match l with
  | [] => (got, left)
  | p :: t =>
    if p ∈ got then takePatches t got left
    else match left with
      | 0 => (got, 0)
      | k + 1 => takePatches t (got ++ [p]) k

/-- Class 2 of R124: owed Full frames, a whole tile at a time, going on past a tile that does not fit. -/
def takeFull (l : List Want) (got : List (Nat × Nat)) (left : Nat) : List (Nat × Nat) × Nat :=
  match l with
  | [] => (got, left)
  | w :: t =>
    let new := ((patchesOf w.mask).map (fun i => (w.t, i))).filter (fun p => !(p ∈ got))
    if new.length ≤ left then takeFull t (got ++ new) (left - new.length) else takeFull t got left

/-- Orders a list by a Nat key, stable. -/
def insertBy {α : Type} (key : α → Nat) (a : α) (l : List α) : List α :=
  match l with
  | [] => [a]
  | b :: t => if key a < key b then a :: b :: t else b :: insertBy key a t

def sortBy {α : Type} (key : α → Nat) (l : List α) : List α := l.foldl (fun acc a => insertBy key a acc) []

/-- The plan of R124 for frame `f`: the (tile, patch) pairs taken, in order. Class 2 holds the Full frames owed after a
HOLD report; a tile deferred whole keeps its patches of a Privet change, which class 1 took before it (assumption 107). -/
def planOf (f : Word) (budget : Nat) (ws : List Want) : List (Nat × Nat) :=
  let c1 := ws.flatMap (fun w => (patchesOf (w.mask &&& w.priv)).map (fun i => (w.t, i)))
  let (g, n) := takePatches c1 [] budget
  let owed := sortBy (fun w => match w.wait with | some a => 2 ^ 32 - 1 - (f - a).toNat | none => 2 ^ 32) (ws.filter (·.full))
  let (g, n) := takeFull owed g n
  -- a tile whose Full frame did not fit is deferred whole
  let rest := ws.filter (fun w => !w.full)
  let c3 := (sortBy (fun (e : Nat × Nat × Word) => 2 ^ 32 - 1 - (f - e.2.2).toNat)
    (rest.flatMap (fun w => (w.old.filter (fun e => w.mask.getLsbD e.1)).map (fun e => (w.t, e.1, e.2))))).map
      (fun e => (e.1, e.2.1))
  let (g, n) := takePatches c3 g n
  let c4 := rest.flatMap (fun w => (patchesOf w.mask).map (fun i => (w.t, i)))
  (takePatches c4 g n).1

/-- Working lanes (CMP_LANE_STAT.LANES). -/
def State.lanes (s : State) : Nat := s.get Fld.CMP_LANE_STAT_LANES

/-- Patches a tick's plan may hold (R124). -/
def State.planBudget (s : State) : Nat := 95 * s.lanes * s.tickInt / 24000

/-! ### SEAL and VOID -/

/-- HEADID this head puts into its packets. -/
def State.headId (s : State) : Nat := s.get Fld.RED_STAT_HEADID

/-- Sends a packet of this head to the tile of descriptor words `d`, on the descriptor's port (R103, R129). -/
def State.sendTile (s : State) (d : List Word) (type : Nat) (body : List Word) : State :=
  let p := tdPort d
  if s.portOpen p then s.sendOn p 0 type (BitVec.ofNat 16 (tdNode d)) s.nodeId body else s.unroute p

/-- Sends SEAL(F, REV) when the tile's port carries packets (R133, R135); a frame without BASE carries F itself. -/
def State.sendSeal (s : State) (fn : Word) (d : List Word) (tf : TileFrame) : TileFrame × State :=
  if s.portOpen (tdPort d) then
    let base := match tf.base with | some b => b | none => fn
    let s := s.sendTile d tySEAL [fn, s.tshow fn,
      wd (tf.rev * 2 ^ 28 + (patchesOf tf.plan).length * 2 ^ 21 + s.headId * 2 ^ 20), base]
    ({ tf with sealed := true }, (s.countWrap Fld.CMP_SEALCNT_COUNT).tallyOf 0x087 1 (tdPort d))
  else (tf, s.unroute (tdPort d))

/-- Sends VOID(F, REV) and counts it (R134). -/
def State.sendVoid (s : State) (fn : Word) (t : Nat) (d : List Word) (rev cause : Nat) (recomp : Bool) : State :=
  let r := if recomp then 1 else 0
  let s := s.sendTile d tyVOID [fn, wd (rev * 2 ^ 28 + s.headId * 2 ^ 27 + r * 2 ^ 26 + cause * 2 ^ 22)]
  let s := (s.count Fld.CMP_VOIDCNT_VOID).tallyOf 0x086 1 (tdPort d)
  let s := if s.bit Fld.JRN_STAT_RUN then { s with jrn := { s.jrn with voids := s.jrn.voids ++ [(fn, ⟨t, rev, recomp, cause⟩)] } } else s
  if recomp then s.count Fld.CMP_VOIDCNT_RECOMP else s

/-! ### Compose start -/

/-- SAFE_N shows the SAFE items in frame `f` (R284). -/
def State.safeFor (s : State) (f : Word) : Bool :=
  s.priv.safe && (match s.priv.safeEnd with | some g => earlier f g | none => true)

/-- Items shown in frame `f` (R25, R283, R284). -/
def State.shownFor (s : State) (f : Word) : List Nat :=
  (s.priv.items.filter (fun e => decide (e.1 ∈ s.priv.shown) || (s.safeFor f && itSafe e.2))).map (·.1)

/-- The configuration a frame begun now is composed from. -/
def State.cfgNow (s : State) (f : Word) (picks : SMap Nat) : FrameCfg :=
  let order := match s.comp.orderCmd with | some v => wd v | none => s.coming Reg.CMP_PLANE_ORDER
  ⟨s.comp.windows, order, (List.range 3).map (fun i => wbits (s.coming (Reg.CMP_BG i)) 19 0), s.comp.tiles, s.priv.items,
    s.shownFor f, s.comp.filt, s.comp.wlut, s.ingest.slut, decide (wbits (s.coming Reg.CMP_PREV_BASE) 31 31 = 1),
    s.comp.windows.map (fun e => (e.1, s.showsOf f picks e.1 e.2)), []⟩

/-- A wire table is non-decreasing (R109). -/
def wlutOk (m : SMap Nat) (t : Nat) : Bool :=
  (List.range (if t = 0 then 1023 else 4095)).all (fun i =>
    decide (SMap.get wlutReset m (4096 * t + i) ≤ SMap.get wlutReset m (4096 * t + i + 1)))

/-- Copies the entries of table `t` (entries of `n` keys each) from a shadow. -/
def copyTable {α : Type} (n t : Nat) (act sh : SMap α) : SMap α :=
  (sh.filter (fun e => decide (e.1 / n = t))).foldl (fun m e => SMap.put m e.1 e.2) (act.filter (fun e => decide (e.1 / n ≠ t)))

/-- Applies the filter and wire table swaps due at this compose start (R98, R109), and notes the sets and tables that
changed. -/
def State.applySwaps (s : State) : State :=
  let fs := s.comp.filtSwaps
  let good := s.comp.wlutSwaps.filter (wlutOk s.comp.wlutShadow)
  let s := if good.length < s.comp.wlutSwaps.length then s.raise Fld.CMP_WLUT_CTL_ERR else s
  { s with comp := { s.comp with
    filt := fs.foldl (fun m t => copyTable 1152 t m s.comp.filtShadow) s.comp.filt
    wlut := good.foldl (fun m t => copyTable 4096 t m s.comp.wlutShadow) s.comp.wlut
    filtDone := s.comp.filtDone ++ fs
    wlutDone := s.comp.wlutDone ++ good
    filtSwaps := []
    wlutSwaps := [] } }

/-- Descriptors that are not empty. -/
def placedTiles (m : SMap (List Word)) : List (Nat × List Word) := m.filter (fun e => decide (tdWq e.2 ≠ 0))

/-- What every tile wants of frame `f` (R111, R112, R142). -/
def State.wants (s : State) (c : FrameCfg) (dmg : Damage) (fresh : Bool) : List Want :=
  (placedTiles c.tiles).map (fun e =>
    let (t, d) := e
    let h := s.histOf t
    let full := fullMask d
    let remark := maskOf ((s.comp.remark.filter (fun p => decide (p.1 = t))).map (·.2))
    let priv := touchedBy d dmg.privet
    let mask := if h.fullDue || fresh || dmg.all || decide (t ∈ dmg.whole) then full
      else (touchedBy d dmg.rects ||| priv ||| h.carry ||| remark ||| maskOf (h.deferred.map (·.1))) &&& full
    ⟨t, d, mask, priv, h.fullDue, h.deferred, h.fullWait⟩)

/-- Records the plan of one tile: its TileFrame and the history after it. -/
def State.planTile (s : State) (f : Word) (got : List (Nat × Nat)) (fresh : Bool) (w : Want) : (Nat × TileFrame) × State :=
  let h := s.histOf w.t
  let plan := maskOf ((got.filter (fun p => decide (p.1 = w.t))).map (·.2))
  let left := patchesOf (w.mask &&& ~~~plan)
  let good := if fresh then [] else h.good
  let tf : TileFrame := ⟨0, plan, plan, plan, 0, good.head?, false, false⟩
  let deferred := left.map (fun i => (i, lookup f h.deferred i))
  let whole := w.full && decide (left ≠ [])
  let h' : TileHist := ⟨(f :: good).take 8, 0, deferred, whole, if whole then some (h.fullWait.getD f) else none⟩
  let s := s.setHist w.t h'
  let s := if left = [] then s else ((s.count Fld.CMP_DEFERCNT_COUNT left.length).raise Fld.CMP_INT_DEFER).tally 0x084 left.length
  ((w.t, tf), s)

/-- Plans every tile. -/
def State.planAll (s : State) (f : Word) (got : List (Nat × Nat)) (fresh : Bool) (ws : List Want)
    (acc : SMap TileFrame) : SMap TileFrame × State :=
  match ws with
  | [] => (acc, s)
  | w :: t =>
    let (e, s) := s.planTile f got fresh w
    s.planAll f got fresh t (acc ++ [e])

/-- Nothing more of frame `h` is sent on port `p`: its push deadline lies behind (R129). -/
def State.pushClosed (s : State) (h : HeadFrame) (p : Nat) : Bool := decide (p ∈ h.dead) || earlier (s.pushBy p h.fn) s.clk.dtime

/-- Sends at once the SEAL of each tile whose plan holds no patch (R135), where the push deadline of its port has not passed
(R129). -/
def State.sealEmpty (s : State) (h : HeadFrame) (l : SMap TileFrame) : SMap TileFrame × State :=
  match l with
  | [] => ([], s)
  | (t, tf) :: rest =>
    let (tf, s) := match SMap.find h.cfg.tiles t with
      | some d => if h.push && tf.plan == (0 : BitVec 60) && !(s.pushClosed h (tdPort d)) then s.sendSeal h.fn d tf else (tf, s)
      | none => (tf, s)
    let (r, s) := s.sealEmpty h rest
    ((t, tf) :: r, s)

/-- Every Inkwell tag is cleared. Patches of entries that CMP_INK_CTL.INVAL or a lane retirement invalidates are marked
changed (*Table — Damage sources*). -/
def State.inkClear (s : State) : State :=
  { s with comp := { s.comp with
    remark := s.comp.remark ++ s.comp.tags.map (fun e => (e.1 / 60, e.1 % 60))
    tags := [] } }

/-- What takes effect at C(f) whether or not the head composes: CMP_INK_CTL.INVAL, swaps and latches (R98, R109, R113,
R117). -/
def State.takeChanges (s : State) (f : Word) : State :=
  let s := if s.comp.inval then { s.inkClear with comp := { s.inkClear.comp with inval := false } } else s
  s.applySwaps.latchNew f

/-- Frames still at the head carry what takes effect after them. -/
def InkCause.add (a : InkCause) (filts placed : List Nat) (slut : Bool) : InkCause :=
  ⟨a.filts ++ filts, a.placed ++ placed, a.slut || slut⟩

/-- Marks a tile's frame failed (R112): later frames begun before this outcome are voided with cause 5 while their port's
deadline has not passed, and all their masks carry. -/
def State.failTile (s : State) (fn : Word) (t : Nat) : State :=
  let s := forEach s.heads.frames (fun g s =>
    if earlier g.fn fn then s
    else match SMap.find g.tiles t, SMap.find g.cfg.tiles t with
    | some tf, some d =>
      let live := g.push && !(tf.voided) && !(g.canceled) && !(s.pushClosed g (tdPort d))
      let s := if live && decide (g.fn ≠ fn) then s.sendVoid g.fn t d tf.rev 5 false else s
      let h := s.histOf t
      let s := s.setHist t { h with carry := h.carry ||| tf.mask }
      s.setFrame { g with tiles := SMap.put g.tiles t { tf with todo := 0, voided := true } }
    | _, _ => s) s
  let h := s.histOf t
  s.setHist t { h with good := h.good.filter (fun g => earlier g fn) }

/-- A frame whose push deadline on port `p` lies before its C: no packet of it may leave on that port (R129), so every planned
patch of the port's tiles underruns unsent, and their frames fail (assumption 143). -/
def State.missDeadline (s : State) (fn : Word) (p : Nat) : State :=
  match s.heads.frames.find? (fun g => decide (g.fn = fn)) with
  | none => s
  | some h =>
    if !h.push || !(s.pushClosed h p) then s
    else
      let l := h.tiles.filter (fun e => match SMap.find h.cfg.tiles e.1 with | some d => decide (tdPort d = p) | none => false)
      let k := (l.map (fun e => (patchesOf e.2.plan).length)).sum
      let s := if k = 0 then s else ((s.count Fld.CMP_UNDERCNT_COUNT k).raise Fld.CMP_INT_UNDERRUN).tally 0x085 k
      forEach (l.map (·.1)) (fun t s => s.failTile fn t) (s.setFrame { h with dead := p :: h.dead })

/-- Begins frame `f` at C(F), after the commands due at `f` have been applied (R127). -/
def State.beginFrame (s : State) (f : Word) : State :=
  let s := s.settleAll
  let ((picks, chase), s) := s.pickAll f (List.range 64) ([], [])
  let c := s.cfgNow f picks
  let a := match s.comp.last with | some a => a | none => c
  let first := s.comp.last.isNone
  let filts := s.comp.filtDone
  let placed := s.comp.placed
  let dmg := damageOf a c filts s.comp.wlutDone placed s.comp.reloaded
  let dmg := if first then { dmg with all := true } else dmg
  let slut := s.comp.slutDone || first
  let tags := inkKeep a c filts placed slut s.comp.tags
  let push := s.pushes
  let fresh := push && !(s.heads.active)
  let ws := s.wants c dmg fresh
  let got := planOf f s.planBudget ws
  let (tiles, s) := s.planAll f got fresh ws []
  let h : HeadFrame := ⟨f, push, c, tiles, got, ⟨[], [], false⟩, [], picks, chase, s.fallsNow, false⟩
  let (tiles, s) := s.sealEmpty h h.tiles
  let h := { h with tiles := tiles }
  let keep := (s.heads.frames.filter (fun g => !(s.passed (s.tshow g.fn)))).map (fun g => { g with after := g.after.add filts placed slut })
  let s := { s with
    comp := { s.comp with
      tags     := tags
      last     := some c
      placed   := []
      reloaded := []
      remark   := []
      filtDone := []
      wlutDone := []
      slutDone := false }
    heads := { s.heads with frames := keep ++ [h], active := push, lastC := some f } }
  forEach (List.range 4) (fun p s => s.missDeadline f p) s

/-! ### Admission control (R119 to R123) -/

/-- Ceiling division. -/
def ceilDiv (a b : Nat) : Nat := (a + b - 1) / b

/-- The source read S of a window for a patch box (R121). -/
def State.readBytes (s : State) (w : Win) (b : Int × Int × Int × Int) : Nat :=
  let l := w.level
  let bx := (b.2.2.1 - b.1).toNat
  let by_ := (b.2.2.2 - b.2.1).toNat
  let sx := ceilDiv ((bx + 16) * w.cw) (16 * w.dw * 2 ^ l) + 8
  let sy := ceilDiv ((by_ + 16) * w.ch) (16 * w.dh * 2 ^ l) + (if w.usesV6 then 6 else 4)
  let p := if s.get (Fld.SRC_CFG_KIND w.source) = 4 then 10 else 14
  64 * (ceilDiv sx p + 1) * sy

/-- Payload bytes of a patch by format (*Table — Wire formats*): 240 pixels of three codes. -/
def payloadBytes (fmt : Nat) : Nat := 240 * 3 * fmtBits fmt / 8

/-- The figures of the three budgets for a configuration: |N|, B_tick and B_p of each port. -/
structure Load where
  n     : Nat
  tick  : Nat
  ports : List Nat
  deriving DecidableEq, Repr

/-- The steady load of windows `wins`, order `order` and tiles `tiles` (R119, R121, R122). -/
def State.steadyLoad (s : State) (wins : SMap Win) (order : Word) (tiles : SMap (List Word)) : Load :=
  let c : FrameCfg := ⟨wins, order, [], tiles, [], [], [], [], [], false, [], []⟩
  let inkEn := s.bit Fld.CMP_INK_CTL_EN
  (placedTiles tiles).foldl (fun acc e =>
    let d := e.2
    (fieldPatches (tdWq d) (tdHq d)).foldl (fun acc i =>
      let b := patchBox d i
      let ws := c.touching b
      if ws.any (fun q => q.2.live) then
        let k := c.depth inkEn b
        let reads := ((ws.filter (fun q => !q.2.isFill && decide (k ≤ posOf order q.2.plane))).map
          (fun q => s.readBytes q.2 b)).sum
        ⟨acc.n + 1, acc.tick + (if 1 ≤ k then 1920 else 0) + (if tdPreview d then 1920 else 0) + reads,
          setAt acc.ports (tdPort d) (acc.ports.getD (tdPort d) 0 + payloadBytes (tdFmt d) + 48)⟩
      else acc) acc) ⟨0, 0, [0, 0, 0, 0]⟩

/-- The sum of the write rates of the enabled sources, each rounded up to a whole byte per second (R121). -/
def State.ingestRate (s : State) : Nat :=
  ((List.range 64).map (fun n => if s.bit (Fld.SRC_CFG_ENABLED n) then ((s.srcLoad n).2.ceil).toNat else 0)).sum

/-- D of R121 in bytes per second; `jrn` is the journal's read rate. -/
def State.dramLoad (s : State) (l : Load) (jrn : Nat) : Nat :=
  s.ingestRate + jrn + 2000000000 + ceilDiv (l.tick * 1000000000) s.tickInt

/-- DRAM data rate in MT/s: that of the last training (DMC_CFG.MTS, R341). -/
def State.mts (s : State) : Nat := s.mem.mts

/-- The first budget broken (R119 to R122): 0 none, 1 compose, 2 DRAM, 3 port with the lowest failing port. -/
def State.budgetBroken (s : State) (l : Load) (jrn : Nat) : Nat × Nat :=
  if 95 * s.lanes * s.tickInt < 24000 * l.n then (1, 0)
  else if 16 * s.mts * 1000000 * 4 / 5 < s.dramLoad l jrn then (2, 0)
  else match (List.range 4).find? (fun p => decide (54 * s.tickInt < 10 * l.ports.getD p 0)) with
    | some p => (3, p)
    | none => (0, 0)

/-- Records a refusal (R119); CMP_ADM_STAT shows it from the next tick boundary. -/
def State.admFail (s : State) (e : Nat × Nat) : State := { s with comp := { s.comp with admFail := some e } }

/-- Updates the CMP_ADM registers for the configuration in effect, at a tick boundary. -/
def State.admFigures (s : State) (jrn : Nat) : State :=
  let s := match s.comp.admFail with
    | some e =>
      let s := s.put Fld.CMP_ADM_STAT_FAIL e.1
      let s := if e.1 = 3 then s.put Fld.CMP_ADM_STAT_PORT e.2 else s
      { s with comp := { s.comp with admFail := none } }
    | none => s
  let l := s.steadyLoad s.comp.windows (s.word Reg.CMP_PLANE_ORDER) s.comp.tiles
  let s := s.setWord Reg.CMP_ADM_COMPOSE (wd (ceilDiv (240 * l.n) (max 1 s.lanes)))
  let s := s.setWord Reg.CMP_ADM_DRAM (wd (ceilDiv (s.dramLoad l jrn) 1000000))
  forEach (List.range 4) (fun p s => s.setWord (Reg.CMP_ADM_PORT p) (wd (l.ports.getD p 0))) s

end Sys2Proof.Machine
end

