-- ==== Sys2Proof/Machine/Coppice.lean ====
section
/-! DEFINITION. Coppice's record of substitutions (R389 to R391). -/

namespace Sys2Proof.Machine

/-- Writes a substitution into the ring of 64 entries in MRAM (R391). The reason codes of w3 are not given: a free value
(assumption 5). The recovery role has no Coppice (R4). `last` tells that the last spare of the kind was used. -/
def State.cpcLog (s : State) (kind unit src dst value : Nat) (last : Bool) : State :=
  if s.actingRole = .recovery then s else
  let (reason, s) := s.freeNat 16
  let e : List Word := [s.clk.dtime, s.clk.fn, wd (kind % 256 * 2 ^ 24 + unit % 256 * 2 ^ 16 + src % 256 * 2 ^ 8 + dst % 256),
    wd (reason * 2 ^ 16 + min value 0xFFFF)]
  let n := s.saved.cpcNext % 64
  let total := min (s.saved.cpcTotal + 1) 0xFFFF
  let s := { s with saved := { s.saved with cpcLog := SMap.put s.saved.cpcLog n e, cpcNext := (n + 1) % 64, cpcTotal := total } }
  let s := (s.put Fld.CPC_LOG_STAT_TOTAL total).put Fld.CPC_LOG_STAT_NEXT ((n + 1) % 64)
  let s := s.raise Fld.CPC_INT_SUBST
  if last then s.raise Fld.CPC_INT_LOWSPARE else s

/-- An indicator crossed its threshold with no substitution possible (R391). The recovery role has no Coppice (R4). -/
def State.cpcWear (s : State) : State :=
  if s.actingRole = .recovery then s else s.raise Fld.CPC_INT_WEAR

end Sys2Proof.Machine
end

