-- ==== Sys2Proof/Machine/Sram.lean ====
section
/-! DEFINITION. What a read of an SRAM bank finds: cycles of the two ports, wrong words, and Coppice's request for a test
(R332 to R335, R338, R389). -/

namespace Sys2Proof.Machine

/-- Physical bank of logical bank `n`. -/
def State.physBank (s : State) (n : Nat) : Nat := bitsOf (s.word (Reg.MEM_BANK_MAP (n / 4))).toNat (8 * (n % 4)) 8

/-- Points logical bank `n` at physical bank `b`. -/
def State.setPhysBank (s : State) (n b : Nat) : State :=
  let x := Reg.MEM_BANK_MAP (n / 4)
  s.setWord x (wd (setBits (s.word x).toNat (8 * (n % 4)) 8 b))

/-- What a port does with a word in an SRAM cycle. -/
inductive PortUse where
  | idle | read | write (v : BitVec 64)
  deriving DecidableEq, Repr

/-- How a cycle ends for one word: what each port reads, the word then stored, and whether port B's write was dropped. -/
structure CycleEnd where
  a       : Option (BitVec 64)
  b       : Option (BitVec 64)
  word    : BitVec 64
  dropped : Bool
  deriving DecidableEq, Repr

/-- *Table — Same-word collisions* (R334): both ports address one word in one cycle. -/
def sramCycle (old : BitVec 64) (a b : PortUse) : CycleEnd :=
  let seen (u : PortUse) : Option (BitVec 64) := match u with | .read => some old | _ => none
  match a, b with
  | .write v, .write _ => ⟨none, none, v, true⟩
  | .write v, u => ⟨none, seen u, v, false⟩
  | u, .write v => ⟨seen u, none, v, false⟩
  | u, u' => ⟨seen u, seen u', old, false⟩

/-- Logical bank `n` holds no wrong and no poisoned word: it was cleared or powered down. -/
def State.bankWiped (s : State) (n : Nat) : State :=
  let b := s.physBank n
  { s with mem := { s.mem with
    upsets := s.mem.upsets.filter (fun e => decide (e.1 ≠ n))
    poison := s.mem.poison.filter (fun e => decide (e.1 ≠ b)) } }

/-- The banks being cleared. -/
def State.clearing (s : State) (l : List (Nat × Word)) : State := { s with mem := { s.mem with clearing := l } }

/-- The outcome of a request for a self-test of logical bank `n` (R338): started, or refused. -/
def State.startTest (s : State) (n : Nat) (secure : Bool) : Bool × State :=
  if s.mem.test.isSome || !(s.bit Fld.MEM_SPARE_VALID) || (!secure && (n == 3 || n == 11)) then
    (false, s.raise Fld.MEM_BIST_STAT_REFUSED)
  else
    let moved := decide (s.bankOwner n ≠ 0)
    let s := { s with mem := { s.mem with test := some n, moved := moved, testAt := s.clk.dtime } }
    let s := (s.raise Fld.MEM_STAT_BIST_BUSY).put Fld.MEM_BIST_STAT_BANK n
    (true, if moved then (s.put Fld.MEM_BIST_STAT_STEP 1).put Fld.MEM_SPARE_VALID 0 else s.put Fld.MEM_BIST_STAT_STEP 4)

/-- The corrected words that logical bank `n` gained within the last 24 hours (R389). -/
def State.bankGain (s : State) (n : Nat) : List Nat :=
  (SMap.get (fun _ => []) s.mem.corrected n).filter (fun t => decide (s.clk.upNs < t + 86400000000000))

/-- Coppice's request for a self-test of a bank that gained more than CPC_CFG.BANK_CORR corrected words (R389, R390):
made again later while a test runs, and not made where the spare is gone for good. -/
def State.bankWear (s : State) (n : Nat) : State :=
  let thr := s.get Fld.CPC_CFG_BANK_CORR
  if s.actingRole = .recovery ∨ thr = 0 ∨ (s.bankGain n).length ≤ thr ∨ s.cpcWait.any (fun e => decide (e.1 = 2)) then s
  else
    let s := { s with mem := { s.mem with corrected := SMap.erase s.mem.corrected n } }
    if s.bit Fld.MEM_STAT_NOSPARE then s.cpcWear
    else if s.mem.test.isSome then { s with cpcWait := s.cpcWait ++ [(2, n)] }
    else (s.startTest n true).2

/-- Port B's write of a word is dropped, because port A writes the word in the same cycle (R334). -/
def State.portBDropped (s : State) (n word : Nat) : State :=
  ((((s.count Fld.MEM_COLL_COUNT).put Fld.MEM_COLL_ADDR_BANK n).put Fld.MEM_COLL_ADDR_WORD word).raise
    Fld.MEM_INT_COLL).tally 0x141

/-- A read of a word of logical bank `n` that its code finds wrong (R335): corrected and written back through port B, or
marked poisoned, counted and logged. -/
def State.sramError (s : State) (n : Nat) (e : SramError) : State :=
  if e.double then
    let k := (s.physBank n, e.word)
    let s := { s with mem := { s.mem with poison := if k ∈ s.mem.poison then s.mem.poison else k :: s.mem.poison } }
    ((s.count (Fld.MEM_ECC_UNCORR n)).raise Fld.MEM_INT_UNCORR).logBlot blkMEM 1 clsFAULT n e.word.toNat
  else
    let c := sramCycle e.value ((e.ownerWrites.map PortUse.write).getD .idle) (.write e.value)
    let s := if c.dropped then s.portBDropped n e.word.toNat else s
    let s := (s.count (Fld.MEM_ECC_CORR n)).tally 0x140
    let s := { s with mem := { s.mem with corrected := SMap.put s.mem.corrected n (s.clk.upNs :: s.bankGain n) } }
    s.bankWear n

/-- An owner reads logical bank `n`: during a clear the read waits until it ends (R333), and the words found wrong are
corrected or poisoned (R335). -/
def State.readBank (s : State) (n : Nat) : State :=
  let s := match s.mem.clearing.find? (fun e => decide (e.1 = n)) with
    | some e => (s.advanceTo e.2).clearing (s.mem.clearing.filter (fun q => decide (q.1 ≠ n)))
    | none => s
  let found := (s.mem.upsets.filter (fun e => decide (e.1 = n))).map (·.2)
  forEach found (fun e s => s.sramError n e)
    { s with mem := { s.mem with upsets := s.mem.upsets.filter (fun e => decide (e.1 ≠ n)) } }

/-- An owner reads several banks. -/
def State.readBanks (s : State) (l : List Nat) : State := forEach l (fun n s => s.readBank n) s

end Sys2Proof.Machine
end

