-- ==== Sys2Proof/Machine/Push.lean ====
section
/-! DEFINITION. From a planned patch to the packets of a frame (R118, R125, R126, R129, R133 to R135, R112): composed
patches, push deadlines, late changes, HOLD reports, pixel lanes, and the CMP registers with effects of their own. -/

namespace Sys2Proof.Machine

/-- The logical lane for a PATCH of this head (R152). -/
def State.patchLane (s : State) (p : Nat) : Nat :=
  let q := s.port p
  if q.tx0.queued < q.tx1.queued then 0 else 1

/-- Encodes and sends one PATCH (R133, R178). -/
def State.pushPatch (s : State) (h : HeadFrame) (t : Nat) (d : List Word) (tf : TileFrame) (i m : Nat) (under : Bool) (out : List Rgb) :
    State :=
  let fmt := tdFmt d
  let payload := packCodes (fmtBits fmt) (h.cfg.codes fmt out)
  let sig := crc64 (wireStream payload)
  let w2 := tf.rev * 2 ^ 28 + i * 2 ^ 22 + (patchesOf tf.plan).length * 2 ^ 15 + (if under then 2 ^ 14 else 0) +
    s.headId * 2 ^ 13 + fmt * 2 ^ 9
  let body := [h.fn, s.tshow h.fn, wd w2, wd (sig / 2 ^ 32), wd sig] ++ payload
  let p := tdPort d
  let s := if s.bit Fld.JRN_STAT_RUN && s.portOpen p then { s with jrn := { s.jrn with
      outs := s.jrn.outs ++ [(h.fn, ⟨t, i, tf.rev, under, m, sig⟩)] } } else s
  if s.portOpen p then s.sendPatch p (s.patchLane p) (BitVec.ofNat 16 (tdNode d)) s.nodeId body false else s.unroute p

/-- Counts samples where a window or plane gave a layer, and over-blend clamps (PMU events 0x082 and 0x083). -/
def State.tallyUses (s : State) (l : List Use) : State :=
  let some_ (k v : Nat) : List Use :=
    if k = 0 ∨ 5 ≤ k then l
    else if k = 2 then l.filter (fun u => decide (u.win = some v))
    else if k = 3 then l.filter (fun u => decide (u.plane = v))
    else []
  (s.tallyBy 0x082 (fun k v => (some_ k v).length)).tallyBy 0x083 (fun k v => clampsOf (some_ k v))

/-- The preview area takes a patch's final result as sent (R118). -/
def State.putPreview (s : State) (t i : Nat) (out : List Rgb) : State :=
  let s := s.writePatch (areaAddr (s.get Fld.CMP_PREV_BASE_BASE) t i) (out.map (fun o => areaWord (o.r, o.g, o.b) false false))
  { s with comp := { s.comp with
    prevDirty := if (t, i) ∈ s.comp.prevDirty then s.comp.prevDirty else s.comp.prevDirty ++ [(t, i)] } }

/-- Reads the Inkwell entry that frame `h` composes a patch of depth `k` from (R116): its tag is VALID with that K and it is
of the frame's own content. `bad`: the read meets an uncorrectable error, which DMC_ERR records (R349). -/
def State.inkFor (s : State) (h : HeadFrame) (t i k : Nat) (bad : Bool) : Option InkEntry × State :=
  if k ≠ 0 ∧ SMap.find s.comp.tags (60 * t + i) = some (tagByte k) ∧ s.inkCurrent h t i k = true then
    let (e, s) := s.readInk t i k
    if bad then (none, s.poisoned (areaAddr (s.get Fld.CMP_INK_CTL_BASE) t i)) else (e, s)
  else (none, s)

/-- What goes wrong while a patch is composed: nothing. -/
def noErrors : PatchErrors := ⟨false, []⟩

/-- Composes `m` pixels of a planned patch, fills the rest with CMP_BG, and sends it (R116, R118, R125, R133); `bad`: the
DRAM reads that meet an uncorrectable error. A patch that read a poisoned source unit is written to Inkwell like any other
(assumption 144). -/
def State.finishPatch (s : State) (h : HeadFrame) (t : Nat) (d : List Word) (i m : Nat) (under : Bool) (bad : PatchErrors) : State :=
  match SMap.find h.tiles t with
  | none => s
  | some tf =>
    let s := forEach bad.units (fun e s => s.poisoned (64 * e.burst.toNat)) s
    let h := { h with cfg := { h.cfg with poison := bad.units.map (fun e => (e.source.val, e.line)) } }
    let k := h.cfg.depth (s.bit Fld.CMP_INK_CTL_EN) (patchBox d i)
    let (held, s) := s.inkFor h t i k bad.entry
    let r := s.composePatch h.cfg k held d i m
    let s := s.count Fld.CMP_CLAMPCNT_COUNT (clampsOf r.uses)
    let s := (((s.tally 0x080).tallyUses r.uses).tally 0x088 m).tally 0x081 (if r.hit then 1 else 0)
    let s := if r.hit then s.count Fld.CMP_INK_HIT_COUNT else s
    let s := match r.entry with
      | some e => if s.inkCurrent h t i e.k then (s.putInk t i e).count Fld.CMP_INK_FILL_COUNT else s
      | none => s
    let out := r.out ++ List.replicate (240 - m) h.cfg.back
    let s := if h.cfg.prevEn && tdPreview d then s.putPreview t i out else s
    let s := if h.push then s.pushPatch h t d tf i m under out else s
    let s := if under && h.push then ((s.count Fld.CMP_UNDERCNT_COUNT).raise Fld.CMP_INT_UNDERRUN).tally 0x085 else s
    let tf' := { tf with todo := tf.todo &&& ~~~maskOf [i], sent := if h.push then tf.sent ||| maskOf [i] else tf.sent }
    let (tf', s) := if h.push && tf'.todo == (0 : BitVec 60) then s.sendSeal h.fn d tf' else (tf', s)
    s.setFrame { h with cfg := { h.cfg with poison := [] }, tiles := SMap.put h.tiles t tf' }

/-! ### The spare pixel lane (R126) -/

/-- The spare lane is free and checks run. -/
def State.spareFree (s : State) : Bool :=
  !(s.bit Fld.CMP_LANE_STAT_NOCHECK) && decide (s.get Fld.CMP_LANE_STAT_SPARE_FOR = 7) &&
    decide (bitsOf (s.get Fld.CMP_LANE_STAT_RETIRED) 4 1 = 0)

/-- The check of the spare lane after working lane `lane` composed patch (t, i). -/
def State.spareCheck (s : State) (t i lane : Nat) (differs : Bool) (agrees : Option Bool) : State :=
  let k := s.clk.fn.toNat % 4
  let first := decide (lane = k) && !(lane ∈ s.comp.lanesUsed)
  let s := { s with comp := { s.comp with
    lanesUsed := if lane ∈ s.comp.lanesUsed then s.comp.lanesUsed else lane :: s.comp.lanesUsed
    since := s.comp.since.map (fun l => if (t, i) ∈ l then l else l ++ [(t, i)]) } }
  if first && s.spareFree then
    if differs then
      let s := s.raise Fld.CMP_INT_LANE
      let s := { s with comp := { s.comp with remark := s.comp.remark ++ s.comp.since.getD k [] } }
      -- the mismatch clears every tag, and the retirement at the tick boundary those set since
      match agrees with
      | some true =>
        ({ s.inkClear with comp := { s.inkClear.comp with retire := s.comp.retire ++ [k] } }).logBlot blkCMP 1 clsDEGRADED k
      | some false =>
        ({ s.inkClear with comp := { s.inkClear.comp with retire := s.comp.retire ++ [4] } }).logBlot blkCMP 1 clsDEGRADED 4
      | none => ({ s with comp := { s.comp with tags := [] } }).logBlot blkCMP 2 clsFAULT k
    else { s with comp := { s.comp with since := setAt s.comp.since k [] } }
  else s

/-- Retires pixel lane `n` at a tick boundary (R126): the spare takes its place while it is free; otherwise LANES falls
by one. -/
def State.retireLane (s : State) (n : Nat) : State :=
  let free := s.spareFree
  let s := s.put Fld.CMP_LANE_STAT_RETIRED (setBits (s.get Fld.CMP_LANE_STAT_RETIRED) n 1 1)
  let s := if n = 4 then s
    else if free then (s.put Fld.CMP_LANE_STAT_SPARE_FOR n).cpcLog 5 n n 4 0 true
    else s.put Fld.CMP_LANE_STAT_LANES (s.lanes - 1)
  (s.put Fld.CMP_LANE_STAT_NOCHECK 1).inkClear

/-! ### Composed patches and deadlines -/

/-- Patch (t, i) is planned in frame `h` and can still be composed for it. -/
def State.awaits (s : State) (h : HeadFrame) (t i : Nat) : Bool :=
  !h.canceled && (match SMap.find h.tiles t, SMap.find h.cfg.tiles t with
    | some tf, some d => tf.todo.getLsbD i && !(s.pushClosed h (tdPort d))
    | _, _ => false)

/-- The oldest frame in which patch (t, i) is planned and not yet composed. -/
def State.frameWith (s : State) (t i : Nat) : Option HeadFrame := s.heads.frames.find? (fun h => s.awaits h t i)

/-- Every source line that patch (t, i) of frame `h` needs is stored. -/
def State.patchReadyIn (s : State) (h : HeadFrame) (t i : Nat) : Bool :=
  match SMap.find h.cfg.tiles t with
  | some d => s.patchReady h.cfg d i
  | none => false

/-- The patches that come before (t, i) of frame `fn` in the order of composition and are ready (R124, R145). -/
def State.readyAhead (s : State) (fn : Word) (t i : Nat) : Nat :=
  (s.heads.frames.map (fun h =>
    if later h.fn fn then 0
    else
      let l := if h.fn = fn then h.order.takeWhile (fun e => !(decide (e = (t, i)))) else h.order
      (l.filter (fun e => s.awaits h e.1 e.2 && s.patchReadyIn h e.1 e.2)).length)).sum

/-- PATCH_COMPOSED (R116, R118, R126, R133, R135, R145): no effect while the patch is not planned, its source lines are
not stored (R82), or as many ready patches as there are working lanes come before it in the order of R124
(assumption 109). The pixel lane reads its line buffer, descriptors, tags and tables (R335, *Table — Default bank map*). -/
def doPatchComposed (t i lane : Nat) (differs : Bool) (agrees : Option Bool) (bad : PatchErrors) (s : State) : State :=
  if !(s.composes) then s
  else match s.frameWith t i with
  | none => s
  | some h =>
    let (h, s) := s.settleChase h
    let s := s.setFrame h
    match SMap.find h.cfg.tiles t with
    | none => s
    | some d =>
      if s.patchReady h.cfg d i && decide (s.readyAhead h.fn t i < max 1 s.lanes) then
        ((s.readBanks [lane, 4, 5, 12]).finishPatch h t d i 240 false bad).spareCheck t i lane differs agrees
      else s

/-- One tile at the push deadline of its port (R125, R129): its unfinished patches go out as underruns, and are marked changed in
the next frame of the tile whose C is still to come (assumption 145). -/
def State.deadlineTile (s : State) (fn : Word) (p t : Nat) (done : List (Nat × Nat × Nat)) : State :=
  match s.heads.frames.find? (fun g => decide (g.fn = fn)) with
  | none => s
  | some h =>
    match SMap.find h.tiles t, SMap.find h.cfg.tiles t with
    | some tf, some d =>
      if tdPort d ≠ p ∨ tf.voided = true ∨ h.canceled = true ∨ h.push = false then s
      else
        let late := patchesOf tf.todo
        let hist := s.histOf t
        let s := if late = [] then s else s.setHist t { hist with carry := hist.carry ||| tf.todo }
        forEach late (fun i s =>
          match s.heads.frames.find? (fun g => decide (g.fn = fn)) with
          | some h => s.finishPatch h t d i ((done.find? (fun e => decide (e.1 = t) && decide (e.2.1 = i))).map (·.2.2) |>.getD 0) true noErrors
          | none => s) s
    | _, _ => s

/-- A packet of this head for frame `fn` that waits on a lane: a PATCH, SEAL or VOID (R129). -/
def State.ofFrame (s : State) (fn : Word) (x : Pkt) : Bool :=
  x.own && decide (tyPATCH ≤ x.type) && decide (x.type ≤ tyVOID) && decide (nth x.body 0 = fn) && decide (x.src = s.nodeId)

/-- The tile of frame `h` on port `p` that a packet goes to. -/
def HeadFrame.tileFor (h : HeadFrame) (p : Nat) (x : Pkt) : Option (Nat × TileFrame) :=
  h.tiles.find? (fun e => match SMap.find h.cfg.tiles e.1 with
    | some d => decide (tdPort d = p) && decide (tdNode d = x.dest.toNat)
    | none => false)

/-- A composed PATCH that still waits on a lane at its push deadline: an underrun patch (R125, R129, R143, R155, R172), once. -/
def State.lapsePatch (s : State) (h : HeadFrame) (t : Nat) (x : Pkt) : State :=
  let w := nth x.body 2
  let i := wbits w 27 22
  if wbits w 14 14 = 1 then s
  else
    let hist := s.histOf t
    let s := s.setHist t { hist with carry := hist.carry ||| maskOf [i] }
    let s := ((s.count Fld.CMP_UNDERCNT_COUNT).raise Fld.CMP_INT_UNDERRUN).tally 0x085
    { s with jrn := { s.jrn with outs := s.jrn.outs.map (fun (e : Word × OutRec) =>
        if e.1 = h.fn ∧ e.2.tile = t ∧ e.2.patch = i ∧ e.2.rev = wbits w 31 28 then (e.1, { e.2 with under := true }) else e) } }

/-- A SEAL that cannot leave by the push deadline was not sent. -/
def State.unseal (s : State) (fn : Word) (t : Nat) : State :=
  match s.heads.frames.find? (fun g => decide (g.fn = fn)) with
  | some h => match SMap.find h.tiles t with
    | some tf => s.setFrame { h with tiles := SMap.put h.tiles t { tf with sealed := false } }
    | none => s
  | none => s

/-- What waits on logical lane `k` of port `p` at the push deadline of frame `h` (R129; assumption 151): a PATCH of a revision
that a VOID has taken back is not sent; any other PATCH underruns. It leaves now with UNDER set, with its SEAL behind it, where
the lane sends; on a lane that is held or failed nothing more of the frame is sent. -/
def State.lapseLane (s : State) (h : HeadFrame) (p k : Nat) : State :=
  let t := (s.port p).tx k
  let goes := s.linkUp p && !t.failed && !t.hold
  let s := forEach t.queue (fun i s => match i with
    | .pkt x => if s.ofFrame h.fn x then
        match h.tileFor p x with
        | some (n, tf) =>
          if x.type = tyPATCH then (if tf.voided ∨ wbits (nth x.body 2) 31 28 < tf.rev then s else s.lapsePatch h n x)
          else if x.type = tySEAL ∧ goes = false then s.unseal h.fn n
          else s
        | none => s
      else s
    | .resync => s) s
  let keep (i : TxItem) : Option TxItem :=
    match i with
    | .pkt x =>
      if s.ofFrame h.fn x then
        let gone := match h.tileFor p x with | some (_, tf) => tf.voided || decide (wbits (nth x.body 2) 31 28 < tf.rev) | none => false
        if goes = false then none
        else if x.type = tyPATCH then (if gone then none else some (.pkt { x with body := setAt x.body 2 (nth x.body 2 ||| 0x4000) }))
        else some i
      else some i
    | .resync => some i
  let q := s.port p
  s.setPort p (q.setTx k { q.tx k with queue := (q.tx k).queue.filterMap keep })

/-- The PATCH, SEAL and VOID packets of this head that wait whole on its lanes are not sent: it leaves ACTIVE (R135). -/
def State.unqueuePush (s : State) : State :=
  let keep (i : TxItem) : Bool :=
    match i with
    | .pkt x => !(x.own && decide (tyPATCH ≤ x.type) && decide (x.type ≤ tyVOID))
    | .resync => true
  let cut (t : LaneTx) : LaneTx := { t with queue := t.queue.filter keep }
  { s with link := { s.link with ports := s.link.ports.map (fun (q : PortSt) => { q with tx0 := cut q.tx0, tx1 := cut q.tx1 }) } }

/-- A tile whose SEAL has not been sent at its push deadline has failed (R112). -/
def State.sealedBy (s : State) (fn : Word) (p t : Nat) : State :=
  match s.heads.frames.find? (fun g => decide (g.fn = fn)) with
  | some h => match SMap.find h.tiles t, SMap.find h.cfg.tiles t with
    | some tf, some d =>
      if tdPort d ≠ p ∨ tf.voided = true ∨ h.canceled = true ∨ h.push = false ∨ tf.sealed = true then s else s.failTile fn t
    | _, _ => s
  | none => s

/-- PUSH_DEADLINE (R125, R129, R112): PD_p of the oldest frame whose deadline on port `p` is still to come. `done` gives,
per unfinished patch, how many of its pixels are composed in raster order. -/
def doPushDeadline (p : Nat) (done : List (Nat × Nat × Nat)) (s : State) : State :=
  if !(s.composes) then s
  else match s.heads.frames.find? (fun h => !(p ∈ h.dead)) with
  | none => s
  | some h =>
    let s := s.advanceTo (s.pushBy p h.fn)
    let (h, s) := s.settleChase h
    let s := s.setFrame h
    let s := forEach (h.tiles.map (·.1)) (fun t s => s.deadlineTile h.fn p t done) s
    let s := match s.heads.frames.find? (fun g => decide (g.fn = h.fn)) with
      | some g => if g.push then (s.lapseLane g p 0).lapseLane g p 1 else s
      | none => s
    let s := forEach (h.tiles.map (·.1)) (fun t s => s.sealedBy h.fn p t) s
    match s.heads.frames.find? (fun g => decide (g.fn = h.fn)) with
    | some g => s.setFrame { g with dead := p :: g.dead }
    | none => s

/-! ### Late changes (R134) -/

/-- Whether a late change can still change what is sent of a tile in frame `h`. -/
def State.tileOpen (s : State) (h : HeadFrame) (tf : TileFrame) (p : Nat) : Bool :=
  !tf.voided && !h.canceled && !(s.pushClosed h p) && !(s.passed (s.pushBy p h.fn))

/-- Patches still queued in compose before a recomposition. -/
def State.queuedWork (s : State) : Nat :=
  (s.heads.frames.map (fun h => if h.canceled then 0 else (h.tiles.map (fun e => (patchesOf e.2.todo).length)).sum)).sum

/-- Damage that can no longer enter a tile's frame goes to the first frame whose C is still to come (R112). -/
def State.carryOn (s : State) (t : Nat) (dmg : BitVec 60) : State :=
  let h := s.histOf t
  s.setHist t { h with carry := h.carry ||| dmg }

/-- A planned patch is composed again, or for the first time, behind everything queued (R134). -/
def HeadFrame.enqueue (h : HeadFrame) (t : Nat) (m : BitVec 60) : HeadFrame :=
  let new := (patchesOf m).map (fun i => (t, i))
  { h with order := h.order.filter (fun e => !(e ∈ new)) ++ new }

/-- Patches that join a plan nothing of which was sent: those not planned come behind everything queued. -/
def HeadFrame.join (h : HeadFrame) (t : Nat) (m : BitVec 60) : HeadFrame :=
  let new := ((patchesOf m).map (fun i => (t, i))).filter (fun e => !(e ∈ h.order))
  { h with order := h.order ++ new }

/-- Something of the tile's revision has left (R134). -/
def TileFrame.begun (tf : TileFrame) : Bool := tf.sealed || decide (tf.sent ≠ 0)

/-- The patches that a late change adds to the compose work of one tile, and those queued that it takes away: a tile that
nothing more may be sent to is not composed again, and one at revision 15 is given up. -/
def State.tileWork (s : State) (h : HeadFrame) (e : Nat × BitVec 60) : Nat × Nat :=
  match SMap.find h.tiles e.1, SMap.find h.cfg.tiles e.1 with
  | some tf, some d =>
    if h.push && !(s.tileOpen h tf (tdPort d)) then (0, 0)
    else if h.push && tf.begun && decide (15 ≤ tf.rev) then (0, (patchesOf tf.todo).length)
    else
      let all := if tf.begun then tf.mask ||| e.2 else e.2
      ((patchesOf (all &&& ~~~tf.todo)).length, 0)
  | _, _ => (0, 0)

/-- The compose work of a late change of frame `fn` that touches the tiles `l`: everything still queued, and every patch
of the tiles composed again (R134). -/
def State.lateWork (s : State) (fn : Word) (l : List (Nat × BitVec 60)) : Nat :=
  match s.heads.frames.find? (fun g => decide (g.fn = fn)) with
  | none => 0
  | some h =>
    let w := l.map (s.tileWork h)
    s.queuedWork + (w.map (·.1)).sum - (w.map (·.2)).sum

/-- One tile affected by a late change of cause 1 to 3, with the new damage `dmg`; `n` patches are to be composed in all.
Where nothing of the revision was sent, the new damage joins the tile's plan (assumption 110). -/
def State.lateTile (s : State) (cause : Nat) (fn : Word) (t : Nat) (dmg : BitVec 60) (n : Nat) : State :=
  match s.heads.frames.find? (fun g => decide (g.fn = fn)) with
  | none => s
  | some h =>
    match SMap.find h.tiles t, SMap.find h.cfg.tiles t with
    | some tf, some d =>
      let p := tdPort d
      let wider : TileFrame := { tf with mask := tf.mask ||| dmg, todo := tf.todo ||| dmg, plan := tf.plan ||| dmg }
      -- nothing more may be sent for this frame: the damage goes to the next one
      if tf.voided ∨ h.canceled then s.carryOn t dmg
      else if h.push = false then s.setFrame { h.join t dmg with tiles := SMap.put h.tiles t wider }
      else if s.tileOpen h tf p = false then s.carryOn t dmg
      else if tf.begun = false then s.setFrame { h.join t dmg with tiles := SMap.put h.tiles t wider }
      else
        let work := tf.mask ||| dmg
        let fits := !(later (s.clk.dtime + wd (ceilDiv (240 * n) (max 1 s.lanes))) (s.pushBy p fn))
        if fits ∧ tf.rev < 15 then
          let s := s.sendVoid fn t d tf.rev cause true
          let tf' := { tf with rev := tf.rev + 1, mask := work, todo := work, plan := work, sent := 0, sealed := false }
          s.setFrame { h.enqueue t work with tiles := SMap.put h.tiles t tf' }
        else
          let s := s.sendVoid fn t d tf.rev cause false
          let s := s.setFrame { h with tiles := SMap.put h.tiles t { tf with mask := work } }
          s.failTile fn t
    | _, _ => s

/-- The tiles of a frame that some rectangle touches, with the patches touched. -/
def HeadFrame.touched (h : HeadFrame) (rs : List Rect) : List (Nat × BitVec 60) :=
  h.tiles.filterMap (fun e => match SMap.find h.cfg.tiles e.1 with
    | some d => let m := touchedBy d rs; if m == (0 : BitVec 60) then none else some (e.1, m)
    | none => none)

/-- Every tile of a frame that a late change touches: whether they fit is one question for all (R134). -/
def State.lateTiles (s : State) (cause : Nat) (fn : Word) (l : List (Nat × BitVec 60)) : State :=
  let n := s.lateWork fn l
  forEach l (fun e s => s.lateTile cause fn e.1 e.2 n) s

/-- A late change of the configuration of one frame past C: `upd` is the change, and every tile it touches is handled. -/
def State.lateFrame (s : State) (cause : Nat) (upd : State → HeadFrame → FrameCfg) (loaded : List Nat) (fn : Word) : State :=
  match s.heads.frames.find? (fun h => decide (h.fn = fn)) with
  | none => s
  | some h =>
    let c := upd s h
    let dmg := damageOf h.cfg c [] [] [] loaded
    let rs := dmg.rects ++ dmg.privet
    let s := { s with comp := { s.comp with tags := inkKeep h.cfg c [] [] false s.comp.tags } }
    let h := { h with cfg := c }
    (s.setFrame h).lateTiles cause h.fn (h.touched rs)

/-- A late change of the configuration of frame `g` and of every later frame already past C (R25, R134). A frame is taken as
the frames before it leave it: a tile that one of them gave up is void in all that follow (R112). -/
def State.lateChange (s : State) (cause : Nat) (g : Word) (upd : State → HeadFrame → FrameCfg) (loaded : List Nat) : State :=
  let fns := (s.heads.frames.map (·.fn)).filter (fun f => !(earlier f g))
  let s := forEach fns (fun f s => s.lateFrame cause upd loaded f) s
  match s.heads.frames.getLast? with
  | some h => { s with comp := { s.comp with last := some h.cfg } }
  | none => s

/-- The patches planned in frame `h` that read frame `no` of source `n`, by tile. -/
def HeadFrame.readers (h : HeadFrame) (n no : Nat) : List (Nat × BitVec 60) :=
  let rs := (h.cfg.wins.filter (fun e => e.2.visible && !e.2.isFill && decide (e.2.source = n) &&
    decide (SMap.get (fun _ => Shows.fill) h.cfg.shows e.1 = .pick no))).map (fun e => e.2.rect)
  (h.touched rs).filterMap (fun e => match SMap.find h.tiles e.1 with
    | some tf => let m := e.2 &&& tf.plan; if m == (0 : BitVec 60) then none else some (e.1, m)
    | none => none)

/-- Cause 3 (R134): a line-chased frame that a frame used has completed irregular. -/
def State.lateIrregular (s : State) (n no : Nat) : State :=
  if !(s.composes) || !(s.bit (Fld.SRC_CFG_CHASE n)) then s
  else forEach (s.heads.frames.map (·.fn)) (fun fn s =>
    match s.heads.frames.find? (fun h => decide (h.fn = fn)) with
    | some h => if SMap.find h.picks n = some no then s.lateTiles 3 fn (h.readers n no) else s
    | none => s) s

/-- Takes the irregular completions noted by ingest (cause 3). -/
def State.takeIrregular (s : State) : State :=
  let l := s.ingest.irregular
  if l = [] then s
  else
    let s := { s with ingest := { s.ingest with irregular := [] } }
    forEach l (fun e s => s.lateIrregular e.1 e.2) s

/-- Cause 4 (R134, R399 step 2): VOID to every tile for every frame whose T_dec has not passed; nothing further of them is
composed. -/
def State.cancelFrames (s : State) : State :=
  forEach s.heads.frames (fun h s =>
    if h.canceled ∨ s.passed (s.tdec h.fn) = true then s
    else
      let s := forEach (placedTiles h.cfg.tiles) (fun e s =>
        let rev := match SMap.find h.tiles e.1 with | some tf => tf.rev | none => 0
        let s := if h.push then s.sendVoid h.fn e.1 e.2 rev 4 false else s
        let hist := s.histOf e.1
        let m := match SMap.find h.tiles e.1 with | some tf => tf.mask | none => 0
        s.setHist e.1 { hist with carry := hist.carry ||| m, good := hist.good.filter (fun g => earlier g h.fn) }) s
      s.setFrame { h with canceled := true }) s

/-- A HOLD report of a tile (R112, R140, R142): the next frame begun is Full for it. -/
def State.holdReport (s : State) (node : NodeId) : State :=
  let s := s.count Fld.CMP_HOLDRPT_COUNT
  forEach (placedTiles s.comp.tiles) (fun e s =>
    if tdNode e.2 = node.toNat then s.setHist e.1 { s.histOf e.1 with fullDue := true } else s) s

/-! ### Tick boundary of the compositor -/

/-- H_p (R129). -/
def State.hopsOf (s : State) (p : Nat) : Nat :=
  ((placedTiles s.comp.tiles).filter (fun e => decide (tdPort e.2 = p))).foldl (fun m e =>
    max m (match SMap.find s.net.record (tdNode e.2) with | some r => r.hops | none => 2048)) 0

/-- What the compositor updates at a tick start: register views, SWAP bits, lane retirements, hop counts. -/
def State.cmpTick (s : State) (jrn : Nat) : State :=
  if s.role ≠ .head then s
  else
    let s := match s.comp.orderCmd with
      | some v => s.setWord Reg.CMP_PLANE_ORDER (wd v)
      | none => s
    let s := { s with comp := { s.comp with
      winShown := s.comp.windows
      tileShown := s.comp.tiles
      orderCmd := none
      lanesUsed := [] } }
    let s := s.put (⟨Reg.CMP_WIN_COUNT, 14, 0⟩) s.comp.windows.length
    let s := s.put Fld.CMP_TILE_COUNT_COUNT (placedTiles s.comp.tiles).length
    let s := s.putBit Fld.CMP_FILT_CTL_SWAP (!s.comp.filtSwaps.isEmpty)
    let s := s.putBit (⟨Reg.CMP_WLUT_CTL, 16, 16⟩) (!s.comp.wlutSwaps.isEmpty)
    let s := s.putBit Fld.CMP_INK_CTL_INVAL s.comp.inval
    let s := forEach s.comp.retire (fun n s => s.retireLane n) s
    let s := { s with comp := { s.comp with retire := [] } }
    let s := forEach (List.range 4) (fun p s => s.put (Fld.CMP_PUSH_HOPS_HOPS p) (s.hopsOf p)) s
    s.admFigures jrn

/-! ### CMP registers with effects of their own -/

/-- A head with its registers powered. -/
def State.headRegs (s : State) : Bool := decide (s.role = .head) && s.powered

/-- The seven fields hold a permutation of 0 to 6 (R90). -/
def isOrder (v : Word) : Bool := (List.range 7).all (fun p => (List.range 7).any (fun q => decide (bitsOf v.toNat (3 * q) 3 = p)))

/-- CMP_PLANE_ORDER_WRITE (R90): the new order waits for the tick; anything but a permutation sets ORDER_ERR. -/
def doPlaneOrderWrite (v : Word) (s : State) : State :=
  if !(s.headRegs) then s
  else if isOrder v then s.pend Reg.CMP_PLANE_ORDER 0x001FFFFF v
  else s.raise Fld.CMP_STAT_ORDER_ERR

/-- CMP_FILT_SWAP (R98): the value written to CMP_FILT_CTL. The index in effect is that of the write; above 1,151 it acts
as 0. -/
def doFiltSwap (v : Word) (s : State) : State :=
  if !(s.headRegs) then s
  else
    let s := (s.put Fld.CMP_FILT_CTL_SET (wbits v 19 16)).put Fld.CMP_FILT_CTL_INDEX (wbits v 10 0)
    if wbits v 20 20 = 0 then s
    else if wbits v 10 0 ≠ 0 ∧ wbits v 10 0 ≤ 1151 then s.raise Fld.CMP_STAT_FILT_ERR
    else
      let t := wbits v 19 16
      ({ s with comp := { s.comp with filtSwaps := if t ∈ s.comp.filtSwaps then s.comp.filtSwaps else s.comp.filtSwaps ++ [t] } }).raise
        Fld.CMP_FILT_CTL_SWAP

/-- CMP_FILT_DATA: the shadow coefficient in effect, and INDEX advancing with the wrap from 1,151 to 0. -/
def State.filtIndex (s : State) : Nat :=
  let i := s.get Fld.CMP_FILT_CTL_INDEX
  if 1151 < i then 0 else i

def State.filtAdvance (s : State) : State := s.put Fld.CMP_FILT_CTL_INDEX ((s.filtIndex + 1) % 1152)

/-- A read of CMP_FILT_DATA. -/
def State.readFiltData (s : State) : Word × State :=
  let k := 1152 * s.get Fld.CMP_FILT_CTL_SET + s.filtIndex
  (wd (unsigned 12 (SMap.get filtReset s.comp.filtShadow k)), s.filtAdvance)

/-- A write of CMP_FILT_DATA. -/
def State.writeFiltData (s : State) (v : Word) : State :=
  let k := 1152 * s.get Fld.CMP_FILT_CTL_SET + s.filtIndex
  ({ s with comp := { s.comp with filtShadow := SMap.set filtReset s.comp.filtShadow k (signed 12 v.toNat) } }).filtAdvance

/-- CMP_FILT_DATA_ACCESS: a write carries the value, a read none. -/
def doFiltData (w : Option Word) (s : State) : State :=
  if !(s.headRegs) then s
  else match w with
    | some v => s.writeFiltData v
    | none => let (v, s) := s.readFiltData; s.emit (.readValue Reg.CMP_FILT_DATA v)

/-- CMP_WLUT_SWAP (R109): the value written to CMP_WLUT_CTL. -/
def doWlutSwap (v : Word) (s : State) : State :=
  if !(s.headRegs) then s
  else
    let s := if wbits v 17 17 = 1 then s.put Fld.CMP_WLUT_CTL_ERR 0 else s
    let s := (s.put (⟨Reg.CMP_WLUT_CTL, 12, 12⟩) (wbits v 12 12)).put (⟨Reg.CMP_WLUT_CTL, 11, 0⟩) (wbits v 11 0)
    if wbits v 16 16 = 0 then s
    else
      let t := wbits v 12 12
      ({ s with comp := { s.comp with wlutSwaps := if t ∈ s.comp.wlutSwaps then s.comp.wlutSwaps else s.comp.wlutSwaps ++ [t] } }).raise
        (⟨Reg.CMP_WLUT_CTL, 16, 16⟩)

/-- The wire table entry in effect: for WT[0], indices above 1,023 act as 0. -/
def State.wlutKey (s : State) : Nat :=
  let t := s.get (⟨Reg.CMP_WLUT_CTL, 12, 12⟩)
  let i := s.get (⟨Reg.CMP_WLUT_CTL, 11, 0⟩)
  4096 * t + (if t = 0 ∧ 1023 < i then 0 else i)

/-- INDEX after a data access (*CMP_WLUT_CTL*): the entry in effect plus one; for WT[0] it wraps after 1,023. -/
def State.wlutAdvance (s : State) : State :=
  let k := s.wlutKey
  s.put (⟨Reg.CMP_WLUT_CTL, 11, 0⟩) (k % 4096 + 1)

def State.readWlutData (s : State) : Word × State :=
  (wd (SMap.get wlutReset s.comp.wlutShadow s.wlutKey), s.wlutAdvance)

def State.writeWlutData (s : State) (v : Word) : State :=
  ({ s with comp := { s.comp with wlutShadow := SMap.set wlutReset s.comp.wlutShadow s.wlutKey (wbits v 19 0) } }).wlutAdvance

/-- CMP_WLUT_DATA_ACCESS. -/
def doWlutData (w : Option Word) (s : State) : State :=
  if !(s.headRegs) then s
  else match w with
    | some v => s.writeWlutData v
    | none => let (v, s) := s.readWlutData; s.emit (.readValue Reg.CMP_WLUT_DATA v)

/-- CMP_INK_INVAL (R117): the value written to CMP_INK_CTL. EN is kept while any window exists, BASE while EN is 1. -/
def doInkInval (v : Word) (s : State) : State :=
  if !(s.headRegs) then s
  else
    let en := s.bit Fld.CMP_INK_CTL_EN
    let s := if s.comp.windows = [] then s.put Fld.CMP_INK_CTL_EN (wbits v 31 31) else s
    let s := if en then s else s.put Fld.CMP_INK_CTL_BASE (wbits v 15 0)
    if wbits v 30 30 = 1 then
      ({ s with comp := { s.comp with inval := true } }).raise Fld.CMP_INK_CTL_INVAL
    else s

/-- The pair of a lead and an ADV in µs keeps the first sentence of R128. -/
def State.leadOk (s : State) (lead adv : Nat) : Bool :=
  decide (adv * 1000 ≤ s.tickInt) && decide (2 * (lead + adv * 1000) ≤ 3 * s.tickInt)

/-- CMP_RUNAHEAD_WRITE (R128): checked against the lead in effect, also while a LEAD_SET waits (assumption 108). -/
def doRunahead (v : Word) (s : State) : State :=
  if !(s.headRegs) then s
  else if s.leadOk (s.get Fld.TIME_LEAD_NS) (wbits v 15 0) then s.pend Reg.CMP_RUNAHEAD 0xFFFF v
  else s.raise Fld.CMP_CMT_STAT_RA_ERR

end Sys2Proof.Machine
end

