-- ==== Sys2Proof/Machine/TileFrame.lean ====
section
/-! DEFINITION. A tile's frames (R136 to R141) and the comparison of two streams (R264, R272 to R276). -/

namespace Sys2Proof.Machine

/-- The stream of head `h`: 0 HEADA, 1 HEADB. -/
def State.stream (s : State) (h : Nat) : Stream := if h = 0 then s.tile.strA else s.tile.strB

/-- Changes the stream of head `h`. -/
def State.setStream (s : State) (h : Nat) (t : Stream) : State :=
  if h = 0 then { s with tile := { s.tile with strA := t } } else { s with tile := { s.tile with strB := t } }

/-- Node ID of head `h` (RED_TILE_CFG). -/
def State.headOf (s : State) (h : Nat) : NodeId :=
  BitVec.ofNat 16 (if h = 0 then s.get Fld.RED_TILE_CFG_HEADA else s.get Fld.RED_TILE_CFG_HEADB)

/-- The head followed. -/
def State.follow (s : State) : Nat := s.get Fld.RED_TILE_STAT_FOLLOW

/-- The head whose stream fills the slots for frame `fn`: the one followed, or the one that a RED_TILE whose frame is not
past `fn` names (R270). -/
def State.streamFor (s : State) (fn : Word) : Nat :=
  s.cmds.accepted.foldl (fun h (a : Accepted) =>
    if a.opcode = opRED_TILE ∧ later a.tick fn = false then wbits (nth a.cmd.params 1) 0 0 else h) s.follow

/-- The heads a tile names. -/
def State.tileHeads (s : State) : List Nat := (List.range 2).filter (fun h => s.headOf h ≠ 0)

/-- A frame nothing has come of. -/
def RecFrame.empty (fn : Word) : RecFrame := ⟨fn, 0, 0, none, [], none⟩

/-- What has come of frame `fn` in a stream. -/
def Stream.recOf (t : Stream) (fn : Word) : Option RecFrame := t.recs.find? (fun r => decide (r.fn = fn))

/-- Stores what has come of a frame. -/
def Stream.setRec (t : Stream) (r : RecFrame) : Stream :=
  { t with recs := t.recs.filter (fun q => decide (q.fn ≠ r.fn)) ++ [r] }

/-- Patches of the field, as a list. -/
def State.field (s : State) : List Nat := fieldPatches s.wq s.hq

/-- The patches of a frame whose payload is held: the other head's PATCHes leave none (R272). -/
def RecFrame.held (r : RecFrame) : RecFrame := { r with patches := r.patches.filter (fun e => decide (e.2.codes ≠ [])) }

/-- Patches held with a correct SIG. -/
def RecFrame.good (r : RecFrame) : List Nat := (r.patches.filter (fun e => !(e.2.bad))).map (·.1)

/-- The SEAL held is of the revision being filled and not voided. -/
def RecFrame.sealOk (r : RecFrame) : Bool :=
  match r.sealBy with
  | some (rev, _, _) => decide (rev = r.rev) && (match r.void with | some v => decide (v < rev) | none => true)
  | none => false

/-- "Complete" of R138. -/
def RecFrame.complete (r : RecFrame) : Bool :=
  r.sealOk && (match r.sealBy with | some (_, c, _) => decide (r.good.length = c) | none => false)

/-- Index of the slot of frame `fn`. -/
def State.slotOf (s : State) (fn : Word) : Option Nat :=
  (List.range 3).find? (fun i => match s.tile.slots[i]? with
    | some q => decide (q.st = 1 ∨ q.st = 2) && decide (q.fn = fn)
    | none => false)

/-- Sets a slot. -/
def State.setSlot (s : State) (i : Nat) (q : Slot) : State :=
  { s with tile := { s.tile with slots := setAt s.tile.slots i q } }

/-- REV, SEALED, ANNOUNCED and COUNT of what a slot holds of a frame. -/
def RecFrame.view (r : RecFrame) : SlotView :=
  ⟨r.rev * 2 ^ 26 + (if r.sealOk then 2 ^ 25 else 0) + r.count * 2 ^ 6, r.good.length⟩

/-- What a slot shows of its frame. From the decision on it goes on showing the revision it held at the decision, as SHOWN too
(assumption 111). -/
def State.slotView (s : State) (q : Slot) : SlotView :=
  if q.st = 1 ∨ q.st = 2 then
    match (s.stream (s.streamFor q.fn)).recOf q.fn, s.tile.waiting with
    | some r, _ => r.held.view
    | none, some d => if d.fn = q.fn then d.kept else (RecFrame.empty q.fn).view
    | none, none => (RecFrame.empty q.fn).view
  else if q.st = 3 then q.kept
  else ⟨0, 0⟩

/-- Updates SCN_SLOT, SCN_SLOT_RECV and SCN_SLOT_FN from the slots. -/
def State.slotRegs (s : State) : State :=
  forEach (List.range 3) (fun i s =>
    match s.tile.slots[i]? with
    | none => s
    | some q =>
      let v := s.slotView q
      let s := s.setWord (Reg.SCN_SLOT i) (wd (q.st * 2 ^ 30 + v.low))
      let s := s.setWord (Reg.SCN_SLOT_RECV i) (wd v.recv)
      s.setWord (Reg.SCN_SLOT_FN i) (if q.st = 0 then 0 else q.fn)) s

/-- Counts a drop of R137. -/
def State.dropPkt (s : State) (f : Fld) : State := ((s.count f).raise Fld.SCN_CMT_INT_DROP).tally 0x104

/-- The head whose stream a packet belongs to, by SRC and HEADID (R264). -/
def State.streamOf (s : State) (src : NodeId) (headid : Nat) : Option Nat :=
  if headid = 0 ∧ s.headOf 0 = src ∧ src ≠ 0 then some 0
  else if headid = 1 ∧ s.headOf 1 = src ∧ src ≠ 0 then some 1
  else none

/-- The decision for frame `fn` has been taken. -/
def State.decidedFor (s : State) (fn : Word) : Bool :=
  s.passed (s.tdec fn) || (match s.tile.decided with | some d => !(later fn d) | none => false)

/-- A packet for frame `fn` arrives more than 1.5 ticks before T_show (R137). -/
def State.tooEarly (s : State) (fn : Word) : Bool :=
  later (s.tshow fn) s.clk.dtime && decide (3 * s.tickInt < 2 * (s.tshow fn - s.clk.dtime).toNat)

/-- The checks of R137 on the instants of a PATCH or SEAL: true when the packet goes on. -/
def State.instantOk (s : State) (fn tshow : Word) : Bool × State :=
  if s.decidedFor fn then (false, s.dropPkt Fld.SCN_DROPCNT_LATE)
  else if s.tooEarly fn then (false, s.dropPkt Fld.SCN_DROPCNT_EARLY)
  else if tshow ≠ s.tshow fn then (false, s.dropPkt Fld.SCN_DROPCNT_TSHOW)
  else (true, s)

/-- Finds or takes a slot for a frame of the followed head (R136, R137): false when it would need a fourth slot, or a third
one for a frame not shown (assumption 112). -/
def State.takeSlot (s : State) (fn : Word) : Bool × State :=
  match s.slotOf fn with
  | some _ => (true, s)
  | none =>
    let busy := (s.tile.slots.filter (fun q => decide (q.st = 1 ∨ q.st = 2))).length
    match (List.range 3).find? (fun i => match s.tile.slots[i]? with | some q => decide (q.st = 0) | none => false) with
    | some i => if busy < 2 then (true, s.setSlot i ⟨1, fn, ⟨0, 0⟩⟩) else (false, s.dropPkt Fld.SCN_DROPCNT_NOSLOT)
    | none => (false, s.dropPkt Fld.SCN_DROPCNT_NOSLOT)

/-- Moves the slot of a frame between FILLING and PENDING (*Table — Slot transitions*). -/
def State.slotState (s : State) (r : RecFrame) : State :=
  match s.slotOf r.fn with
  | some i => s.setSlot i ⟨if r.held.complete then 2 else 1, r.fn, ⟨0, 0⟩⟩
  | none => s

/-- Starts revision `rev` when it is higher than the one being filled (R137). -/
def RecFrame.raiseRev (r : RecFrame) (rev : Nat) : RecFrame :=
  if r.rev < rev then { r with rev := rev, patches := [], count := 0 } else r

/-- Revisions a frame still takes (R137): not voided, not below the one being filled. -/
def RecFrame.takes (r : RecFrame) (rev : Nat) : Bool :=
  decide (r.rev ≤ rev) && (match r.void with | some v => decide (v < rev) | none => true)

/-- A packet for frame `fn` has come from head `h` (R140): `top` is 1 above the REV of a PATCH or SEAL, 0 for a VOID. -/
def State.hear (s : State) (h : Nat) (fn : Word) (top : Nat) : State :=
  if s.decidedFor fn then s
  else
    let old := s.tile.heard.find? (fun e => decide (e.1 = h) && decide (e.2.1 = fn))
    let rest := s.tile.heard.filter (fun e => !(decide (e.1 = h) && decide (e.2.1 = fn)))
    { s with tile := { s.tile with heard := rest ++ [(h, fn, match old with | some e => max e.2.2 top | none => top)] } }

/-- Frames run in this state: READY, ACTIVE, DIM and PARK of a tile (R138). -/
def State.tileRuns (s : State) : Bool := decide (s.role = .tile) && s.running

/-- PATCH_RECEIVED at the tile it is for (R137, R216, R264, R272). `b` is the plain body. -/
def State.takePatch (s : State) (port : Nat) (src : NodeId) (b : List Word) : State :=
  let w2 := nth b 2
  let fn := nth b 0
  let rev := wbits w2 31 28
  let i := wbits w2 27 22
  let fmt := wbits w2 10 9
  let cfg := s.get Fld.COR_CFG_FMT
  match s.streamOf src (wbits w2 13 13) with
  | none => s.count Fld.RED_TILE_DROP_COUNT
  | some h =>
    let s := s.hear h fn (rev + 1)
    if fmt ≠ (if cfg = 3 then 1 else cfg) then (s.count Fld.COR_FMTCNT_COUNT).raise Fld.COR_INT_FMT
    else if !(i ∈ s.field) then s
    -- a tile without a schedule drops every PATCH as TSHOW (R199)
    else if s.bit Fld.TIME_SCHED_STAT_HELD = false then s.dropPkt Fld.SCN_DROPCNT_TSHOW
    else
      let (ok, s) := s.instantOk fn (nth b 1)
      if !ok then s
      else
        let r0 := ((s.stream h).recOf fn).getD (RecFrame.empty fn)
        if !(r0.takes rev) then s
        else
          let fills := decide (h = s.streamFor fn)
          let (ok, s) := if fills then s.takeSlot fn else (true, s)
          if !ok then s
          else
            let r := r0.raiseRev rev
            let payload := b.drop 5
            let sig := (nth b 3).toNat * 2 ^ 32 + (nth b 4).toNat
            let bad := decide (crc64 (wireStream payload) ≠ sig)
            let new : TilePatch := ⟨sig, wbits w2 14 14 = 1, bad, if fills && s.bankHolds 0 then unpackCodes (fmtBits fmt) payload else []⟩
            let p := match SMap.find r.patches i with
              | some old =>
                if old.sig ≠ sig then { old with bad := true }
                -- a SIG kept of the head not followed brings its payload now that the head is followed
                else if fills && decide (old.codes = []) then { new with bad := old.bad || bad } else old
              | none => new
            let r := { r with
              patches := SMap.put r.patches i p
              count := match r.sealBy with | some (q, c, _) => if q = rev then c else wbits w2 21 15 | none => wbits w2 21 15 }
            let s := (s.setStream h ((s.stream h).setRec r)).tallyOf 0x103 1 port
            if fills then (s.slotState r).slotRegs else s

/-- SEAL_RECEIVED at the tile it is for (R136, R137). -/
def State.takeSeal (s : State) (src : NodeId) (b : List Word) : State :=
  let w2 := nth b 2
  let fn := nth b 0
  let rev := wbits w2 31 28
  match s.streamOf src (wbits w2 20 20) with
  | none => s.count Fld.RED_TILE_DROP_COUNT
  | some h =>
    let s := s.hear h fn (rev + 1)
    let (ok, s) := s.instantOk fn (nth b 1)
    if !ok then s
    else
      let r0 := ((s.stream h).recOf fn).getD (RecFrame.empty fn)
      if !(r0.takes rev) then s
      else
        let fills := decide (h = s.streamFor fn)
        let (ok, s) := if fills then s.takeSlot fn else (true, s)
        if !ok then s
        else
          let r := r0.raiseRev rev
          let r := { r with sealBy := some (rev, wbits w2 27 21, nth b 3), count := wbits w2 27 21 }
          let s := s.setStream h ((s.stream h).setRec r)
          if fills then (s.slotState r).slotRegs else s

/-- VOID_RECEIVED at the tile it is for (R136 to R138). One more than 1.5 ticks before T_show is dropped and counted EARLY like
a PATCH (assumption 146). -/
def State.takeVoid (s : State) (src : NodeId) (b : List Word) : State :=
  let w := nth b 1
  let fn := nth b 0
  let rev := wbits w 31 28
  match s.streamOf src (wbits w 27 27) with
  | none => s.count Fld.RED_TILE_DROP_COUNT
  | some h =>
    let s := s.hear h fn 0
    let r := ((s.stream h).recOf fn).getD (RecFrame.empty fn)
    if s.decidedFor fn then s.dropPkt Fld.SCN_DROPCNT_LATE
    else if s.tooEarly fn then s.dropPkt Fld.SCN_DROPCNT_EARLY
    -- after a VOID(F, r') every packet for F of revision r' or lower is ignored, a further VOID too
    else if (match r.void with | some v => decide (rev ≤ v) | none => false) then s
    else
      let r := { r with void := some (match r.void with | some v => max v rev | none => rev) }
      let s := s.setStream h ((s.stream h).setRec r)
      let s := s.raise Fld.SCN_CMT_INT_VOID
      if h = s.streamFor fn then (s.slotState r).slotRegs else s

def doPatchReceived (x : Rx) (s : State) : State :=
  s.receive x (fun b s => if s.tileRuns && decide (x.type.toNat = tyPATCH) then s.takePatch x.port.val x.src b else s)

def doSealReceived (x : Rx) (s : State) : State :=
  s.receive x (fun b s => if s.tileRuns && decide (x.type.toNat = tySEAL) then s.takeSeal x.src b else s)

def doVoidReceived (x : Rx) (s : State) : State :=
  s.receive x (fun b s => if s.tileRuns && decide (x.type.toNat = tyVOID) then s.takeVoid x.src b else s)

/-! ### The decision (R138, R139, R273) -/

/-- Reasons of a hold (SCN_CMT_STAT.REASON). -/
def rsNOSEAL : Nat := 0
def rsVOIDED : Nat := 1
def rsMISSING : Nat := 2
def rsBADSIG : Nat := 3
def rsBASE : Nat := 4
/-- No reason: a node in the hold state holds a frame it would otherwise commit (R401; assumption 122). -/
def rsNONE : Nat := 7

/-- Row 3 of *Table — Commit decision*: SHOWN holds frame BASE, with the further conditions of R273 when the tile has two
heads. -/
def State.baseHeld (s : State) (h : Nat) (r : RecFrame) (base : Word) : Bool :=
  decide (s.tile.shownFn = some base) &&
    (if s.headOf 1 = 0 then true
     else
      let t := s.stream h
      decide (t.lastf = some base) && s.field.all (fun i =>
        (SMap.find r.patches i).isSome ||
          decide (SMap.find s.tile.shownSig i = (SMap.find t.sigtab i).map (·.1))))

/-- The SEAL held is voided: VOID(F, r') with r' at or above its revision has come. -/
def RecFrame.sealVoid (r : RecFrame) : Bool :=
  match r.sealBy, r.void with
  | some (rev, _, _), some v => decide (rev ≤ v)
  | _, _ => false

/-- Row 1 of *Table — Commit decision*: without a SEAL, the frame counts as voided when all that came of it is. -/
def RecFrame.row1 (r : RecFrame) : Option Nat :=
  match r.sealBy, r.void with
  | some _, _ => if r.sealVoid then some rsVOIDED else none
  | none, some v => some (if r.rev ≤ v then rsVOIDED else rsNOSEAL)
  | none, none => some rsNOSEAL

/-- The row of *Table — Commit decision* that applies, as (LAST, REASON): 0 commit, 1 partial commit, 2 hold. -/
def State.decideRow (s : State) (h : Nat) (r : RecFrame) : Nat × Nat :=
  let patchwise := s.bit Fld.SCN_CMT_CFG_POLICY
  let soft := if patchwise then 1 else 2
  match r.row1, r.sealBy with
  | some reason, _ => (2, reason)
  | none, none => (2, rsNOSEAL)
  | none, some (_, c, base) =>
    if r.complete then
      if c = s.field.length then (0, 0)
      else if s.baseHeld h r base then (0, 0)
      else (soft, rsBASE)
    else if r.patches.any (fun e => e.2.bad) then (soft, rsBADSIG)
    else (soft, rsMISSING)

/-- The committed frame (R139): the SHOWN slot with the patches of F that are held with a correct SIG. -/
def State.buildFrame (s : State) (r : RecFrame) : SMap (List Nat) :=
  r.patches.foldl (fun m e => if e.2.bad then m else SMap.put m e.1 e.2.codes) s.tile.shown

/-- Sends an EVT whose FN word is `fn`. -/
def State.sendEvtFn (s : State) (h : NodeId) (code : Nat) (fn : Word) (params : List Word) : State :=
  let q := (lookup 0 s.net.eseqOut h + 1) % 2 ^ 16
  let s := { s with net := { s.net with eseqOut := assoc s.net.eseqOut h q } }
  s.sendTo tyEVT h ([wd (code * 2 ^ 16 + q), s.clk.dtime, fn] ++ params)

/-- A 60-bit mask as two words, bits [59:32] first. -/
def maskWords (m : BitVec 60) : List Word := [wd (m.toNat / 2 ^ 32), wd m.toNat]

/-- Heads from which a packet for `fn` has come (R140), dropped or not. -/
def State.heardFrom (s : State) (fn : Word) : List Nat := (List.range 2).filter (fun h =>
  s.tile.heard.any (fun e => decide (e.1 = h) && decide (e.2.1 = fn)))

/-- The HOLD report (R140): none for VOIDED, none in the hold state (R401). -/
def State.reportHold (s : State) (fn : Word) (reason : Nat) (missing : BitVec 60) : State :=
  if reason = rsVOIDED ∨ s.bit Fld.SYS_FAULT_STAT_HOLD = true then s
  else forEach (s.heardFrom fn) (fun h s =>
    if s.headOf h = 0 then s else s.sendEvtFn (s.headOf h) 0x0001 fn (wd reason :: maskWords missing)) s

/-- The records of R272 for one head at T_dec(F). -/
def State.updateStream (s : State) (h : Nat) (fn : Word) : State :=
  let t := s.stream h
  -- packets that the tile dropped were sent too
  let sent := match s.tile.heard.find? (fun e => decide (e.1 = h) && decide (e.2.1 = fn)) with | some e => e.2.2 | none => 0
  let t' := match t.recOf fn with
    | none => if sent = 0 then t else { t with lastf := none }
    | some r =>
      if r.complete then
        match r.sealBy with
        | some (_, c, base) =>
          if c = s.field.length ∨ t.lastf = some base then
            { t with sigtab := r.patches.foldl (fun m e => SMap.put m e.1 (e.2.sig, e.2.under)) t.sigtab, lastf := some fn }
          else { t with lastf := none }
        | none => t
      else
        let voided := match r.void with | some v => decide (max sent (r.rev + 1) ≤ v + 1) | none => false
        if voided then t else { t with lastf := none }
  let s := s.setStream h t'
  match t'.lastf with
  | some f => (s.setWord (Reg.RED_LASTF h) f).raise (if h = 0 then Fld.RED_TILE_STAT_VALIDA else Fld.RED_TILE_STAT_VALIDB)
  | none => s.put (if h = 0 then Fld.RED_TILE_STAT_VALIDA else Fld.RED_TILE_STAT_VALIDB) 0

/-- Failover (R274). -/
def State.failover (s : State) (fn : Word) (last reason : Nat) (mine other : Bool) : State :=
  if s.headOf 1 = 0 then s
  else if last ≠ 0 ∧ (reason = rsNOSEAL ∨ reason = rsMISSING ∨ reason = rsBADSIG) ∧ other = true then
    let f := 1 - s.follow
    let s := s.put Fld.RED_TILE_STAT_FOLLOW f
    let s := { s with saved := { s.saved with follow := decide (f = 1) } }
    let s := { s with tile := { s.tile with slots := s.tile.slots.map (fun (q : Slot) => if q.st = 3 then q else .free) } }
    let s := ((s.count Fld.RED_FAILCNT_FAILOVER).raise Fld.RED_TILE_INT_FAILOVER).tally 0x109
    let s := forEach s.tileHeads (fun h s => s.sendEvt (s.headOf h) 0x0302 [fn, wd (s.headOf f).toNat]) s
    s.logBlot blkRED 1 clsINFO fn.toNat (s.headOf f).toNat
  else if mine = true ∧ other = false then s.count Fld.RED_FAILCNT_OTHERMISS
  else s

/-- Divergence of the two streams (R276). -/
def State.diverge (s : State) (fn : Word) : State :=
  let a := s.tile.strA
  let b := s.tile.strB
  if a.lastf = some fn ∧ b.lastf = some fn then
    let pair (i : Nat) := ((SMap.find a.sigtab i).getD (0, false), (SMap.find b.sigtab i).getD (0, false))
    let skip := s.field.filter (fun i => (pair i).1.2 || (pair i).2.2)
    let diff := s.field.filter (fun i => !((pair i).1.2 || (pair i).2.2) && decide ((pair i).1.1 ≠ (pair i).2.1))
    let s := s.count Fld.RED_DIVFR_UNDERSKIP skip.length
    if diff = [] then s
    else
      let s := forEach s.tileHeads (fun h s => s.sendEvt (s.headOf h) 0x0303 (fn :: maskWords (maskOf diff))) s
      (s.count Fld.RED_DIVFR_FRAMES).raise Fld.RED_TILE_INT_DIVERGE
  else s

/-- The frame whose decision comes next. In the first tick since BOOT there is no frame of a tick before it. -/
def State.nextDecision (s : State) : Word :=
  let fs := (if s.clk.prev.isSome then [s.clk.fn - 1] else []) ++ [s.clk.fn, s.clk.fn + 1, s.clk.fn + 2]
  (fs.find? (fun f => !(earlier (s.tdec f) s.clk.dtime) &&
    (match s.tile.decided with | some d => later f d | none => true))).getD (s.clk.fn + 2)

/-- The commit decision for frame `fn` at T_dec (R138 to R141, R272 to R276). -/
def State.takeDecision (s : State) (fn : Word) : State :=
  let h := s.follow
  let hold := s.bit Fld.SYS_FAULT_STAT_HOLD
  let r := (((s.stream h).recOf fn).getD (RecFrame.empty fn)).held
  let o := ((s.stream (1 - h)).recOf fn).getD (RecFrame.empty fn)
  let mine := r.complete
  let row := s.decideRow h r
  let (last, reason) := if hold then (2, if row.1 = 0 then rsNONE else row.2) else row
  let taken := if last = 2 then [] else r.good
  let missing := maskOf (s.field.filter (fun i => !(i ∈ taken)))
  let built := if last = 2 then none else some (s.buildFrame r, h)
  let newSig := if last = 2 then s.tile.shownSig
    else r.patches.foldl (fun m e => if e.2.bad then m else SMap.put m e.1 e.2.sig) s.tile.shownSig
  -- slots (R136)
  let slots := if last = 2 then s.tile.slots.map (fun q => if q.fn = fn ∧ q.st ≠ 3 then .free else q) else s.tile.slots
  let s := s.tally (if last = 0 then 0x100 else if last = 1 then 0x102 else 0x101)
  let s := if last = 0 then s
    else if last = 1 then (s.count (Fld.SCN_HOLDCNT_COUNT 5)).raise Fld.SCN_CMT_INT_PARTIAL
    else (if reason = rsNONE then s else s.count (Fld.SCN_HOLDCNT_COUNT reason)).raise Fld.SCN_CMT_INT_HOLD
  let s := if last = 0 then s else s.reportHold fn reason missing
  let s := s.updateStream 0 fn
  let s := s.updateStream 1 fn
  let s := { s with tile := { s.tile with
    slots := slots
    shownSig := newSig
    decided := some fn
    lastOk := s.tile.thisCommit
    thisCommit := decide (last = 0)
    thisOk := decide (last = 0) && (match r.sealBy with | some (_, c, _) => decide (1 ≤ c) | none => false)
    waiting := some ⟨fn, last, reason, built, r.view⟩
    heard := s.tile.heard.filter (fun e => later e.2.1 fn) } }
  let s := s.failover fn last reason mine o.complete
  let s := s.diverge fn
  let drop (t : Stream) : Stream := { t with recs := t.recs.filter (fun q => later q.fn fn) }
  let s := { s with tile := { s.tile with strA := drop s.tile.strA, strB := drop s.tile.strB } }
  s.slotRegs

/-- SHOW (R26, R136, R138, R139): at T_show of the frame last decided, the registers are updated and, after a commit, the
slots rotate. -/
def doShow (s : State) : State :=
  if !(s.tileRuns) then s
  else match s.tile.waiting with
  | none => s
  | some d =>
    let s := s.advanceTo (s.tshow d.fn)
    let s := s.put Fld.SCN_CMT_STAT_LAST d.last
    let s := if d.last = 0 ∨ d.reason = rsNONE then s else s.put Fld.SCN_CMT_STAT_REASON d.reason
    let s := { s with tile := { s.tile with waiting := none, played := d.fn } }
    match d.built with
    | none => s.slotRegs
    | some (m, h) =>
      let s := ((s.put Fld.SCN_CMT_STAT_HEADID h).raise Fld.SCN_CMT_STAT_SHOWN_VALID).setWord Reg.SCN_SHOWN_FN d.fn
      -- the slot of F becomes SHOWN and the slot shown before becomes FREE
      let free := s.tile.slots.map (fun q => if q.st = 3 then Slot.free else q)
      let i := match s.slotOf d.fn with
        | some i => i
        | none => ((List.range 3).find? (fun j => match free[j]? with | some q => decide (q.st = 0) | none => false)).getD 0
      let s := { s with tile := { s.tile with slots := setAt free i ⟨3, d.fn, d.kept⟩, shown := m, shownFn := some d.fn } }
      s.slotRegs

/-- The slots of frame `fn` and later ones are freed: another head fills them from now on (R270, R274). -/
def State.freeFrom (s : State) (fn : Word) : State :=
  ({ s with tile := { s.tile with
    slots := s.tile.slots.map (fun (q : Slot) => if q.st = 3 ∨ later fn q.fn = true then q else .free) } }).slotRegs

/-- A tile frees its FILLING and PENDING slots (R399, step 2). -/
def State.freeSlots (s : State) : State :=
  let drop (t : Stream) : Stream := { t with recs := [] }
  ({ s with tile := { s.tile with
    slots := s.tile.slots.map (fun (q : Slot) => if q.st = 3 then q else .free)
    strA := drop s.tile.strA
    strB := drop s.tile.strB } }).slotRegs

end Sys2Proof.Machine
end

