-- ==== Sys2Proof/Machine/Flags.lean ====
section
/-! DEFINITION. The interrupt lines: the level of every ICU source (*Table — Interrupt sources*), which source is
presented to a processor (R355), and the priority stacks. -/

namespace Sys2Proof.Machine

/-- A block interrupt line: an enabled bit of the block's interrupt register is set. -/
def State.lineOf (s : State) (int en : Nat) : Bool := (s.word int &&& s.word en) != 0

/-- PCI_CH_STAT[c].STOP, the input of sources 40 to 44. -/
def State.chStop (s : State) (c : Nat) : Bool := s.bit (Fld.PCI_CH_STAT_STOP c)

/-- A W1C status bit of some source is set. -/
def State.srcEvent (s : State) : Bool := (List.range 64).any (fun n => (s.word (Reg.SRC_STAT n) &&& 0x0001FF10#32) != 0)

/-- The level of the input of source `n`. PWR, NVM and SEC have no interrupt register, so their inputs stay low. -/
def State.icuInput (s : State) (n : Nat) : Bool :=
  match n with
  | 9 => s.lineOf Reg.THM_INT Reg.THM_INT_EN
  | 10 => s.lineOf Reg.TIME_INT Reg.TIME_INT_EN
  | 11 => s.lineOf Reg.MEM_INT Reg.MEM_INT_EN
  | 12 => s.lineOf Reg.DMC_INT Reg.DMC_INT_EN
  | 15 => s.lineOf Reg.CPC_INT Reg.CPC_INT_EN
  | 16 => s.lineOf Reg.PMU_INT Reg.PMU_INT_EN
  | 17 => s.lineOf Reg.UPD_INT Reg.UPD_INT_EN
  | 18 => s.lineOf Reg.RED_INT Reg.RED_INT_EN
  | 19 => s.lineOf Reg.RED_TILE_INT Reg.RED_TILE_INT_EN
  | 20 => s.lineOf Reg.JRN_INT Reg.JRN_INT_EN
  | 21 => s.lineOf Reg.CMP_INT Reg.CMP_INT_EN
  | 22 => s.lineOf Reg.SCN_INT Reg.SCN_INT_EN
  | 23 => s.lineOf Reg.SCN_CMT_INT Reg.SCN_CMT_INT_EN
  | 24 => s.lineOf Reg.COR_INT Reg.COR_INT_EN
  | 25 => s.lineOf Reg.DRV_INT Reg.DRV_INT_EN
  | 45 => s.srcEvent
  | n =>
    if 32 ≤ n ∧ n ≤ 35 then s.lineOf (Reg.LNK_INT (n - 32)) (Reg.LNK_INT_EN (n - 32))
    else if 36 ≤ n ∧ n ≤ 39 then s.lineOf (Reg.LNK_NET_INT (n - 36)) (Reg.LNK_NET_INT_EN (n - 36))
    else if 40 ≤ n ∧ n ≤ 44 then s.chStop (n - 40)
    else false

/-- Level sources: the block sources; 26 is an edge and the rest are software (*Table — Interrupt sources*). -/
def icuLevel (n : Nat) : Bool := (decide (8 ≤ n) && decide (n ≤ 25)) || (decide (32 ≤ n) && decide (n ≤ 45))

/-- Source `n` is pending: its pending bit, or the input of a level source (R357). -/
def State.icuPend (s : State) (n : Nat) : Bool :=
  s.bit (Fld.ICU_SRC_PEND n) || (icuLevel n && s.icuInput n)

/-- The priority stack of processor `p`, top first. -/
def State.icuStack (s : State) (p : Nat) : List Nat := if p = 0 then s.icu.stack0 else s.icu.stack1

/-- The running level (R355). -/
def State.icuRunning (s : State) (p : Nat) : Nat := (s.icuStack p).headD 0

/-- Source `n` meets the three conditions of R355 for processor `p`. -/
def State.icuQualifies (s : State) (p n : Nat) : Bool :=
  s.icuPend n && s.bit (Fld.ICU_SRC_EN n) && decide (s.get (Fld.ICU_SRC_TGT n) = p) &&
    decide (s.get (Fld.ICU_THR_THR p) < s.get (Fld.ICU_SRC_PRIO n)) &&
    decide (s.icuRunning p < s.get (Fld.ICU_SRC_PRIO n))

/-- The best of two candidates: the higher priority, then the lower number. -/
def State.icuBest (s : State) (p : Nat) (l : List Nat) (best : Option Nat) : Option Nat :=
  match l with
  | [] => best
  | n :: t =>
    let b := if s.icuQualifies p n then
        match best with
        | none => some n
        | some m => if s.get (Fld.ICU_SRC_PRIO m) < s.get (Fld.ICU_SRC_PRIO n) then some n else some m
      else best
    State.icuBest s p t b

/-- The source presented to processor `p` (R355). -/
def State.icuPresented (s : State) (p : Nat) : Option Nat := s.icuBest p (List.range 256) none

/-- The INT_N ball is low (*Table — Signals*): processor 1 has a pending source above its threshold. -/
def State.intLow (s : State) : Bool :=
  (List.range 256).any (fun n => s.icuPend n && s.bit (Fld.ICU_SRC_EN n) && decide (s.get (Fld.ICU_SRC_TGT n) = 1) &&
    decide (s.get (Fld.ICU_THR_THR 1) < s.get (Fld.ICU_SRC_PRIO n)))

/-- Pushes the priority of a claimed source and clears the pending bit of the source (R356, R357). -/
def State.icuClaim (s : State) (p n : Nat) : State :=
  let pr := s.get (Fld.ICU_SRC_PRIO n)
  let s := (s.put (Fld.ICU_SRC_PEND n) 0).tally (if p = 0 then 0x182 else 0x183)
  if p = 0 then { s with icu := { s.icu with stack0 := pr :: s.icu.stack0 } }
  else { s with icu := { s.icu with stack1 := pr :: s.icu.stack1 } }

/-- A completion written to ICU_EOI (R358): a match pops; anything else is recorded in ICU_FAULT and makes source 27
pending. -/
def State.icuEoi (s : State) (p lv : Nat) : State :=
  match s.icuStack p with
  | top :: rest =>
    if top = lv then
      if p = 0 then { s with icu := { s.icu with stack0 := rest } } else { s with icu := { s.icu with stack1 := rest } }
    else
      (((((s.raise Fld.ICU_FAULT_FAULT).put Fld.ICU_FAULT_PROC p).put Fld.ICU_FAULT_WRITTEN lv).put
        Fld.ICU_FAULT_EMPTY 0).put Fld.ICU_FAULT_TOP top).raise (Fld.ICU_SRC_PEND 27)
  | [] =>
    (((((s.raise Fld.ICU_FAULT_FAULT).put Fld.ICU_FAULT_PROC p).put Fld.ICU_FAULT_WRITTEN lv).put
      Fld.ICU_FAULT_EMPTY 1).put Fld.ICU_FAULT_TOP 0).raise (Fld.ICU_SRC_PEND 27)

end Sys2Proof.Machine
end

