-- ==== Sys2Proof/Machine/Time.lean ====
section
/-! DEFINITION. Domain time (R196 to R215): beacons, link delay, the timing master, reference inputs, house time. -/

namespace Sys2Proof.Machine

/-- TIME_STAT.STATE values. -/
def tsFREE : Nat := 0
def tsACQUIRE : Nat := 1
def tsLOCKED : Nat := 2
def tsHOLDOVER : Nat := 3

/-- Changes TIME_STAT.STATE, with its interrupt bit. -/
def State.timeState (s : State) (v : Nat) : State :=
  if s.get Fld.TIME_STAT_STATE = v then s else (s.put Fld.TIME_STAT_STATE v).raise Fld.TIME_INT_STATE

/-- Changes TIME_STAT.MASTER, with its interrupt bit. -/
def State.timeMaster (s : State) (m : NodeId) : State :=
  if s.get Fld.TIME_STAT_MASTER = m.toNat then s else (s.put Fld.TIME_STAT_MASTER m.toNat).raise Fld.TIME_INT_MASTER

/-- MASTER_TMO in ns; 0 acts as 1 ms. -/
def State.masterTmo (s : State) : Nat := max 1 (s.get Fld.TIME_CFG_MASTER_TMO) * 1000000

/-- A head that may serve as timing master but for its power state: ELIG, and active head of its pair or unpaired; not in
the hold state. -/
def State.eligible (s : State) : Bool :=
  decide (s.role = .head) && s.bit Fld.TIME_MASTER_CFG_ELIG &&
    (s.get Fld.RED_STAT_PARTNER == 0 || s.get Fld.RED_STAT_ROLE == 1) && !(s.bit Fld.SYS_FAULT_STAT_HOLD)

/-- A head that may serve as timing master (R202): ELIG, ACTIVE, and active head of its pair or unpaired; not in the
hold state (R401). RED_STAT.ROLE 0 is unpaired or active. -/
def State.candidate (s : State) : Bool := s.eligible && decide (s.pwr.state = .active)

/-- PRIO of a head as this node knows it: its own from TIME_MASTER_CFG, another head's as the head table gives it, whose
registers show none (assumption 11). -/
def State.prioOf (s : State) (a : NodeId) : Nat :=
  if a = s.nodeId then s.get Fld.TIME_MASTER_CFG_PRIO else Config.headPrio a

/-- Master `a` ranks better than `b` (R202): the lower PRIO, then the lower node ID. A node learns the rank of a master
from its head table (R203), so a head that is not in it ranks better than none. -/
def State.better (s : State) (a b : NodeId) : Bool :=
  if b = 0 then true
  else if a = b then false
  else s.knowsHead a &&
    (decide (s.prioOf a < s.prioOf b) || (decide (s.prioOf a = s.prioOf b) && decide (a.toNat < b.toNat)))

/-- Entry of a schedule in TIME_SCHED. -/
def State.loadSched (s : State) (i f afn adt aacc : Word) : State :=
  ((((s.setWord (Reg.TIME_SCHED 0) i).setWord (Reg.TIME_SCHED 1) f).setWord (Reg.TIME_SCHED 2) afn).setWord
    (Reg.TIME_SCHED 3) adt).setWord (Reg.TIME_SCHED 4) aacc

/-- Loads a schedule into TIME_SCHED. -/
def State.useSched (s : State) (q : Sched) : State := s.loadSched q.int q.frac q.afn q.adt q.aacc

/-- Rebases the anchor to tick `n` (R198). -/
def State.rebase (s : State) (n : Word) : State := s.useSched (s.sched.rebase n)

/-- The free-running schedule from the reset values (R199) with tick number `n`, anchored at the start of the node's own
last tick (assumption 12). -/
def State.freeRun (s : State) (n : Word) : State :=
  let start := s.startOf s.clk.fn
  (({ s with clk := { s.clk with fn := n } }).loadSched 8333333 0x55555555 n start 0).putBit Fld.TIME_SCHED_STAT_HELD false

/-- The average of the answers of a port (R201), in 1/256 ns. -/
def avgDelay (l : List Int) : Int := Config.roundDiv l.sum (max 1 l.length)

/-- A SYNC sample's offset in 1/256 ns: TA + delay − stamp (R201), taken modulo 2^32 ns around 0. -/
def State.syncOffset (s : State) (p : Nat) (ta tafr : Nat) (stamp : Word) (fr : Nat) : Int :=
  signed 40 (ta * 256 + tafr + 2 ^ 40 - (stamp.toNat * 256 + fr)) + signed 32 (s.get (Fld.TIME_LINK_DELAY_DELAY p))

/-- The parent among the ports that carry SYNC of the master: the lowest HOPS, then the lower port number (R204). -/
def State.chooseParent (s : State) : State :=
  let ps := s.clk.parents.map (fun e => (e.1, e.2.1))
  let best := (List.range 4).foldl (fun b q =>
    if ps.any (fun x => decide (x.1 = q)) then
      match b with
      | none => some q
      | some r => if lookup 0 ps q < lookup 0 ps r then some q else some r
    else b) none
  match best with
  | some q => (s.put Fld.TIME_STAT_PARENT q).put Fld.TIME_STAT_HOPS (lookup 0 ps q + 1)
  | none => s

/-- A SYNC from the master with `hops` came on port `p` (R204). A port on which none has come for MASTER_TMO no longer
counts (assumption 13). -/
def State.takeParent (s : State) (p hops : Nat) : State :=
  let now := s.clk.upNs
  let live := s.clk.parents.filter (fun e => decide (now < e.2.2 + s.masterTmo))
  ({ s with clk := { s.clk with parents := assoc live p (hops, now) } }).chooseParent

/-- A node whose parent port is lost takes the next port at once (R204). -/
def State.loseParent (s : State) (p : Nat) : State :=
  ({ s with clk := { s.clk with parents := s.clk.parents.filter (fun e => decide (e.1 ≠ p)) } }).chooseParent

/-- Adopts a master from a SYNC (R202, R203). A head that was master keeps DTIME and slews to the new master. -/
def State.adopt (s : State) (m : NodeId) : State :=
  let y := s.clk.isMaster || s.clk.yielding
  let s := s.timeMaster m
  { s with clk := { s.clk with isMaster := false, hasMaster := true, parents := [], yielding := y } }

/-- The last SYNC that named the master lies MASTER_TMO or more back, or none has come (R203). -/
def State.silent (s : State) : Bool :=
  match s.clk.lastSync with
  | some t => decide (t + s.masterTmo ≤ s.clk.upNs)
  | none => true

/-- The lock state after a filtered offset in 1/256 ns (R204). -/
def State.lockAfter (s : State) (off : Int) : State :=
  if off.natAbs ≤ 50 * 256 then
    let g := s.clk.good + 1
    let s := { s with clk := { s.clk with good := g } }
    if s.get Fld.TIME_STAT_STATE = tsLOCKED then s
    else if 16 ≤ g then s.timeState tsLOCKED
    else s.timeState tsACQUIRE
  else ({ s with clk := { s.clk with good := 0 } }).timeState tsACQUIRE

/-- DTIME moves by `d` ns against the passing of time, and house time with it (R206). A rollover of HT_NS applies a
pending second (R213); a wrap of DTIME sets TIME_INT.WRAP (R214). -/
def State.moveTime (s : State) (d : Int) : State :=
  let t : Int := (s.clk.dtime.toNat : Int) + d
  let h : Int := (s.houseNs : Int) + d
  let sec := h / 1000000000
  let rolled := (sec - (s.clk.htSec.toNat : Int)).toNat
  let pendNow := s.clk.htPend.isSome && decide (0 < rolled)
  let htSec' := match s.clk.htPend with
    | some v => if 0 < rolled then v + wd (rolled - 1) else BitVec.ofInt 32 sec
    | none => BitVec.ofInt 32 sec
  let s := { s with clk := { s.clk with
    dtime  := BitVec.ofInt 32 t
    htNs   := (h % 1000000000).toNat
    htSec  := htSec'
    htPend := if pendNow then none else s.clk.htPend } }
  let s := if pendNow then s.putBit Fld.TIME_HT_CTL_PEND false else s
  if 2 ^ 32 ≤ t then s.raise Fld.TIME_INT_WRAP else s

/-- The most that slewing may have moved DTIME since it was last looked at: 10 ppm of the time passed (R206). -/
def State.slewLimit (s : State) : Nat := (s.clk.upNs - s.clk.slewAt) / 100000

/-- The part of a slew that the time since its start allows (R206). -/
def State.slewPart (s : State) : Int := max (-(s.slewLimit : Int)) (min s.slewLimit s.clk.slewing)

/-- The slewing in progress moves DTIME by what the time passed since it began allows (R206). -/
def State.slewed (s : State) : State :=
  let c := s.slewPart
  ({ s with clk := { s.clk with
    slewing := s.clk.slewing - c
    slewAt  := s.clk.upNs - (s.clk.upNs - s.clk.slewAt) % 100000 } }).moveTime c

/-- From now on DTIME slews by `d` ns, at 10 ppm at most, in place of what was left of an earlier slew (R204, R206). -/
def State.slewBy (s : State) (d : Int) : State :=
  { s with clk := { s.clk with slewing := d, slewAt := s.clk.upNs } }

/-- DTIME steps by `d` ns (R206). A node that holds no schedule keeps the phase of its free-running one: the anchor moves
with DTIME (assumption 12). -/
def State.stepTime (s : State) (d : Int) : State :=
  let s := (s.slewBy 0).moveTime d
  if s.bit Fld.TIME_SCHED_STAT_HELD then s
  else s.setWord (Reg.TIME_SCHED 3) (s.word (Reg.TIME_SCHED 3) + BitVec.ofInt 32 d)

/-- Takes a time sample of the parent port (R204, R206). A node that has taken none is in FREE: it sets DTIME to the
sample's estimate at once, and house time with it. A head that was master itself slews, whatever the offset, until it has
settled within STEP of the new master (R202; assumption 98). -/
def State.timeSample (s : State) (off : Int) : State :=
  let s := s.slewed
  if s.get Fld.TIME_STAT_STATE = tsFREE then
    let s := s.stepTime (off / 256)
    let s := { s with clk := { s.clk with good := 0, stepped := true } }
    ((s.raise Fld.TIME_INT_STEP).tally 0x1C2).timeState tsACQUIRE
  else
    let n := s.free
    let s := { s with free := n + 1 }
    let f := Config.filtered n off
    let far := decide (max 1 (s.get Fld.TIME_CFG_STEP) * 1000 * 256 < f.natAbs)
    if far && !s.clk.yielding then ({ s with clk := { s.clk with step := some (f / 256) } }).lockAfter f
    else (({ s with clk := { s.clk with yielding := s.clk.yielding && far } }).slewBy (Config.slew n f)).lockAfter f

/-- TIME_SYNC_RECEIVED (R200, R203, R204, R206): the packet's KIND is 0. Of a replayed SYNC only MASTER and FN are used. -/
def State.takeTimeSync (s : State) (x : Rx) (body : List Word) (stamp : Word) (fr : Nat) : State :=
  let p := x.port.val
  let m : NodeId := BitVec.ofNat 16 (wbits (nth body 0) 31 16)
  let hops := wbits (nth body 0) 11 0
  let fn := nth body 1
  let mine : NodeId := BitVec.ofNat 16 (s.get Fld.TIME_STAT_MASTER)
  if 2048 ≤ hops ∧ x.replay = false then s
  else if s.clk.isMaster = true ∧ !(s.better m s.nodeId) then
    if m = s.nodeId then s else s.violation p 4
  else
    let change := s.clk.isMaster || !(s.clk.hasMaster) || decide (m ≠ mine)
    if change ∧ s.clk.hasMaster = true ∧ !(s.clk.isMaster) ∧ !(s.better m mine) ∧ !(s.silent) then s.violation p 4
    else
      let s := if change then s.adopt m else s
      let s := { s with clk := { s.clk with lastSync := some s.clk.upNs } }
      let s := if s.get Fld.TIME_STAT_STATE = tsHOLDOVER then
          ({ s with clk := { s.clk with good := 0 } }).timeState tsACQUIRE else s
      let s := if x.replay then s else s.takeParent p hops
      -- R199: an FN that differs from the own last tick start falls back to the free-running schedule
      let s := if fn ≠ s.clk.fn then s.freeRun fn else s
      if x.replay ∨ s.get Fld.TIME_STAT_PARENT ≠ p then s
      else s.timeSample (s.syncOffset p (nth body 2).toNat (wbits (nth body 4) 31 24) stamp fr)

/-- TIME_SYNC_RECEIVED. -/
def doTimeSync (x : Rx) (stamp : Word) (fr : Byte) (s : State) : State :=
  s.receive x (fun b s => if wbits (nth b 0) 15 12 = 0 then (s.tally 0x1C0).takeTimeSync x b stamp fr.toNat else s)

/-- TIME_DREQ_RECEIVED (R201): the neighbour answers with DRESP, TB the arrival and TA the transmit DTIME. A replayed DREQ
yields no sample and so no answer (R200; assumption 98). -/
def doTimeDreq (x : Rx) (stamp : Word) (fr : Byte) (s : State) : State :=
  s.receive x (fun b s =>
    if wbits (nth b 0) 15 12 = 1 ∧ x.replay = false then
      let (f, s) := s.freeNat 8
      s.sendLocal x.port.val tyTIME [wd (s.get Fld.TIME_STAT_MASTER * 2 ^ 16 + 2 * 2 ^ 12 + s.get Fld.TIME_STAT_HOPS),
        s.clk.fn, s.clk.dtime, stamp, wd (f * 2 ^ 24 + fr.toNat * 2 ^ 16)]
    else s)

/-- TIME_DRESP_RECEIVED (R201). A replayed codeword yields no time sample (R200). -/
def doTimeDresp (x : Rx) (stamp : Word) (fr : Byte) (s : State) : State :=
  s.receive x (fun b s =>
    let p := x.port.val
    if wbits (nth b 0) 15 12 = 2 ∧ x.replay = false ∧ s.clk.dreqAt.any (fun a => decide (a.1 = p)) then
      let t1 := lookup 0 s.clk.dreqAt p
      let t4 : Int := stamp.toNat * 256 + fr.toNat
      let ta : Int := (nth b 2).toNat * 256 + wbits (nth b 4) 31 24
      let tb : Int := (nth b 3).toNat * 256 + wbits (nth b 4) 23 16
      let asym := Config.roundDiv (signed 16 (s.get (Fld.TIME_ASYM_PS p)) * 256) 1000
      let d := Config.roundDiv (signed 40 (unsigned 40 (t4 - t1)) - signed 40 (unsigned 40 (ta - tb))) 2 + asym
      let l := (d :: lookup [] s.clk.delays p).take 16
      let s := { s with clk := { s.clk with
        delays := assoc s.clk.delays p l
        dreqAt := s.clk.dreqAt.filter (fun a => decide (a.1 ≠ p)) } }
      -- a cleared average keeps the old delay until 16 answers refill it
      if p ∈ s.clk.refill ∧ l.length < 16 then s
      else ({ s with clk := { s.clk with refill := s.clk.refill.filter (fun q => decide (q ≠ p)) } }).put
        (Fld.TIME_LINK_DELAY_DELAY p) (unsigned 32 (avgDelay l))
    else s)

/-- After a LANE_SWAP or stand-in on logical lane 0 the average of the port is cleared (R201). -/
def State.clearDelay (s : State) (p : Nat) : State :=
  { s with clk := { s.clk with delays := assoc s.clk.delays p [], refill := p :: s.clk.refill.filter (fun q => decide (q ≠ p)) } }

/-- SYNC_BEACON (R200): a node that holds a master, and the master, send SYNC on each port whose link is up. -/
def doSyncBeacon (s : State) : State :=
  if s.running && (s.clk.isMaster || (s.clk.hasMaster && s.get Fld.TIME_STAT_STATE != tsHOLDOVER)) then
    forEach (List.range 4) (fun p s =>
      if s.portLocal p then
        let (f, s) := s.freeNat 8
        s.sendLocal p tyTIME [wd (s.get Fld.TIME_STAT_MASTER * 2 ^ 16 + (if s.clk.isMaster then 0 else s.get Fld.TIME_STAT_HOPS)),
          s.clk.fn, s.clk.dtime, 0, wd (f * 2 ^ 24)]
      else s) s
  else s

/-- DREQ_TIMER (R201). -/
def doDreqTimer (s : State) : State :=
  if s.running then
    forEach (List.range 4) (fun p s =>
      if s.portLocal p then
        let (f, s) := s.freeNat 8
        let s := { s with clk := { s.clk with dreqAt := assoc s.clk.dreqAt p ((s.clk.dtime.toNat * 256 + f : Nat) : Int) } }
        s.sendLocal p tyTIME [wd (s.get Fld.TIME_STAT_MASTER * 2 ^ 16 + 1 * 2 ^ 12 + s.get Fld.TIME_STAT_HOPS),
          s.clk.fn, s.clk.dtime, 0, wd (f * 2 ^ 24)]
      else s) s
  else s

/-- The tick a sent schedule is anchored to: at least 20 ms and at least 2 ticks ahead (R199, R209). -/
def State.aheadTick (s : State) : Word := s.clk.fn + wd (20000000 / max 1 s.tickInt + 2)

/-- Sends a client-0 TICK_CONFIG with a schedule and its apply tick. -/
def State.sendTickConfig (s : State) (dest : NodeId) (q : Sched) : State :=
  s.sendAuth tyCMD dest [wd (0x0601 * 2 ^ 16 + 2 ^ 14 + 2 ^ 13 + 5), 0, wd (dest.toNat * 2 ^ 16), q.at_,
    q.int, q.frac, q.afn, q.adt, q.aacc]

/-- The schedule that holds at the tick at least 20 ms ahead, anchored to that tick (R199; assumption 93). -/
def State.schedAhead (s : State) : Sched :=
  let n := s.aheadTick
  { (s.schedFor n).rebase n with at_ := n }

/-- The schedule a timing master sends, with the anchor rebased to a tick at least 20 ms ahead (R199). -/
def State.sendSchedule (s : State) (dest : NodeId) : State := s.sendTickConfig dest s.schedAhead

/-- A schedule waits for its apply tick (R199). -/
def State.awaitSched (s : State) (q : Sched) : State := { s with clk := { s.clk with scheds := s.clk.scheds ++ [q] } }

/-- Re-phasing (R209): a re-anchored schedule, at least 2 ticks ahead, that lengthens one tick by `shift` ns. -/
def State.rephase (s : State) (shift : Nat) : State :=
  let q := s.schedAhead
  let q := { q with adt := q.adt + wd shift }
  (({ s with clk := { s.clk with rephased := some q.at_ } }).awaitSched q).sendTickConfig 0xFFFF q

/-- A re-phase waits for its tick: the error it takes out still shows until then. -/
def State.rephasing (s : State) : Bool :=
  match s.clk.rephased with
  | some n => later n s.clk.fn && s.clk.scheds.any (fun q => decide (q.at_ = n))
  | none => false

/-- The master corrects a phase error (R208, R209): up to STEP µs by slewing, a larger one by lengthening one tick. -/
def State.correctPhase (s : State) (err : Int) (shift : Nat) : State :=
  if s.rephasing then s
  else if max 1 (s.get Fld.TIME_CFG_STEP) * 1000 < err.natAbs then s.rephase shift
  else s.slewBy err

/-- A candidate becomes timing master: it keeps DTIME, FN and schedule (R202), and broadcasts its schedule (R199). -/
def State.becomeMaster (s : State) : State :=
  let s := { s with clk := { s.clk with isMaster := true, hasMaster := true, parents := [], step := none, slewing := 0 } }
  let s := ((s.timeMaster s.nodeId).put Fld.TIME_STAT_HOPS 0).timeState tsLOCKED
  let s := s.putBit Fld.TIME_SCHED_STAT_HELD true
  s.sendSchedule 0xFFFF

/-- A head that stops being a candidate stops originating SYNC at once and follows as any node does (R202). In PARK a
master keeps its duty (*Table — Power states by role*; assumption 33). -/
def State.dropMaster (s : State) : State :=
  if s.clk.isMaster && !(s.candidate || (s.eligible && decide (s.pwr.state = .park))) then
    let s := { s with clk := { s.clk with isMaster := false, hasMaster := true, lastSync := some s.clk.upNs } }
    s.timeState tsHOLDOVER
  else s

/-- The time passes until no SYNC has named the master for MASTER_TMO (R202, R205; assumption 3). -/
def State.untilSilent (s : State) : State :=
  match s.clk.lastSync with
  | some t => if s.silent then s else s.elapse (t + s.masterTmo - s.clk.upNs)
  | none => s

/-- MASTER_TIMEOUT (R202, R205): no SYNC for MASTER_TMO. A candidate takes over; any other node enters HOLDOVER. -/
def doMasterTimeout (s : State) : State :=
  if !(s.running) then s
  else if s.clk.isMaster then s
  else
  let s := s.untilSilent
  if s.candidate then s.becomeMaster
  else if s.clk.hasMaster then s.timeState tsHOLDOVER
  else s

/-- TIME_REF_CFG.SRC; 3 acts as 0. -/
def State.refSrc (s : State) : Nat := let v := s.get Fld.TIME_REF_CFG_SRC; if v = 3 then 0 else v

/-- The exact tick period in thirds of a ns (R199): FRAC is a rounding of 0, 1/3 or 2/3. -/
def State.periodThirds (s : State) : Nat :=
  3 * s.tickInt + (match s.get (Fld.TIME_SCHED_VALUE 1) with | 0 => 0 | 0x55555555 => 1 | _ => 2)

/-- The period of the selected reference's edges in ns: 1 s of PPS; with SYNC_H, DIV ticks (R209). -/
def State.edgePeriod (s : State) : Nat :=
  if s.refSrc = 1 then 1000000000
  else s.periodThirds * (match s.get Fld.TIME_REF_CFG_DIV with | 1 => 2 | 2 => 4 | _ => 1) / 3

/-- `k` edges of the reference were missing or misplaced (R210): it is lost after three. They count until 4 consecutive
good edges have come (assumption 14). -/
def State.refMiss (s : State) (k : Nat) : State :=
  if k = 0 then s
  else
    let b := s.clk.refBad + k
    let s := { s with clk := { s.clk with refGood := 0, refBad := b } }
    if 3 ≤ b ∧ s.bit Fld.TIME_REF_STAT_VALID = true then
      ((((s.put Fld.TIME_REF_STAT_VALID 0).put Fld.TIME_REF_STAT_FREQ 0).put Fld.TIME_REF_STAT_PHASE 0).raise
        Fld.TIME_INT_REF)
    else s

/-- An edge came within 1 µs of its expected time (R210): four consecutive ones make the reference valid. -/
def State.refHit (s : State) : State :=
  let g := s.clk.refGood + 1
  let s := { s with clk := { s.clk with refGood := g, refBad := if 4 ≤ g then 0 else s.clk.refBad } }
  if 4 ≤ g ∧ s.bit Fld.TIME_REF_STAT_VALID = false then
    ((s.raise Fld.TIME_REF_STAT_VALID).raise Fld.TIME_REF_STAT_FREQ).raise Fld.TIME_INT_REF
  else s

/-- One edge of the selected reference, now (R209, R210): it is expected whole periods after the edge before it, so the
first one has no expected time, and an edge rate other than that of DIV misplaces every edge (assumption 14). -/
def State.refEdge (s : State) : State :=
  let now := s.clk.upNs
  let per := max 1 s.edgePeriod
  match s.clk.edge with
  | none => { s with clk := { s.clk with edge := some now } }
  | some t =>
    let n := max 1 ((now - t + per / 2) / per)
    let off := ((now - t : Nat) : Int) - (n * per : Nat)
    let s := { s with clk := { s.clk with edge := some now } }
    if off.natAbs ≤ 1000 then (s.refMiss (n - 1)).refHit else s.refMiss n

/-- How far, in thirds of a ns, the next tick start lies past an instant k × the exact period of house time (R208). -/
def State.phasePast (s : State) : Nat :=
  let ahead : Int := (s.startOf (s.clk.fn + 1) - s.clk.dtime).toInt
  ((3 * ((s.houseNs : Int) + ahead)) % (max 1 s.periodThirds : Nat)).toNat

/-- How far, in thirds of a ns, the next tick start lies past the instant OFS after a SYNC_H edge that comes `frac`/256 ns
from now, modulo the tick (R209). -/
def State.edgePast (s : State) (frac : Nat) : Nat :=
  let ahead : Int := (s.startOf (s.clk.fn + 1) - s.clk.dtime).toInt
  ((3 * (256 * (ahead - signed 16 (s.get Fld.TIME_REF_CFG_OFS)) - frac) / 256) % (max 1 s.periodThirds : Nat)).toNat

/-- The master corrects a tick phase that lies `r` thirds of a ns past where the reference puts it, modulo the tick
(R208, R209). -/
def State.alignPhase (s : State) (r : Nat) : State :=
  let per := s.periodThirds
  if r = 0 then s
  else if 2 * r ≤ per then s.correctPhase ((r : Int) / 3) ((per - r) / 3)
  else s.correctPhase (((r : Int) - per) / 3) ((per - r) / 3)

/-- The ns from the last thing a powered node did until an edge comes pass, and what slewing is in progress moves DTIME. -/
def State.awaitEdge (s : State) (wait : Nat) : State := if s.powered then (s.elapse wait).slewed else s

/-- SYNC_PPS_EDGE (R208, R210, R211): the edge comes `wait` ns after the last thing the node did (assumption 14). -/
def doPpsEdge (wait : Nat) (s : State) : State :=
  let s := s.awaitEdge wait
  if s.role = .head ∧ s.running = true ∧ s.refSrc = 1 then
    let s := s.refEdge
    if s.bit Fld.TIME_REF_STAT_VALID then
      -- HT_NS to 0 at the edge; an error above 1 µs sets JUMP. An edge late in the second completes it.
      let e := s.clk.htNs
      let err := min e (1000000000 - e)
      let roll := decide (500000000 ≤ e)
      let s := if 1000 < err then s.raise Fld.TIME_HT_CTL_JUMP else s
      let s := if roll then
          let v := match s.clk.htPend with | some w => w | none => s.clk.htSec + 1
          ({ s with clk := { s.clk with htSec := v, htPend := none } }).putBit Fld.TIME_HT_CTL_PEND false
        else s
      let s := { s with clk := { s.clk with htNs := 0 } }
      -- phase lock needs HT_SEC to have been set (R208)
      if s.clk.isMaster then
        let s := s.putBit Fld.TIME_REF_STAT_PHASE (s.bit Fld.TIME_HT_CTL_SET)
        if s.bit Fld.TIME_HT_CTL_SET then s.alignPhase s.phasePast else s
      else s
    else s
  else s

/-- SYNC_H_EDGE (R209, R210): the master places a tick start at the edge plus OFS. An error above STEP re-phases by a
re-anchored schedule at least 2 ticks ahead that lengthens one tick by the error, modulo the tick. The edge comes `wait` ns
and `frac`/256 ns after the last thing the node did (assumption 14). -/
def doHEdge (wait frac : Nat) (s : State) : State :=
  let s := s.awaitEdge wait
  if s.role = .head ∧ s.running = true ∧ s.refSrc = 2 then
    let s := s.refEdge
    if s.bit Fld.TIME_REF_STAT_VALID ∧ s.clk.isMaster = true then
      let s := s.raise Fld.TIME_REF_STAT_PHASE
      s.alignPhase (s.edgePast frac)
    else s
  else s

/-- REFERENCE_LOST (R210). -/
def doReferenceLost (s : State) : State :=
  if s.role = .head ∧ s.running = true ∧ s.bit Fld.TIME_REF_STAT_VALID = true then
    let s := { s with clk := { s.clk with refGood := 0, refBad := 3 } }
    ((((s.put Fld.TIME_REF_STAT_VALID 0).put Fld.TIME_REF_STAT_FREQ 0).put Fld.TIME_REF_STAT_PHASE 0).raise
      Fld.TIME_INT_REF)
  else s

/-- A reference newly selected has had no edge: it is not valid until R210 makes it so (assumption 14). -/
def State.newReference (s : State) : State :=
  let s := { s with clk := { s.clk with refGood := 0, refBad := 0, edge := none } }
  ((s.put Fld.TIME_REF_STAT_VALID 0).put Fld.TIME_REF_STAT_FREQ 0).put Fld.TIME_REF_STAT_PHASE 0

/-- A read of TIME_DTIME latches FN into TIME_FN. -/
def State.readDtime (s : State) : Word × State := (s.clk.dtime, s.setWord Reg.TIME_FN s.clk.fn)

/-- A read of TIME_HT_NS latches HT_SEC (R212). -/
def State.readHtNs (s : State) : Word × State := (wd s.clk.htNs, { s with clk := { s.clk with htLatch := some s.clk.htSec } })

/-- A read of TIME_HT_SEC returns the value latched, or the live one before the first latch (R212). -/
def State.readHtSec (s : State) : Word := match s.clk.htLatch with | some v => v | none => s.clk.htSec

/-- A write of TIME_HT_NS (R213). -/
def State.writeHtNs (s : State) (v : Word) : State :=
  let n := wbits v 29 0
  if 1000000000 ≤ n then s.raise Fld.TIME_HT_CTL_ERR
  else ({ s with clk := { s.clk with htNs := n, htPend := none } }).putBit Fld.TIME_HT_CTL_PEND false

/-- A write of TIME_HT_SEC (R213). A second write before the rollover replaces the first. -/
def State.writeHtSec (s : State) (v : Word) : State :=
  let s := s.raise Fld.TIME_HT_CTL_SET
  if s.bit Fld.TIME_HT_CTL_IMM then
    ({ s with clk := { s.clk with htSec := v, htPend := none } }).putBit Fld.TIME_HT_CTL_PEND false
  else ({ s with clk := { s.clk with htPend := some v } }).raise Fld.TIME_HT_CTL_PEND

/-- TIME_DTIME_READ. -/
def doDtimeRead (s : State) : State :=
  if s.powered then let (v, s) := s.readDtime; s.emit (.readValue Reg.TIME_DTIME v) else s

/-- TIME_HT_NS_READ. -/
def doHtNsRead (s : State) : State :=
  if s.powered then let (v, s) := s.readHtNs; s.emit (.readValue Reg.TIME_HT_NS v) else s

/-- DTIME_WRAP (R214): DTIME runs on to 0 and TIME_INT.WRAP is set. -/
def doDtimeWrap (s : State) : State := if s.powered then s.elapse (2 ^ 32 - s.clk.dtime.toNat) else s

/-- HOUSE_SECOND_ROLLOVER (R211, R213): HT_NS runs on to 0 and HT_SEC advances. -/
def doHouseRollover (s : State) : State := if s.powered then s.elapse (1000000000 - s.clk.htNs) else s

end Sys2Proof.Machine
end

