-- ==== Sys2Proof/Machine/Redundancy.lean ====
section
/-! DEFINITION. The pair of heads (R264 to R271, R277, R425): MIRROR packets, HEARTBEAT and the active role. What mirrored
commands and resynchronisation tables do stands in Machine/Resync.lean. -/

namespace Sys2Proof.Machine

/-- RED_STAT.PARTNER. -/
def State.partner (s : State) : NodeId := BitVec.ofNat 16 (s.get Fld.RED_STAT_PARTNER)

/-- A head of a pair. -/
def State.paired (s : State) : Bool := decide (s.role = .head) && decide (s.get Fld.RED_STAT_PARTNER ≠ 0)

/-- RED_STAT.ROLE 1 or an unpaired head: the head that accepts commands. -/
def State.activeHead (s : State) : Bool := decide (s.role = .head) && decide (s.get Fld.RED_STAT_ROLE ≠ 2)

/-- A standby head. -/
def State.standby (s : State) : Bool := s.paired && decide (s.get Fld.RED_STAT_ROLE = 2)

/-- MIRROR kinds (*Table — MIRROR kinds*). -/
def mkCMD : Nat := 1
def mkTABLE : Nat := 2
def mkSNAPEND : Nat := 3
def mkHEARTBEAT : Nat := 4
def mkACK : Nat := 5
def mkRESYNC_REQ : Nat := 6
def mkRELINQUISH : Nat := 7

/-- Ports a MIRROR leaves on (R268): those whose last walk met the partner, and those whose link is up before its first
walk (R424). -/
def State.mirrorPorts (s : State) : List Nat :=
  (List.range 4).filter (fun p => s.portOpen p &&
    (s.net.metHead.any (fun e => decide (e.1 = p) && decide (e.2 = s.partner)) || !(p ∈ s.net.walked)))

/-- RED_MSEQ: the last MSEQ sent when active, the last received in order when standby. -/
def State.showMseq (s : State) : State :=
  s.setWord Reg.RED_MSEQ (wd (if s.standby then s.red.recv else s.red.sent))

/-- Sends one MIRROR, a separate authenticated packet on every port that leads to the partner (R267, R268). -/
def State.sendMirror (s : State) (kind : Nat) (content : List Word) : State :=
  if !(s.paired) then s
  else
    let m := (s.red.sent + 1) % 2 ^ 32
    let body : List Word := [wd (kind * 2 ^ 24 + s.get Fld.RED_EPOCH_EPOCH), wd m] ++ content
    let s := { s with red := { s.red with sent := m, lastCmd := if kind = mkCMD then m else s.red.lastCmd } }
    let s := forEach s.mirrorPorts (fun p s =>
      s.tagAnd tyMIRROR s.partner body fun b s =>
      s.sendOn p 0 tyMIRROR s.partner s.nodeId b) s
    s.showMseq

/-- Sends RESYNC_REQ, or leaves it due until a port leads to the partner (R271, R277). -/
def State.sendResyncReq (s : State) : State :=
  if s.mirrorPorts = [] then { s with red := { s.red with reqDue := true } }
  else ({ s with red := { s.red with reqDue := false } }).sendMirror mkRESYNC_REQ []

/-- Nothing more of the frames begun is sent (R277, R399, R401). -/
def State.stopPush (s : State) : State :=
  { s with heads := { s.heads with
    frames := s.heads.frames.map (fun (h : HeadFrame) => { h with push := false })
    active := false } }

/-- Sets RED_STAT.OOS, with its interrupt (R264, R277, R399). The head stops pushing. -/
def State.setOos (s : State) : State :=
  if s.bit Fld.RED_STAT_OOS then s else ((s.raise Fld.RED_STAT_OOS).raise Fld.RED_INT_OOS).stopPush

/-- A standby head falls out of step (R277). -/
def State.outOfStep (s : State) : State :=
  if s.bit Fld.RED_STAT_OOS then s
  else
    let s := s.setOos
    let s := s.logBlot blkRED 2 clsDEGRADED (s.word Reg.RED_DIVCNT).toNat
    s.sendResyncReq

/-- The role changes to `r`. -/
def State.setRedRole (s : State) (r : Nat) : State :=
  if s.get Fld.RED_STAT_ROLE = r then s
  else
    let s := (s.put Fld.RED_STAT_ROLE r).raise Fld.RED_INT_ROLE
    s.showMseq

/-- Keeps EPOCH and the pairing in MRAM (R264, R266, R269). -/
def State.savePair (s : State) : State :=
  { s with saved := { s.saved with
    partner := s.partner
    headId := s.bit Fld.RED_STAT_HEADID
    redEpoch := BitVec.ofNat 16 (s.get Fld.RED_EPOCH_EPOCH) } }

/-- A standby head becomes active (R269): EPOCH + 1; out of step, it clears OOS, logs a blot and its first frame is Full
for every tile, and the mirrored commands that it did not receive in order are lost. -/
def State.becomeActive (s : State) : State :=
  if !(s.standby) then s
  else
    let s := s.put Fld.RED_EPOCH_EPOCH (s.get Fld.RED_EPOCH_EPOCH + 1)
    let s := (s.setRedRole 1).savePair
    let s := { s with red := { s.red with
      takeover := none
      yield := false
      tables := []
      snapEnd := none
      reqDue := false
      heard := false
      ahead := []
      mirrored := []
      heldCmds := [] } }
    let s := s.put Fld.RED_STAT_RESYNC 0
    if s.bit Fld.RED_STAT_OOS then
      let s := (s.put Fld.RED_STAT_OOS 0).logBlot blkRED 2 clsDEGRADED (s.word Reg.RED_DIVCNT).toNat
      { s with heads := { s.heads with active := false } }
    else s

/-- An active head becomes standby (R269, R270). -/
def State.becomeStandby (s : State) : State :=
  if !(s.paired) || s.standby then s
  else
    let s := (s.setRedRole 2).savePair
    let s := { s with
      red := { s.red with
        yield := false
        switchAt := none
        resync := false
        heard := false
        ahead := []
        snapEnd := none
        tables := []
        mirrored := []
        heldCmds := [] } }
    let s := s.put Fld.RED_STAT_RESYNC 0
    s.dropMaster

/-- Sends RELINQUISH for tick `t`; this head becomes standby at it (R269, R270). -/
def State.relinquish (s : State) (t : Word) : State :=
  if s.paired && !(s.standby) then
    let s := s.sendMirror mkRELINQUISH [t]
    { s with red := { s.red with switchAt := some t } }
  else s

/-- HB_TMO in ns; 0 acts as 1 ms. -/
def State.hbTmo (s : State) : Nat := max 1 (s.get Fld.RED_CFG_HB_TMO) * 1000000

/-- The highest MSEQ in order after `r`, when the values `l` have come out of order; `fuel` bounds their number. -/
def inOrder (fuel r : Nat) (l : List Nat) : Nat × List Nat :=
  match fuel with
  | 0 => (r, l)
  | k + 1 => let n := (r + 1) % 2 ^ 32; if n ∈ l then inOrder k n (l.erase n) else (r, l)

/-- A gap in MSEQ puts a standby head out of step (R268, R277). One that is out of step already begins its
resynchronisation again. -/
def State.mirrorGap (s : State) : State :=
  let s := s.raise Fld.RED_INT_MSEQ_GAP
  if s.bit Fld.RED_STAT_OOS then
    (({ s with red := { s.red with tables := [], snapEnd := none } }).put Fld.RED_STAT_RESYNC 0).sendResyncReq
  else s.outOfStep

/-- Counts an arriving MSEQ at a standby head: whether it is the first copy, and a gap when it skips a value. -/
def State.mirrorNext (s : State) (m : Nat) : Bool × State :=
  if !(later (wd m) (wd s.red.recv)) || decide (m ∈ s.red.ahead) then (false, s)
  else
    let top := s.red.ahead.foldl (fun a k => if later (wd k) (wd a) then k else a) s.red.recv
    let (r, l) := inOrder (s.red.ahead.length + 1) s.red.recv (m :: s.red.ahead)
    let t := ({ s with red := { s.red with recv := r, ahead := l } }).showMseq
    (true, if later (wd m) (wd (top + 1)) then t.mirrorGap else t)

/-- Counts arriving MSEQ values (R268): a copy of one already received is discarded. The numbers of a standby head's own
MIRRORs follow no stated order, so an active head knows the last 64 apart (assumption 123). -/
def State.mirrorIn (s : State) (m : Nat) : Bool × State :=
  if !(s.red.heard) then
    (true, ({ s with red := { s.red with heard := true, recv := m, ahead := if s.standby then [] else [m] } }).showMseq)
  else if s.standby then s.mirrorNext m
  else if m ∈ s.red.ahead then (false, s)
  else (true, { s with red := { s.red with ahead := (m :: s.red.ahead).take 64 } })

/-- Takes a MIRROR of kind `kind` from the partner: `act` gets the content words. -/
def State.onMirror (s : State) (x : Rx) (kind : Nat) (act : List Word → State → State) : State :=
  s.receive x (fun b s =>
    if !(s.paired) || decide (x.src ≠ s.partner) || decide (wbits (nth b 0) 31 24 ≠ kind) || decide (x.type.toNat ≠ tyMIRROR) then s
    else
      let (new, s) := s.mirrorIn (nth b 1).toNat
      if new then act ((b.take (b.length - 6)).drop 2) s else s)

/-- The flags word of a HEARTBEAT (*Table — MIRROR kinds*). -/
def State.beatFlags (s : State) : Word :=
  wd (bitNat (decide (s.pwr.state = .active)) * 4 + bitNat (s.bit Fld.RED_STAT_OOS) * 2 + bitNat (!(s.standby)))

/-- HEARTBEAT_TIMER (R268, R269): every 1 ms, with an ACK from a standby head whose count has advanced. -/
def doHeartbeatTimer (s : State) : State :=
  if s.running && s.paired then
    let s := if s.red.reqDue then s.sendResyncReq else s
    let s := s.sendMirror mkHEARTBEAT [s.clk.fn, s.beatFlags]
    if s.standby && s.red.heard && decide (s.red.recv ≠ s.red.ackSent) then
      ({ s with red := { s.red with ackSent := s.red.recv } }).sendMirror mkACK [wd s.red.recv]
    else s
  else s

/-- HEARTBEAT_RECEIVED (R269). -/
def doHeartbeat (x : Rx) (s : State) : State :=
  s.onMirror x mkHEARTBEAT (fun b s =>
    let f := nth b 1
    let was : Bool := match s.red.beat with | some g => wbits g 0 0 == 1 | none => false
    let s := { s with red := { s.red with lastBeat := some s.clk.dtime, beat := some f } }
    let s := s.raise Fld.RED_STAT_PARTNER_SEEN
    if s.standby then
      if wbits f 0 0 = 0 ∧ was = true then s.becomeActive else s
    else if wbits f 0 0 = 1 then
      let mine := s.get Fld.RED_EPOCH_EPOCH
      let theirs := wbits (nth x.body 0) 15 0
      if mine < theirs ∨ (mine = theirs ∧ s.bit Fld.RED_STAT_HEADID = true) then { s with red := { s.red with yield := true } } else s
    else s)

/-- HEARTBEAT_TIMEOUT (R269). -/
def doHeartbeatTimeout (s : State) : State :=
  if !(s.running) || !(s.paired) then s
  else
    let s := match s.red.lastBeat with
      | some t => s.advanceTo (t + wd s.hbTmo)
      | none => s
    let s := (s.put Fld.RED_STAT_PARTNER_SEEN 0).raise Fld.RED_INT_PARTNER_LOST
    s.becomeActive

/-- MIRROR_ACK_RECEIVED (R268): kept for reporting only. -/
def doMirrorAck (x : Rx) (s : State) : State :=
  s.onMirror x mkACK (fun b s => if s.standby then s else { s with red := { s.red with ackGot := (nth b 0).toNat } })

/-- RELINQUISH_RECEIVED (R269). -/
def doRelinquish (x : Rx) (s : State) : State :=
  s.onMirror x mkRELINQUISH (fun b s => if s.standby then { s with red := { s.red with takeover := some (nth b 0) } } else s)

/-- ROLE_TAKEOVER_TICK (R269, R270): at the relinquished tick the standby becomes active. -/
def doTakeover (s : State) : State :=
  match s.red.takeover with
  | some t => if s.running && !(earlier s.clk.fn t) then s.becomeActive else s
  | none => s

/-- What the tick start does to the pair: a head that yields or has relinquished becomes standby (R269, R270). -/
def State.redTick (s : State) : State :=
  let s := if s.red.yield then s.becomeStandby.sendResyncReq else s
  match s.red.switchAt with
  | some t => if earlier s.clk.fn t then s else s.becomeStandby
  | none => s

/-- A DIVERGE of frame `f` has come (R277): counted; at a standby head K consecutive frames put it out of step. -/
def State.divergeSeen (s : State) (f : Word) : State :=
  let s := s.count (⟨Reg.RED_DIVCNT, 15, 0⟩)
  let d := signed 32 (s.clk.dtime - s.tshow f).toNat
  let near := decide (d ≤ s.tickInt) && decide (-(s.tickInt : Int) ≤ d)
  if s.standby && near && decide (s.red.divFrames ≠ some f) then
    let run := if s.red.divFrames = some (f - 1) then s.get Fld.RED_DIVCNT_RUN + 1 else 1
    let s := s.put Fld.RED_DIVCNT_RUN (min run 65535)
    let s := { s with red := { s.red with divFrames := some f } }
    if max 1 (s.get Fld.RED_CFG_K) ≤ run then s.outOfStep else s
  else s

/-! ### The pairing of the tiles (R264, R425) -/

/-- Sends a command over Broash as an authenticated CMD (R188, R296): NO_REPLY is cleared in every copy (R289). -/
def State.sendCmd (s : State) (dest : NodeId) (op : Nat) (c : Cmd) : State :=
  s.sendAuth tyCMD dest (cmdWords op { c with noReply := false })

/-- Sends RED_TILE (R425). -/
def State.sendRedTile (s : State) (dest a b : NodeId) (follow : Nat) (only : Bool) (tick : Word) : State :=
  s.sendCmd dest opRED_TILE ⟨.ring, 0, 0, dest, true, false, false, tick,
    [wd (a.toNat * 2 ^ 16 + b.toNat), wd (bitNat only * 2 + follow % 2)], none⟩

/-- Loads a pairing into RED_STAT and MRAM (R264). -/
def State.setPair (s : State) (h0 h1 : NodeId) (firstActive : Nat) : State :=
  let mine := if s.nodeId = h0 then 0 else 1
  let other := if mine = 0 then h1 else h0
  let s := (s.put Fld.RED_STAT_PARTNER other.toNat).put Fld.RED_STAT_HEADID mine
  let s := { s with red := { s.red with
    heard := false
    ahead := []
    beat := none
    lastBeat := none
    tables := []
    snapEnd := none
    resync := false
    mirrored := []
    heldCmds := [] } }
  let s := if firstActive = mine then ((s.setRedRole 1).put Fld.RED_STAT_OOS 0).put Fld.RED_STAT_RESYNC 0
    else (s.setRedRole 2).setOos
  let s := if firstActive = mine then s else s.dropMaster
  let s := s.savePair
  if firstActive = mine then s.sendRedTile 0xFFFF h0 h1 mine false (s.clk.fn + 2) else s

end Sys2Proof.Machine
end

