-- ==== Sys2Proof/Machine/Answer.lean ====
section
/-! DEFINITION. How commands are closed (R186, R289, R296, R297): replies of this node, RPL and EVT packets that come
back, the gathering of a broadcast, and the timeouts. -/

namespace Sys2Proof.Machine

/-- Opcodes answered PENDING at a head whatever node they act on, with UPD_CFG.TMO in place of RPL_TMO (R374). -/
def updLong (op : Nat) : Bool := op == opUPD_BEGIN || op == opUPD_VERIFY

/-- A reply of this head to a client of its rings. -/
def State.headReply (s : State) (client : ClientId) (tag : BitVec 16) (status : Nat) (fwd late : Bool) (source : NodeId)
    (epoch : BitVec 16) (tick : Word) (noReply : Bool) (result : List Word) : State :=
  if noReply ∧ status = stOK then s
  else s.stageReply .ring ⟨status, fwd, late, client, tag, source, epoch, tick, result⟩

/-- This node's FAULT_EPOCH. -/
def State.epoch (s : State) : BitVec 16 := BitVec.ofNat 16 (s.get Fld.SYS_FAULT_EPOCH_EPOCH)

/-- Node and status of the counted nodes of a gather that did not reply OK; TIMEOUT for one that did not reply (R297). -/
def Gather.bad (g : Gather) : List (NodeId × Nat) :=
  (g.counted.map (fun n => (n, (lookup stTIMEOUT g.got n)))).filter (fun e => decide (e.2 ≠ stOK))

/-- The result words of R297. -/
def Gather.result (g : Gather) : List Word :=
  [wd (g.counted.filter (fun n => g.got.any (fun (e : NodeId × Nat) => decide (e.1 = n)))).length, wd g.bad.length] ++
    (g.bad.take 64).map (fun e => wd (e.1.toNat * 2 ^ 16 + e.2))

/-- The status of R297: that of the lowest node that did not reply OK. -/
def Gather.status (g : Gather) : Nat :=
  match g.bad with
  | [] => stOK
  | e :: _ => e.2

/-- Ends a gather with its one reply, or CMD_DONE where PENDING went before (R297, R374). -/
def State.closeGather (s : State) (g : Gather) : State :=
  let s := { s with cmds := { s.cmds with gathers := s.cmds.gathers.erase g } }
  if updLong g.opcode then s.cmdDone ⟨g.opcode, g.client, g.tag, .ring⟩ g.status g.result
  else s.headReply g.client g.tag g.status false g.late s.nodeId s.epoch g.tick g.noReply g.result

/-- A counted node has answered. -/
def State.gathered (s : State) (g : Gather) (n : NodeId) (status : Nat) : State :=
  let g' := { g with got := assoc g.got n status }
  let s := { s with cmds := { s.cmds with gathers := s.cmds.gathers.map (fun x => if x = g then g' else x) } }
  if g'.counted.all (fun n => g'.got.any (fun (e : NodeId × Nat) => decide (e.1 = n))) then s.closeGather g' else s

/-- The gather a command of this head's client is part of. -/
def State.gatherOf (s : State) (client : ClientId) (tag : BitVec 16) (n : NodeId) : Option Gather :=
  s.cmds.gathers.find? (fun g => decide (g.client = client) && decide (g.tag = tag) && decide (n ∈ g.counted))

/-- What an answer of this node counts: events of the performance monitor (*Table — PMU events*) and CMD_AUTHFAIL. -/
def State.countAnswer (s : State) (c : Cmd) (status : Nat) : State :=
  let n := c.client.toNat
  let s := if status = stOK then s.tallyOf 0x041 4 n else s
  let s := if stBUSY ≤ status ∧ status ≤ stSECURE_ONLY then s.tallyOf 0x042 4 n else s
  let s := if status = stCONFLICT then s.tallyOf 0x043 4 n else s
  if status = stAUTH_FAIL then (s.tallyOf 0x045 4 n).count Fld.CMD_AUTHFAIL_COUNT else s

/-- A command refused before it was accepted: its one reply. -/
def State.refuse (s : State) (c : Cmd) (status : Nat) (tick : Word) (result : List Word) : State :=
  (s.countAnswer c status).reply c status false tick result

/-- This node's own answer to a command: into the gather of a broadcast it took, as CMD_DONE where PENDING went before, or
as a reply (R289, R296). -/
def State.answer (s : State) (op : Nat) (c : Cmd) (status : Nat) (late : Bool) (tick : Word) (result : List Word) : State :=
  let s := s.countAnswer c status
  match c.route with
  | .ring =>
    if c.target = 0xFFFF then
      -- a gather already closed has had its reply (R297)
      match s.gatherOf c.client c.tag s.nodeId with
      | some g => s.gathered g s.nodeId status
      | none => s
    else if updLong op then s.cmdDone ⟨op, c.client, c.tag, .ring⟩ status result
    else s.reply c status late tick result
  | _ => s.reply c status late tick result

/-- A command whose work ends later is answered PENDING now (R289). -/
def State.answerPending (s : State) (op : Nat) (c : Cmd) : State :=
  match c.route with
  | .ring => if c.target = 0xFFFF then s.answer op c stPENDING false s.clk.fn [] else s.reply c stPENDING false s.clk.fn []
  | _ => s.reply c stPENDING false s.clk.fn []

/-- RPL_RECEIVED (R186, R296, R297). -/
def doRpl (x : Rx) (s : State) : State :=
  s.receive x (fun b s =>
    if s.role ≠ .head ∨ x.type.toNat ≠ tyRPL then s
    else
      let status := wbits (nth b 0) 31 16
      let late := wbits (nth b 0) 14 14 = 1
      let result := (b.drop 4).take (wbits (nth b 0) 11 0)
      let client : ClientId := BitVec.ofNat 12 (wbits (nth b 1) 31 20)
      let tag : BitVec 16 := BitVec.ofNat 16 (wbits (nth b 1) 15 0)
      let source : NodeId := BitVec.ofNat 16 (wbits (nth b 2) 31 16)
      let epoch : BitVec 16 := BitVec.ofNat 16 (wbits (nth b 2) 15 0)
      let remember (s : State) (op : Nat) : State :=
        if status = stPENDING then
          { s with cmds := { s.cmds with done := s.cmds.done ++ [⟨op, client, tag, .broash source false⟩] } }
        else s
      match s.cmds.forwarded.find? (fun f => decide (f.client = client) && decide (f.tag = tag) &&
          (decide (f.target = source) || decide (status = stUNREACHABLE))) with
      | some f =>
        let s := { s with cmds := { s.cmds with forwarded := s.cmds.forwarded.erase f } }
        if updLong f.opcode then s.cmdDone ⟨f.opcode, client, tag, .ring⟩ status result
        else (remember s f.opcode).headReply client tag status true late source epoch (nth b 3) f.noReply result
      | none =>
        match s.gatherOf client tag source with
        | some g => (remember s g.opcode).gathered g source status
        | none => s)

/-- COMMAND_TIMEOUT (R186): no RPL within RPL_TMO. -/
def doCommandTimeout (client : ClientId) (tag : BitVec 16) (s : State) : State :=
  match s.cmds.forwarded.find? (fun f => decide (f.client = client) && decide (f.tag = tag) && !(updLong f.opcode)) with
  | some f =>
    ({ s with cmds := { s.cmds with forwarded := s.cmds.forwarded.erase f } }).headReply client tag stTIMEOUT false false
      s.nodeId s.epoch 0 f.noReply []
  | none => s

/-- BROADCAST_GATHER_TIMEOUT (R296, R297). -/
def doGatherTimeout (client : ClientId) (tag : BitVec 16) (s : State) : State :=
  match s.cmds.gathers.find? (fun g => decide (g.client = client) && decide (g.tag = tag) && !(updLong g.opcode)) with
  | some g => s.closeGather g
  | none => s

/-- UPD_GATHER_TIMEOUT (R374): UPD_CFG.TMO ends. -/
def doUpdGatherTimeout (s : State) : State :=
  match s.cmds.gathers.find? (fun g => updLong g.opcode) with
  | some g => s.closeGather g
  | none =>
    match s.cmds.forwarded.find? (fun f => updLong f.opcode) with
    | some f =>
      ({ s with cmds := { s.cmds with forwarded := s.cmds.forwarded.erase f } }).cmdDone
        ⟨f.opcode, f.client, f.tag, .ring⟩ stTIMEOUT []
    | none => s

/-- The gap in an originator's ESEQ is reported to client 0 (R186). A count that falls back is a restart. -/
def State.eseqCheck (s : State) (n : NodeId) (q : Nat) : State :=
  let s' := { s with net := { s.net with eseqIn := assoc s.net.eseqIn n q } }
  match s.net.eseqIn.find? (fun (e : NodeId × Nat) => decide (e.1 = n)) with
  | some (_, last) =>
    let missed := (q + 2 ^ 16 - last - 1) % 2 ^ 16
    if missed = 0 ∨ 2 ^ 15 ≤ missed then s' else s'.ownEvent 0x0101 [wd (n.toNat * 2 ^ 16), wd missed]
  | none => s'

/-- CMD_DONE of another node: it goes to the client whose command that node answered PENDING, the oldest first. -/
def State.remoteDone (s : State) (n : NodeId) (q : Nat) (stamp fn : Word) (params : List Word) : State :=
  match s.cmds.done.find? (fun d => decide (d.route = .broash n false)) with
  | some d =>
    let e : EventRec := ⟨0x0100, d.client, d.tag, n, BitVec.ofNat 16 q, stamp, fn, params⟩
    ({ s with cmds := { s.cmds with done := s.cmds.done.erase d } }).deliver e
  | none => s

/-- EVT_RECEIVED (R186, R306). -/
def doEvt (x : Rx) (s : State) : State :=
  s.receive x (fun b s =>
    if s.role ≠ .head ∨ x.type.toNat ≠ tyEVT then s
    else
      let code := wbits (nth b 0) 31 16
      let q := wbits (nth b 0) 15 0
      let s := s.eseqCheck x.src q
      let params := b.drop 3
      if code = 0x0100 then s.remoteDone x.src q (nth b 1) (nth b 2) params
      else
        let s := s.headEvent code x.src q (nth b 1) (nth b 2) params
        if code = 0x0001 then s.holdReport x.src
        else if code = 0x0002 then { s with net := { s.net with learnDue := true } }
        else if code = 0x0303 then s.divergeSeen (nth params 0)
        else s)

end Sys2Proof.Machine
end

