-- ==== Sys2Proof/Machine/Host.lean ====
section
/-! DEFINITION. The host interface of the head (R307 to R320): translation, the DMA-allowed windows, the bus-master
channels and their faults, client rings, preview export and MSI-X. -/

namespace Sys2Proof.Machine

/-- The node has the PCI Express endpoint: a head, or a node in the recovery role (R4, R5, R381). -/
def State.pci (s : State) : Bool := s.powered && (decide (s.role = .head) || decide (s.actingRole = .recovery))

/-! ### Translation and windows (R312 to R314) -/

/-- A bus-master fault (R315): KIND, LEVEL and the failing address. -/
structure BusFault where
  kind  : Nat
  level : Nat
  addr  : Nat
  deriving DecidableEq, Repr

def kNOTPRESENT : Nat := 1
def kFORMAT : Nat := 2
def kBUSERR : Nat := 3
def kTW_RANGE : Nat := 4
def kWRITE : Nat := 5

/-- Base and last byte of window `i`. -/
def State.winSpan (s : State) (i : Nat) : Nat × Nat :=
  (s.get (Fld.PCI_WIN_BHI_BASE i) * 2 ^ 32 + s.get (Fld.PCI_WIN_LO_BASE i) * 4096,
   s.get (Fld.PCI_WIN_LHI_LIMIT i) * 2 ^ 32 + s.get (Fld.PCI_WIN_LIM_LIMIT i) * 4096 + 4095)

/-- The physical access is allowed (R314): outside the head's own BARs, and one window with the needed bit covers it. -/
def State.winAllows (s : State) (write : Bool) (a len : Nat) : Bool :=
  !(s.host.mem.bars.any (fun (b : Nat × Nat) => decide (a < b.1 + b.2) && decide (b.1 < a + len))) &&
    (List.range 8).any (fun i => s.bit (if write then Fld.PCI_WIN_LO_W i else Fld.PCI_WIN_LO_R i) &&
      decide ((s.winSpan i).1 ≤ a) && decide (a + len ≤ (s.winSpan i).2 + 1))

/-- A completion of the access comes back with an error. -/
def State.busErrs (s : State) (a len : Nat) : Bool :=
  s.host.mem.busError.any (fun x => decide (a ≤ x) && decide (x < a + len))

/-- The 64-bit entry that host memory holds; an entry not shown is 0 (assumption 51). -/
def State.hostEntry (s : State) (a : Nat) : BitVec 64 := lookup 0 s.host.mem.entries a

/-- A table entry read from memory on a walk (R312, R314): the fault, or the entry, cached when present. -/
def State.fetchEntry (s : State) (a level : Nat) : Except BusFault (BitVec 64) × State :=
  if !(s.winAllows false a 8) then (.error ⟨kTW_RANGE, level, a⟩, s)
  else if s.busErrs a 8 then (.error ⟨kBUSERR, level, a⟩, s.count Fld.PCI_ERR_CPLERR)
  else
    let e := s.hostEntry a
    (.ok e, if e.getLsbD 0 then { s with host := { s.host with cache := assoc s.host.cache a e } } else s)

/-- A table entry on a walk (R313): while a cached copy differs from memory, the head may use either. -/
def State.readEntry (s : State) (a level : Nat) : Except BusFault (BitVec 64) × State :=
  match s.host.cache.find? (fun (e : Nat × BitVec 64) => decide (e.1 = a)) with
  | some (_, c) =>
    if c == s.hostEntry a && !(s.busErrs a 8) then (.ok c, s)
    else
      let (f, s) := s.freeNat 1
      if f = 0 then (.ok c, s) else s.fetchEntry a level
  | none => s.fetchEntry a level

/-- The walk of R312. -/
def State.xlate (s : State) (iova : Nat) (write : Bool) : Except BusFault Nat × State :=
  let i1 := bitsOf iova 21 24
  let i2 := bitsOf iova 12 9
  let l1 := s.get Fld.PCI_XLT_L1_HI_BASE * 2 ^ 32 + s.get Fld.PCI_XLT_L1_LO_BASE * 4096
  if min (s.get Fld.PCI_XLT_L1LEN_LEN) (2 ^ 24) ≤ i1 then (.error ⟨kNOTPRESENT, 1, iova⟩, s)
  else match s.readEntry (l1 + 8 * i1) 1 with
    | (.error f, s) => (.error f, s)
    | (.ok e1, s) =>
      if e1.getLsbD 0 = false then (.error ⟨kNOTPRESENT, 1, iova⟩, s)
      else if bitsOf e1.toNat 2 10 ≠ 0 then (.error ⟨kFORMAT, 1, iova⟩, s)
      else match s.readEntry (e1.toNat / 4096 * 4096 + 8 * i2) 2 with
        | (.error f, s) => (.error f, s)
        | (.ok e2, s) =>
          if e2.getLsbD 0 = false then (.error ⟨kNOTPRESENT, 2, iova⟩, s)
          else if bitsOf e2.toNat 2 10 ≠ 0 then (.error ⟨kFORMAT, 2, iova⟩, s)
          else if write ∧ e2.getLsbD 1 = false then (.error ⟨kWRITE, 2, iova⟩, s)
          else (.ok (e2.toNat / 4096 * 4096 + iova % 4096), s)

/-- One data access inside a page: its physical address, checked (R312, R314). -/
def State.access (s : State) (iova len : Nat) (write : Bool) : Except BusFault Nat × State :=
  match s.xlate iova write with
  | (.error f, s) => (.error f, s)
  | (.ok pa, s) =>
    if !(s.winAllows write pa len) then (.error ⟨kTW_RANGE, 0, pa⟩, s)
    else if s.busErrs pa len then (.error ⟨kBUSERR, 0, pa⟩, s.count Fld.PCI_ERR_CPLERR)
    else (.ok pa, s)

/-- A run of words at a word-aligned IOVA cut at page boundaries (R312). -/
def pageParts (fuel iova : Nat) (ws : List Word) : List (Nat × List Word) :=
  match fuel with
  | 0 => []
  | k + 1 =>
    if ws.isEmpty then []
    else
      let n := max 1 ((4096 - iova % 4096) / 4)
      (iova % 2 ^ 45, ws.take n) :: pageParts k (iova + 4 * n) (ws.drop n)

/-- Writes words at an IOVA on channel `ch`, page by page, up to the first fault. -/
def State.busWrite (s : State) (ch : Nat) (parts : List (Nat × List Word)) : Option BusFault × State :=
  match parts with
  | [] => (none, s)
  | (iova, ws) :: rest =>
    match s.access iova (4 * ws.length) true with
    | (.error f, s) => (some f, s)
    | (.ok pa, s) => (s.emit (.hostWrite ch pa ws)).busWrite ch rest

/-- Writes bytes at an IOVA that is not word-aligned, page by page, up to the first fault; `fuel` bounds the pages. -/
def State.busBytes (s : State) (ch fuel iova : Nat) (bs : List Nat) : Option BusFault × State :=
  match fuel with
  | 0 => (none, s)
  | k + 1 =>
    if bs.isEmpty then (none, s)
    else
      let n := min bs.length (4096 - iova % 4096)
      match s.access (iova % 2 ^ 45) n true with
      | (.error f, s) => (some f, s)
      | (.ok pa, s) => (s.emit (.hostBytes ch pa (bs.take n))).busBytes ch k (iova + n) (bs.drop n)

/-- Words at one IOVA: no access crosses a page (R312). -/
def State.busPut (s : State) (ch iova : Nat) (ws : List Word) : Option BusFault × State :=
  if iova % 4 = 0 then s.busWrite ch (pageParts (ws.length + 1) iova ws)
  else s.busBytes ch (ws.length / 1024 + 3) iova (leStream ws)

/-- The physical addresses of the pieces of `len` bytes at an IOVA, each inside one page; `fuel` bounds the pages. -/
def State.pages (s : State) (fuel iova len : Nat) (write : Bool) : Except BusFault (List Nat) × State :=
  match fuel with
  | 0 => (.ok [], s)
  | k + 1 =>
    if len = 0 then (.ok [], s)
    else
      let n := min len (4096 - iova % 4096)
      match s.xlate (iova % 2 ^ 45) write with
      | (.error f, s) => (.error f, s)
      | (.ok pa, s) =>
        match s.pages k (iova + n) (len - n) write with
        | (.error f, s) => (.error f, s)
        | (.ok l, s) => (.ok (pa :: l), s)

/-- The accesses to `len` bytes at an IOVA, page by page, up to the first fault; `fuel` bounds the pages. -/
def State.pagesOk (s : State) (fuel iova len : Nat) (write : Bool) : Option BusFault × State :=
  match fuel with
  | 0 => (none, s)
  | k + 1 =>
    if len = 0 then (none, s)
    else
      let n := min len (4096 - iova % 4096)
      match s.access (iova % 2 ^ 45) n write with
      | (.error f, s) => (some f, s)
      | (.ok _, s) => s.pagesOk k (iova + n) (len - n) write

/-- Reads `len` bytes from an IOVA, page by page, up to the first fault; `fuel` bounds the pages. -/
def State.busRead (s : State) (fuel iova len : Nat) : Option BusFault × State := s.pagesOk fuel iova len false

/-- The head issues requests: Bus Master Enable is 1 and no invalidation holds the walks (R309, R313). -/
def State.masters (s : State) : Bool := s.pci && s.bit Fld.PCI_LINK_STAT_BME && !(s.host.inval)

/-- A channel from 1 to 4 issues requests; none does while fault handling runs (R399, step 4). -/
def State.channelOn (s : State) (ch : Nat) : Bool :=
  s.masters && !(s.bit (Fld.PCI_CH_STAT_STOP ch)) && !(s.bit Fld.SYS_FAULT_STAT_HANDLING)

/-- Records a fault of a channel (R315): KIND, LEVEL and the failing address. -/
def State.faultRecord (s : State) (ch : Nat) (f : BusFault) : State :=
  (((s.put (Fld.PCI_CH_STAT_KIND ch) f.kind).put (Fld.PCI_CH_STAT_LEVEL ch) f.level).put
    (Fld.PCI_CH_FADDR_LO_ADDR ch) f.addr).put (Fld.PCI_CH_FADDR_HI_ADDR ch) (f.addr / 2 ^ 32)

/-- A fault stops channel 1 to 4 (R315). -/
def State.channelFault (s : State) (ch : Nat) (f : BusFault) : State := (s.faultRecord ch f).raise (Fld.PCI_CH_STAT_STOP ch)

/-! ### Rings (R311, R316 to R318) -/

def State.ring (s : State) (n : ClientId) : Ring := SMap.get (fun _ => Ring.off) s.host.rings n.toNat

def State.setRing (s : State) (n : ClientId) (r : Ring) : State :=
  { s with host := { s.host with rings := SMap.set (fun _ => Ring.off) s.host.rings n.toNat r } }

/-- LOG of ring `k` (0 command, 1 reply, 2 event) in a context. -/
def ctxLog (cfg : List Word) (k : Nat) : Nat := wbits (nth cfg (2 * k + 1)) 28 24

/-- Base IOVA of ring `k` in a context. -/
def ctxBase (cfg : List Word) (k : Nat) : Nat :=
  wbits (nth cfg (2 * k + 1)) 12 0 * 2 ^ 32 + wbits (nth cfg (2 * k)) 31 12 * 4096

/-- IOVA of the status record. -/
def ctxStat (cfg : List Word) : Nat := wbits (nth cfg 7) 12 0 * 2 ^ 32 + wbits (nth cfg 6) 31 4 * 16
def ctxVec (cfg : List Word) : Nat := wbits (nth cfg 7) 31 26
def ctxCoal (cfg : List Word) : Nat := wbits (nth cfg 7) 25 16

/-- Every value of a context lies in its range (*Table — Ring context*). -/
def ctxOk (cfg : List Word) : Bool :=
  decide (10 ≤ ctxLog cfg 0) && decide (ctxLog cfg 0 ≤ 22) && decide (8 ≤ ctxLog cfg 1) && decide (ctxLog cfg 1 ≤ 14) &&
    decide (8 ≤ ctxLog cfg 2) && decide (ctxLog cfg 2 ≤ 14)

/-- The PCI_RING_CFG words of a client. -/
def State.ringCtx (s : State) (n : ClientId) : List Word :=
  (List.range 8).map (fun k => SMap.get (fun _ => 0) s.host.ctx (8 * n.toNat + k))

/-- Stops a ring (R317). -/
def State.stopRing (s : State) (n : ClientId) (reason : Nat) : State :=
  s.setRing n { s.ring n with stopped := true, reason := reason }

/-- A ring fault (R315): the record of channel 0 with the client and STOP, interrupt source 40 pending, and the ring stopped.
STOP of channel 0 stops nothing else. -/
def State.ringFault (s : State) (n : ClientId) (f : BusFault) : State :=
  (((((s.faultRecord 0 f).raise (Fld.PCI_CH_STAT_STOP 0)).put (Fld.PCI_CH_STAT_CLIENT 0) n.toNat).raise (Fld.ICU_SRC_PEND 40))).stopRing n 3

/-- The MSI-X vector's mask bit; the table's mask bits are 1 after reset (assumption 52). -/
def State.msixMasked (s : State) (v : Nat) : Bool := (SMap.get (fun k => if k % 4 = 3 then 1 else 0) s.host.msix (4 * v + 3)).getLsbD 0

/-- Sends the message of a vector, or leaves it pending in the PBA while the vector or the function is masked or while Bus
Master Enable is 0 (R309, R320). With MSI-X disabled there is no message. -/
def State.sendMsix (s : State) (v : Nat) : State :=
  if !(s.host.msixOn) then s
  else if s.host.msixMask || s.msixMasked v || !(s.bit Fld.PCI_LINK_STAT_BME) then
    { s with host := { s.host with pba := if v ∈ s.host.pba then s.host.pba else s.host.pba ++ [v] } }
  else s.emit (.msix v)

/-- Messages waiting in the PBA that may now be sent. -/
def State.releasePba (s : State) : State :=
  let l := s.host.pba
  forEach l (fun v s => s.sendMsix v) { s with host := { s.host with pba := [] } }

/-- The cause of source `n`'s message has gone: its pending bit clears, unless the vector also serves another pending source
or an enabled ring (assumption 52). -/
def State.settlePba (s : State) (n : Nat) : State :=
  let v := s.get (Fld.PCI_MSIX_SRC_VEC n)
  let shared := (List.range 256).any (fun m => decide (m ≠ n) && decide (s.get (Fld.PCI_MSIX_SRC_VEC m) = v) && s.bit (Fld.ICU_SRC_PEND m)) ||
    s.host.rings.any (fun (e : Nat × Ring) => e.2.en && decide (wbits (nth e.2.cfg 7) 31 26 = v))
  if v ∈ s.host.pba ∧ shared = false then { s with host := { s.host with pba := s.host.pba.erase v } } else s

/-- The words of the status record (*Rings*). -/
def Ring.status (r : Ring) : List Word :=
  [r.cmdCi, wd (r.evtPi * 2 ^ 16 + r.rplPi), wd r.evdrop, wd ((if r.rfull then 1 else 0) + (if r.stopped then 2 else 0))]

/-- The message of a ring after a write, unless one went out less than COAL µs before (R318). -/
def State.ringMessage (s : State) (n : ClientId) : State :=
  let r := s.ring n
  if r.holdoff then s.setRing n { r with msgDue := true }
  else (s.setRing n { r with holdoff := decide (0 < ctxCoal r.cfg) }).sendMsix (ctxVec r.cfg)

/-- A record of a reply or event ring, padded to 16-byte units, cut where it wraps round the end of the ring. -/
def Ring.place (r : Ring) (k pi : Nat) (ws : List Word) : List (Nat × List Word) :=
  let size := 2 ^ ctxLog r.cfg k
  let room := (size - pi % size) * 4
  let base := ctxBase r.cfg k
  pageParts (ws.length + 1) (base + pi % size * 16) (ws.take room) ++ pageParts (ws.length + 1) base (ws.drop room)

/-- Zero words to a multiple of 4 words. -/
def padded (ws : List Word) : List Word := ws ++ List.replicate ((4 - ws.length % 4) % 4) 0

/-- 16-byte units free in ring `k`. -/
def Ring.free (r : Ring) (k pi ci : Nat) : Nat := 2 ^ ctxLog r.cfg k - (pi + 2 ^ 16 - ci) % 2 ^ 16

/-- Writes a record into ring `k` of a client, then the status record, then the message (R318). The flag tells whether the
record has left staging. -/
def State.putRecord (s : State) (n : ClientId) (k : Nat) (ws : List Word) : Bool × State :=
  let ws := padded ws
  let r := s.ring n
  match s.busWrite 0 (r.place k (if k = 1 then r.rplPi else r.evtPi) ws) with
  | (some f, s) => (false, s.ringFault n f)
  | (none, s) =>
    let r := if k = 1 then { r with rplPi := (r.rplPi + ws.length / 4) % 2 ^ 16, rfull := false }
      else { r with evtPi := (r.evtPi + ws.length / 4) % 2 ^ 16 }
    let s := s.setRing n r
    let s := if k = 1 then s.tallyOf 0x046 4 n.toNat else s
    match s.busPut 0 (ctxStat r.cfg) r.status with
    | (some f, s) => (true, s.ringFault n f)
    | (none, s) => (true, s.ringMessage n)

/-- The client whose ring a staged entry goes to. -/
def Staged.ring : Staged → ClientId
  | .reply n _ => n
  | .event e => e.client
  | .stop n => n

/-- An entry that keeps its place behind the replies of its ring. -/
def Staged.isReply : Staged → Bool
  | .reply _ _ => true
  | .event _ => false
  | .stop _ => true

/-- Drops what is staged for a disabled ring (R316, R318): a reply is discarded, an event counts in EVDROP. -/
def State.dropStaged (s : State) (x : Staged) : State :=
  match x with
  | .reply _ _ => s
  | .stop _ => s
  | .event e => (s.setRing e.client { s.ring e.client with evdrop := ((s.ring e.client).evdrop + 1) % 2 ^ 32 }).tallyOf 0x047 4
      e.client.toNat

/-- One staged entry (R318): true when it has left staging. A reply that finds no room sets RFULL and stays. -/
def State.stageOne (s : State) (x : Staged) : Bool × State :=
  let r := s.ring x.ring
  if !r.en then (true, s.dropStaged x)
  else if r.stopped ∧ r.reason = 3 then (false, s)
  else match x with
    | .reply n p =>
      if r.free 1 r.rplPi r.rplCi < (padded p.words).length / 4 then (false, s.setRing n { r with rfull := true })
      else s.putRecord n 1 p.words
    | .stop n => (true, s.stopRing n 1)
    | .event e =>
      if r.free 2 r.evtPi r.evtCi < (padded e.words).length / 4 then (true, s.dropStaged x)
      else s.putRecord e.client 2 e.words

/-- Writes what is staged, in order; a reply that waits holds back the later replies of its ring. -/
def State.flushList (s : State) (l : List Staged) (stuck : List ClientId) : List Staged × State :=
  match l with
  | [] => ([], s)
  | x :: t =>
    if x.isReply && decide (x.ring ∈ stuck) then
      let (rest, s) := s.flushList t stuck
      (x :: rest, s)
    else
      let (gone, s) := s.stageOne x
      let (rest, s) := s.flushList t (if gone then stuck else x.ring :: stuck)
      (if gone then rest else x :: rest, s)

/-- Writes the staged replies and events of a head to its rings (R318). A node without an endpoint has no rings. -/
def State.flushStaged (s : State) : State :=
  if s.cmds.staged.isEmpty ∨ s.masters = false then s
  else
    let (rest, s) := s.flushList s.cmds.staged []
    { s with cmds := { s.cmds with staged := rest } }

/-- Commands taken from rings that are reset still apply, and draw no reply (R308, R316); those answered PENDING keep
their CMD_DONE. -/
def State.muteRings (s : State) (hit : ClientId → Bool) : State :=
  let long (op : Nat) : Bool := op == opUPD_BEGIN || op == opUPD_VERIFY
  let mine (c : Cmd) : Bool := decide (c.route = .ring) && hit c.client
  { s with
    cmds := { s.cmds with
      accepted  := s.cmds.accepted.map (fun (a : Accepted) => if mine a.cmd then { a with mirror := true } else a)
      forwarded := s.cmds.forwarded.filter (fun (f : Forwarded) => !(hit f.client) || long f.opcode)
      gathers   := s.cmds.gathers.filter (fun (g : Gather) => !(hit g.client) || long g.opcode)
      userMute  := s.cmds.userMute || (match s.cmds.userBusy with | some (c, _) => mine c | none => false) }
    net := { s.net with
      walk := s.net.walk.map (fun (w : HeadWalk) =>
        { w with cmd := match w.cmd with | some c => (if mine c then none else some c) | none => none })
      barMine := match s.net.barMine with | some (i, k, c) => (if mine c then none else some (i, k, c)) | none => none } }

/-- A write of PCI_RING_STAT for the selected client (R316). RESET acts before EN, and a write with EN = 1 to an enabled
ring leaves it as it is. -/
def State.ringStatWrite (s : State) (v : Word) : State :=
  if !s.pci then s
  else
    let n : ClientId := BitVec.ofNat 12 (s.get Fld.PCI_RING_SEL_CLIENT)
    let r := s.ring n
    let r := if wbits v 29 29 = 1 then { r with err := false } else r
    if wbits v 30 30 = 1 then
      let s := (s.setRing n { Ring.off with err := r.err, evdrop := r.evdrop }).muteRings (fun m => decide (m = n))
      let mine := s.cmds.staged.filter (fun x => decide (x.ring = n))
      let s := forEach mine (fun x s => s.dropStaged x) s
      { s with cmds := { s.cmds with staged := s.cmds.staged.filter (fun x => decide (x.ring ≠ n)) } }
    else if wbits v 31 31 = 1 ∧ r.en = false then
      let cfg := s.ringCtx n
      if ctxOk cfg then s.setRing n { Ring.off with en := true, err := r.err, cfg := cfg, evdrop := r.evdrop }
      else s.setRing n { r with err := true }
    else s.setRing n r

/-- RING_ENABLE (R316). -/
def doRingEnable (v : Word) (s : State) : State := s.ringStatWrite v

/-- RING_RESET (R316). -/
def doRingReset (v : Word) (s : State) : State := s.ringStatWrite v

/-- A ring once a doorbell has given it the indices of the dwords written (R311). -/
def Ring.rung (r : Ring) (d0 d1 : Option Word) : Ring :=
  let r : Ring := match d0 with | some v => { r with cmdPi := v } | none => r
  match d1 with
  | some v => { r with rplCi := wbits v 15 0, evtCi := wbits v 31 16 }
  | none => r

/-- The indices of a ring name more than it holds (R317). -/
def Ring.overrun (r : Ring) : Bool :=
  decide (2 ^ ctxLog r.cfg 0 < (r.cmdPi - r.cmdCi).toNat) ||
    decide (2 ^ ctxLog r.cfg 1 < (r.rplPi + 2 ^ 16 - r.rplCi) % 2 ^ 16) ||
    decide (2 ^ ctxLog r.cfg 2 < (r.evtPi + 2 ^ 16 - r.evtCi) % 2 ^ 16)

/-- DOORBELL_WRITE (R311, R317). -/
def doDoorbell (n : ClientId) (d0 d1 : Option Word) (s : State) : State :=
  if !s.pci then s
  else if !(s.ring n).en then s.count Fld.PCI_ERR_DBDROP
  else
    let r := (s.ring n).rung d0 d1
    s.setRing n (if r.overrun ∧ r.stopped = false then { r with stopped := true, reason := 2 } else r)

/-- RING_HOLDOFF_END (R318). -/
def doHoldoffEnd (n : ClientId) (s : State) : State :=
  let r := s.ring n
  if !r.holdoff then s
  else if r.msgDue then (s.setRing n { r with msgDue := false }).sendMsix (ctxVec r.cfg)
  else s.setRing n { r with holdoff := false }

/-- Shows the head new contents of host memory. -/
def State.showMem (s : State) (m : HostMem) : State := { s with host := { s.host with mem := m } }

/-- STAGED_REPLY_WRITE (R318): the reply held for want of room is written once there is room. -/
def doStagedWrite (m : HostMem) (s : State) : State := if s.pci then (s.showMem m).flushStaged else s

/-- The command words in a ring between CMD_CI and CMD_PI are fetched: `len` words from CMD_CI (R317). -/
def State.ringFetch (s : State) (n : ClientId) (len : Nat) : Option BusFault × State :=
  let r := s.ring n
  let size := 2 ^ ctxLog r.cfg 0
  let o := r.cmdCi.toNat % size
  let base := ctxBase r.cfg 0
  let first := min len (size - o)
  match s.busRead (len + 2) (base + 4 * o) (4 * first) with
  | (some f, s) => (some f, s)
  | (none, s) => s.busRead (len + 2) base (4 * (len - first))

/-! ### Mailboxes, BAR accesses, resets -/

/-- MAILBOX_WRITE (R310): word 0 raises interrupt source 26. -/
def doMailbox (i : Nat) (v : Word) (s : State) : State :=
  if !s.pci then s
  else
    let s := { s with host := { s.host with toHead := SMap.set (fun _ => 0) s.host.toHead i v } }
    if i = 0 then s.raise (Fld.ICU_SRC_PEND 26) else s

/-- What the host reads at word `x` of BAR2 above the doorbells (*Table — BAR layout*): the mailboxes, and 0 in the reserved
part. No rule has firmware write the mailbox from the head. -/
def State.bar2Word (s : State) (x : Nat) : Word :=
  if 0x8000 ≤ x ∧ x < 0x9000 then SMap.get (fun _ => 0) s.host.toHead ((x - 0x8000) / 4)
  else if 0x9000 ≤ x ∧ x < 0xA000 then SMap.get (fun _ => 0) s.host.fromHead ((x - 0x9000) / 4)
  else 0

/-- BAR_BAD_SIZE_ACCESS (R310). -/
def doBadSize (write : Bool) (s : State) : State :=
  if !s.pci then s
  else if write then s.count Fld.PCI_ERR_BADSIZE
  else s.emit (.readValue 0 0xFFFFFFFF)

/-- BUS_MASTER_ENABLE_CHANGE (R309): a configuration write reaches the node over a trained link, so PCI_LINK_STAT shows
the link up, at a speed and width of R307. -/
def doBme (en : Bool) (s : State) : State :=
  if !s.pci then s
  else
    let s := if s.bit Fld.PCI_LINK_STAT_UP then s
      else
        let (f, s) := s.freeNat 2
        let (g, s) := s.freeNat 2
        ((s.raise Fld.PCI_LINK_STAT_UP).put Fld.PCI_LINK_STAT_SPEED (3 + f % 3)).put Fld.PCI_LINK_STAT_WIDTH (2 ^ g)
    let s := s.putBit Fld.PCI_LINK_STAT_BME en
    if en then s.releasePba else s

/-- The PCI Express endpoint is reset (R308): its registers, channels and rings; staged replies and events are
discarded, and fetches under way end. -/
def State.pciReset (s : State) : State :=
  let s := { s with
    regs := s.regs.filter (fun e => !(decide (0x250000 ≤ e.1) && decide (e.1 < 0x260000)))
    host := { HostIf.reset with mem := s.host.mem }
    cmds := { s.cmds with staged := [] } }
  let s := s.muteRings (fun _ => true)
  forEach (List.range 64) (fun n s =>
    if (s.src n).fetching.isSome then s.setSrc n { s.src n with fetching := none, heldBell := none, cur := none } else s) s

/-- PCIE_RESET (R308). -/
def doPcieReset (s : State) : State := if s.pci then s.pciReset else s

/-- FUNCTION_LEVEL_RESET (R308): acts as PE_PERST_N. -/
def doFlr (s : State) : State := if s.pci then s.pciReset else s

/-- XLT_INVALIDATE (R313): every channel holds its next walk. -/
def doXltInvalidate (v : Word) (s : State) : State :=
  if s.pci ∧ wbits v 0 0 = 1 then
    ({ s with host := { s.host with inval := true } }).raise Fld.PCI_XLT_INV_INV
  else s

/-! ### Preview export (R319) -/

/-- The 480 words of a preview patch, as the preview area holds them. -/
def previewWords (l : List (BitVec 64)) : List Word := l.flatMap (fun w => [wd w.toNat, wd (w.toNat / 2 ^ 32)])

/-- Copies the preview patches that wait, up to a fault of channel 4. -/
def State.copyPreview (s : State) (l : List (Nat × Nat)) : State :=
  match l with
  | [] => { s with host := { s.host with prevq := [] } }
  | (t, i) :: rest =>
    let iova := s.get Fld.PCI_PREV_HI_IOVA * 2 ^ 32 + s.get Fld.PCI_PREV_LO_IOVA * 4096 + (60 * t + i) * 1920
    let (ws, s) := s.readPatch (areaAddr (s.get Fld.CMP_PREV_BASE_BASE) t i)
    match s.busPut 4 iova (previewWords (ws.getD (List.replicate 240 0))) with
    | (none, s) => s.copyPreview rest
    | (some f, s) => ({ s with host := { s.host with prevq := (t, i) :: rest } }).channelFault 4 f

/-- The preview is written and exported (R319). -/
def State.previewOn (s : State) : Bool := s.bit Fld.PCI_PREV_LO_EN && s.bit ⟨Reg.CMP_PREV_BASE, 31, 31⟩

/-- Channel 4 copies what waits, when it may issue. -/
def State.runPreview (s : State) : State :=
  if s.host.prevq.isEmpty ∨ s.previewOn = false ∨ s.channelOn 4 = false then s else s.copyPreview s.host.prevq

/-- The preview export at a tick boundary (R319): patches of the tick before that were not copied are skipped. -/
def State.previewTick (s : State) : State :=
  let skipped := s.host.prevq.length
  let s := if skipped = 0 then s else s.count Fld.PCI_ERR_PREVSKIP skipped
  let s := { s with
    host := { s.host with prevq := if s.previewOn then s.comp.prevDirty else [] }
    comp := { s.comp with prevDirty := [] } }
  s.runPreview

/-! ### Host sources on channel 1 (R66, R315) -/

/-- The lines of a host buffer are read: `h` lines of `len` bytes, `pitch` apart. -/
def State.fetchLines (s : State) (h iova pitch len : Nat) : Option BusFault × State :=
  match h with
  | 0 => (none, s)
  | k + 1 =>
    match s.busRead (len / 4096 + 2) iova len with
    | (some f, s) => (some f, s)
    | (none, s) => s.fetchLines k (iova + pitch) pitch len

/-- HOST_FRAME_FETCHED (R66, R315): the buffer of the fetch in progress is read over channel 1; a fault discards the
partial frame and stops the channel. -/
def doHostFrame (n : Nat) (rows : List (List RawPixel)) (m : HostMem) (s : State) : State :=
  let s := if s.pci then s.showMem m else s
  if !(s.ingestRuns && s.channelOn 1) then s
  else match (s.src n).fetching with
    | none => s
    | some b =>
      let buf := (s.src n).bufs.getD b (0, 0)
      let px := if s.get (Fld.SRC_CFG_FORMAT n) = 6 then 8 else 4
      match s.fetchLines (s.rasterH n) buf.1 buf.2 (s.rasterW n * px) with
      | (some f, s) => (s.fetchFail n).channelFault 1 f
      | (none, s) => s.hostFrame n ((rows.take (s.rasterH n)).map (fun l => l.take (s.rasterW n)))

/-- A stopped channel resumes (R315): channel 1 starts the doorbells held, channel 4 copies what waits. -/
def State.channelRestart (s : State) (ch : Nat) : State :=
  let s := s.put (Fld.PCI_CH_STAT_STOP ch) 0
  match ch with
  | 1 => forEach (List.range 64) (fun n s => doHeldBell n s) s
  | 4 => s.runPreview
  | _ => s

/-- CHANNEL_RESUME (R315), but for the journal's channel. -/
def State.channelResume (s : State) (ch : Nat) (v : Word) : State :=
  if s.pci ∧ wbits v 31 31 = 1 ∧ ch ≠ 0 ∧ s.bit (Fld.PCI_CH_STAT_STOP ch) = true then s.channelRestart ch else s

end Sys2Proof.Machine
end

