-- ==== Sys2Proof/Machine/Lamp.lean ====
section
/-! DEFINITION. Lamp correction (R216 to R239): the calibration record, the eight stages, the staging words, the ageing
ledger and the gain sets. -/

namespace Sys2Proof.Machine

/-! ### The calibration record (*Table — Calibration record*) -/

/-- Byte `i` of a calibration copy; a byte never loaded reads 0 (assumption 31). -/
def calByte (m : SMap Nat) (i : Nat) : Nat := SMap.get (fun _ => 0) m i

/-- A little-endian number of `n` bytes at offset `i`. -/
def calLe (m : SMap Nat) (i n : Nat) : Nat :=
  match n with
  | 0 => 0
  | k + 1 => calByte m i + 256 * calLe m (i + 1) k

/-- The record size. -/
def calSize : Nat := 387936

/-- EOTF[f][j]; linear without a record (R233). -/
def eotf (c : Option (SMap Nat)) (f j : Nat) : Nat :=
  match c with
  | some m => bitsOf (calLe m (0x100 + 4 * (4097 * f + j)) 4) 0 20
  | none => min 1048575 (256 * j)

/-- M[i][k] of pixel (x, y); the identity without a record. -/
def calMatrix (c : Option (SMap Nat)) (x y i k : Nat) : Int :=
  match c with
  | some m => signed 16 (calLe m (0xC200 + 2 * (9 * (160 * y + x) + 3 * i + k)) 2)
  | none => if i = k then 8192 else 0

/-- RC[y][c][i]; RC[y][c][64] is taken as 0 (R226). -/
def rowCorr (m : Option (SMap Nat)) (y c i : Nat) : Int :=
  match m with
  | some m => if i < 64 then signed 16 (calLe m (0x4B700 + 2 * ((3 * y + c) * 64 + i)) 2) else 0
  | none => 0

/-- FACTORY of lamp `l`. -/
def calFactory (m : Option (SMap Nat)) (l : Nat) : Bool :=
  match m with
  | some m => calByte m (0x53E00 + l) / 4 % 2 == 1
  | none => false

/-- Sink trim `i` of the record. -/
def calTrim (m : Option (SMap Nat)) (i : Nat) : Nat :=
  match m with
  | some m => calByte m (0x5E700 + i) % 64
  | none => 0

/-- A header number, with its value without a record. -/
def calHead (c : Option (SMap Nat)) (ofs n default_ : Nat) : Nat :=
  match c with
  | some m => calLe m ofs n
  | none => default_

def calFull (c : Option (SMap Nat)) (i : Nat) : Nat := bitsOf (calHead c (0x20 + 4 * i) 4 1048575) 0 20
def calHr (c : Option (SMap Nat)) (i : Nat) : Nat := bitsOf (calHead c (0x2C + 4 * i) 4 0x8000) 0 16
def calShift (c : Option (SMap Nat)) (i : Nat) : Nat := calHead c (0x38 + i) 1 0
def calRowShift (c : Option (SMap Nat)) : Nat := calHead c 0x3B 1 0
def calConceal (c : Option (SMap Nat)) : Nat := bitsOf (calHead c 0x3C 4 0) 0 9
def calDecay (c : Option (SMap Nat)) (i j : Nat) : Nat := calHead c (0x48 + 32 * i + 2 * j) 2 0x8000
def calTfac (c : Option (SMap Nat)) (t : Nat) : Nat := calHead c (0xA8 + 2 * t) 2 0x1000

/-- The bytes of a record from `i`, `n` of them. -/
def calBytes (m : SMap Nat) (i n : Nat) : List Nat := (List.range n).map (fun k => calByte m (i + k))

/-- The header and tables stand: MAGIC, VERSION, LENGTH and CRC (R232, first row). -/
def calCrcOk (m : SMap Nat) : Bool :=
  decide (calLe m 0 4 = 0x42434C45) && decide (calLe m 4 2 = 1) && decide (calLe m 8 4 = calSize) &&
    decide (crc32c (calBytes m 0 12 ++ [0, 0, 0, 0] ++ calBytes m 16 (0x5EB00 - 16)) = calLe m 12 4)

/-- Words of a byte list, four bytes little-endian each. -/
def wordsOf (l : List Nat) : List Word :=
  match l with
  | a :: b :: c :: d :: t => wd (a + 256 * b + 65536 * c + 16777216 * d) :: wordsOf t
  | _ => []

/-- The station signature verifies under the key in the slot named (R232, second row). -/
def State.calSigOk (s : State) (m : SMap Nat) : Bool :=
  match SMap.find s.keys.stations (bitsOf (calLe m 0x14 4) 0 2) with
  | some k => ecdsaOk (pointOf k) (sha384 (calBytes m 0 0x5EB00)) (pairOfLe (wordsOf (calBytes m 0x5EB00 96)))
  | none => false

/-- Header values in range, EOTF entries at most 1,048,575 and no DECAY entry 0 (R232, third row). -/
def calRangeOk (m : SMap Nat) : Bool :=
  (List.range 3).all (fun c =>
    decide (1 ≤ bitsOf (calLe m (0x20 + 4 * c) 4) 0 20) && decide (0x8000 ≤ bitsOf (calLe m (0x2C + 4 * c) 4) 0 16) &&
    decide (calByte m (0x38 + c) ≤ 31) && decide (16 ≤ calLe m (0x40 + 2 * c) 2) && decide (calLe m (0x40 + 2 * c) 2 ≤ 256) &&
    (List.range 16).all (fun j => decide (calLe m (0x48 + 32 * c + 2 * j) 2 ≠ 0))) &&
  decide (calByte m 0x3B ≤ 14) && decide (bitsOf (calLe m 0x3C 4) 0 9 ≤ 256) &&
  (List.range (3 * 4097)).all (fun j => decide (calLe m (0x100 + 4 * j) 4 ≤ 1048575))

/-- FIELD names a lamp field of R17. -/
def calFieldOk (m : SMap Nat) : Bool :=
  let f := calLe m 0x10 4
  decide (1 ≤ bitsOf f 0 4) && decide (bitsOf f 0 4 ≤ 10) && decide (2 ≤ bitsOf f 4 3) && decide (bitsOf f 4 3 ≤ 6)

/-- The copy of index `b`. -/
def State.calCopy (s : State) (b : Bool) : SMap Nat := if b then s.lamp.copy1 else s.lamp.copy0

/-- Changes the FACTORY flags to those of a record; the other flags stay. -/
def factoryFlags (c : Option (SMap Nat)) (flags : SMap Nat) : SMap Nat :=
  let base := flags.map (fun e => (e.1, setBits e.2 2 1 0))
  let base := base.filter (fun e => decide (e.2 ≠ 0))
  match c with
  | none => base
  | some m => (m.filter (fun e => decide (0x53E00 ≤ e.1) && decide (e.1 < 0x53E00 + 43200) && decide (e.2 / 4 % 2 = 1))).foldl
      (fun f e => let l := e.1 - 0x53E00; SMap.put f l (setBits (SMap.get (fun _ => 0) f l) 2 1 1)) base

/-- Loads a calibration record, or the values without one, into the registers (R232, R233, R247). -/
def State.loadCal (s : State) (c : Option (SMap Nat)) : State :=
  let s := { s with
    lamp := { s.lamp with cal := c, flags := factoryFlags c s.lamp.flags }
    wq := match c with | some m => bitsOf (calLe m 0x10 4) 0 4 | none => s.wq
    hq := match c with | some m => bitsOf (calLe m 0x10 4) 4 3 | none => s.hq }
  let s := forEach (List.range 3) (fun i s =>
    let s := s.put (Fld.COR_FULL_FULL i) (calFull c i)
    match c with
    | some m => s.put (Fld.DRV_IFS_CODE i) (calLe m (0x40 + 2 * i) 2)
    | none =>
      -- R233 gives no full-scale code without a record: a free value in the range of R247 (assumption 20)
      let (v, s) := s.freeNat 8
      s.put (Fld.DRV_IFS_CODE i) (16 + v % 241)) s
  let s := (s.put Fld.COR_CONCEAL_K (calConceal c)).put Fld.COR_ROWC_SHIFT (calRowShift c)
  let s := s.putBit Fld.COR_STAT_NOCAL c.isNone
  let info (k : Nat) : Word := match c with | some m => wd (calLe m k 4) | none => 0
  let s := s.setWord (Reg.COR_CAL_INFO 0) (info 0x14)
  let s := s.setWord (Reg.COR_CAL_INFO 1) (info 0x18)
  let s := s.setWord (Reg.COR_CAL_INFO 2) (info 0x1C)
  let s := s.setWord (Reg.COR_CAL_INFO 3) (info 0x0C)
  let s := forEach (List.range 960) (fun i s => s.put (Fld.DRV_TRIM_TRIM i) (calTrim c i)) s
  ({ s with drive := { s.drive with trimDone := none, trim := none } }).put Fld.DRV_TCAL_STAT_BUSY 0

/-! ### Stages (R220 to R229) -/

/-- Stage 1 (R220): the L20 value of a code. A code wider than the format, in a frame received before a change of
COR_CFG.FMT, names no entry of the table (assumption 119). -/
def decodeCode (c : Option (SMap Nat)) (f code : Nat) : Nat :=
  let m := 2 ^ fmtBits f - 1
  let p := (code * 65536 + m / 2) / m
  let j := p / 16
  let fr : Int := (p % 16 : Nat)
  if 4096 < j then Config.eotfBeyond f code % 2 ^ 20
  else if j = 4096 then eotf c f 4096
  else ((eotf c f j : Int) + (((eotf c f (j + 1) : Int) - eotf c f j) * fr + 8) / 16).toNat

/-- Stage 2 (R222): component `i` of a pixel. -/
def pixelMatrix (c : Option (SMap Nat)) (x y : Nat) (p : Rgb) (i : Nat) : Nat :=
  (clampI ((calMatrix c x y i 0 * p.r + calMatrix c x y i 1 * p.g + calMatrix c x y i 2 * p.b + 4096) / 8192) 0 1048575).toNat

/-- Stage 3 (R223). -/
def wallGain (wg dg floor : Nat) (covered : Bool) (l : Nat) : Nat :=
  let g := min 65535 ((wg * dg + 16384) / 32768)
  let g := if covered then max g floor else g
  min 1048575 ((l * g + 16384) / 32768)

/-- Stage 4 (R224). -/
def ageGain (g l : Nat) : Nat := min 1048575 ((l * g + 16384) / 32768)

/-- A lamp is dead when any of bits 0 to 3 of its flags is 1 (R230). -/
def isDead (flags : SMap Nat) (l : Nat) : Bool := SMap.get (fun _ => 0) flags l % 16 != 0

/-- The dead lamps of the same colour among the four neighbours in the field (R225). -/
def deadNear (flags : SMap Nat) (w h x y c : Nat) : Nat :=
  let at_ (x y : Nat) : Nat := if isDead flags (3 * (160 * y + x) + c) then 1 else 0
  (if 0 < x then at_ (x - 1) y else 0) + (if x + 1 < w then at_ (x + 1) y else 0) +
    (if 0 < y then at_ x (y - 1) else 0) + (if y + 1 < h then at_ x (y + 1) else 0)

/-- Stage 5 (R225). -/
def conceal (k n l : Nat) : Nat := min 1048575 ((l * (1024 + k * n) + 512) / 1024)

/-- Stage 6 (R226). -/
def rowStage (cal : Option (SMap Nat)) (sh y c l : Nat) : Nat :=
  if l = 0 ∨ 64 * 2 ^ sh ≤ l then l
  else
    let i := l / 2 ^ sh
    let a := rowCorr cal y c i
    let b := rowCorr cal y c (i + 1)
    let off := a + ((b - a) * ((l - i * 2 ^ sh : Nat) : Int) + (if sh = 0 then 0 else (2 ^ (sh - 1) : Nat))) / (2 ^ sh : Nat)
    (clampI ((l : Int) + off) 0 1048575).toNat

/-- Stage 7 (R227). -/
def dutyOf (full l : Nat) : Nat := min 16777216 ((l * 16777216 + full / 2) / full)

/-- h(t, L) of R228. -/
def State.lampHash (s : State) (tag : Nat) (fn : Word) (l : Nat) : Nat :=
  crc32c ([tag] ++ leBytes fn ++ [s.get Fld.LNK_NODE_ID_ID % 256, s.get Fld.LNK_NODE_ID_ID / 256, l % 256, l / 256])

/-- Per-subframe target a (R229): W = 2^D / S. -/
def targetOf (depth slog u : Nat) : Nat := u * (2 ^ depth / 2 ^ slog) / 256

/-- The count of subframe `k` (R229). -/
def countOf (a e0 k : Nat) : Nat := ((k + 1) * a + e0) / 65536 - (k * a + e0) / 65536

/-- Code of component `c` of pixel (x, y) of a frame by patches. -/
def codeAt (m : SMap (List Nat)) (x y c : Nat) : Nat :=
  let i := y / 15 * 10 + x / 16
  match SMap.find m i with
  | some l => l.getD (3 * (y % 15 * 16 + x % 16) + c) 0
  | none => 0

/-- Pixel rows in scan order (R217): upper row r, then lower row U + r. -/
def scanRows (h : Nat) : List Nat :=
  let u := (h + 1) / 2
  (List.range u).flatMap (fun r => if u + r < h then [r, u + r] else [r])

/-- W and H of the lamp field. -/
def State.fieldW (s : State) : Nat := 16 * s.wq
def State.fieldHt (s : State) : Nat := 15 * s.hq

/-- W, H and U = ceil(H / 2) of the lamp field of a frame (R18, R25). -/
def RunPars.fieldW (p : RunPars) : Nat := 16 * p.wq
def RunPars.fieldHt (p : RunPars) : Nat := 15 * p.hq
def RunPars.rowPairs (p : RunPars) : Nat := (15 * p.hq + 1) / 2

/-- The items a tile's overlay draws (R221, R283): LOCAL, shown, and SAFE ones while SAFE_N alone shows them. -/
def State.overlayItems (s : State) : List Nat :=
  (s.priv.items.filter (fun e => itLocal e.2 &&
    (decide (e.1 ∈ s.priv.shown) || (s.priv.safe && itSafe e.2)))).map (·.1)

/-- The overlay at pixel (x, y) (R221, R282): the palette layer, when the tile holds a placement. -/
def State.overlayAt (s : State) (shown : List Nat) (x y : Nat) : Option (Rgb × Nat) :=
  match s.priv.place with
  | some d => privetAt (s.priv.items.map (fun (e : Nat × PrivetItem) => (e.1, readItem e.1 e.2))) shown (samplePoint d x y)
  | none => none

/-- One pixel through stages 1 to 7: u of its three lamps. -/
def State.pixelDuty (s : State) (p : RunPars) (shown : List Nat) (frame : SMap (List Nat)) (x y : Nat) : List Nat :=
  let dec (c : Nat) := decodeCode p.cal p.fmt (codeAt frame x y c)
  let px : Rgb := ⟨dec 0, dec 1, dec 2⟩
  let (px, covered) := match s.overlayAt shown x y with
    | some (col, a) => ((blend px a (scaleBy col a)).1, decide (0 < a))
    | none => (px, false)
  (List.range 3).map (fun c =>
    let l := 3 * (160 * y + x) + c
    let v := pixelMatrix p.cal x y px c
    let v := wallGain (p.wg.getD c 0) p.dg (s.get (Fld.COR_PRIVET_GAIN_FLOOR c)) covered v
    let v := ageGain (SMap.get (fun _ => 0x8000) p.gains l) v
    if isDead p.flags l then 0
    else
      let v := conceal (min p.conceal 256) (deadNear p.flags p.fieldW p.fieldHt x y c) v
      dutyOf (calFull p.cal c) (rowStage p.cal (calRowShift p.cal) y c v))

/-- The pixels of the field in run order. -/
def RunPars.runPixels (p : RunPars) : List (Nat × Nat) :=
  (scanRows p.fieldHt).flatMap (fun y => (List.range p.fieldW).map (fun x => (x, y)))

/-- The stress increment of R234 for a lamp. -/
def State.stressInc (s : State) (p : RunPars) (l n : Nat) : Nat :=
  let dq := n * 65536 / 2 ^ p.depth
  let i := p.ifs.getD (l % 3) 0
  let t := (clampI (Int.tdiv (p.temp + 40) 10) 0 15).toNat
  let r := dq * (i * i) / 65536 * calTfac p.cal t
  (r + 4 * s.lampHash 2 p.fn l) / 2 ^ 34

/-- T[3] rounded down to whole °C (R383). -/
def State.driveTemp (s : State) : Int := (s.thm.temps.getD 3 0).floor

/-- DEAD in ns: below 20 acts as 20, above 200 as 200 (SCN_CFG). -/
def State.deadNs (s : State) : Nat := max 20 (min 200 (s.get Fld.SCN_CFG_DEAD))

/-- RAMP in ns, limited as DEAD (DRV_GATE). -/
def State.rampNs (s : State) : Nat := max 20 (min 200 (s.get Fld.DRV_GATE_RAMP))

/-- GDIV; 3 acts as 2. -/
def State.gdiv (s : State) : Nat := min 2 (s.get Fld.SCN_CFG_GDIV)

/-- SLOG; 7 acts as 6. -/
def State.slog (s : State) : Nat := min 6 (s.get Fld.SCN_CFG_SLOG)

/-- D; below 8 acts as 8, above 16 as 16. -/
def State.depthReq (s : State) : Nat := max 8 (min 16 (s.get Fld.SCN_CFG_D))

/-- GCLK period in ns: f_G = 500 MHz / 2^GDIV (R241). -/
def State.gclkNs (s : State) : Nat := 2 * 2 ^ s.gdiv

/-- U = ceil(H / 2) (R18). -/
def State.rowPairs (s : State) : Nat := (15 * s.hq + 1) / 2

/-- The exact tick period T in units of 2^−32 ns (R241). -/
def State.tickExact (s : State) : Nat := s.tickInt * 2 ^ 32 + s.get (Fld.TIME_SCHED_VALUE 1)

/-- G_sub (R241). -/
def State.gSub (s : State) : Nat := s.tickExact / (2 ^ 32 * s.gclkNs * 2 ^ s.slog)

/-- G_row (R241). -/
def State.gRow (s : State) : Nat := s.gSub / s.rowPairs

/-- G_dead (R241): the dead time rounded up to whole GCLK. -/
def State.gDead (s : State) : Nat := (s.deadNs + s.gclkNs - 1) / s.gclkNs

/-- G_on (R241). -/
def State.gOn (s : State) : Nat := s.gRow - s.gDead

/-- D_max (R241). -/
def State.depthMax (s : State) : Nat := min 16 (Nat.log2 (2 ^ s.slog * s.gOn))

/-- OFS in effect: a value above T − 2,000 ns acts as T − 2,000 ns (R244). -/
def State.phaseOfs (s : State) : Nat := min (s.get Fld.SCN_PHASE_OFS) (s.tickInt - 2000)

/-- The figures of R241 and R242 as a tick puts them into effect. `changed`: D, S, DEAD or GDIV was written. -/
def State.scanTick (s : State) (changed : Bool) : State :=
  if s.role ≠ .tile then s
  else
    let differs := changed || decide (s.get Fld.SCN_GSUB_G ≠ s.gSub) || decide (s.get Fld.SCN_GON_G ≠ s.gOn)
    let eff := min s.depthReq s.depthMax
    let s := (((s.put Fld.SCN_GSUB_G s.gSub).put Fld.SCN_GROW_G s.gRow).put Fld.SCN_GON_G s.gOn).put
      Fld.SCN_STAT_DMAX s.depthMax
    let s := s.put Fld.SCN_STAT_DEFF eff
    if differs && decide (eff < s.depthReq) then s.put ⟨Reg.SCN_INT, 5, 5⟩ 1 else s

/-- The trims in effect of all sinks (R247). -/
def State.trims (s : State) : List Int := (List.range 960).map (fun i => signed 6 (s.get (Fld.DRV_TRIM_TRIM i)))

/-- The parameters in effect now, for the runs of the tick that starts (R218). -/
def State.parsNow (s : State) : RunPars :=
  let fmt := s.get Fld.COR_CFG_FMT
  let dim := if s.pwr.state = .dim then min 0x8000 (s.get ⟨Reg.PWR_DIM, 15, 0⟩) else 0x8000
  let mode := s.get Fld.COR_AGE_CTL_MODE
  ⟨s.clk.fn, if fmt = 3 then 1 else fmt, (List.range 3).map (fun c => s.get (Fld.COR_WALL_GAIN_GAIN c)),
    min (s.get Fld.COR_CONCEAL_K) 256, s.lamp.cal, s.lamp.flags, s.lamp.gains, s.get Fld.SCN_STAT_DEFF,
    s.slog, if mode = 3 then 2 else mode, dim, s.driveTemp, s.phaseOfs, s.gclkNs, s.tickExact, s.gRow, s.gDead,
    (List.range 3).map (fun c => s.get (Fld.DRV_IFS_CODE c)), s.trims, s.wq, s.hq, s.depthReq⟩

/-- Notes the parameters of the tick that starts. -/
def State.notePars (s : State) : State :=
  { s with lamp := { s.lamp with pars := (s.parsNow :: s.lamp.pars.filter (fun p => decide (p.fn ≠ s.clk.fn))).take 3 } }

/-- Something at offset `x` took effect at a tick from `g` to `h`. -/
def State.tookFrom (s : State) (g h : Word) (x : Nat) : Bool :=
  s.lamp.took.any (fun e => decide (e.2 = x) && !(earlier e.1 g) && !(later e.1 h))

/-- Offset `x` takes effect at tick `n`; three ticks back no frame is left to be run. -/
def State.noteTook (s : State) (n : Word) (l : List Nat) : State :=
  { s with lamp := { s.lamp with took := l.map (fun x => (n, x)) ++ s.lamp.took.filter (fun e => later e.1 (n - 3)) } }

/-- The parameters of the run for frame `f`. -/
def State.parsFor (s : State) (f : Word) : RunPars :=
  match s.lamp.pars.find? (fun p => decide (p.fn = f)) with
  | some p => p
  | none => { s.parsNow with fn := f }

/-- The scan runs: a tile in ACTIVE or DIM (R217, R240). -/
def State.scans (s : State) : Bool :=
  decide (s.role = .tile) && (decide (s.pwr.state = .active) || decide (s.pwr.state = .dim))

/-- The frame in the SHOWN slot from T_show of the last decision on. -/
def State.frameToShow (s : State) : SMap (List Nat) :=
  match s.tile.waiting with
  | some ⟨_, _, _, some (m, _), _⟩ => m
  | _ => s.tile.shown

/-- PIPELINE_RUN (R217 to R229, R234, R263): the run for the frame last decided, at T_dec + 2.0 µs. -/
def doPipelineRun (s : State) : State :=
  if !(s.scans) then s
  else match s.tile.decided with
  | none => s
  | some f =>
    let s := (s.advanceTo (s.tdec f + wd 2000)).readBanks [0, 1, 2]
    let p := s.parsFor f
    let frame := s.frameToShow
    let shown := s.overlayItems
    let duties := p.runPixels.map (fun q => (q, s.pixelDuty p shown frame q.1 q.2))
    let lamps : List (Nat × Nat) := duties.flatMap (fun e =>
      (List.range 3).map (fun c => (3 * (160 * e.1.2 + e.1.1) + c, e.2.getD c 0)))
    let words : List (Nat × Nat × Nat) := lamps.map (fun e =>
      (e.1, if isDead p.flags e.1 then 0 else targetOf p.depth p.slog e.2, s.lampHash 1 f e.1 % 65536))
    let clips := (lamps.filter (fun e => decide (e.2 = 16777216))).length
    let s := if clips = 0 then s else (s.count Fld.COR_CLIPCNT_COUNT clips).raise Fld.COR_INT_CLIP
    let s := s.tally 0x106 clips
    let stage := if s.bankHolds 4 then words.foldl (fun m e => SMap.put m e.1 e.2) [] else []
    let counts := words.map (fun e => (e.1, (2 ^ p.slog * e.2.1 + e.2.2) / 65536))
    let live := counts.filter (fun e => !(isDead p.flags e.1))
    let old (l : Nat) := SMap.get (fun _ => 0) s.lamp.ledger l
    let ledger := if p.mode = 2 ∨ s.bankHolds 2 = false then s.lamp.ledger
      else live.foldl (fun m e => SMap.set (fun _ => 0) m e.1 (min 0xFFFFFFFF (old e.1 + s.stressInc p e.1 e.2))) s.lamp.ledger
    let sat := ledger.any (fun e => decide (e.2 = 0xFFFFFFFF) && decide (old e.1 ≠ 0xFFFFFFFF))
    let s := if sat then s.raise Fld.COR_AGE_STAT_SAT else s
    let sig := crc32c (p.runPixels.flatMap (fun q =>
      let b (c : Nat) := codeAt frame q.1 q.2 c
      [b 0 % 256, b 0 / 256, b 1 % 256, b 1 / 256, b 2 % 256, b 2 / 256, 0, 0]))
    { s with
      lamp := { s.lamp with
        staging0 := if f.toNat % 2 = 0 then stage else s.lamp.staging0
        staging1 := if f.toNat % 2 = 1 then stage else s.lamp.staging1
        ledger := ledger
        dutyRun := lamps.foldl (fun m e => SMap.set (fun _ => 0) m e.1 e.2) []
        running := some f
        sigRun := sig } }

/-- PIPELINE_RUN_END (R263). -/
def doPipelineEnd (s : State) : State :=
  if decide (s.role ≠ .tile) || !(s.running) then s
  else match s.lamp.running with
  | none => s
  | some f =>
    let sig := s.lamp.sigRun
    let same := decide (s.lamp.lastSig = some sig)
    let counted := s.tile.thisOk && s.tile.lastOk
    let n := if !counted then s.lamp.freeze
      else if same then s.lamp.freeze + 1 else 0
    let s := s.setWord Reg.SCN_SHOWN_SIG (wd sig)
    let limit := s.get Fld.SCN_FRZ_CFG_N
    let fire := decide (limit ≠ 0) && decide (n = limit) && decide (s.lamp.freeze < n)
    let s := { s with lamp := { s.lamp with running := none, duty := s.lamp.dutyRun, lastSig := some sig, freeze := n } }
    if fire then
      let s := s.put ⟨Reg.SCN_INT, 4, 4⟩ 1
      forEach s.headIds (fun h s => s.sendEvt h 0x0301 [f, wd sig]) s
    else s

/-! ### Ageing (R235 to R239) -/

/-- MODE in effect; 3 acts as 2. -/
def State.ageMode (s : State) : Nat := min (s.get Fld.COR_AGE_CTL_MODE) 2

/-- A request for a gain computation (R238); `own`: it comes of PERIOD, and not of the host or BOOT (R239). -/
def State.ageRequest (s : State) (own : Bool := false) : State :=
  if s.lamp.ageSnap.isSome then { s with lamp := { s.lamp with ageMore := true, ownMore := own && (s.lamp.ownMore || !s.lamp.ageMore) } }
  else { s with lamp := { s.lamp with ageWait := true, ownWait := own && (s.lamp.ownWait || !s.lamp.ageWait) } }

/-- COR_AGE_NOW (R238, R239): the value written to COR_AGE_CTL. -/
def doAgeNow (v : Word) (s : State) : State :=
  if decide (s.role ≠ .tile) || !(s.powered) then s
  else
    let s := s.put Fld.COR_AGE_CTL_PERIOD (wbits v 15 8)
    let s := s.pend Reg.COR_AGE_CTL 3 v
    if wbits v 31 31 = 1 ∧ s.ageMode ≤ 1 then (s.raise Fld.COR_AGE_CTL_NOW).ageRequest else s

/-- AGEING_PERIOD (R238). -/
def doAgeingPeriod (s : State) : State :=
  if decide (s.role = .tile) && s.running && decide (s.ageMode = 0) then s.ageRequest true else s

/-- Efficiency e_L (R236). -/
def efficiency (c : Option (SMap Nat)) (colour stress : Nat) : Nat :=
  let p := min (stress / 2 ^ calShift c colour) 61440
  let j := p / 4096
  let fr : Int := (p % 4096 : Nat)
  let e : Int := if j = 15 then calDecay c colour 15
    else (calDecay c colour j : Int) + (((calDecay c colour (j + 1) : Int) - calDecay c colour j) * fr + 2048) / 4096
  (clampI e 1 65535).toNat

/-- The lamps of colour `c` in the field. -/
def State.lampsOf (s : State) (c : Nat) : List Nat :=
  (List.range s.fieldHt).flatMap (fun y => (List.range s.fieldW).map (fun x => 3 * (160 * y + x) + c))

/-- CW_c; values above 0x8000 act as 0x8000. -/
def State.ceilWall (s : State) (c : Nat) : Nat := min 0x8000 (s.get (Fld.COR_CEIL_WALL_CEIL c))

/-- The gain set of R237 from a ledger snapshot. -/
def State.gainSet (s : State) (snap : SMap Nat) : GainSet :=
  let eff (l : Nat) := efficiency s.lamp.cal (l % 3) (SMap.get (fun _ => 0) snap l)
  let ceil (c : Nat) : Nat := ((s.lampsOf c).filter (fun l => !(isDead s.lamp.flags l))).foldl
    (fun m l => min m (eff l * calHr s.lamp.cal c / 32768)) 32768
  let cl := (List.range 3).map ceil
  let lamps := (List.range 3).flatMap s.lampsOf
  ⟨lamps.foldl (fun m l =>
      let e := eff l
      SMap.set (fun _ => 0x8000) m l (min 65535 ((min (cl.getD (l % 3) 0) (s.ceilWall (l % 3)) * 32768 + e / 2) / e))) [],
    lamps.foldl (fun m l => SMap.set (fun _ => 0) m l (eff l)) [], cl⟩

/-- AGEING_GAIN_DONE (R238): the set waits for the next tick boundary. -/
def doAgeingDone (s : State) : State :=
  if decide (s.role ≠ .tile) || !(s.powered) then s
  else match s.lamp.ageSnap with
  | none => s
  | some snap =>
    let more := s.lamp.ageMore
    ({ s with lamp := { s.lamp with
        shadow := some (s.gainSet snap)
        ageSnap := none
        ageMore := false
        ownMore := false
        ageWait := more
        ownWait := s.lamp.ownMore } }).put Fld.COR_STAT_AGE_BUSY 0

/-- A gain set takes effect at tick `g` (R237, R238): a changed local ceiling is told to every head. -/
def State.useGains (s : State) (x : GainSet) (g : Word) : State :=
  let changed := (List.range 3).any (fun c => decide (s.get (Fld.COR_CEIL_LOCAL_CEIL c) ≠ x.ceil.getD c 0))
  let s := ({ s with lamp := { s.lamp with gains := x.gains, effs := x.effs } }).setWord Reg.COR_AGE_LAST g
  let s := forEach (List.range 3) (fun c s => s.put (Fld.COR_CEIL_LOCAL_CEIL c) (x.ceil.getD c 0)) s
  if changed then
    let s := s.raise Fld.COR_INT_CEIL
    forEach s.headIds (fun h s => s.sendEvt h 0x0300
      [wd (x.ceil.getD 0 0 + x.ceil.getD 1 0 * 65536), wd (x.ceil.getD 2 0)]) s
  else s

/-- The status of a COR_COMMIT of the inactive copy (R232). -/
def State.commitStatus (s : State) : Nat :=
  let m := s.calCopy (!s.saved.activeCal)
  if !(calCrcOk m) then stBAD_PARAM
  else if !(s.calSigOk m) then stAUTH_FAIL
  else if !(calRangeOk m) then stBAD_PARAM
  else if !(calFieldOk m) then stBAD_PARAM
  else stOK

/-- A COR_COMMIT with ledger reset takes effect at tick `n` (R232, R238). -/
def State.ledgerCommitAt (s : State) (n : Word) : Bool :=
  decide (s.commitStatus = stOK) &&
    s.cmds.accepted.any (fun (a : Accepted) => decide (a.opcode = opCOR_COMMIT) && decide (a.tick = n) && wbits (nth a.cmd.params 0) 0 0 == 1)

/-- Applies a finished gain set at a tick boundary (R237, R238): not one that PERIOD alone asked for once MODE is no longer
0 (R239), nor one computed under a calibration that a commit with ledger reset replaces at this tick. -/
def State.applyGains (s : State) : State :=
  match s.lamp.shadow with
  | none => s
  | some x =>
    let own := s.lamp.ownRun
    let s := { s with lamp := { s.lamp with shadow := none, ownRun := false } }
    if (own && decide (s.ageMode ≠ 0)) || s.ledgerCommitAt s.clk.fn then s
    else (s.useGains x s.clk.fn).noteTook s.clk.fn [Reg.COR_AGE_LAST]

/-- LEDGER_FLUSH (R235): the ledger of the next tick start is written to MRAM. -/
def doLedgerFlush (s : State) : State :=
  if decide (s.role = .tile) && s.running then { s with lamp := { s.lamp with flushDue := true } } else s

/-- Writes the ledger as it stands to MRAM (R235). -/
def State.writeLedger (s : State) : State :=
  ({ s with saved := { s.saved with ledger := s.lamp.ledger }, lamp := { s.lamp with flushDue := false } }).setWord
    Reg.COR_FLUSH_LAST s.clk.fn

/-- Lamp flags changed at a tick (R230), with the count of OPEN and SHORT lamps. -/
def State.applyFlags (s : State) : State :=
  if s.lamp.change = [] then s
  else
    let f := s.lamp.change.foldl (fun m e =>
      let v := SMap.get (fun _ => 0) m e.1
      SMap.set (fun _ => 0) m e.1 ((v ||| e.2.1) &&& (255 - e.2.2))) s.lamp.flags
    ({ s with lamp := { s.lamp with flags := f, change := [] } }).put Fld.DRV_FAULT_STAT_DEAD
      (f.filter (fun (e : Nat × Nat) => decide (e.2 % 4 ≠ 0))).length

/-- CW_c as written are kept in MRAM, and a change asks for a gain computation (R237, R238). -/
def State.keepCeilings (s : State) : State :=
  let cw := (List.range 3).map (fun c => s.get (Fld.COR_CEIL_WALL_CEIL c))
  let t := { s with saved := { s.saved with ceilWall := cw } }
  if decide (cw ≠ (if s.saved.ceilWall = [] then [0x8000, 0x8000, 0x8000] else s.saved.ceilWall)) && decide (s.ageMode ≤ 1) then t.ageRequest else t

/-- What the correction unit does at a tick start, after the registers' RWT writes: lamp flags, then the gain set (R218),
then the snapshots of R235 and R238 and the register views. -/
def State.lampTick (s : State) (ceilChanged : Bool) : State :=
  if s.role ≠ .tile then s
  else
    let s := if ceilChanged then
        s.keepCeilings
      else s
    let s := s.applyFlags
    let s := s.applyGains
    let s := if s.lamp.flushDue then s.writeLedger else s
    let s := if s.lamp.ageWait && s.lamp.ownWait && decide (s.ageMode ≠ 0) then
        { s with lamp := { s.lamp with ageWait := false, ownWait := false } }
      else s
    let s := if s.lamp.ageWait && s.lamp.ageSnap.isNone then
        (({ s with lamp := { s.lamp with
          ageWait := false
          ownWait := false
          ownRun := s.lamp.ownWait
          ageSnap := some s.lamp.ledger } }).put Fld.COR_AGE_CTL_NOW 0).raise
          Fld.COR_STAT_AGE_BUSY
      else s
    { s with lamp := { s.lamp with
      ledgerView := s.lamp.ledger
      dutyView := s.lamp.duty
      gainView := s.lamp.gains
      effView := s.lamp.effs
      flagView := s.lamp.flags } }

/-- The gain set of a cleared ledger as LEDGER_RESET leaves it (R232): every gain and local ceiling 0x8000; the efficiencies
are those of no stress (assumption 120). -/
def State.clearedGains (s : State) : GainSet :=
  ⟨[], ((List.range 3).flatMap s.lampsOf).foldl (fun m l => SMap.set (fun _ => 0) m l (efficiency s.lamp.cal (l % 3) 0)) [],
    [0x8000, 0x8000, 0x8000]⟩

/-- COR_COMMIT made effective for frame `g` (R218, R232): the inactive copy becomes active; with LEDGER_RESET the ledger,
the gains and the ceilings are cleared. A register write of tick `g` or later and a gain set of a later tick stand over
it; a gain set of tick `g`, computed under the calibration that is replaced, has been discarded (R238). -/
def State.commitCal (s : State) (ledgerReset : Bool) (g : Word) : State :=
  let b := !s.saved.activeCal
  let k := s.get Fld.COR_CONCEAL_K
  let now := s.clk.fn
  let s := { s with saved := { s.saved with activeCal := b } }
  let s := (s.putBit Fld.COR_STAT_COPY b).loadCal (some (s.calCopy b))
  let s := if s.tookFrom g now Reg.COR_CONCEAL then s.put Fld.COR_CONCEAL_K k else s
  if ledgerReset then
    let s := { s with lamp := { s.lamp with
      ledger := []
      shadow := if later g now then none else s.lamp.shadow } }
    if s.tookFrom (g + 1) now Reg.COR_AGE_LAST then s else s.useGains s.clearedGains g
  else s

/-- The parameters with another lamp field: G_row and D_eff follow (R241, R242). -/
def RunPars.refit (p : RunPars) (wq hq : Nat) : RunPars :=
  let grow := p.texact / (2 ^ 32 * p.gclk * 2 ^ p.slog) / ((15 * hq + 1) / 2)
  { p with
    wq    := wq
    hq    := hq
    grow  := grow
    depth := min p.dreq (min 16 (Nat.log2 (2 ^ p.slog * (grow - p.gdead)))) }

/-- The parameters of a run for a frame from `g` on after the COR_COMMIT. -/
def State.commitRun (s : State) (ledgerReset : Bool) (g : Word) (p : RunPars) : RunPars :=
  { p.refit s.wq s.hq with
    cal     := s.lamp.cal
    ifs     := (List.range 3).map (fun c => s.get (Fld.DRV_IFS_CODE c))
    trims   := s.trims
    flags   := factoryFlags s.lamp.cal p.flags
    conceal := if s.tookFrom g p.fn Reg.COR_CONCEAL then p.conceal else min (calConceal s.lamp.cal) 256
    gains   := if ledgerReset && !(s.tookFrom (g + 1) p.fn Reg.COR_AGE_LAST) then [] else p.gains }

/-- The record loaded at BOOT (R233), with its blots. -/
def State.bootCal (s : State) : State :=
  let ok (b : Bool) := calCrcOk (s.calCopy b) && s.calSigOk (s.calCopy b)
  let a := s.saved.activeCal
  if ok a then (s.loadCal (some (s.calCopy a))).putBit Fld.COR_STAT_COPY a
  else if ok (!a) then
    let s := { s with saved := { s.saved with activeCal := !a } }
    ((s.loadCal (some (s.calCopy (!a)))).putBit Fld.COR_STAT_COPY (!a)).logBlot blkCOR 1 clsDEGRADED (if a then 0 else 1)
  else ((s.loadCal none).putBit Fld.COR_STAT_COPY a).logBlot blkCOR 2 clsDEGRADED

end Sys2Proof.Machine
end

