-- ==== Sys2Proof/Machine/Privet.lean ====
section
/-! DEFINITION. The Privet plane (R280 to R285): checks of item content, the head's store and the PRIVET packets, and what
a tile accepts, keeps and shows. -/

namespace Sys2Proof.Machine

/-- Length the layout of *Table — Privet item content* gives an item. -/
def itLength (t : PrivetItem) : Nat := 16 + 12 * 2 ^ itBpp t + itH t * ((itW t * itBpp t + 7) / 8)

/-- Alpha of palette entry `n`. -/
def itAlpha (t : PrivetItem) (n : Nat) : Nat := bitsOf (leAt t (16 + 12 * n) 4) 20 11

/-- The content keeps the table, and the rule for LOCAL items (R280). -/
def itemOk (t : PrivetItem) : Bool :=
  decide (16 ≤ t.length) && (itBpp t == 2 || itBpp t == 8) && decide (1 ≤ itW t) && decide (itW t ≤ 16384) &&
    decide (1 ≤ itH t) && decide (itH t ≤ 16384) && t.length == itLength t &&
    (List.range (2 ^ itBpp t)).all (fun n => decide (itAlpha t n ≤ 1024) &&
      (!(itLocal t) || itAlpha t n == 0 || itAlpha t n == 1024))

/-- Bytes of content a store holds. -/
def storeBytes (m : SMap PrivetItem) : Nat := (m.map (fun e => e.2.length)).sum

/-- The Privet store's limit (R280). -/
def privetLimit : Nat := 1044480

/-- A 384-bit digest as PRIVET_LOAD carries it (w3 to w14) is that of the content. -/
def digestIs (ws : List Word) (content : List Nat) : Bool := ws.take 12 == digestWords content

/-- The items of a 64-bit mask in two words. -/
def itemsOf (w0 w1 : Word) : List Nat :=
  (List.range 64).filter (fun n => if n < 32 then w0.getLsbD n else w1.getLsbD (n - 32))

/-- A list of items as the word `k` of a mask. -/
def itemWord (l : List Nat) (k : Nat) : Word :=
  l.foldl (fun w n => if n / 32 = k then w ||| (1#32 <<< (n % 32)) else w) 0

/-- Items shown at this node (R283). -/
def State.itemsShown (s : State) : List Nat :=
  (s.priv.items.filter (fun e => decide (e.1 ∈ s.priv.shown) || (s.priv.safe && itSafe e.2))).map (·.1)

/-- SAFE_N high ends what it showed at tick `n` (R284). -/
def State.safeTick (s : State) (n : Word) : State :=
  match s.priv.safeEnd with
  | some g => if later g n then s else { s with priv := { s.priv with safe := false, safeEnd := none } }
  | none => s

/-! ### Head -/

/-- The parts of a PRIVET_LOAD after part `p` (R280, R281): item, total, bytes so far; none when it is not contiguous
from 0. A part of offset 0 starts a new load. -/
def State.nextParts (s : State) (p : List Word) : Option (Nat × Nat × List Nat) :=
  let item := wbits (nth p 0) 5 0
  let total := (nth p 1).toNat
  let off := (nth p 2).toNat
  let data := leStream (p.drop 15)
  if off = 0 then some (item, total, data.take total)
  else match s.priv.parts with
    | some (i, t, got) => if i = item ∧ t = total ∧ got.length = off then some (item, total, (got ++ data).take total) else none
    | none => none

/-- The status a PRIVET_LOAD's parameters draw (R280, *Time, redundancy and Privet opcodes*). -/
def State.loadStatus (s : State) (p : List Word) : Nat :=
  match s.nextParts p with
  | none => stBAD_PARAM
  | some (_, total, got) =>
    if wbits (nth p 0) 31 31 = 0 then stOK
    else if got.length ≠ total ∨ itemOk got = false ∨ digestIs ((p.drop 3).take 12) got = false then stBAD_PARAM
    else stOK

/-- The store would exceed its limit with the load's content (R280). -/
def State.loadFits (s : State) (p : List Word) : Bool :=
  match s.nextParts p with
  | some (item, _, got) =>
    wbits (nth p 0) 31 31 = 0 ||
      decide (storeBytes (SMap.put (s.priv.loads.foldl (fun (m : SMap PrivetItem) (e : Word × Nat × PrivetItem) => SMap.put m e.2.1 e.2.2) s.priv.items) item got) ≤ privetLimit)
  | none => true

/-- A PRIVET_LOAD part is accepted: gathered, and a complete item waits for its tick. -/
def State.takePart (s : State) (p : List Word) : State :=
  match s.nextParts p with
  | none => s
  | some (item, total, got) =>
    if wbits (nth p 0) 31 31 = 1 then
      { s with priv := { s.priv with parts := none, loads := s.priv.loads ++ [(0, item, got)] } }
    else { s with priv := { s.priv with parts := some (item, total, got) } }

/-- The FINAL part takes effect at the head. -/
def State.applyLoad (s : State) (item : Nat) : State :=
  match s.priv.loads.find? (fun e => decide (e.2.1 = item)) with
  | some e =>
    { s with
      priv := { s.priv with items := SMap.put s.priv.items item e.2.2, loads := s.priv.loads.erase e }
      comp := { s.comp with reloaded := s.comp.reloaded ++ [item] } }
  | none => s

/-- PRIVET_SHOW or PRIVET_HIDE takes effect (R283). -/
def State.applyShow (s : State) (on : Bool) (l : List Nat) : State :=
  { s with priv := { s.priv with
    shown := if on then (List.range 64).filter (fun n => decide (n ∈ s.priv.shown) || decide (n ∈ l))
      else s.priv.shown.filter (fun n => !(n ∈ l)) } }

/-- Sends a PRIVET packet (R281). -/
def State.sendPrivet (s : State) (op item : Nat) (at_ : Word) (content : List Word) : State :=
  s.sendAuth tyPRIVET 0xFFFF ([wd (op * 2 ^ 24 + item * 2 ^ 16), at_] ++ content)

/-- The head forwards an accepted Privet command (R281): CMD, for a load the part's DATA, and END with the FINAL part. -/
def State.forwardPrivet (s : State) (op : Nat) (c : Cmd) (tick : Word) : State :=
  if op = opPRIVET_LOAD then
    let p := c.params
    let item := wbits (nth p 0) 5 0
    let s := s.sendPrivet 1 item tick (cmdWords op c)
    let s := s.sendPrivet 2 item tick (nth p 2 :: p.drop 15)
    if wbits (nth p 0) 31 31 = 1 then s.sendPrivet 3 item tick [nth p 1] else s
  else s.sendPrivet 1 0 tick (cmdWords op c)

/-! ### Tile -/

/-- A Privet command, item or tag fails a check (R281). -/
def State.privetBad (s : State) (port : Nat) : State := (s.violation port 5).raise Fld.RED_TILE_INT_PRIVET_BAD

/-- The frame a PRIVET packet acts at (R283). -/
def State.privetFrame (s : State) (f : Word) : Word := let e := s.openDecision; if earlier f e then e else f

/-- PRIVET_CMD_RECEIVED (R281 to R283): the client tag under client 0's key, and the client sequence. -/
def doPrivetCmd (x : Rx) (s : State) : State :=
  s.receive x (fun b s =>
    if s.role ≠ .tile ∨ wbits (nth b 0) 31 24 ≠ 1 then s
    else
      let (op, c) := parseCmd .localPort ((b.take (b.length - 6)).drop 2)
      let ok := match s.keys.client0, c.trailer with
        | some k, some t => decide (c.client = 0) && clientTagOk k op c && decide (s.lastCseq 0 < t.cseq.toNat)
        | _, _ => false
      if !ok then s.privetBad x.port.val
      else
        let s := match c.trailer with | some t => s.takeCseq 0 t.cseq.toNat | none => s
        let f := s.privetFrame (nth b 1)
        if op = opPRIVET_LOAD then
          if (nth c.params 2).toNat = 0 then
            { s with priv := { s.priv with load := some ⟨wbits (nth c.params 0) 5 0, (nth c.params 1).toNat,
                (c.params.drop 3).take 12, []⟩ } }
          else s
        else if op = opPRIVET_SHOW ∨ op = opPRIVET_HIDE then
          { s with priv := { s.priv with due := s.priv.due ++ [(f, decide (op = opPRIVET_SHOW), itemsOf (nth c.params 0) (nth c.params 1))] } }
        else s)

/-- PRIVET_DATA_RECEIVED (R281). -/
def doPrivetData (x : Rx) (s : State) : State :=
  s.receive x (fun b s =>
    if s.role ≠ .tile ∨ wbits (nth b 0) 31 24 ≠ 2 then s
    else match s.priv.load with
      | some l =>
        if l.item = wbits (nth b 0) 21 16 then
          let d := (b.take (b.length - 6)).drop 2
          { s with priv := { s.priv with load := some { l with data := l.data ++ [((nth d 0).toNat, d.drop 1)] } } }
        else s
      | none => s)

/-- The content a tile has received: the DATA in order, when contiguous from 0. -/
def PrivetLoad.content (l : PrivetLoad) : Option (List Nat) :=
  let all := l.data.foldl (fun (acc : Option (List Nat)) (d : Nat × List Word) =>
    match acc with
    | some got => if got.length = d.1 then some (got ++ leStream d.2) else none
    | none => none) (some [])
  all.map (fun got => got.take l.length)

/-- PRIVET_END_RECEIVED (R281): the item is kept when the digest of all DATA matches. -/
def doPrivetEnd (x : Rx) (s : State) : State :=
  s.receive x (fun b s =>
    if s.role ≠ .tile ∨ wbits (nth b 0) 31 24 ≠ 3 then s
    else match s.priv.load with
      | none => s.privetBad x.port.val
      | some l =>
        let s := { s with priv := { s.priv with load := none } }
        match l.content with
        | none => s.privetBad x.port.val
        | some got =>
          if got.length = l.length ∧ l.length = (nth b 2).toNat ∧ digestIs l.digest got = true then
            let f := s.privetFrame (nth b 1)
            { s with priv := { s.priv with loads := s.priv.loads ++ [(f, l.item, got)] } }
          else s.privetBad x.port.val)

/-- The offsets of the bitmap bytes of an item that the field of descriptor `d` reads at its sample points (R281, R282). -/
def readOffsets (d : List Word) (t : PrivetItem) : List Nat :=
  let xs := (List.range (16 * tdWq d)).flatMap (fun x => (List.range (15 * tdHq d)).map (fun y => samplePoint d x y))
  let r := itRect t
  ((xs.filter (fun (p : Int × Int) => decide ((r.x0 : Int) ≤ p.1) && decide (p.1 < (r.x1 : Int)) && decide ((r.y0 : Int) ≤ p.2) &&
    decide (p.2 < (r.y1 : Int)))).map (fun (p : Int × Int) =>
      let px := (p.1 / 16 - itOx t).toNat
      let py := (p.2 / 16 - itOy t).toNat
      16 + 12 * 2 ^ itBpp t + py * ((itW t * itBpp t + 7) / 8) + px * itBpp t / 8)).eraseDups

/-- What a tile keeps of an item (R281): header, palette and the bytes that its field reads; `lostMark` stands for a byte
that it does not keep. A tile without a placement keeps all of it (assumption 154). -/
def State.keptItem (s : State) (t : PrivetItem) : PrivetItem :=
  match s.priv.place with
  | none => t
  | some d =>
    let l := readOffsets d t
    t.mapIdx (fun i b => if i < 16 + 12 * 2 ^ itBpp t ∨ i ∈ l then b else lostMark)

/-- An item whose tag fails is not drawn, and the tile logs a blot (R282). -/
def State.privetTagBad (s : State) (item : Nat) : State :=
  ((({ s with priv := { s.priv with items := SMap.erase s.priv.items item, tags := SMap.erase s.priv.tags item } }).raise
    Fld.RED_TILE_INT_PRIVET_BAD).logBlot blkRED 3 clsDEGRADED item)

/-- An item in bank 3 verifies under its tag; where the bank holds a poisoned word, whether it lies in the item is open
(assumption 155). -/
def State.verifyItem (s : State) (item : Nat) : State :=
  match SMap.find s.priv.items item with
  | none => s
  | some t =>
    let s := s.readBank 3
    if SMap.find s.priv.tags item ≠ some (Config.privetTag item t) then s.privetTagBad item
    else if s.mem.poison.any (fun e => decide (e.1 = s.physBank 3)) then
      let (bad, s) := s.freeNat 1
      if bad = 1 then s.privetTagBad item else s
    else s

/-- A loaded item enters bank 3 with its tag, and flash when it has PERSIST, and is verified (R281, R282). -/
def State.keepItem (s : State) (item : Nat) (content : PrivetItem) : State :=
  let t := s.keptItem content
  let tag := Config.privetTag item t
  ({ s with priv := { s.priv with
    items := SMap.put s.priv.items item t
    tags := SMap.put s.priv.tags item tag
    persisted := if itPersist t then SMap.put s.priv.persisted item (t, tag) else SMap.erase s.priv.persisted item } }).verifyItem item

/-- At BOOT a tile restores its items from flash and verifies each (R282). -/
def State.restoreItems (s : State) : State :=
  let l := s.priv.persisted
  let s := { s with priv := { s.priv with
    items := l.map (fun (e : Nat × PrivetItem × BitVec 128) => (e.1, e.2.1))
    tags := l.map (fun (e : Nat × PrivetItem × BitVec 128) => (e.1, e.2.2)) } }
  forEach l (fun (e : Nat × PrivetItem × BitVec 128) s => s.verifyItem e.1) s

/-- What of Privet takes effect at a tile with the decision of frame `f` (R283). -/
def State.privetDue (s : State) (f : Word) : State :=
  let now := s.priv.loads.filter (fun (e : Word × Nat × PrivetItem) => !(later e.1 f))
  let s := { s with priv := { s.priv with loads := s.priv.loads.filter (fun (e : Word × Nat × PrivetItem) => later e.1 f) } }
  let s := forEach now (fun (e : Word × Nat × PrivetItem) s => s.keepItem e.2.1 e.2.2) s
  let acts := s.priv.due.filter (fun (e : Word × Bool × List Nat) => !(later e.1 f))
  let s := { s with priv := { s.priv with due := s.priv.due.filter (fun (e : Word × Bool × List Nat) => later e.1 f) } }
  forEach acts (fun e s => s.applyShow e.2.1 e.2.2) s

/-- RED_PRV_BYTES: the whole store on a head, the kept bytes on a tile. -/
def State.privetBytes (s : State) : Nat :=
  (s.priv.items.map (fun (e : Nat × PrivetItem) => (e.2.filter (fun b => decide (b < lostMark))).length)).sum

end Sys2Proof.Machine
end

