-- ==== Sys2Proof/Machine/Journal.lean ====
section
/-! DEFINITION. Copybook (R321 to R331): the journal's records, its target in host memory or on NVMe, and re-run. What the
target holds is what was written to it; the model keeps it as the journalled ticks and frames. -/

namespace Sys2Proof.Machine

/-! ### Record types and selection (R327) -/

def jtCMD : Nat := 1
def jtTICK : Nat := 2
def jtSRCD : Nat := 3
def jtSRCF : Nat := 4
def jtOUTS : Nat := 5
def jtEVT : Nat := 6
def jtSNAP : Nat := 7
def jtGAP : Nat := 8

/-- The journal is written. -/
def State.jrnRuns (s : State) : Bool := s.bit Fld.JRN_STAT_RUN

/-- A replay runs. -/
def State.replaying (s : State) : Bool := s.bit Fld.JRN_STAT_REPLAY

/-- JRN_CFG.RECORDS selects type `t`; SNAP and GAP are always written. -/
def State.jrnSel (s : State) (t : Nat) : Bool := decide (6 < t) || decide (bitsOf (s.get Fld.JRN_CFG_RECORDS) (t - 1) 1 = 1)

/-! ### Sizes and rates (R324, R326) -/

/-- P of R77: pixels per stored unit. -/
def State.unitPx (s : State) (n : Nat) : Nat := if s.get (Fld.SRC_CFG_KIND n) = 4 then 10 else 14

/-- Units of a level-0 frame. -/
def State.unitsOf (s : State) (n : Nat) : Nat := s.rasterH n * ceilDiv (s.rasterW n) (s.unitPx n)

/-- A sum over the enabled sources of `per n` bytes for each frame, rounded up to bytes per second. -/
def State.srcRate (s : State) (per : Nat → Nat) : Nat :=
  ((List.range 64).map (fun n => if s.bit (Fld.SRC_CFG_ENABLED n) then
    ceilDiv (per n * s.get (Fld.SRC_RATE_NUM n)) (max 1 (s.get (Fld.SRC_RATE_DEN n))) else 0)).sum

/-- R_jrn of R326 in bytes per second. -/
def State.jrnRate (s : State) : Nat := if s.jrnSel jtSRCF && s.jrn.configured then s.srcRate (fun n => 64 * s.unitsOf n) else 0

/-- The SRCF rate of R324, as R326 gives it. -/
def State.srcfRate (s : State) : Nat := s.srcRate (fun n => 64 * s.unitsOf n)

/-- JRN_SRCF_GIB for `minutes` (R324). -/
def State.srcfGib (s : State) (minutes : Nat) : Nat := ceilDiv (minutes * 60 * s.srcfRate) (2 ^ 30)

/-- Bytes of the SRCF region. -/
def State.srcfBytes (s : State) : Nat := s.get Fld.JRN_SRCF_GIB_GIB * 2 ^ 30

/-- Bytes of the main part of the ring. -/
def State.mainBytes (s : State) : Nat := s.jrn.size - s.srcfBytes

/-! ### Records -/

/-- The 1,024 words of a record (*Table — Record header*). -/
def State.recordWords (s : State) (r : JrnRec) (rseq : Nat) : List Word :=
  let head (crc : Nat) : List Word :=
    [wd (0x4A52 * 2 ^ 16 + r.type * 2 ^ 8 + 1), wd (4 * r.payload.length), wd rseq, wd (rseq / 2 ^ 32), r.fn, r.dtime,
     wd (s.nodeId.toNat * 2 ^ 16 + s.get Fld.SYS_FAULT_EPOCH_EPOCH), wd crc]
  let body := r.payload ++ List.replicate (1016 - r.payload.length) 0
  head (crc32c (leStream (head 0 ++ body))) ++ body

/-- Cuts a payload into records of 1,016 words. -/
def chunked (fuel : Nat) (ws : List Word) : List (List Word) :=
  match fuel with
  | 0 => []
  | k + 1 => if ws.length ≤ 1016 then [ws] else ws.take 1016 :: chunked k (ws.drop 1016)

/-- Records of one payload. -/
def recordsOf (type : Nat) (fn dtime : Word) (ws : List Word) : List JrnRec :=
  (chunked (ws.length / 1016 + 1) ws).map (fun p => ⟨type, fn, dtime, p⟩)

/-- Records the staging area holds (R325): 1 GiB of 4 KiB records, of which 16 MiB is kept for CMD records. -/
def stageSize : Nat := 262144
def stageCmd : Nat := 4096

/-- `n` records of a type find room in staging (R325): records other than CMD leave the CMD records' part alone. -/
def State.stageFits (s : State) (type n : Nat) : Bool :=
  let others := (s.jrn.staged.filter (fun (r : JrnRec) => !(decide (r.type = jtCMD)))).length
  decide (s.jrn.staged.length + n ≤ stageSize) && (decide (type = jtCMD) || decide (others + n ≤ stageSize - stageCmd))

/-- The other records of tick `fn` have been discarded for want of room. -/
def State.tickLost (s : State) (fn : Word) : Bool := decide (fn ∈ s.jrn.dropped)

/-- A staged record that goes with the others of tick `fn`. -/
def JrnRec.goes (fn : Word) (r : JrnRec) : Bool := decide (r.fn = fn) && !(decide (r.type = jtCMD) || decide (r.type = jtGAP))

/-- The count `q` of a record of the main part or of the SRCF region, once the staged records of tick `fn` are discarded: those
before it in its part no longer take a place. -/
def State.countAfter (s : State) (srcf : Bool) (fn : Word) (q : Nat) : Nat :=
  let part := s.jrn.staged.filter (fun (r : JrnRec) => decide (r.type = jtSRCF) == srcf)
  let base := if srcf then s.jrn.srcf else s.jrn.main
  q - ((part.take (q - base)).filter (JrnRec.goes fn)).length

/-- Every record of tick `fn` but CMD is discarded, and the tick counts in JRN_DROP (R325). -/
def State.dropTick (s : State) (fn : Word) : State :=
  let s := (s.count Fld.JRN_DROP_TICKS).raise Fld.JRN_INT_DROP
  { s with jrn := { s.jrn with
    lost := s.jrn.lost ++ [fn]
    dropped := s.jrn.dropped ++ [fn]
    frames := (s.jrn.frames.filter (fun (f : JrnFrame) => !(decide (f.fn = fn)))).map (fun (f : JrnFrame) =>
      { f with seq := s.countAfter true fn f.seq })
    snapped := (s.jrn.snapped.filter (fun (e : JrnSnap) => !(decide (e.fn = fn)))).map (fun (e : JrnSnap) =>
      { e with seq := s.countAfter false fn e.seq })
    staged := s.jrn.staged.filter (fun (r : JrnRec) => !(r.goes fn)) } }

/-- Puts a tick's records into staging. When a tick's records other than CMD find no room they are all discarded (R325). -/
def State.stageRecs (s : State) (type : Nat) (fn : Word) (l : List JrnRec) : State :=
  if s.tickLost fn && decide (type ≠ jtCMD) && decide (type ≠ jtGAP) then s
  else if s.stageFits type l.length then { s with jrn := { s.jrn with staged := s.jrn.staged ++ l } }
  else if s.tickLost fn then s
  else s.dropTick fn

/-- Stages a record type that is selected. -/
def State.record (s : State) (type : Nat) (fn dtime : Word) (ws : List Word) : State :=
  if s.jrnSel type then s.stageRecs type fn (recordsOf type fn dtime ws) else s

/-- The RSEQ of the next record of a type to be staged, bit 63 of the SRCF region aside. -/
def State.nextSeq (s : State) (type : Nat) : Nat :=
  let same (r : JrnRec) : Bool := decide (r.type = jtSRCF) == decide (type = jtSRCF)
  (if type = jtSRCF then s.jrn.srcf else s.jrn.main) + (s.jrn.staged.filter same).length

/-- The ring still holds the record of RSEQ `q` (R321, R323): none later has taken its place. -/
def State.ringHolds (s : State) (type q : Nat) : Bool :=
  if type = jtSRCF then decide (s.jrn.srcf ≤ q + s.srcfBytes / 4096) else decide (s.jrn.main ≤ q + s.mainBytes / 4096)

/-- The earliest and the latest of some ticks. -/
def tickSpan (a : Word) (l : List Word) : Word × Word :=
  l.foldl (fun e f => (if earlier f e.1 then f else e.1, if later f e.2 then f else e.2)) (a, a)

/-- JOURNAL_ROOM_RETURN (R325): a GAP record names the first and last FN lost. -/
def doRoomReturn (s : State) : State :=
  match s.jrn.lost with
  | a :: l =>
    if s.jrnRuns && s.stageFits jtGAP 1 then
      let e := tickSpan a l
      let s := { s with jrn := { s.jrn with lost := [], gaps := s.jrn.gaps ++ [e] } }
      s.stageRecs jtGAP e.2 [⟨jtGAP, e.2, s.clk.dtime, [e.1, e.2]⟩]
    else s
  | [] => s

/-! ### The target (R321 to R323) -/

/-- Offset of a record in the ring, and its RSEQ: SRCF records run round the top region, with bit 63 set. -/
def State.recPlace (s : State) (r : JrnRec) : Nat × Nat :=
  if r.type = jtSRCF then (s.mainBytes + s.jrn.srcf * 4096 % max 4096 s.srcfBytes, 2 ^ 63 + s.jrn.srcf)
  else (s.jrn.main * 4096 % max 4096 s.mainBytes, s.jrn.main)

/-- The consumed ring has no room for the next record of the main part (R323). -/
def State.jrnFull (s : State) (r : JrnRec) : Bool :=
  decide (s.get Fld.JRN_CFG_TARGET = 0) && !(s.bit Fld.JRN_CTL_WRAP) && decide (r.type ≠ jtSRCF) &&
    decide (s.mainBytes / 4096 ≤ s.jrn.main - s.jrn.ci)

/-- A field of an NVMe device descriptor as a 64-bit value, low word first. -/
def dev64 (d : List Word) (i : Nat) : Nat := (nth d (i + 1)).toNat * 2 ^ 32 + (nth d i).toNat

/-- A doorbell write to a physical address under a window with W (R314, R322). -/
def State.nvmeBell (s : State) (pa v : Nat) : Option BusFault × State :=
  if s.winAllows true pa 4 then (none, s.emit (.hostWrite 2 pa [wd v])) else (some ⟨kTW_RANGE, 0, pa⟩, s)

/-- The words of an entry of the 64-byte submission queue (R322): opcode 0x01 Write of the stripe, PRP entries of its pages. -/
def State.submitStripe (s : State) (w : NvmeWrite) : Option BusFault × State :=
  let d := s.jrn.devs.getD w.dev []
  let n := max 1 s.jrn.devs.length
  let sh := wbits (nth d 10) 3 0
  let lba := dev64 d 12 + w.stripe / n * 2 ^ 20 / 2 ^ sh
  match s.pages 258 (s.jrn.base + w.slot * 2 ^ 20) (2 ^ 20) false with
  | (.error f, s) => (some f, s)
  | (.ok prp, s) =>
    let tail := s.jrn.tails.getD w.dev 0
    match s.pagesOk 3 (dev64 d 0 + 64 * tail) 64 true with
    | (some f, s) => (some f, s)
    | (none, s) =>
      let tail' := (tail + 1) % max 1 (wbits (nth d 8) 31 16)
      let s := s.emit (.nvmeWrite w.dev (nth d 9).toNat lba (2 ^ 20 / 2 ^ sh) prp)
      (none, { s with jrn := { s.jrn with
        tails := setAt s.jrn.tails w.dev tail'
        fly := s.jrn.fly ++ [w]
        ops := .bell (dev64 d 4) tail' :: s.jrn.ops } })

/-- The submission queue of a device takes another entry: one entry stays free. -/
def State.queueRoom (s : State) (dev : Nat) : Bool :=
  decide ((s.jrn.fly.filter (fun (w : NvmeWrite) => decide (w.dev = dev))).length + 1 < wbits (nth (s.jrn.devs.getD dev []) 8) 31 16)

/-- The journal stops on an error of a device (R322): nothing more of it is recorded or written (assumption 159). -/
def State.jrnError (s : State) (dev status : Nat) : State :=
  let s := ((s.put Fld.JRN_STAT_RUN 0).raise Fld.JRN_STAT_NVME_ERR).put Fld.JRN_STAT_DEV dev
  let s := { s with jrn := { s.jrn with
    staged := []
    opened := []
    outs := []
    voids := []
    cmdsNow := []
    fly := []
    ops := s.jrn.ops.filter (fun (o : NvmeOp) => match o with | .bell _ _ => true | _ => false)
    mainSlot := none
    srcfSlot := none } }
  (s.raise Fld.JRN_INT_STOP).logBlot 18 1 clsDEGRADED dev status

/-- A completion read from its queue, of the oldest write in progress on the device: a failed write is submitted once more
(R322). -/
def State.nvmeDone (s : State) (dev status : Nat) : State :=
  match s.jrn.fly.find? (fun (w : NvmeWrite) => decide (w.dev = dev)) with
  | none => s
  | some w =>
    let s := { s with jrn := { s.jrn with fly := s.jrn.fly.erase w } }
    if status = 0 then s
    else if w.retried then s.jrnError dev status
    else { s with jrn := { s.jrn with ops := s.jrn.ops ++ [.submit { w with retried := true }] } }

/-- Reads the completion at the head of a device's completion queue over channel 2, and rings its doorbell (R312, R322). -/
def State.readCompletion (s : State) (dev status : Nat) : Option BusFault × State :=
  let d := s.jrn.devs.getD dev []
  let head := s.jrn.cqHeads.getD dev 0
  match s.busRead 3 (dev64 d 2 + 16 * head) 16 with
  | (some f, s) => (some f, s)
  | (none, s) =>
    let h := (head + 1) % max 1 (wbits (nth d 8) 15 0)
    let s := { s with jrn := { s.jrn with cqHeads := setAt s.jrn.cqHeads dev h, ops := .bell (dev64 d 6) h :: s.jrn.ops } }
    (none, s.nvmeDone dev status)

/-- Does what channel 2 has to do at the NVMe queues, up to a fault, which leaves the access to be retried on RESUME (R315), or
a full submission queue; `fuel` bounds the steps. -/
def State.runNvme (s : State) (fuel : Nat) : State :=
  match fuel with
  | 0 => s
  | k + 1 =>
    match s.jrn.ops with
    | [] => s
    | o :: rest =>
      let t := { s with jrn := { s.jrn with ops := rest } }
      let kept (r : Option BusFault × State) : State :=
        match r with
        | (none, u) => u.runNvme k
        | (some f, u) => ({ u with jrn := { u.jrn with ops := o :: u.jrn.ops } }).channelFault 2 f
      match o with
      | .bell pa v => kept (t.nvmeBell pa v)
      | .read dev st => kept (t.readCompletion dev st)
      | .submit w => if s.queueRoom w.dev then kept (t.submitStripe w) else s

/-- Steps that the operations at the NVMe queues can take. -/
def State.nvmeFuel (s : State) : Nat := 3 * s.jrn.ops.length + 8

/-- The lowest place of the bounce area that no stripe occupies (assumption 158). -/
def State.freeSlot (s : State) : Option Nat :=
  (List.range 64).find? (fun k => decide (s.jrn.mainSlot ≠ some k) && decide (s.jrn.srcfSlot ≠ some k) &&
    !(s.jrn.fly.any (fun (w : NvmeWrite) => decide (w.slot = k))) &&
    !(s.jrn.ops.any (fun (o : NvmeOp) => match o with | .submit w => decide (w.slot = k) | _ => false)))

/-- The place of the stripe that a record of the type goes to: that of the stripe being built, or a free one. -/
def State.slotFor (s : State) (type : Nat) : Option Nat :=
  match if type = jtSRCF then s.jrn.srcfSlot else s.jrn.mainSlot with
  | some k => some k
  | none => s.freeSlot

/-- Notes the place of the stripe being built. -/
def State.setBounce (s : State) (type : Nat) (k : Option Nat) : State :=
  { s with jrn := { s.jrn with
    mainSlot := if type = jtSRCF then s.jrn.mainSlot else k
    srcfSlot := if type = jtSRCF then k else s.jrn.srcfSlot } }

/-- On NVMe every place of the bounce area is taken: the record waits for a completion. -/
def State.bounceFull (s : State) (r : JrnRec) : Bool :=
  decide (s.get Fld.JRN_CFG_TARGET = 1) && (s.slotFor r.type).isNone

/-- Writes one record to the target, at ring offset `o` (R321, R322): to the ring in host memory, or to the stripe being built
in the bounce area, which is submitted when it is whole. -/
def State.writeRecord (s : State) (r : JrnRec) : Option BusFault × State :=
  let (o, rseq) := s.recPlace r
  let ws := s.recordWords r rseq
  if s.get Fld.JRN_CFG_TARGET = 0 then s.busPut 2 (s.jrn.base + o) ws
  else
    let k := (s.slotFor r.type).getD 0
    match s.busPut 2 (s.jrn.base + k * 2 ^ 20 + o % 2 ^ 20) ws with
    | (some f, s) => (some f, s)
    | (none, s) =>
      if (o + 4096) % 2 ^ 20 = 0 then
        let st := o / 2 ^ 20
        let w : NvmeWrite := ⟨st % max 1 s.jrn.devs.length, st, k, false⟩
        let s := s.setBounce r.type none
        (none, { s with jrn := { s.jrn with ops := s.jrn.ops ++ [.submit w] } })
      else (none, s.setBounce r.type (some k))

/-- Writes staged records, `fuel` at most, up to a full ring or a fault of channel 2. -/
def State.writeRecords (s : State) (fuel : Nat) : State :=
  match fuel with
  | 0 => s
  | k + 1 =>
    match s.jrn.staged with
    | [] => s
    | r :: t =>
      if s.jrnFull r then s.raise Fld.JRN_STAT_FULL
      else if s.bounceFull r then s
      else
        let s := s.put Fld.JRN_STAT_FULL 0
        match s.writeRecord r with
        | (some f, s) => s.channelFault 2 f
        | (none, s) =>
          let s := { s with jrn := { s.jrn with
            staged := t
            main   := if r.type = jtSRCF then s.jrn.main else s.jrn.main + 1
            srcf   := if r.type = jtSRCF then s.jrn.srcf + 1 else s.jrn.srcf } }
          let s := s.runNvme s.nvmeFuel
          if s.channelOn 2 then s.writeRecords k else s

/-- The journal goes on at the NVMe queues and writes what is staged, when channel 2 may issue. -/
def State.runJournal (s : State) : State :=
  if (s.jrn.staged.isEmpty && s.jrn.ops.isEmpty) || !(s.channelOn 2) then s
  else
    let s := s.runNvme s.nvmeFuel
    if s.channelOn 2 then s.writeRecords s.jrn.staged.length else s

/-- JRN_CI_HI_WRITE (R323): the consumer index takes effect. -/
def doCiHi (v : Word) (s : State) : State :=
  if !(s.headRegs) then s
  else
    let s := s.setWord Reg.JRN_CI_HI v
    ({ s with jrn := { s.jrn with ci := v.toNat * 2 ^ 32 + s.get Fld.JRN_CI_LO_RSEQ } }).put Fld.JRN_STAT_FULL 0

/-- NVME_COMPLETION (R322): the head reads it from the device's completion queue when channel 2 may issue (R309, R313, R315).
It concerns the oldest write in progress on the device. -/
def doNvme (dev status : Nat) (s : State) : State :=
  if !(s.headRegs) || !(s.jrn.fly.any (fun (w : NvmeWrite) => decide (w.dev = dev))) then s
  else ({ s with jrn := { s.jrn with ops := .read dev status :: s.jrn.ops } }).runJournal

/-! ### What is recorded -/

/-- One section of a SNAP. -/
def snapSection (code : Nat) (ws : List Word) : List Word := wd (code * 2 ^ 24 + ws.length % 2 ^ 24) :: ws

/-- A client's entry of the table, without its key. -/
def clientWord (n : Nat) (c : Client) : List Word :=
  [wd n, wd (bitNat c.isOpen * 2 ^ 31 + bitNat c.authReq * 2 ^ 30 + c.cls * 2 ^ 16 + c.rights)]

/-- SRC registers of every source and the flow filters. -/
def srcRegs : List Nat :=
  (List.range 64).flatMap (fun n => [Reg.SRC_CFG n, Reg.SRC_RASTER n, Reg.SRC_RATE n, Reg.SRC_CMAT n 0, Reg.SRC_CMAT n 1] ++
    (List.range 5).map (fun k => Reg.SRC_LMAT n k) ++ [Reg.SRC_GEOM n, Reg.SRC_DETECT n, Reg.SRC_STAT n, Reg.SRC_FCNT n,
      Reg.SRC_SIG n, Reg.SRC_RANGECNT n, Reg.SRC_SYNCCNT n, Reg.SRC_ERRCNT n, Reg.SRC_RTPOFS n, Reg.SRC_CHASE n]) ++
  (List.range 512).flatMap (fun i => [Reg.SRC_FLOW_ADDR i, Reg.SRC_FLOW_CFG i, Reg.SRC_FLOW_MAP i])

/-- Registers of the state a SNAP holds (sections 5, 8 and 9). -/
def snapRegs : List Nat :=
  (List.range 3).map Reg.CMP_BG ++ [Reg.CMP_INK_CTL, Reg.CMP_PREV_BASE] ++ srcRegs ++ (List.range 6).map Reg.TIME_SCHED

/-- The state of *Table — Snapshot sections* now. -/
def State.snapState (s : State) : SnapState :=
  ⟨s.comp.windows, s.comp.tiles, s.priv.items, s.itemsShown, s.cmds.clients, s.word Reg.CMP_PLANE_ORDER, s.comp.filt, s.ingest.tf,
    s.ingest.slut, s.comp.wlut, snapRegs.map (fun x => (x, s.word x))⟩

/-- The payload of a SNAP (*Table — Snapshot sections*). Tables whose entries carry no number of their own are preceded by
it. -/
def State.snapWordsAll (s : State) : List Word :=
  snapSection 1 (s.comp.windows.flatMap (fun e => wd e.1 :: e.2.words)) ++
  snapSection 2 (s.comp.tiles.flatMap (fun e => wd e.1 :: e.2)) ++
  snapSection 3 (s.priv.items.flatMap (fun e => wd e.1 :: wd e.2.length :: wordsOf e.2) ++
    [itemWord s.itemsShown 0, itemWord s.itemsShown 1]) ++
  snapSection 4 (s.cmds.clients.flatMap (fun e => clientWord e.1 e.2)) ++
  snapSection 5 ([s.word Reg.CMP_PLANE_ORDER] ++ (List.range 3).map (fun i => s.word (Reg.CMP_BG i)) ++
    [wd (s.get Fld.CMP_INK_CTL_EN), wd (s.get Fld.CMP_PREV_BASE_EN)]) ++
  snapSection 6 ((List.range 18432).map (fun k => wd (unsigned 32 (SMap.get filtReset s.comp.filt k)))) ++
  snapSection 7 ((List.range 32768).map (fun k => wd (SMap.get (fun _ => 0) s.ingest.tf k)) ++
    (List.range 4096).map (fun k => wd (s.slutAt k)) ++
    (List.range 1024).map (fun k => wd (SMap.get wlutReset s.comp.wlut k)) ++
    (List.range 4096).map (fun k => wd (SMap.get wlutReset s.comp.wlut (4096 + k)))) ++
  snapSection 8 (srcRegs.map s.word) ++
  snapSection 9 ((List.range 6).map (fun i => s.word (Reg.TIME_SCHED i)) ++ [wd (s.get Fld.TIME_LEAD_NS), wd (s.get Fld.CMP_RUNAHEAD_ADV)])

/-- The words of an entry of a CMD record: its length and late change bit, then the command without its trailer. -/
def JrnCmd.words (e : JrnCmd) : List Word :=
  let ws := cmdWords e.opcode { e.cmd with trailer := none }
  wd (ws.length * 2 ^ 16 + bitNat e.late) :: ws

/-- Notes a command that takes effect in the frame being composed, for its CMD record. -/
def State.noteCmd (s : State) (op : Nat) (c : Cmd) : State :=
  if s.jrnRuns then { s with jrn := { s.jrn with cmdsNow := s.jrn.cmdsNow ++ [⟨op, c, false⟩] } } else s

/-- A command that takes effect as a late change of frame `g` has a CMD record of that frame at once (R304, R327). -/
def State.noteLate (s : State) (op : Nat) (c : Cmd) (g : Word) : State :=
  if s.jrnRuns then
    let e : JrnCmd := ⟨op, c, true⟩
    let s := { s with jrn := { s.jrn with opened := s.jrn.opened.map (fun (t : JrnTick) =>
      if t.fn = g then { t with cmds := t.cmds ++ [e] } else t) } }
    s.record jtCMD g s.clk.dtime e.words
  else s

/-- What the windows of a frame show that is not their source's entry: a held or latched frame, or none for a fill. -/
def FrameCfg.usesOf (c : FrameCfg) : SMap (Option Nat) :=
  c.shows.filterMap (fun e =>
    match e.2 with
    | .still f => some (e.1, some f.no)
    | .fill => some (e.1, none)
    | _ => none)

/-- The payload of a TICK record. -/
def JrnTick.words (t : JrnTick) : List Word :=
  let shown (n : Nat) : Nat := match SMap.find t.picks n with | some no => no % 2 ^ 32 | none => 0xFFFFFFFF
  let entries : List Word := t.uses.flatMap (fun e => [wd e.1, wd (match e.2 with | some no => no | none => 0xFFFFFFFF)])
  let cuts := t.outs.filter (fun o => o.under)
  [wd t.int, wd t.lead, wd t.adv, wd t.lanes, wd (t.seed.toNat / 2 ^ 32), wd t.seed.toNat] ++
    (List.range 64).map (fun n => wd (shown n)) ++
    wd (entries.length / 2) :: entries ++
    wd cuts.length :: cuts.map (fun o => wd (o.tile * 2 ^ 19 + o.patch * 2 ^ 13 + o.upto)) ++
    wd t.voids.length :: t.voids.map (fun v => wd (v.tile * 2 ^ 19 + v.rev * 2 ^ 15 + bitNat v.recomp * 2 ^ 14 + v.cause * 2 ^ 10))

/-- The payload of OUTS. -/
def outsWords (l : List OutRec) : List Word :=
  wd l.length :: l.flatMap (fun o => [wd (o.tile * 2 ^ 19 + o.rev * 2 ^ 15 + bitNat o.under * 2 ^ 14 + o.patch), wd (o.sig / 2 ^ 32), wd o.sig])

/-- The state of a line as SRCD records it. -/
def lineCode : LineState → Nat
  | .valid => 0
  | .missing => 1
  | .padded => 2
  | .crcerr => 3

/-- The stored units of a line of `w` pixels (R75): sixteen words for each unit, whatever the state of the line. -/
def lineUnits (alpha w : Nat) (l : SrcLine) : List Word :=
  let u := Config.storedUnits alpha (l.px.flatMap (fun p => [p.r, p.g, p.b, p.a]))
  let n := 16 * ceilDiv w (if alpha = 1 then 10 else 14)
  u.take n ++ List.replicate (n - u.length) 0

/-- A line of a frame; one that did not come is MISSING. -/
def SrcFrame.line (f : SrcFrame) (y : Nat) : SrcLine := match SMap.find f.l0 y with | some l => l | none => ⟨.missing, []⟩

/-- The CRC-32C that SRCD records of each line's stored units. -/
def SrcFrame.digests (f : SrcFrame) (alpha w h : Nat) : List Word :=
  (List.range h).map (fun y => wd (crc32c (leStream (lineUnits alpha w (f.line y)))))

/-- SRCD and SRCF records of a completed frame (R327). An SRCF region of no GiB holds no frame (assumption 160). -/
def State.recordFrame (s : State) (n : Nat) (f : SrcFrame) : State :=
  let alpha := if s.get (Fld.SRC_CFG_KIND n) = 4 then 1 else 0
  let h := s.rasterH n
  let w := s.rasterW n
  let fn := s.clk.fn
  let ds := f.digests alpha w h
  let srcd := s.jrnSel jtSRCD
  let s := if srcd then
      s.stageRecs jtSRCD fn ((List.range (ceilDiv h 506)).map (fun k =>
        let ys := (List.range (min 506 (h - 506 * k))).map (fun j => 506 * k + j)
        ⟨jtSRCD, fn, s.clk.dtime, [wd n, wd f.no, wd (506 * k), wd ys.length] ++
          ys.flatMap (fun y => [ds.getD y 0, wd (lineCode (f.line y).st)])⟩))
    else s
  if s.jrnSel jtSRCF && decide (0 < s.srcfBytes) then
    let us := (List.range h).flatMap (fun y => lineUnits alpha w (f.line y))
    let total := us.length / 16
    let q := s.nextSeq jtSRCF
    let s := s.stageRecs jtSRCF fn ((List.range (ceilDiv total 63)).map (fun k =>
      let m := min 63 (total - 63 * k)
      ⟨jtSRCF, fn, s.clk.dtime, [wd n, wd f.no, wd (63 * k), wd m] ++ ((us.drop (16 * 63 * k)).take (16 * m))⟩))
    if s.tickLost fn then s
    else { s with jrn := { s.jrn with frames := s.jrn.frames ++ [⟨n, f, q, fn, h, w, alpha, if srcd then some ds else none⟩] } }
  else s

/-- Takes what ingest and the Blot log noted since (R327). -/
def State.journalNotes (s : State) : State :=
  let l := s.ingest.completed
  let s := if l.isEmpty then s
    else forEach l (fun e s => s.recordFrame e.1 e.2) { s with ingest := { s.ingest with completed := [] } }
  if s.cmds.journal.isEmpty then s
  else
    let ws := s.cmds.journal.flatMap (fun e => e.params)
    ({ s with cmds := { s.cmds with journal := [] } }).record jtEVT s.clk.fn s.clk.dtime ws

/-- The journal at C(F) (R327): SNAP when one is due, CMD, and the frame's TICK and OUTS opened with what TICK takes at C. -/
def State.journalFrame (s : State) (f : Word) : State :=
  if !(s.jrnRuns) then s
  else
    let s := if s.jrn.snapDue then
        let q := s.nextSeq jtSNAP
        let s := ({ s with jrn := { s.jrn with snapDue := false } }).record jtSNAP f s.clk.dtime s.snapWordsAll
        if s.tickLost f then s else { s with jrn := { s.jrn with snapped := s.jrn.snapped ++ [⟨f, q, s.snapState⟩] } }
      else s
    let l := s.jrn.cmdsNow
    let t : JrnTick := ⟨f, s.clk.dtime, s.tickInt, s.leadOf f, s.advOf f / 1000, s.lanes, s.comp.seed, l, [], [], [], []⟩
    let s := { s with jrn := { s.jrn with cmdsNow := [], opened := s.jrn.opened ++ [t] } }
    if l.isEmpty then s else s.record jtCMD f s.clk.dtime (l.flatMap JrnCmd.words)

/-- Some window of the configuration takes the frame that its source's entry names. -/
def FrameCfg.takes (c : FrameCfg) (n : Nat) : Bool :=
  c.wins.any (fun e => !e.2.isFill && decide (e.2.source = n) &&
    (match SMap.get (fun _ => Shows.fill) c.shows e.1 with | .pick _ => true | _ => false))

/-- What the records selected hold of a tick. -/
def State.selectedOf (s : State) (t : JrnTick) : JrnTick :=
  let t := if s.jrnSel jtCMD then t else { t with cmds := [] }
  let t := if s.jrnSel jtTICK then t else { t with picks := [], uses := [], voids := [] }
  if s.jrnSel jtOUTS then t else { t with outs := [] }

/-- The TICK and OUTS records of a frame whose pushing has ended, and the journalled tick they make. -/
def State.closeTick (s : State) (t : JrnTick) : State :=
  let f := t.fn
  let h := s.heads.frames.find? (fun (h : HeadFrame) => decide (h.fn = f))
  let t := { t with
    picks := match h with | some h => h.picks.filter (fun e => h.cfg.takes e.1) | none => []
    uses  := match h with | some h => h.cfg.usesOf | none => []
    outs  := (s.jrn.outs.filter (fun e => decide (e.1 = f))).map (·.2)
    voids := (s.jrn.voids.filter (fun e => decide (e.1 = f))).map (·.2) }
  let s := { s with jrn := { s.jrn with
    opened  := s.jrn.opened.filter (fun (e : JrnTick) => decide (e.fn ≠ f))
    outs    := s.jrn.outs.filter (fun e => decide (e.1 ≠ f))
    voids   := s.jrn.voids.filter (fun e => decide (e.1 ≠ f))
    dropped := s.jrn.dropped.filter (fun g => !(earlier g (f - 16))) } }
  let s := (s.record jtTICK f t.madeAt t.words).record jtOUTS f s.clk.dtime (outsWords t.outs)
  if s.tickLost f then s else { s with jrn := { s.jrn with ticks := s.jrn.ticks ++ [s.selectedOf t] } }

/-- Closes every frame whose T_show has passed: nothing of it is sent after that. -/
def State.closeTicks (s : State) : State :=
  forEach (s.jrn.opened.filter (fun (e : JrnTick) => s.passed (s.tshow e.fn))) (fun e s => s.closeTick e) s

/-- JRN_SNAP_TIMER (R327): a SNAP is due at the next C. -/
def doSnapTimer (s : State) : State :=
  if s.jrnRuns then { s with jrn := { s.jrn with snapDue := true } } else s

/-! ### Configuration and start (R321, R324, R326) -/

/-- The parameters of JRN_CONFIG (R321, *Table — NVMe device descriptor*). -/
def State.jrnParamOk (s : State) (p : List Word) : Bool :=
  let w0 := nth p 0
  let base := dev64 p 1
  let size := dev64 p 3
  let nvme := wbits w0 1 0 = 1
  let n := if nvme then wbits w0 26 24 else 1
  let devs := (List.range n).map (fun i => (p.drop (5 + 16 * i)).take 16)
  decide (wbits w0 1 0 ≤ 1) && decide (1 ≤ n) && decide (n ≤ 4) && decide (0 < size) && size % (2 ^ 20 * n) == 0 &&
    decide (size ≤ 2 ^ 45) && (decide nvme || decide (base + size ≤ 2 ^ 45)) &&
    (!(decide nvme) || devs.all (fun d => decide (2 ≤ wbits (nth d 8) 31 16) && decide (2 ≤ wbits (nth d 8) 15 0) &&
      (wbits (nth d 10) 3 0 == 9 || wbits (nth d 10) 3 0 == 12) && decide (size / n ≤ dev64 d 14 * 2 ^ wbits (nth d 10) 3 0))) &&
    (decide (wbits w0 11 11 = 0) || decide (s.srcfGib (wbits w0 23 16) * 2 ^ 30 + 2 ^ 30 ≤ size))

/-- The budget of R119 that a JRN_CONFIG that selects SRCF breaks, R_jrn included (R326). -/
def State.jrnBroken (s : State) (p : List Word) : Nat × Nat :=
  if wbits (nth p 0) 11 11 = 0 then (0, 0)
  else s.budgetBroken (s.steadyLoad s.comp.windows (s.word Reg.CMP_PLANE_ORDER) s.comp.tiles) (s.srcRate (fun n => 64 * s.unitsOf n))

/-- JRN_CONFIG takes effect; a new ring starts at RSEQ 0. -/
def State.jrnConfigure (s : State) (p : List Word) : State :=
  let w0 := nth p 0
  let srcf := wbits w0 11 11 = 1
  let nvme := wbits w0 1 0 = 1
  let s := s.setWord Reg.JRN_CFG (w0 &&& 0x07FF3F03#32)
  let s := s.put Fld.JRN_SRCF_GIB_GIB (if srcf then s.srcfGib (wbits w0 23 16) else 0)
  { s with jrn := { Jrn.reset with
    configured := true
    base := dev64 p 1
    size := dev64 p 3
    devs := if nvme then (List.range (wbits w0 26 24)).map (fun i => (p.drop (5 + 16 * i)).take 16) else [] } }

/-- JRN_START takes effect (R327). -/
def State.jrnStart (s : State) : State :=
  ({ s with jrn := { s.jrn with snapDue := true } }).raise Fld.JRN_STAT_RUN

/-! ### The end of a re-run (R329) -/

/-- The replay ends (R329): CMD_DONE. The head's own state, which stood aside, acts again from the next tick, with every
Inkwell tag cleared and every patch changed. -/
def State.endReplay (s : State) (r : Replay) (status : Nat) (result : List Word) : State :=
  let s := ((s.put Fld.JRN_STAT_REPLAY 0).raise Fld.JRN_INT_REPLAY_DONE)
  let s := { s with
    jrn  := { s.jrn with replay := none, restore := true }
    comp := { s.comp with inval := true, last := none } }
  if r.silent then s else s.cmdDone ⟨opJRN_REPLAY, r.client, r.tag, r.route⟩ status result

end Sys2Proof.Machine
end

