-- ==== Sys2Proof/Machine/Network.lean ====
section
/-! DEFINITION. The network layer (R175 to R195, R424): enumeration walks, global operations, link keys, escalation. -/

namespace Sys2Proof.Machine

/-- Copies node ID, head table and routes to the MRAM node records (R179). -/
def State.saveNet (s : State) : State :=
  let hs := (List.range 16).foldl (fun m i => SMap.set (fun _ => (0 : Word)) m i (s.word (Reg.LNK_HEAD i))) []
  let rs := (List.range 64).foldl (fun m i =>
    SMap.set (fun _ => (0 : Word)) (SMap.set (fun _ => (0 : Word)) m (Reg.LNK_ROUTE i) (s.word (Reg.LNK_ROUTE i)))
      (Reg.LNK_ROUTE_PORT i) (s.word (Reg.LNK_ROUTE_PORT i))) []
  { s with saved := { s.saved with nodeId := s.word Reg.LNK_NODE_ID &&& 0xBFFFFFFF, heads := hs, routes := rs } }

/-- Restores them at BOOT (R179). -/
def State.restoreNet (s : State) : State :=
  let s := s.setWord Reg.LNK_NODE_ID s.saved.nodeId
  let s := forEach (List.range 16) (fun i s => s.setWord (Reg.LNK_HEAD i) (SMap.get (fun _ => 0) s.saved.heads i)) s
  forEach (List.range 64) (fun i s =>
    (s.setWord (Reg.LNK_ROUTE i) (SMap.get (fun _ => 0) s.saved.routes (Reg.LNK_ROUTE i))).setWord
      (Reg.LNK_ROUTE_PORT i) (SMap.get (fun _ => 0) s.saved.routes (Reg.LNK_ROUTE_PORT i))) s

/-- A RETURN packet body (*Table — ENUM operations*). -/
def returnBody (mode walkId next : Nat) (full loop : Bool) (met : Option NodeId) (low high : Nat) : List Word :=
  [wd (2 * 2 ^ 24 + mode * 2 ^ 16 + walkId % 2 ^ 16),
   wd (next * 2 ^ 16 + (if full then 4 else 0) + (if loop then 2 else 0) + (if met.isSome then 1 else 0)),
   wd (low * 2 ^ 16 + high),
   wd ((match met with | some h => h.toNat | none => 0) * 2 ^ 16)]

/-- The REPORT of this node (*Table — ENUM operations*). -/
def State.reportBody (s : State) (mode walkId arrival hops : Nat) : List Word :=
  let up := (List.range 4).foldl (fun a p => a + (if s.linkUp p then 2 ^ p else 0)) 0
  let nb (p : Nat) := s.get (Fld.LNK_NET_STAT_NEIGHBOUR p)
  [wd (3 * 2 ^ 24 + mode * 2 ^ 16 + walkId % 2 ^ 16),
   wd (s.nodeId.toNat * 2 ^ 16 + s.role.code * 2 ^ 14 + s.wq % 16 * 2 ^ 10 + s.hq % 8 * 2 ^ 7 + arrival * 2 ^ 5),
   wd (hops * 2 ^ 20 + up * 2 ^ 16), wd (nb 0 * 2 ^ 16 + nb 1), wd (nb 2 * 2 ^ 16 + nb 3)]

/-- Sets the head entry (HEAD, port, HOPS) (R179): the head's own entry, or the first free one. -/
def State.setHeadEntry (s : State) (h : NodeId) (p hops : Nat) : State :=
  let i := match s.headIndex h with
    | some i => some i
    | none => (List.range 16).find? (fun i => !(s.bit (Fld.LNK_HEAD_VALID i)))
  match i with
  | some i => s.setWord (Reg.LNK_HEAD i) (wd (2 ^ 31 + p * 2 ^ 28 + hops % 4096 * 2 ^ 16 + h.toNat))
  | none => s

/-- Deletes the route entries installed by the walks of head entry `o` (R179). -/
def State.dropRoutes (s : State) (o : Nat) : State :=
  forEach (List.range 64) (fun i s =>
    if s.bit (Fld.LNK_ROUTE_PORT_VALID i) && !(s.bit (Fld.LNK_ROUTE_PORT_SELF i)) && decide (s.get (Fld.LNK_ROUTE_PORT_OWNER i) = o)
    then (s.setWord (Reg.LNK_ROUTE i) 0).setWord (Reg.LNK_ROUTE_PORT i) 0 else s) s

/-- Adds a route entry in the first free place. -/
def State.addRoute (s : State) (low high p : Nat) (self : Bool) (owner : Nat) : State :=
  match (List.range 64).find? (fun i => !(s.bit (Fld.LNK_ROUTE_PORT_VALID i))) with
  | some i => (s.setWord (Reg.LNK_ROUTE i) (wd (low * 2 ^ 16 + high))).setWord (Reg.LNK_ROUTE_PORT i)
      (wd (2 ^ 31 + (if self then 2 ^ 20 else 0) + owner % 16 * 2 ^ 16 + p % 4))
  | none => s

/-- Deletes the entry a head's earlier walk installed for a port. -/
def State.dropSelfRoute (s : State) (p : Nat) : State :=
  forEach (List.range 64) (fun i s =>
    if s.bit (Fld.LNK_ROUTE_PORT_VALID i) && s.bit (Fld.LNK_ROUTE_PORT_SELF i) && decide (s.get (Fld.LNK_ROUTE_PORT_PORT i) = p)
    then (s.setWord (Reg.LNK_ROUTE i) 0).setWord (Reg.LNK_ROUTE_PORT i) 0 else s) s

/-- Two walks are the same: heads walk together, each with WALK_IDs of its own (R179, R182). -/
def NodeWalk.same (a b : NodeWalk) : Bool := decide (a.walkId = b.walkId) && decide (a.head = b.head)

/-- The walk through this node that waits for port `p`, the oldest if several do; with `id` the one of that WALK_ID. -/
def State.walkAt (s : State) (p : Nat) (id : Option Nat) : Option NodeWalk :=
  s.net.through.find? (fun w => decide (w.port = p) && (match id with | some i => decide (w.walkId = i) | none => true))

/-- Goes on with a walk that passes through this node: the next port whose link is up and that is not blocked then, or RETURN
on the arrival port (R179). -/
def State.walkOn (s : State) (w : NodeWalk) : State :=
  let mode := if w.assign then 0 else 1
  let others := s.net.through.filter (fun v => !(v.same w))
  match w.ports.dropWhile (fun m => !(s.linkUp m && !(s.bit (Fld.LNK_NET_STAT_BLOCKED m)))) with
  | m :: rest =>
    let s := s.sendLocal m tyENUM [wd (1 * 2 ^ 24 + mode * 2 ^ 16 + w.walkId), wd (w.next * 2 ^ 16),
      wd (w.head.toNat * 2 ^ 16 + (w.hops + 1) % 4096 * 2 ^ 4 + w.headPort * 2 ^ 2)]
    { s with net := { s.net with through := others ++ [{ w with port := m, ports := rest }] } }
  | [] =>
    let s := s.sendLocal w.arrival tyENUM (returnBody mode w.walkId w.next w.full w.loop w.met w.low w.high)
    ({ s with net := { s.net with through := others } }).saveNet

/-- WALK_RECEIVED (R179, R181). An ASSIGN walk that gives a node its ID clears LNK_NODE_ID.DUP (assumption 150). -/
def doWalk (x : Rx) (s : State) : State :=
  s.receive x (fun b s =>
    let a := x.port.val
    let assign := decide (wbits (nth b 0) 23 16 = 0)
    let mode := if assign then 0 else 1
    let id := wbits (nth b 0) 15 0
    let next := wbits (nth b 1) 31 16
    let head : NodeId := BitVec.ofNat 16 (wbits (nth b 2) 31 16)
    let hops := wbits (nth b 2) 15 4
    let s := s.put (Fld.LNK_NET_STAT_BLOCKED a) 0
    if s.role = .head then
      s.sendLocal a tyENUM (returnBody mode id next false false (some s.nodeId) 1 0)
    else if (id, head) ∈ s.net.seen then
      (s.sendLocal a tyENUM (returnBody mode id next false true none 1 0)).raise (Fld.LNK_NET_STAT_BLOCKED a)
    else
      -- WALK_ID is 16 bits: what a head's walk of half its range ago left does not stand against a new one (assumption 23)
      let s := { s with net := { s.net with seen := (id, head) :: s.net.seen.filter (fun (e : Nat × NodeId) =>
        decide (e.2 ≠ head) || decide ((id + 65536 - e.1) % 65536 < 32768)) } }
      let full := assign && decide (0xFFFE < next)
      let s := if assign && !full then
          s.setWord Reg.LNK_NODE_ID (wd (2 ^ 31 + a * 2 ^ 28 + next)) else s
      let next' := if assign && !full then next + 1 else next
      let s := s.setHeadEntry head a hops
      let s := match s.headIndex head with | some o => s.dropRoutes o | none => s
      let s := s.sendTo tyENUM head (s.reportBody mode id a hops)
      let ports := (List.range 4).filter (fun m => decide (m ≠ a))
      let own := s.nodeId.toNat
      s.walkOn ⟨a, assign, id, head, hops, wbits (nth b 2) 3 2, next', full, false, none,
        if own = 0 then 1 else own, own, ports, 0⟩)

/-- Takes what a port of a walk through this node brought back (R179). -/
def State.walkBack (s : State) (w : NodeWalk) (b : Option (List Word)) : State :=
  match b with
  | none => s.walkOn w
  | some b =>
    let loop := wbits (nth b 1) 1 1 = 1
    let low := wbits (nth b 2) 31 16
    let high := wbits (nth b 2) 15 0
    let some' := decide (low ≤ high)
    -- the RETURN of the link that closes the loop names no range; one that only passes the flag up does (assumption 23)
    let s := if loop ∧ wbits (nth b 1) 2 2 = 0 ∧ some' = false then s.raise (Fld.LNK_NET_STAT_BLOCKED w.port) else s
    let s := if some' then
        s.addRoute low high w.port false (match s.headIndex w.head with | some o => o | none => 0) else s
    let has := decide (w.low ≤ w.high)
    let met : Option NodeId := if wbits (nth b 1) 0 0 = 1 then some (BitVec.ofNat 16 (wbits (nth b 3) 31 16)) else w.met
    s.walkOn { w with
      next := wbits (nth b 1) 31 16
      full := w.full || decide (wbits (nth b 1) 2 2 = 1)
      loop := w.loop || decide loop
      met := met
      low := if some' then (if has then min w.low low else low) else w.low
      high := if some' then (if has then max w.high high else high) else w.high }

/-- The result words of DOM_ENUMERATE. -/
def walkResult (w : HeadWalk) : List Word :=
  let rng (p : Nat) : Word := match w.ranges.find? (fun r => decide (r.1 = p)) with
    | some r => wd (r.2.1 * 2 ^ 16 + r.2.2) | none => wd (1 * 2 ^ 16)
  let fl (f : Bool × Bool × Bool → Bool) (sh : Nat) : Nat :=
    w.flags.foldl (fun a g => if f g.2 then a + 2 ^ (g.1 + sh) else a) 0
  [rng 0, rng 1, rng 2, rng 3, wd (fl (fun g => g.1) 0 + fl (fun g => g.2.1) 4 + fl (fun g => g.2.2) 8)] ++
    w.blocked.map (fun l => wd (l.1 * 2 ^ 16 + l.2))

/-- Ranges of two ports overlap, or a range holds the ID of a head (R180). -/
def State.walkConflict (s : State) (w : HeadWalk) : Bool :=
  let live := w.ranges.filter (fun r => decide (r.2.1 ≤ r.2.2))
  let heads := s.nodeId.toNat :: s.headIds.map (·.toNat) ++
    (s.net.record.filter (fun r => decide (r.2.role = 1))).map (·.1) ++ s.net.metHead.map (·.2.toNat)
  live.any (fun r => live.any (fun q => decide (q.1 ≠ r.1) && decide (r.2.1 ≤ q.2.2) && decide (q.2.1 ≤ r.2.2))) ||
    live.any (fun r => heads.any (fun h => decide (r.2.1 ≤ h) && decide (h ≤ r.2.2)))

/-- A WALK leaves on the next port of a head's walk; none is left at its end. -/
def State.walkSend (s : State) (w : HeadWalk) : State :=
  match w.ports with
  | p :: rest =>
    let id := (s.net.walkId + 1) % 2 ^ 16
    let s := { s with net := { s.net with walkId := id } }
    let s := s.sendLocal p tyENUM [wd (1 * 2 ^ 24 + (if w.assign then 0 else 1) * 2 ^ 16 + id), wd ((nth w.bases p).toNat % 2 ^ 16 * 2 ^ 16),
      wd (s.nodeId.toNat * 2 ^ 16 + 1 * 2 ^ 4 + p * 2 ^ 2)]
    { s with net := { s.net with walk := some { w with walkId := id, port := p, ports := rest } } }
  | [] => s

/-- Starts a walk on the given ports whose link is up (R179, R182). -/
def State.startWalk (s : State) (assign : Bool) (ports : List Nat) (bases : List Word) (cmd : Option Cmd) : State :=
  s.walkSend ⟨assign, 0, ports.filter (fun p => s.linkUp p), 0, bases, [], [], [], cmd⟩

/-- A LEARN walk on every port whose link is up (R182, R424); one that falls due while a walk is under way follows that
walk (assumption 22). -/
def State.learnWalk (s : State) : State :=
  match s.net.walk with
  | some _ => { s with net := { s.net with learnDue := true } }
  | none => ({ s with net := { s.net with learnDue := false } }).startWalk false [0, 1, 2, 3] [0, 0, 0, 0] none

/-- The end of a head's walk: DOM_ENUMERATE is answered, and a LEARN walk that waits starts. -/
def State.walkEnd (s : State) (w : HeadWalk) : State :=
  let s := ({ s with net := { s.net with walk := none } }).saveNet
  let s := match w.cmd with
    | some c => s.answer opDOM_ENUMERATE c (if s.walkConflict w then stCONFLICT else stOK) false s.clk.fn (walkResult w)
    | none => s
  if s.net.learnDue then s.learnWalk else s

/-- The next port of a head's walk, or its end (R179, R180, R424). -/
def State.headWalkOn (s : State) (w : HeadWalk) : State :=
  let w := { w with ports := w.ports.filter (fun p => s.linkUp p) }
  if w.ports = [] then s.walkEnd w else s.walkSend w

/-- DOM_ENUMERATE starts (R180): a LEARN walk under way gives way to it and follows it (assumption 22). -/
def State.enumerate (s : State) (assign : Bool) (ports : List Nat) (bases : List Word) (c : Cmd) : State :=
  let s := { s with net := { s.net with learnDue := s.net.learnDue || s.net.walk.isSome } }
  s.headWalkOn ⟨assign, 0, ports.filter (fun p => s.linkUp p), 0, bases, [], [], [], some c⟩

/-- The neighbour ID a node of the record reported on port `p`. -/
def NodeRec.neighbour (r : NodeRec) (p : Nat) : Nat := wbits (if p < 2 then r.n01 else r.n23) (if p % 2 = 0 then 31 else 15) (if p % 2 = 0 then 16 else 0)

/-- The links among the nodes of a range that no walk entered a node over: each is named by two nodes of the enumeration
record, and neither has the other on its arrival port (R180). -/
def State.loopLinks (s : State) (low high : Nat) : List (Nat × Nat) :=
  let l := s.net.record.filter (fun (e : Nat × NodeRec) => decide (low ≤ e.1) && decide (e.1 ≤ high))
  l.flatMap (fun (a : Nat × NodeRec) => (l.filter (fun (b : Nat × NodeRec) => decide (a.1 < b.1) &&
    (List.range 4).any (fun p => decide (a.2.neighbour p = b.1)) && (List.range 4).any (fun p => decide (b.2.neighbour p = a.1)) &&
    decide (a.2.neighbour a.2.arr ≠ b.1) && decide (b.2.neighbour b.2.arr ≠ a.1))).map (fun b => (a.1, b.1)))

/-- The node that node `e` was entered from in a walk: IDs are given in depth-first order, so it is the highest lower ID one hop
nearer. -/
def walkParent (l : List (Nat × NodeRec)) (e : Nat × NodeRec) : Option Nat :=
  (l.filter (fun a => decide (a.1 < e.1) && decide (a.2.hops + 1 = e.2.hops))).foldl
    (fun m a => match m with | some b => some (max a.1 b) | none => some a.1) none

/-- The ports of a node that are up and lead neither back to where the walk came from nor to a node entered from this one. -/
def looseEnds (l : List (Nat × NodeRec)) (e : Nat × NodeRec) : Nat :=
  ((List.range 4).filter (fun p => decide (p ≠ e.2.arr) && decide (bitsOf e.2.ports p 1 = 1))).length -
    (l.filter (fun a => decide (walkParent l a = some e.1))).length

/-- The ends of the one blocked link of a range, from the shape of the walk alone: the two nodes with one port each that leads to
no node entered over it (R179, R180). -/
def State.loopShape (s : State) (low high : Nat) : List (Nat × Nat) :=
  let l := s.net.record.filter (fun (e : Nat × NodeRec) => decide (low ≤ e.1) && decide (e.1 ≤ high))
  match (l.filter (fun e => decide (looseEnds l e ≠ 0))).map (fun e => (e.1, looseEnds l e)) with
  | [(a, 1), (b, 1)] => [(min a b, max a b)]
  | _ => []

/-- The ends of blocked links of a range, as far as the REPORTs of the walk tell them. -/
def State.loopEnds (s : State) (low high : Nat) : List (Nat × Nat) :=
  match s.loopLinks low high with
  | [] => s.loopShape low high
  | l => l

/-- What a port of a head's walk brought back (R179, R180). -/
def State.headWalkBack (s : State) (w : HeadWalk) (b : Option (List Word)) (src : NodeId) : State :=
  let p := w.port
  let s := { s with net := { s.net with walked := if p ∈ s.net.walked then s.net.walked else p :: s.net.walked } }
  match b with
  | none => s.headWalkOn w
  | some b =>
    let low := wbits (nth b 2) 31 16
    let high := wbits (nth b 2) 15 0
    let full := decide (wbits (nth b 1) 2 2 = 1)
    let loop := decide (wbits (nth b 1) 1 1 = 1)
    let met := decide (wbits (nth b 1) 0 0 = 1)
    let s := if low ≤ high then (s.dropSelfRoute p).addRoute low high p true 0 else s
    let s := { s with net := { s.net with
      metHead := if met then assoc s.net.metHead p (BitVec.ofNat 16 (wbits (nth b 3) 31 16))
        else s.net.metHead.filter (fun q => decide (q.1 ≠ p)) } }
    -- the ends of a blocked link: the head's own, those that the neighbours in the REPORTs of the walk give, or else its shape;
    -- free values where several links are blocked and no REPORT tells which ends belong together (assumption 23)
    let known := s.loopEnds low high
    let (e1, s) := s.freeNat 16
    let (e2, s) := s.freeNat 16
    let ends := if src ≠ 0 ∧ low > high then [(s.nodeId.toNat, src.toNat)] else if known ≠ [] then known else [(e1, e2)]
    let s := if loop && decide (low > high) then s.raise (Fld.LNK_NET_STAT_BLOCKED p) else s
    s.headWalkOn { w with
      ranges := w.ranges ++ [(p, low, high)]
      flags := w.flags ++ [(p, full, loop, met)]
      blocked := if loop then w.blocked ++ ends else w.blocked }

/-- RETURN_RECEIVED (R179, R180). -/
def doReturn (x : Rx) (s : State) : State :=
  s.receive x (fun b s =>
    if s.role = .head then
      match s.net.walk with
      | some w => if w.port = x.port.val ∧ w.walkId = wbits (nth b 0) 15 0 then s.headWalkBack w (some b) x.src else s
      | none => s
    else
      match s.walkAt x.port.val (some (wbits (nth b 0) 15 0)) with
      | some w => s.walkBack w (some b)
      | none => s)

/-- WALK_RETURN_TIMEOUT (R179): no RETURN within 10 ms, the port reaches nothing. -/
def doWalkTimeout (p : Nat) (s : State) : State :=
  if !(s.running) then s
  else if s.role = .head then
    match s.net.walk with
    | some w => if w.port = p then s.headWalkBack w none 0 else s
    | none => s
  else
    match s.walkAt p none with
    | some w => s.walkBack w none
    | none => s

/-- REPORT_RECEIVED (R180, R199): the head keeps the record; a timing master sends its schedule to the node. -/
def doReport (x : Rx) (s : State) : State :=
  s.receive x (fun b s =>
    if s.role = .head then
      let id := wbits (nth b 1) 31 16
      let r : NodeRec := ⟨wbits (nth b 1) 15 14, wbits (nth b 1) 13 10, wbits (nth b 1) 9 7, wbits (nth b 1) 6 5,
        wbits (nth b 2) 31 20, wbits (nth b 2) 19 16, nth b 3, nth b 4⟩
      let s := { s with net := { s.net with record := SMap.put s.net.record id r } }
      if s.clk.isMaster then s.sendSchedule (BitVec.ofNat 16 id) else s
    else s)

/-- LEARN_WALK_START (R182, R424): on every port whose link is up. -/
def doLearnWalk (s : State) : State :=
  if s.role = .head ∧ s.running = true then s.learnWalk else s

/-- Sends EVT LINK for a port (R182): a head whose own port changed walks instead, within 1 ms. -/
def State.evtLink (s : State) (p : Nat) (up : Bool) : State :=
  let s := s.event 0x0002 [wd (s.get (Fld.LNK_NET_STAT_NEIGHBOUR p) * 2 ^ 16 + p * 2 ^ 14 + (if up then 1 else 0))]
  if s.role = .head then { s with net := { s.net with learnDue := true } } else s

/-- Changes the escalation level of a port (R195). -/
def State.setLevel (s : State) (p v : Nat) : State :=
  let old := s.get (Fld.LNK_NET_STAT_LEVEL p)
  if old = v then s
  else
    let s := (s.put (Fld.LNK_NET_STAT_LEVEL p) v).raise (Fld.LNK_NET_INT_ESCAL p)
    let s := s.event 0x0003 [wd (p * 2 ^ 14 + v)]
    let s := if v = 0 then s else s.logBlot (blkLNK p) 3 (if v = 1 then clsINFO else clsDEGRADED) v
    if v = 3 then s.evtLink p false else s

/-- The end of an interval on one port (R195). -/
def State.escalate (s : State) (p : Nat) : State :=
  let e := s.escalOf p
  let lv := s.get (Fld.LNK_NET_STAT_LEVEL p)
  let a := s.get (Fld.LNK_ESC_CFG_THR_A p)
  let b := s.get (Fld.LNK_ESC_CFG_THR_B p)
  let c := s.get (Fld.LNK_ESC_CFG_THR_C p)
  let want := if c < e.count ∨ s.get (Fld.LNK_ESC_CFG_TAGSTORM p) < e.tags then 3
    else if b < e.count then 2 else if a < e.count then 1 else 0
  if lv = 3 then s.setEscal p ⟨0, 0, 0⟩
  else if lv < want then (s.setEscal p ⟨0, 0, 0⟩).setLevel p want
  else if lv = 0 then s.setEscal p ⟨0, 0, 0⟩
  else
    let own := if lv = 1 then a else b
    let q := if e.count ≤ own then e.quiet + 1 else 0
    if max 1 (s.get (Fld.LNK_ESC_CTL_COOL p)) ≤ q then (s.setEscal p ⟨0, 0, 0⟩).setLevel p (lv - 1)
    else s.setEscal p ⟨0, 0, q⟩

/-- ESCALATION_INTERVAL (R195); the intervals of R398 are the same. -/
def doEscalation (s : State) : State :=
  if s.running then
    let s := { s with blots := { s.blots with evtSent := 0 } }
    forEach (List.range 4) (fun p s => s.escalate p) s
  else s

/-- LNK_ESC_RELEASE (R195): the value written to LNK_ESC_CTL; RELEASE returns an Isolated port to Counting. -/
def escRelease (p : Nat) (v : Word) (s : State) : State :=
  let s := s.put (Fld.LNK_ESC_CTL_COOL p) (wbits v 7 0)
  if wbits v 31 31 = 1 ∧ s.get (Fld.LNK_NET_STAT_LEVEL p) = 3 then
    (s.setEscal p ⟨0, 0, 0⟩).setLevel p 0 else s

/-- PACKET_FORWARD (R175, R176, R183, R184). -/
def doForward (x : Rx) (s : State) : State := s.receive x (fun _ s => s)

/-- TEST_PACKET_RECEIVED (R177): MODE 1 echoes to SRC. -/
def doTest (x : Rx) (s : State) : State :=
  s.receive x (fun b s =>
    if wbits (nth b 0) 15 8 = 1 then
      let body := setAt b 0 (wd (wbits (nth b 0) 31 16 * 2 ^ 16 + wbits (nth b 0) 7 0))
      if x.src = 0 then s.sendLocal x.port.val tyTEST body else s.sendTo tyTEST x.src body
    else s)

/-- The commands this node has received and neither applied nor answered: those accepted for a tick, a customer command that
runs, and an UPD_BEGIN or UPD_VERIFY still to be answered. -/
def State.openCmds (s : State) : List Cmd :=
  s.cmds.accepted.map (fun (a : Accepted) => a.cmd) ++ (s.cmds.userBusy.map (·.1)).toList ++ s.upd.erasing.toList ++ s.upd.verifying.toList

/-- The node has arrived at a barrier: every command it received before the REQ has been applied or answered (R187). At a
node that the REQ has not reached, none may be open. -/
def State.arrived (s : State) (id : Nat) (head : NodeId) : Bool :=
  match s.net.barReqs.find? (fun (r : BarReq) => decide (r.id = id) && decide (r.head = head)) with
  | some r => r.waits.all (fun c => !(c ∈ s.openCmds))
  | none => s.openCmds.isEmpty

/-- Ports over which a head's walk installed route entries in this node (the downstream ports of R187). -/
def State.downPorts (s : State) (h : NodeId) : List Nat :=
  match s.headIndex h with
  | none => []
  | some o => ((List.range 64).filter (fun i => s.bit (Fld.LNK_ROUTE_PORT_VALID i) && !(s.bit (Fld.LNK_ROUTE_PORT_SELF i)) &&
      decide (s.get (Fld.LNK_ROUTE_PORT_OWNER i) = o))).map (fun i => s.get (Fld.LNK_ROUTE_PORT_PORT i))

/-- Sends BAR ARRIVE with the count of a barrier: one passed on keeps its SRC and TORIG. -/
def State.barGo (s : State) (b : Barrier) : State :=
  let w0 := wd (b.id * 2 ^ 16 + 1 * 2 ^ 8)
  match b.held with
  | none => s.sendTo tyBAR b.head [w0, wd b.count, s.clk.dtime]
  | some (src, torig) =>
    match s.outPort b.head none with
    | some p => s.sendOn p 0 tyBAR b.head src [w0, wd b.count, torig]
    | none => s.unroute (match s.routePort b.head with | some p => p | none => 0)

/-- Adds this node to a barrier that has reached it, or holds the barrier until the node arrives (R187). -/
def State.barArrive (s : State) (b : Barrier) : State :=
  if s.arrived b.id b.head then s.barGo { b with count := b.count + 1 }
  else { s with net := { s.net with barriers := s.net.barriers ++ [b] } }

/-- The held barriers at which the node has arrived go on. -/
def State.barCheck (s : State) : State :=
  let l := s.net.barriers
  let s := { s with net := { s.net with barriers := [] } }
  forEach l (fun b s => s.barArrive b) s

/-- BAR_REQ_RECEIVED (R187, R189). -/
def doBarReq (x : Rx) (s : State) : State :=
  s.receive x (fun b s =>
    let id := wbits (nth b 0) 31 16
    if (s.headIndex x.src).isNone then s
    else
      let r : BarReq := ⟨id, x.src, s.openCmds⟩
      let s := { s with net := { s.net with
        barReqs := r :: s.net.barReqs.filter (fun (q : BarReq) => decide (q.head ≠ x.src))
        merge := s.net.merge.filter (fun (m : BarMerge) => decide (m.head ≠ x.src)) } }
      if s.downPorts x.src = [] then s.barArrive ⟨id, x.src, 0, none⟩ else s)

/-- Ends a barrier of this head when COUNT reaches the enumeration record (R187). -/
def State.barEnd (s : State) : State :=
  match s.net.barMine with
  | some (_, n, c) =>
    let total := s.net.record.length
    if total ≤ n then
      ({ s with net := { s.net with barMine := none } }).answer opDOM_BARRIER c stOK false s.clk.fn [wd n, wd total]
    else s
  | none => s

/-- BAR_ARRIVE_RECEIVED (R187): the head counts; a node adds itself or holds the packet; a branch merges its ports. -/
def doBarArrive (x : Rx) (s : State) : State :=
  let (ok, spoil, s) := s.letIn x
  if spoil then s.passOn x x.body true
  else if !ok || !(s.bit Fld.LNK_NODE_ID_VALID) then s
  else
    let id := wbits (nth x.body 0) 31 16
    let n := (nth x.body 1).toNat
    if x.dest = s.nodeId then
      match s.net.barMine with
      | some (i, k, c) =>
        if i = id then ({ s with net := { s.net with barMine := some (i, k + n, c) } }).barEnd else s
      | none => s
    else if s.outPort x.dest (some x.port.val) = none then s.passOn x x.body false
    else if s.role = .branch ∧ (s.downPorts x.dest).length ≠ 1 then
      -- the merged ARRIVE is a packet of the branch's own (assumption 19)
      let mine (m : BarMerge) : Bool := decide (m.id = id) && decide (m.head = x.dest)
      let merge := (⟨id, x.dest, x.port.val, n⟩ : BarMerge) ::
        s.net.merge.filter (fun (m : BarMerge) => !(mine m && decide (m.port = x.port.val)))
      let s := { s with net := { s.net with merge := merge } }
      if (s.downPorts x.dest).any (fun p => !(merge.any (fun (m : BarMerge) => mine m && decide (m.port = p)))) then s
      else
        let s := { s with net := { s.net with merge := merge.filter (fun (m : BarMerge) => !(mine m)) } }
        s.barArrive ⟨id, x.dest, ((merge.filter mine).map (·.count)).sum, none⟩
    else s.barArrive ⟨id, x.dest, n, some (x.src, nth x.body 2)⟩

/-- ARRIVEs that wait at a branch for those of other ports go on merged, one packet for each barrier. -/
def State.mergeGo (s : State) : State :=
  let l := s.net.merge
  let s := { s with net := { s.net with merge := [] } }
  forEach ((l.map (fun (m : BarMerge) => (m.id, m.head))).eraseDups) (fun (e : Nat × NodeId) s =>
    let n := ((l.filter (fun (m : BarMerge) => decide ((m.id, m.head) = e))).map (·.count)).sum
    s.barGo ⟨e.1, e.2, if s.arrived e.1 e.2 then n + 1 else n, none⟩) s

/-- BARRIER_TIMEOUT (R187): the head answers TIMEOUT with COUNT; a node lets the ARRIVEs it holds go without itself. -/
def doBarTimeout (s : State) : State :=
  let s := match s.net.barMine with
    | some (_, n, c) =>
      ({ s with net := { s.net with barMine := none } }).answer opDOM_BARRIER c stTIMEOUT false s.clk.fn [wd n, wd s.net.record.length]
    | none => s
  let l := s.net.barriers
  let s := { s with net := { s.net with barriers := l.filter (fun (b : Barrier) => decide (b.count = 0)) } }
  (forEach (l.filter (fun (b : Barrier) => decide (b.count ≠ 0))) (fun b s => s.barGo b) s).mergeGo

/-- DOM_BARRIER at the head (R187). -/
def State.startBarrier (s : State) (c : Cmd) : State :=
  let id := (s.net.barIds + 1) % 2 ^ 16
  let s := { s with net := { s.net with barIds := id, barMine := some (id, 0, c) } }
  let s := s.sendTo tyBAR 0xFFFF [wd (id * 2 ^ 16), 0, s.clk.dtime]
  s.barEnd

/-! ### Link keys (R190 to R193) -/

/-- Sends KEYX with an EPOCH and a fresh point, when the node holds the domain key (R190, R192). -/
def State.sendKeyx (s : State) (p epoch : Nat) : State :=
  match s.keys.domain with
  | none => s
  | some k =>
    let n := s.free
    let s := { s with free := n + 1 }
    let pt := ephemeral n
    let body := [wd (4 * 2 ^ 24), wd epoch] ++ pt
    let t := hmac k (hdrWords tyENUM 0 s.nodeId 30 ++ body)
    let ks := s.keysOf p
    let s := s.setKeys p { ks with priv := some (epoch, n), peerPoint := [], newKeys := none, acked := false, failed := false }
    s.sendLocal p tyENUM (body ++ [wd (t.toNat / 2 ^ 96), wd (t.toNat / 2 ^ 64), wd (t.toNat / 2 ^ 32), wd t.toNat])

/-- At every link bring-up both ends that hold the domain key agree keys with EPOCH 0 (R190); KEYSTOP clears at the
next bring-up (R193). -/
def State.keyBringUp (s : State) (p : Nat) : State := s.sendKeyx p 0

/-- The agreed keys of EPOCH 0 take effect when the KEYACK has come; those of a rollover at the tick boundary (R192). -/
def State.keysTake (s : State) (p : Nat) : State :=
  let ks := s.keysOf p
  match ks.newKeys with
  | some (ep, snd, rcv) =>
    let s := s.setKeys p { ks with
      agreed := true
      sendEpoch := ep
      sendKey := snd
      oldRecv := if ks.agreed = true ∧ ks.recvEpoch ≠ ep then some (ks.recvEpoch, ks.recvKey) else none
      oldTicks := 1
      recvEpoch := ep
      recvKey := rcv
      newKeys := none
      priv := none
      acked := false
      ctr0 := 2 * (s.port p).tx0.seq
      ctr1 := 2 * (s.port p).tx1.seq
      stopped := false }
    ((s.raise (Fld.LNK_NET_STAT_ENC_ACTIVE p)).put (Fld.LNK_NET_STAT_KEYSTOP p) 0).setWord (Reg.LNK_SEC_STAT p) (wd ep)
  | none => s

/-- A KEYX or KEYACK that fails its check is a TAG violation; the agreement is retried after 1 s (R190). -/
def State.keyFail (s : State) (p : Nat) : State :=
  let s := s.violation p 5
  s.setKeys p { s.keysOf p with failed := true }

/-- KEYX_RECEIVED (R190, R192): derives the keys of both directions and sends KEYACK. -/
def doKeyx (x : Rx) (s : State) : State :=
  s.receive x (fun b s =>
    let p := x.port.val
    match s.keys.domain with
    | none => s
    | some k =>
      if hmac k (hdrWords tyENUM x.dest x.src 30 ++ b.take 26) ≠ tagOf (b.drop 26) then s.keyFail p
      else
        let ep := (nth b 1).toNat
        let pt := (b.drop 2).take 24
        -- the other end of a rollover answers with its own point
        let s := match (s.keysOf p).priv with
          | some (e, _) => if e = ep then s else s.sendKeyx p ep
          | none => s.sendKeyx p ep
        match (s.keysOf p).priv with
        | some (_, n) =>
          let mine := ephemeral n
          let snd := linkKey n pt ep mine
          let rcv := linkKey n pt ep pt
          let s := s.setKeys p { s.keysOf p with peerPoint := pt, newKeys := some (ep, snd, rcv) }
          let t := gmac snd 0 (wireStream (mine ++ pt))
          s.sendLocal p tyENUM [wd (5 * 2 ^ 24), wd ep, wd (t.toNat / 2 ^ 96), wd (t.toNat / 2 ^ 64), wd (t.toNat / 2 ^ 32), wd t.toNat]
        | none => s)

/-- KEYACK_RECEIVED (R190, R192). -/
def doKeyack (x : Rx) (s : State) : State :=
  s.receive x (fun b s =>
    let p := x.port.val
    let ks := s.keysOf p
    match ks.newKeys, ks.priv with
    | some (ep, _, rcv), some (_, n) =>
      if (nth b 1).toNat ≠ ep ∨ gmac rcv 0 (wireStream (ks.peerPoint ++ ephemeral n)) ≠ tagOf (b.drop 2) then s.keyFail p
      else if ks.agreed then s.setKeys p { ks with acked := true }
      else s.keysTake p
    | _, _ => s)

/-- KEY_AGREEMENT_RETRY (R190, R192): 1 s after a failure, or with no answer, with the EPOCH that failed. -/
def doKeyRetry (p : Nat) (s : State) : State :=
  let ks := s.keysOf p
  if s.running && s.linkUp p && (ks.failed || ks.priv.isSome) then s.sendKeyx p (if ks.agreed then ks.sendEpoch + 1 else 0) else s

/-- The counter advance of a port under its sending key: the larger of the two lanes (R191, R192). -/
def State.keyUse (s : State) (p : Nat) : Nat :=
  let ks := s.keysOf p
  max (2 * (s.port p).tx0.seq - ks.ctr0) (2 * (s.port p).tx1.seq - ks.ctr1)

/-- The port stops sending encrypted payload (R193). -/
def State.keyStop (s : State) (p : Nat) : State :=
  let ks := s.keysOf p
  let s := s.setKeys p { ks with stopped := true }
  let s := (s.raise (Fld.LNK_NET_STAT_KEYSTOP p)).raise (Fld.LNK_NET_INT_KEYSTOP p)
  let s := s.event 0x0004 [wd (p * 2 ^ 14)]
  s.logBlot (blkLNK p) 4 clsDEGRADED ks.sendEpoch

/-- KEY_ROLLOVER (R192, R193): once the counter of a lane has advanced 2^40 the transmitter starts a rollover; past
2^62, or with no EPOCH left, it stops, whatever agreement is under way. -/
def doKeyRollover (p : Nat) (s : State) : State :=
  let ks := s.keysOf p
  if s.running && ks.agreed && decide (2 ^ 40 ≤ s.keyUse p) then
    if 2 ^ 62 ≤ s.keyUse p ∨ 2 ^ 32 - 1 < ks.sendEpoch + 1 then
      if ks.stopped then s else s.keyStop p
    else if ks.priv.isNone then s.sendKeyx p (ks.sendEpoch + 1) else s
  else s

/-- NEW_KEY_SWITCH (R192): the change to the new key at the first tick boundary after the KEYACK. -/
def doNewKeySwitch (p : Nat) (s : State) : State :=
  if s.running && (s.keysOf p).acked then s.keysTake p else s

/-- At each tick start the old receiving key ends one tick after the change, and acknowledged keys take effect (R192). -/
def State.keysTick (s : State) (p : Nat) : State :=
  let ks := s.keysOf p
  let s := match ks.oldRecv with
    | some _ =>
      if ks.oldTicks ≤ 1 then s.setKeys p { ks with oldRecv := none, oldTicks := 0 }
      else s.setKeys p { ks with oldTicks := ks.oldTicks - 1 }
    | none => s
  if (s.keysOf p).acked then s.keysTake p else s

end Sys2Proof.Machine
end

