-- ==== Sys2Proof/Machine/Pmu.lean ====
section
/-! DEFINITION. The performance monitor (R392 to R395): counter accesses, timed actions and domain snapshots. -/

namespace Sys2Proof.Machine

/-- Sets counter `n`. -/
def State.setCount (s : State) (n v : Nat) : State := { s with pmu := { s.pmu with cnt := setAt s.pmu.cnt n v } }

/-- Carries out ACTION for the counters of a mask: 1 start, 2 stop, 3 clear (R394). -/
def State.pmuAct (s : State) (action mask : Nat) : State :=
  forEach ((List.range 32).filter (fun n => decide (bitsOf mask n 1 = 1))) (fun n s =>
    match action with
    | 1 => s.put (Fld.PMU_CNT_CFG_RUN n) 1
    | 2 => s.put (Fld.PMU_CNT_CFG_RUN n) 0
    | 3 => s.setCount n 0
    | _ => s) s

/-- The scheduled action as it stands in the registers. -/
def State.pmuApply (s : State) : State :=
  (s.pmuAct (s.get Fld.PMU_TIMED_CTL_ACTION) (s.get Fld.PMU_TIMED_MASK_MASK)).put Fld.PMU_TIMED_CTL_ARM 0

/-- PMU_TIMED_ARM (R394): the value written to PMU_TIMED_CTL. -/
def doTimedArm (v : Word) (s : State) : State :=
  if !(s.powered) then s
  else
    let s := s.put Fld.PMU_TIMED_CTL_ACTION (wbits v 1 0)
    let s := if wbits v 30 30 = 1 then s.put Fld.PMU_TIMED_CTL_LATE 0 else s
    if wbits v 31 31 = 1 then
      if later (s.word Reg.PMU_TIMED_AT) s.clk.dtime then s.raise Fld.PMU_TIMED_CTL_ARM
      else s.pmuApply.raise Fld.PMU_TIMED_CTL_LATE
    else s

/-- PMU_TIMED_ACTION (R394): at the DTIME scheduled. -/
def doTimedAction (s : State) : State :=
  if s.powered && decide (s.actingRole ≠ .recovery) && s.bit Fld.PMU_TIMED_CTL_ARM then (s.advanceTo (s.word Reg.PMU_TIMED_AT)).pmuApply else s

/-- A read of PMU_CNT_LO latches the high part (R393). -/
def State.readCntLo (s : State) (n : Nat) : Word × State :=
  let v := s.pmu.cnt.getD n 0
  (wd v, { s with pmu := { s.pmu with latch := setAt s.pmu.latch n (v / 2 ^ 32) } })

/-- PMU_CNT_LO_READ. -/
def doCntLoRead (n : Nat) (s : State) : State :=
  if !(s.powered) then s
  else if s.role = .recovery then s.emit (.readValue (Reg.PMU_CNT_LO n) 0)
  else let (v, s) := s.readCntLo n; s.emit (.readValue (Reg.PMU_CNT_LO n) v)

/-- PMU_COUNTER_CLEAR (R393): the value written to PMU_CNT_CFG. -/
def doCounterClear (n : Nat) (v : Word) (s : State) : State :=
  if !(s.powered) then s
  else
    let s := s.setWord (Reg.PMU_CNT_CFG n) (v &&& 0xFFFFC1FF)
    if wbits v 13 13 = 1 then s.setCount n 0 else s

/-! ### Snapshots (R187, R395) -/

/-- A snapshot is late or gated: SNAP_LATE to client 0, through the head that asked. -/
def State.snapLate (s : State) (id : Nat) (src : NodeId) : State :=
  let s := s.raise Fld.PMU_INT_LATE
  if src = s.nodeId ∧ s.role = .head then
    s.ownEvent 0x0102 [wd (id * 2 ^ 16)]
  else s.sendEvt src 0x0102 [wd (id * 2 ^ 16)]

/-- Queues a snapshot in TSNAP order; a fifth one, and one whose TSNAP has passed, is late. The recovery role has no
performance monitor (R4). -/
def State.queueSnap (s : State) (id scope : Nat) (at_ : Word) (src : NodeId) : State :=
  if s.actingRole = .recovery then s
  else if s.passed at_ || decide (4 ≤ s.pmu.queue.length) then s.snapLate id src
  else
    let q := s.pmu.queue
    let q := q.filter (fun e => !(later e.2.2.1 at_)) ++ [(id, scope, at_, src)] ++ q.filter (fun e => later e.2.2.1 at_)
    ({ s with pmu := { s.pmu with queue := q } }).put Fld.PMU_SNAP_STAT_PENDING q.length

/-- SNAP_RECEIVED (R187, R395): from a head of the head table. -/
def doSnap (x : Rx) (s : State) : State :=
  s.receive x (fun b s =>
    if !(s.knowsHead x.src) || decide (x.type.toNat ≠ tySNAP) then s
    else s.queueSnap (wbits (nth b 0) 31 16) (wbits (nth b 0) 15 0) (nth b 1) x.src)

/-- Registers of port `p` in a snapshot, in order. -/
def snapPort (p : Nat) : List Nat :=
  [Reg.LNK_RETRYCNT p, Reg.LNK_DROPCNT p] ++ (List.range 3).map (fun m => Reg.LNK_PHY_ERR p m) ++
    (List.range 8).map (fun k => Reg.LNK_VIOL p k) ++ [Reg.LNK_NETDROP p]

/-- Registers of the role in a snapshot, in order. -/
def snapRole (r : Role) : List Nat :=
  match r with
  | .head => [Reg.CMP_CLAMPCNT, Reg.CMP_UNDERCNT, Reg.CMP_DEFERCNT, Reg.CMP_INK_HIT, Reg.CMP_INK_FILL, Reg.CMP_SEALCNT,
      Reg.CMP_VOIDCNT, Reg.CMP_HOLDRPT, Reg.CMP_LATECMD]
  | .tile => (List.range 6).map (fun i => Reg.SCN_HOLDCNT i) ++ [Reg.SCN_DROPCNT, Reg.SCN_UNDCNT, Reg.COR_CLIPCNT]
  | _ => []

/-- Writes words of the snapshot buffer from word `i`. -/
def State.snapWords (s : State) (i : Nat) (l : List Word) : State :=
  match l with
  | [] => s
  | w :: t => (s.setWord (Reg.PMU_SNAPBUF i) w).snapWords (i + 1) t

/-- Copies what SCOPE selects into PMU_SNAPBUF. -/
def State.snapCopy (s : State) (scope : Nat) : State :=
  let s := if bitsOf scope 0 1 = 1 then
      s.snapWords 0 (s.pmu.cnt.flatMap (fun v => [wd (v / 2 ^ 32), wd v]))
    else s
  let s := if bitsOf scope 1 1 = 1 then
      s.snapWords 64 ((List.range 4).flatMap (fun p => (snapPort p).map s.word))
    else s
  if bitsOf scope 2 1 = 1 then
    let l := (snapRole s.role).map s.word
    s.snapWords 120 (if l = [] then List.replicate 9 0 else l)
  else s

/-- SNAPSHOT_INSTANT (R395): TSNAP of the first snapshot queued. -/
def doSnapInstant (s : State) : State :=
  match s.pmu.queue with
  | [] => s
  | (id, scope, at_, src) :: t =>
    if !(s.running) || decide (s.actingRole = .recovery) then s
    else
      let s := s.advanceTo at_
      let s := ({ s with pmu := { s.pmu with queue := t } }).put Fld.PMU_SNAP_STAT_PENDING t.length
      if s.bit Fld.SEC_GATE_PMU_CG then s.snapLate id src
      else
        let s := (s.snapCopy scope).put Fld.PMU_SNAP_STAT_SNAP_ID id
        (s.setWord Reg.PMU_SNAP_T at_).raise Fld.PMU_INT_SNAP

/-! ### Commands (R392) -/

/-- The number of codes and the filter kinds of an event group (*Table — PMU events*). -/
def pmuGroup (g : Nat) : Nat × List Nat :=
  match g with
  | 0 => (12, [1])
  | 1 => (8, [4])
  | 2 => (9, [])
  | 3 => (7, [])
  | 4 => (10, [])
  | 5 => (8, [])
  | 6 => (7, [])
  | 7 => (4, [])
  | _ => (0, [])

/-- Whether an event code is in the table and takes the filter kind. -/
def pmuEventOk (code kind : Nat) : Bool :=
  let (n, ks) := pmuGroup (code / 64)
  let extra := if code = 0x082 ∨ code = 0x083 then [2, 3] else if code = 0x086 ∨ code = 0x087 ∨ code = 0x103 then [1] else []
  decide (code % 64 < n) && (decide (kind = 0) || decide (5 ≤ kind) || decide (kind ∈ ks) || decide (kind ∈ extra))

end Sys2Proof.Machine
end

