-- ==== Sys2Proof/Machine/Drive.lean ====
section
/-! DEFINITION. Scan and drive (R240 to R263): the row slots, the LED rail, the lamp, row and pin fault detectors, live
trim calibration and the sense ADC of a tile. -/

namespace Sys2Proof.Machine

/-- The scan plays: ACTIVE or DIM, between the T_show that lights the lamps and the one that darkens them, with VDRV
present (R29). -/
def State.lit (s : State) : Bool := s.scans && !s.drive.dark && s.pwr.railsGood.getLsbD 7

/-! ### The LED rail (R252 to R254) -/

/-- Working phases fitted; 0 acts as 1. -/
def State.phaseCount (s : State) : Nat := max 1 (s.get Fld.DRV_RAIL_CFG_PHASES)

/-- The phases that work: 0 to PHASES − 1, with the spare in place of the one it has replaced (R254). -/
def State.workPhases (s : State) : List Nat :=
  (List.range s.phaseCount).map (fun p => if s.drive.spareFor = some p then 3 else p)

/-- PH_ACTIVE for the working phases. -/
def State.phaseMask (s : State) : Nat := (s.workPhases.map (fun p => 2 ^ p)).foldl (fun a b => a ||| b) 0

/-- V_SET as it may be set: at most the limit, and never below 2.80 V even where the limit is (R252; assumption 121). -/
def State.setpoint (s : State) (v : Nat) : Nat := max 2800 (min v s.railLimit)

/-- The rail starts on entry into ACTIVE or DIM (R253), and the first pin-short sweep is due (R258). -/
def State.railStart (s : State) : State :=
  let v := s.setpoint (match s.saved.vset with
    | some v => v + 100
    | none => s.railLimit)
  (s.put Fld.DRV_RAIL_STAT_VSET v).put Fld.DRV_RAIL_STAT_PH_ACTIVE s.phaseMask

/-- A row slot is latched off. -/
def State.latchedRow (s : State) (slot : Nat) : Bool := s.bit ⟨Reg.DRV_ROW_LATCH (slot / 32), slot % 32, slot % 32⟩

/-- The scan period in play is over, also one that is cut off (R250, R256): a row that tripped is tried again in the next one,
where each lamp has a result of its own. -/
def State.closePeriod (s : State) : State :=
  let runs := (List.range 90).foldl (fun m r =>
    SMap.set (fun _ => 0) m r (if r ∈ s.drive.tripped ∧ s.latchedRow r = false
      then SMap.get (fun _ => 0) s.drive.tripRun r + 1 else 0)) s.drive.tripRun
  ({ s with drive := { s.drive with
    results := []
    tripped := []
    tripRun := runs
    slotNow := none
    period := s.drive.period + 1 } }).put Fld.SCN_STAT_RUN 0

/-- The lamps go dark: V_SET is stored on leaving ACTIVE or DIM, VLED ramps down (R253), and a scan period in play ends. -/
def State.railStop (s : State) : State :=
  let s := { s with
    saved := if s.scans then { s.saved with vset := some (s.get Fld.DRV_RAIL_STAT_VSET) } else s.saved
    drive := { s.drive with dark := true, railUp := false, pinRun := false } }
  let s := if s.bit Fld.SCN_STAT_RUN then s.closePeriod else s
  (s.put Fld.DRV_RAIL_STAT_REG 0).put Fld.DRV_RAIL_STAT_LIMIT 0

/-- The outputs off at once (R48): PHA0 to PHA3 low, every sink off, every gate at its off level. -/
def State.driveOff (s : State) : State :=
  if s.role ≠ .tile then s
  else
    let s := s.railStop
    (s.put Fld.DRV_RAIL_STAT_PH_ACTIVE 0).emit .driveOff

/-- A sink is checked when its lamp conducted for at least 8 GCLK (R252). -/
def checked (l : List SinkCheck) : List SinkCheck := l.filter (fun c => decide (8 ≤ c.gclk))

/-- The open candidates among checked sinks. -/
def candidates (l : List SinkCheck) : List SinkCheck := (checked l).filter (fun c => !c.reg)

/-- More open candidates than OPENMAX. -/
def State.manyOpen (s : State) (l : List SinkCheck) : Bool :=
  decide (s.get Fld.DRV_FAULT_CFG_OPENMAX < (candidates l).length)

/-- UP in mV; 0 acts as 1. -/
def State.railUpMv (s : State) : Nat := 5 * max 1 (s.get Fld.DRV_RAIL_CFG_UP)

/-- The outer loop at a subframe start (R252). -/
def State.outerLoop (s : State) (l : List SinkCheck) : State :=
  let v := s.get Fld.DRV_RAIL_STAT_VSET
  let lim := s.railLimit
  let good := (checked l).filter (·.reg)
  let rise := s.manyOpen l || good.any (·.hrLo)
  let fall := !rise && good.all (·.hrHi) && !(checked l).isEmpty
  let v' := s.setpoint (if rise then v + s.railUpMv else if fall then v - 5 else v)
  let s := (s.put Fld.DRV_RAIL_STAT_VSET v').putBit Fld.DRV_RAIL_STAT_LIMIT (rise && decide (lim ≤ v))
  if decide (v < lim) && decide (v' = lim) then s.raise Fld.DRV_INT_LIMIT else s

/-- V_SET sits at the limit. -/
def State.atLimit (s : State) : Bool := decide (s.railLimit ≤ s.get Fld.DRV_RAIL_STAT_VSET)

/-- Whether a phase's share lies outside 0.80 to 1.20 of the mean (R254). -/
def shareBad (a sum n : Nat) : Bool := decide (5 * a * n < 4 * sum) || decide (6 * sum < 5 * a * n)

/-- Two of the last three are true (R261). -/
def twoOfThree (l : List Bool) : Bool := decide (2 ≤ ((l.take 3).filter id).length)

/-- What a window's shares lead to for one working phase. -/
def State.phaseVerdict (s : State) (p : Nat) (bad : Bool) : State :=
  let h := (bad :: SMap.get (fun _ => []) s.drive.phaseHist p).take 3
  let s := { s with drive := { s.drive with phaseHist := SMap.put s.drive.phaseHist p h } }
  if !(twoOfThree h) then { s with drive := { s.drive with shareBad := s.drive.shareBad.filter (fun q => decide (q ≠ p)) } }
  else if s.bit Fld.DRV_RAIL_CFG_SPARE_EN && s.drive.spareFor.isNone && s.drive.phaseSwap.isNone && decide (p ≠ 3) then
    { s with drive := { s.drive with phaseSwap := some p } }
  else if s.drive.phaseSwap = some p then s
  else
    let s := (s.raise Fld.DRV_RAIL_STAT_SHARE_ERR).raise Fld.DRV_INT_PHASE
    if p ∈ s.drive.shareBad then s
    else ({ s with drive := { s.drive with shareBad := p :: s.drive.shareBad } }).logBlot blkDRV 7 clsDEGRADED p

/-- PHASE_SHARE_WINDOW (R254): the average current of phases 0 to 3 over 1 ms. An OVR result of a phase's monitor in the
window is a vote for the fault (R261). -/
def doPhaseShare (avg : List Nat) (s : State) : State :=
  if !(s.lit) || !s.drive.railUp then s
  else
    let w := s.workPhases
    let sum := (w.map (fun p => avg.getD p 0)).sum
    let past := s.drive.phiOvr
    forEach w (fun p s => s.phaseVerdict p (shareBad (avg.getD p 0) sum w.length || decide (p ∈ past)))
      { s with drive := { s.drive with phiOvr := [] } }

/-- The swap of a phase for the spare at a subframe start (R254). -/
def State.swapPhase (s : State) : State :=
  match s.drive.phaseSwap with
  | none => s
  | some p =>
    let s := { s with drive := { s.drive with phaseSwap := none, spareFor := some p, phaseHist := [] } }
    let s := (s.put Fld.DRV_RAIL_STAT_PH_ACTIVE s.phaseMask).raise Fld.DRV_RAIL_STAT_SPARE_USED
    let s := (s.raise Fld.DRV_INT_PHASE).logBlot blkDRV 6 clsDEGRADED p
    s.cpcLog 6 p p 3 0 true

/-! ### Lamps, rows and sinks -/

/-- The parameters of the frame in play, with its own lamp field (R25, R243). -/
def State.scanPars (s : State) : RunPars := s.parsFor s.drive.scanFn

/-- Pixel row of a row slot: 0 to 44 upper, 45 to 89 lower; none when the field lacks it (R18, DRV_ROW_LATCH). -/
def State.rowOf (s : State) (slot : Nat) : Option Nat :=
  let p := s.scanPars
  let u := p.rowPairs
  if slot < 45 then (if slot < u then some slot else none)
  else if slot - 45 < u ∧ u + (slot - 45) < p.fieldHt then some (u + (slot - 45)) else none

/-- Row slot of a lamp. -/
def State.slotOfLamp (s : State) (l : Nat) : Nat :=
  let y := l / 480
  if y < s.scanPars.rowPairs then y else 45 + (y - s.scanPars.rowPairs)

/-- The lamps of a row slot. -/
def State.rowLamps (s : State) (slot : Nat) : List Nat :=
  match s.rowOf slot with
  | some y => (List.range s.scanPars.fieldW).flatMap (fun x => (List.range 3).map (fun c => 3 * (160 * y + x) + c))
  | none => []

/-- The sink of a lamp in DRV_TRIM numbering (R19, R247). -/
def State.sinkOf (s : State) (l : Nat) : Nat :=
  let k := l % 480
  if l / 480 < s.scanPars.rowPairs then k else 480 + k

/-- The lamps of a sink. -/
def State.sinkLamps (s : State) (i : Nat) : List Nat :=
  let p := s.scanPars
  let u := p.rowPairs
  if i < 480 then (if i / 3 < p.fieldW then (List.range u).map (fun y => 480 * y + i) else [])
  else if (i - 480) / 3 < p.fieldW then (List.range (p.fieldHt - u)).map (fun y => 480 * (u + y) + (i - 480)) else []

/-- The pair (i, i + 1) is recorded as shorted. -/
def State.pairShort (s : State) (i : Nat) : Bool := s.bit ⟨Reg.DRV_PINSHORT (i / 32), i % 32, i % 32⟩

/-- A sink held off for a pin short (R258). -/
def State.sinkShort (s : State) (i : Nat) : Bool :=
  s.pairShort i || (decide (i % 480 ≠ 0) && s.pairShort (i - 1))

/-- Flags a lamp will have at the next tick. -/
def State.flagsDue (s : State) (l : Nat) : Nat :=
  s.lamp.change.foldl (fun v (e : Nat × Nat × Nat) => if e.1 = l then (v ||| e.2.1) &&& (255 - e.2.2) else v)
    (SMap.get (fun _ => 0) s.lamp.flags l)

/-- Changes flags of lamps at the next tick (R230). -/
def State.changeFlags (s : State) (ls : List Nat) (setb clr : Nat) : State :=
  { s with lamp := { s.lamp with change := s.lamp.change ++ ls.map (fun l => (l, setb, clr)) } }

/-- The lamp's sink is held off: dead in the frame in play, found faulty since (R230), in a row that is tripped or latched,
or on a shorted pin. A MASK of a later frame does not yet hold it off (R25). -/
def State.heldOff (s : State) (p : RunPars) (l : Nat) : Bool :=
  s.quill.recovery || isDead p.flags l || decide (s.flagsDue l % 4 ≠ 0) || decide (s.slotOfLamp l ∈ s.drive.tripped) ||
    s.latchedRow (s.slotOfLamp l) || s.sinkShort (s.sinkOf l) || s.bit Fld.DRV_STAT_IREF_FAIL

/-- DEAD − RAMP in ns. -/
def State.deadMargin (s : State) : Nat := s.deadNs - s.rampNs

/-- DRV_FAULT_STAT.NOPROBE (R257). -/
def State.noProbe (s : State) : Bool := decide (s.deadMargin < 8 * s.gclkNs) || !(s.bit Fld.DRV_FAULT_CFG_PROBE_EN)

/-- DRV_FAULT_STAT.NOTEST (R258) and DRV_TCAL_STAT.NODT (R248). -/
def State.noTest (s : State) : Bool := decide (s.deadMargin < 40)

/-! ### Fault results (R256, R257) -/

/-- The result of a check: 0 good, 1 open, 2 short (R256). -/
def checkResult (many limit : Bool) (c : SinkCheck) : Nat :=
  if !c.reg then (if !many || limit then 1 else 0)
  else if c.short then 2 else 0

/-- Takes the result of a lamp for the scan period. A flag found is set at the next tick, and the sink is held off from
the next row slot on (`heldOff`). -/
def State.takeResult (s : State) (l r : Nat) : State :=
  let h := (r :: SMap.get (fun _ => []) s.drive.hist l).take 3
  let s := { s with drive := { s.drive with hist := SMap.put s.drive.hist l h } }
  let due := s.flagsDue l
  let n (k : Nat) := (h.filter (fun x => decide (x = k))).length
  let flag (s : State) (b : Nat) : State :=
    (((s.changeFlags [l] (2 ^ b) 0).raise Fld.DRV_INT_LAMP)).logBlot blkDRV 3 clsINFO l b
  let s := if 2 ≤ n 1 ∧ due % 2 = 0 then flag s 0 else s
  if 2 ≤ n 2 ∧ due / 2 % 2 = 0 then flag s 1 else s

/-- The lamp's first check of the scan period is its result for the period (R256). -/
def State.firstResult (s : State) (l r : Nat) : State :=
  if (SMap.find s.drive.results l).isSome then s
  else ({ s with drive := { s.drive with results := SMap.put s.drive.results l r } }).takeResult l r

/-- A lamp was checked or probed in this scan period. -/
def State.noteLast (s : State) (l : Nat) : State :=
  { s with drive := { s.drive with lastCheck := SMap.put s.drive.lastCheck l s.drive.period } }

/-- The checks of a subframe (R256). -/
def State.noteChecks (s : State) (l : List SinkCheck) : State :=
  let many := s.manyOpen l
  let lim := s.atLimit
  forEach (checked l) (fun c s => (s.noteLast c.lamp.val).firstResult c.lamp.val (checkResult many lim c)) s

/-- A probe's result (R257). -/
def State.probeResult (s : State) (c : SinkCheck) : State :=
  let l := c.lamp.val
  let r := checkResult (decide (s.get Fld.DRV_FAULT_CFG_OPENMAX = 0)) s.atLimit c
  let s := s.noteLast l
  if s.flagsDue l % 4 = 0 then s.firstResult l r
  else
    let g := if r = 0 then SMap.get (fun _ => 0) s.drive.goodRun l + 1 else 0
    let s := { s with drive := { s.drive with goodRun := SMap.put s.drive.goodRun l g } }
    if 3 ≤ g then
      let s := { s with drive := { s.drive with goodRun := SMap.put s.drive.goodRun l 0, hist := SMap.put s.drive.hist l [] } }
      (s.changeFlags [l] 0 3).raise Fld.DRV_INT_LAMP
    else s

/-- The tile may probe a lamp now (R257): no check for 64 scan periods, not FACTORY or MASK, not on a latched row or a
shorted pin. -/
def State.mayProbe (s : State) (l : Nat) : Bool :=
  !(s.noProbe) && decide (64 ≤ s.drive.period - SMap.get (fun _ => 0) s.drive.lastCheck l) &&
    decide (SMap.get (fun _ => 0) s.lamp.flags l / 4 % 4 = 0) && !(s.latchedRow (s.slotOfLamp l)) &&
    !(decide (s.slotOfLamp l ∈ s.drive.tripped)) && !(s.sinkShort (s.sinkOf l)) && !(s.bit Fld.DRV_STAT_IREF_FAIL)

/-! ### Pin shorts (R258) -/

/-- A pin-short sweep starts. -/
def State.pinStart (s : State) : State :=
  { s with drive := { s.drive with pinRun := true, pinNext := 0, pinFound := [], pinLast := s.drive.period } }

/-- Sink `j` is in a shorted pair that is not being cleared. -/
def State.stillShort (s : State) (j : Nat) : Bool :=
  let held (i : Nat) := s.pairShort i && !(decide (i ∈ s.drive.pinClear))
  held j || (decide (j % 480 ≠ 0) && held (j - 1))

/-- The end of a sweep for one pair. A pair found clean clears the flags of its sinks, but for a sink that another pair
still holds. -/
def State.pinVerdict (s : State) (i : Nat) : State :=
  let h := (decide (i ∈ s.drive.pinFound) :: SMap.get (fun _ => []) s.drive.pinHist i).take 3
  let clean := !(h.any id)
  let s := { s with drive := { s.drive with
    pinHist := if clean && decide (h.length = 3) then SMap.erase s.drive.pinHist i else SMap.put s.drive.pinHist i h } }
  if twoOfThree h && !(s.pairShort i) then
    let s := s.put ⟨Reg.DRV_PINSHORT (i / 32), i % 32, i % 32⟩ 1
    let s := s.changeFlags (s.sinkLamps i ++ s.sinkLamps (i + 1)) 2 0
    ((s.raise Fld.DRV_INT_PINSHORT).raise Fld.DRV_INT_LAMP).logBlot blkDRV 4 clsDEGRADED i
  else if clean && decide (h.length = 3) && s.pairShort i then
    let s := { s with drive := { s.drive with pinClear := i :: s.drive.pinClear } }
    let s := s.changeFlags ((([i, i + 1] : List Nat).filter (fun j => !(s.stillShort j))).flatMap s.sinkLamps) 0 2
    (s.raise Fld.DRV_INT_PINSHORT).raise Fld.DRV_INT_LAMP
  else s

/-- Pairs a sweep's end looks at: those found and those with a history. -/
def State.pinPairs (s : State) : List Nat :=
  (s.drive.pinHist.map (·.1)) ++ (s.drive.pinFound.filter (fun i => (SMap.find s.drive.pinHist i).isNone)).eraseDups

/-- A test of sink `k` in both halves (R258): which of its neighbours' pins fell. A tile that rejected DRV_IREF drives no
sink (R35). -/
def State.pinTest (s : State) (k : Nat) (ul uh ll lh : Bool) : State :=
  if !s.drive.pinRun || s.noTest || decide (k ≠ s.drive.pinNext) || s.bit Fld.DRV_STAT_IREF_FAIL then s
  else
    let found := (if ul ∧ 0 < k then [k - 1] else []) ++ (if uh ∧ k < 479 then [k] else []) ++
      (if ll ∧ 0 < k then [480 + k - 1] else []) ++ (if lh ∧ k < 479 then [480 + k] else [])
    let s := { s with drive := { s.drive with pinFound := s.drive.pinFound ++ found, pinNext := k + 1 } }
    if k < 479 then s
    else
      let s := forEach s.pinPairs (fun i s => s.pinVerdict i) s
      { s with drive := { s.drive with pinRun := false, pinFound := [], pinNext := 0 } }

/-! ### Live trim calibration (R248, R249) -/

/-- Trim in effect of sink `i`. -/
def State.trimOf (s : State) (i : Nat) : Int := signed 6 (s.get (Fld.DRV_TRIM_TRIM i))

/-- A sweep of all 960 sinks starts. -/
def State.trimStart (s : State) : State :=
  if !(s.bit Fld.DRV_TCAL_CFG_EN) then s
  else
    let s := { s with drive := { s.drive with trim := some ⟨0, s.trimOf 0, s.trimOf 0, [], none, []⟩ } }
    (s.raise Fld.DRV_TCAL_STAT_BUSY).put Fld.DRV_TCAL_STAT_SINK 0

/-- A calibration commit discards the results of a sweep that are not applied yet, and a sweep starts from the committed
trims (R249). -/
def State.trimAfresh (s : State) : State :=
  (({ s with drive := { s.drive with trim := none, trimDone := none } }).put Fld.DRV_TCAL_STAT_BUSY 0).trimStart

/-- TRIM_SWEEP_START (R248): every PERIOD seconds. -/
def doTrimStart (s : State) : State :=
  if !(s.scans) || s.drive.trim.isSome then s else s.trimStart

/-- The sink under calibration has its result. -/
def State.trimNext (s : State) (t : Trim) (r : Int) : State :=
  let k := t.sink + 1
  let s := { s with drive := { s.drive with trim := some ⟨k, s.trimOf k, s.trimOf k, [], none, t.results ++ [r]⟩ } }
  if k < 960 then s.put Fld.DRV_TCAL_STAT_SINK k else s

/-- A decided comparison: the shadow trim steps toward balance, a reversal ends the sink. -/
def State.trimCompare (s : State) (t : Trim) (above : Bool) : State :=
  match t.dir with
  | some d =>
    if d ≠ above then s.trimNext t t.before
    else
      let n := if above then t.shadow - 1 else t.shadow + 1
      if n ≤ -32 ∨ 31 ≤ n then
        ((s.raise Fld.DRV_TCAL_STAT_RANGE).logBlot blkDRV 5 clsDEGRADED t.sink).trimNext t (if above then -32 else 31)
      else { s with drive := { s.drive with trim := some { t with shadow := n, before := t.shadow, votes := [] } } }
  | none =>
    let n := if above then t.shadow - 1 else t.shadow + 1
    if n ≤ -32 ∨ 31 ≤ n then
      ((s.raise Fld.DRV_TCAL_STAT_RANGE).logBlot blkDRV 5 clsDEGRADED t.sink).trimNext t (if above then -32 else 31)
    else { s with drive := { s.drive with trim := some { t with shadow := n, before := t.shadow, votes := [], dir := some above } } }

/-- One comparison in a dead time; two of three in consecutive dead times decide. -/
def State.trimVote (s : State) (above : Bool) : State :=
  match s.drive.trim with
  | none => s
  | some t =>
    if 960 ≤ t.sink || s.noTest || !(s.bit Fld.DRV_TCAL_CFG_EN) || s.bit Fld.DRV_STAT_IREF_FAIL then s
    else
      let v := above :: t.votes
      if 2 ≤ (v.filter (fun b => b == above)).length then s.trimCompare t above
      else { s with drive := { s.drive with trim := some { t with votes := v } } }

/-- TRIM_SWEEP_END (R249): the results wait for the next tick boundary. -/
def doTrimEnd (s : State) : State :=
  match s.drive.trim with
  | none => s
  | some t =>
    if t.sink < 960 then s
    else ({ s with drive := { s.drive with trim := none, trimDone := some t.results } }).put Fld.DRV_TCAL_STAT_BUSY 0

/-- The results of a sweep enter DRV_TRIM at a tick boundary (R249). -/
def State.trimTick (s : State) : State :=
  match s.drive.trimDone with
  | none => s
  | some l =>
    let s := forEach ((List.range 960).zip l) (fun e s => s.put (Fld.DRV_TRIM_TRIM e.1) (unsigned 6 e.2)) s
    let s := { s with drive := { s.drive with trimDone := none } }
    (s.countWrap Fld.DRV_TCAL_STAT_SWEEPS).raise Fld.DRV_INT_TCAL

/-- Pairs found clean are cleared at a tick boundary (R258). -/
def State.pinTick (s : State) : State :=
  let s := forEach s.drive.pinClear (fun i s => s.put ⟨Reg.DRV_PINSHORT (i / 32), i % 32, i % 32⟩ 0) s
  { s with drive := { s.drive with pinClear := [] } }

/-! ### The scan (R240 to R246, R262) -/

/-- A SCN_INT event. -/
def State.scnEvent (s : State) (b : Nat) : State := s.put ⟨Reg.SCN_INT, b, b⟩ 1

/-- Start of subframe `k` of the scan period of the frame in play, in GCLK after the period starts (R241). -/
def subOffset (p : RunPars) (k : Nat) : Nat := k * p.texact / (2 ^ 32 * p.gclk * 2 ^ p.slog)

/-- The instant `g` GCLK after the scan period of the frame in play starts (R240). -/
def State.scanAt (s : State) (p : RunPars) (g : Nat) : Word :=
  s.tshow s.drive.scanFn + wd (p.ofs + g * p.gclk)

/-- The end of the scan period of the frame in play, F: T_show(F + 1) plus its own OFS, or plus that of F + 1 where that is
smaller (R243). -/
def State.periodCut (s : State) : Word :=
  let f := s.drive.scanFn + 1
  s.tshow f + wd (min (s.scanPars).ofs (s.parsFor f).ofs)

/-- SUBFRAME_START (R240, R252, R254): subframe `k`, with the checks of the subframe before it. -/
def doSubframeStart (k : Nat) (checks : List SinkCheck) (s : State) : State :=
  if !(s.lit) then s
  else
    let s := if k = 0 then { s with drive := { s.drive with scanFn := s.tile.played } } else s
    let p := s.scanPars
    let at_ := s.scanAt p (subOffset p k)
    if 2 ^ p.slog ≤ k ∨ (0 < k ∧ earlier at_ s.periodCut = false) then s
    else
      let s := s.advanceTo at_
      let s := s.raise Fld.SCN_STAT_RUN
      let s := if k = 0 then s else s.noteChecks checks
      let s := s.swapPhase
      if s.drive.railUp then s.outerLoop checks else s

/-- Staging word of a lamp for the frame in play. -/
def State.staged (s : State) (l : Nat) : Nat × Nat :=
  SMap.get (fun _ => (0, 0)) (if s.drive.scanFn.toNat % 2 = 0 then s.lamp.staging0 else s.lamp.staging1) l

/-- The current of a conducting lamp in 1/16 µA: IFS_c × 31.25 µA × (501 + 2t) / 500 (R245). -/
def State.lampCurrent (s : State) (p : RunPars) (l : Nat) : Nat :=
  p.ifs.getD (l % 3) 0 * (501 + 2 * p.trims.getD (s.sinkOf l) 0).toNat

/-- Gray clocks and current of the lamps of a row slot in subframe `k` (R229, R245); in an underrun SCN_UND_DUTY, limited
to W. -/
def State.slotCounts (s : State) (p : RunPars) (k slot : Nat) (stalled : Bool) : List (Nat × Nat × Nat) :=
  if decide (slot ∈ s.drive.tripped) || s.latchedRow slot then []
  else
    let w := 2 ^ p.depth / 2 ^ p.slog
    ((s.rowLamps slot).map (fun l =>
      let m := if stalled then min w (s.get (Fld.SCN_UND_DUTY_GCLK (l % 3)))
        else countOf (s.staged l).1 (s.staged l).2 k
      (l, (if s.heldOff p l then 0 else m), s.lampCurrent p l))).filter (fun e => decide (0 < e.2.1))

/-- ROW_SLOT (R245, R262): row slot `r` of subframe `k`. A slot of a scan period that has been cut off does not play
(R243). -/
def doRowSlot (k r : Nat) (stalled : Bool) (s : State) : State :=
  if !(s.lit) then s
  else
    let p := s.scanPars
    let at_ := s.scanAt p (subOffset p k + r * p.grow + p.gdead)
    if decide (2 ^ p.slog ≤ k) || decide (p.rowPairs ≤ r) || !(earlier at_ s.periodCut) then s
    else
      let s := s.advanceTo at_
      let s := { s with drive := { s.drive with slotNow := some r } }
      let s := if s.get Fld.SCN_LINE_MATCH_SUB = k ∧ s.get Fld.SCN_LINE_MATCH_ROW = r then s.scnEvent 1 else s
      let s := if stalled then ((s.count Fld.SCN_UNDCNT_COUNT).scnEvent 3).tally 0x105 else s
      let s := (s.emit (.rowSlot k r (s.slotCounts p k r stalled))).emit (.rowSlot k (45 + r) (s.slotCounts p k (45 + r) stalled))
      if r + 1 = p.rowPairs ∧ k + 1 = 2 ^ p.slog then
        (s.advanceTo (s.scanAt p (subOffset p k + (r + 1) * p.grow))).scnEvent 2
      else s

/-- The dead times serve the pin-short sweep under way, before probes and trim comparisons (R259). -/
def State.pinDue (s : State) : Bool := s.drive.pinRun && !(s.noTest) && !(s.bit Fld.DRV_STAT_IREF_FAIL)

/-- The lamps whose own row slot came before the dead time that begins now (R257). -/
def State.slotLamps (s : State) : List Nat :=
  match s.drive.slotNow with
  | some r => s.rowLamps r ++ s.rowLamps (45 + r)
  | none => []

/-- A lamp whose own row slot has just ended is due to be probed, which goes before a trim comparison (R257, R259). -/
def State.probeDue (s : State) : Bool := s.lit && s.slotLamps.any s.mayProbe

/-- A probe conducts its lamp for 8 GCLK at the start of the dead time (R257). -/
def State.conductProbe (s : State) (c : SinkCheck) : State :=
  (s.emit (.probe c.lamp.val 8 (s.lampCurrent (s.scanPars) c.lamp.val))).probeResult c

/-- DEAD_TIME (R257 to R259). -/
def doDeadTime (use : DeadUse) (s : State) : State :=
  if !(s.scans) then s
  else
    let clear (s : State) : State := match s.drive.trim with
      | some t => { s with drive := { s.drive with trim := some { t with votes := [] } } }
      | none => s
    let t := match use with
      | .idle => clear s
      | .pinTest k ul uh ll lh => (clear s).pinTest k.val ul uh ll lh
      | .probe c =>
        if s.mayProbe c.lamp.val && s.lit && decide (c.lamp.val ∈ s.slotLamps) && !(s.pinDue) then (clear s).conductProbe c
        else clear s
      | .trim above => if s.pinDue || s.probeDue then clear s else s.trimVote above
    { t with drive := { t.drive with slotNow := none } }

/-- ROW_OVERCURRENT_TRIP (R250): row slot `r` of DRV_ROW_LATCH. -/
def doRowTrip (r : Nat) (s : State) : State :=
  if !(s.lit) || (s.rowOf r).isNone || s.latchedRow r || decide (r ∈ s.drive.tripped) then s
  else
    let s := ((s.count Fld.DRV_ROWOC_CNT_COUNT).raise Fld.DRV_INT_ROWOC).tally 0x107
    let s := { s with drive := { s.drive with tripped := r :: s.drive.tripped } }.emit (.rowOff r)
    let runs : Nat := SMap.get (fun _ => 0) s.drive.tripRun r
    if 3 ≤ runs then
      let s := s.put ⟨Reg.DRV_ROW_LATCH (r / 32), r % 32, r % 32⟩ 1
      let s := (s.changeFlags (s.rowLamps r) 1 0).raise Fld.DRV_INT_LAMP
      (s.raise Fld.DRV_INT_ROWLATCH).logBlot blkDRV 2 clsDEGRADED r
    else s

/-- ROW_LATCH_RELEASE (R251): the value written to DRV_ROW_LATCH[w]. -/
def doRowRelease (w : Nat) (v : Word) (s : State) : State :=
  if decide (s.role ≠ .tile) || !(s.powered) then s
  else
    forEach (List.range 32) (fun n s =>
      let r := 32 * w + n
      if wbits v n n = 1 ∧ s.latchedRow r = true then
        let s := s.put ⟨Reg.DRV_ROW_LATCH w, n, n⟩ 0
        let s := { s with drive := { s.drive with
          tripRun := SMap.set (fun _ => 0) s.drive.tripRun r 0
          tripped := s.drive.tripped.filter (fun q => decide (q ≠ r)) } }
        (s.changeFlags (s.rowLamps r) 0 1).raise Fld.DRV_INT_LAMP
      else s) s

/-- SCAN_PERIOD_END (R243, R250, R256, R258): the checks of the last subframe. -/
def doPeriodEnd (checks : List SinkCheck) (s : State) : State :=
  if !(s.lit) then s
  else
    let s := s.advanceTo s.periodCut
    let s := (s.noteChecks checks).closePeriod
    if s.bit Fld.DRV_FAULT_CFG_PINTEST_EN && !s.drive.pinRun && !(s.noTest) && decide (64 ≤ s.drive.period - s.drive.pinLast)
    then s.pinStart else s

/-- The scan at a T_show: it starts in the tick that reached ACTIVE or DIM and stops in the tick whose transition leaves
them (R240, *Table — Transition durations*). -/
def State.showDrive (s : State) : State :=
  if !(s.scans) then s
  else
    let leaving := match s.pwr.trans with
      | some ⟨.state .active, _, _⟩ => false
      | some ⟨.state .dim, _, _⟩ => false
      | some _ => true
      | none => false
    if leaving then (if s.drive.dark then s else s.railStop) else { s with drive := { s.drive with dark := false } }

/-! ### The sense ADC (R260, R261) -/

/-- Inputs enabled: 0, 3 to 8 and 9 to 12 stay enabled whatever is written. -/
def State.adcEnabled (s : State) (i : Nat) : Bool := bitsOf (s.get Fld.DRV_ADC_SEQ_EN ||| 0x1FF9) i 1 != 0

/-- The next enabled input after `i`, in index order. -/
def State.adcAfter (s : State) (i : Nat) : Nat :=
  match (List.range 16).find? (fun k => s.adcEnabled ((i + 1 + k) % 16)) with
  | some k => (i + 1 + k) % 16
  | none => 0

/-- ADC_CONVERSION (R260): the next enabled input, as a code before limiting (full scale 4,096; assumption 40). An OVR
result votes for the fault (R261): for VDRV it counts as no voltage, for a temperature as full scale, and a phase's share
window counts as outside. -/
def doAdc (raw : Int) (s : State) : State :=
  if decide (s.role ≠ .tile) || !(s.powered) then s
  else
    let i := if s.adcEnabled s.drive.adcNext then s.drive.adcNext else s.adcAfter s.drive.adcNext
    if s.drive.adcSettle then
      let s := s.count Fld.DRV_ADC_STAT_SETTLE
      { s with drive := { s.drive with adcSettle := false, adcNext := i } }
    else
      let ovr := decide (4096 ≤ raw) || decide (raw < 0)
      let code := (clampI raw 0 4095).toNat
      let s := (s.put (Fld.DRV_ADC_RES_CODE i) code).putBit (Fld.DRV_ADC_RES_OVR i) ovr
      let s := if ovr then (s.count Fld.DRV_ADC_STAT_OVR).raise Fld.DRV_INT_ADCOVR else s
      { s with drive := { s.drive with
        adcNext := s.adcAfter i
        adcSettle := ovr
        phiOvr := if ovr && decide (3 ≤ i) && decide (i ≤ 6) then (i - 3) :: s.drive.phiOvr else s.drive.phiOvr
        tempRes := if 9 ≤ i ∧ i ≤ 12 then
            SMap.put s.drive.tempRes i (((if ovr then 4095 else code) :: SMap.get (fun _ => []) s.drive.tempRes i).take 3)
          else s.drive.tempRes
        vdrv := if i = 8 then ((if ovr then 0 else code) :: s.drive.vdrv).take 3 else s.drive.vdrv } }

/-- The DRV_IREF check at firmware start (R35): the code of sense ADC input 7. -/
def State.irefCheck (s : State) (code : Nat) : State :=
  if s.role ≠ .tile ∨ (3242 ≤ code ∧ code ≤ 3584) then s
  else (s.raise Fld.DRV_STAT_IREF_FAIL).logBlot blkDRV 1 clsFAULT code

end Sys2Proof.Machine
end

