-- ==== Sys2Proof/Machine/ReedSolomon.lean ====
section
/-! DEFINITION. The code of a codeword (R146, R147): RS(360,344) over GF(2^10), and the header and blocks that its
message bits hold. A polynomial is the list of its coefficients, the constant first. -/

namespace Sys2Proof.Machine

/-- Multiplication by α in GF(2^10) with field polynomial x^10 + x^3 + 1. -/
def gfX (a : Nat) : Nat := if a < 512 then 2 * a else (2 * a) ^^^ 0x409

/-- The product, with the lowest `n` bits of `b` left. -/
def gfMulRun (n a b r : Nat) : Nat :=
  match n with
  | 0 => r
  | n + 1 => gfMulRun n a b (if (b >>> n) % 2 = 1 then gfX r ^^^ a else gfX r)

/-- The product in GF(2^10). -/
def gfMul (a b : Nat) : Nat := if a = 0 ∨ b = 0 then 0 else gfMulRun 10 a b 0

/-- The power α^k. -/
def gfAlpha (k : Nat) : Nat :=
  match k with
  | 0 => 1
  | k + 1 => gfX (gfAlpha k)

/-- The inverse, a^1022. -/
def gfInv (a : Nat) : Nat :=
  let a2 := gfMul a a
  (List.range 8).foldl (fun (p : Nat × Nat) _ => let q := gfMul p.1 p.1; (q, gfMul p.2 q)) (a2, a2) |>.2

/-- The value of a received word at a point: the first symbol is the coefficient of the highest power. -/
def gfEval (l : List Nat) (x : Nat) : Nat := l.foldl (fun a c => gfMul a x ^^^ c) 0

/-- The value of a polynomial at a point. -/
def polyEval (p : List Nat) (x : Nat) : Nat := gfEval p.reverse x

/-- The sum of two polynomials. -/
def polyAdd (a b : List Nat) : List Nat :=
  match a, b with
  | [], b => b
  | a, [] => a
  | x :: s, y :: t => (x ^^^ y) :: polyAdd s t

/-- A polynomial times a constant. -/
def polyScale (c : Nat) (p : List Nat) : List Nat := p.map (gfMul c)

/-- The product of two polynomials. -/
def polyMul (a b : List Nat) : List Nat :=
  match a with
  | [] => []
  | x :: t => polyAdd (polyScale x b) (0 :: polyMul t b)

/-- The generator: the product of x − α^i for i = 0 to 15. -/
def rsGen : List Nat := (List.range 16).foldl (fun p i => polyMul p [gfAlpha i, 1]) [1]

/-- The parity register after a list of message symbols: the division by the generator, highest coefficient first. -/
def rsDivide (gen reg msg : List Nat) : List Nat :=
  match msg with
  | [] => reg
  | m :: t =>
    let f := m ^^^ reg.headD 0
    rsDivide gen (List.zipWith (fun r g => r ^^^ gfMul f g) (reg.drop 1 ++ [0]) gen) t

/-- The 16 parity symbols of a message. -/
def rsParity (msg : List Nat) : List Nat := rsDivide (rsGen.reverse.drop 1) (List.replicate 16 0) msg

/-- The syndromes of a received word, at α^0 to α^15. -/
def rsSyndromes (l : List Nat) : List Nat := (List.range 16).map (fun i => gfEval l (gfAlpha i))

/-- The state of Berlekamp's and Massey's algorithm. -/
structure BmSt where
  c : List Nat
  b : List Nat
  l : Nat
  m : Nat
  d : Nat
  deriving DecidableEq, Repr

/-- One step of the algorithm, at syndrome `n`. -/
def bmStep (syn : List Nat) (t : BmSt) (n : Nat) : BmSt :=
  let d := (List.range (t.l + 1)).foldl (fun a i => if i ≤ n then a ^^^ gfMul (t.c.getD i 0) (syn.getD (n - i) 0) else a) 0
  if d = 0 then { t with m := t.m + 1 }
  else
    let c := polyAdd t.c (List.replicate t.m 0 ++ polyScale (gfMul d (gfInv t.d)) t.b)
    if 2 * t.l ≤ n then ⟨c, t.c, n + 1 - t.l, 1, d⟩ else { t with c := c, m := t.m + 1 }

/-- The error locator of the syndromes, and its degree. -/
def rsLocator (syn : List Nat) : List Nat × Nat :=
  let t := (List.range 16).foldl (bmStep syn) ⟨[1], [1], 0, 1, 1⟩
  (t.c, t.l)

/-- The formal derivative. -/
def polyDeriv (p : List Nat) : List Nat := (p.drop 1).zipIdx.map (fun e => if e.2 % 2 = 0 then e.1 else 0)

/-- The received word with the errors of a locator taken out; symbol `j` has the power 359 − j (Forney). -/
def rsCorrect (l syn loc : List Nat) (roots : List (Nat × Nat)) : List Nat :=
  let omega := (polyMul syn loc).take 16
  let der := polyDeriv loc
  roots.foldl (fun l (e : Nat × Nat) =>
    let v := gfMul (gfInv e.2) (gfMul (polyEval omega e.2) (gfInv (polyEval der e.2)))
    setAt l (359 - e.1) (l.getD (359 - e.1) 0 ^^^ v)) l

/-- The decoder: the corrected word and the number of symbols corrected, or none when it cannot correct the word. -/
def rsDecode (l : List Nat) : Option (List Nat × Nat) :=
  let syn := rsSyndromes l
  if l.length ≠ 360 then none
  else if syn.all (fun v => v == 0) then some (l, 0)
  else
    let (loc, deg) := rsLocator syn
    let roots := ((List.range 360).map (fun k => (k, gfInv (gfAlpha k)))).filter (fun e => polyEval loc e.2 == 0)
    if 8 < deg ∨ roots.length ≠ deg then none
    else
      let c := rsCorrect l syn loc roots
      if (rsSyndromes c).all (fun v => v == 0) then some (c, deg) else none

/-- The message bits of a codeword as a number, the first bit sent highest. -/
def msgBits (l : List Nat) : Nat := (l.take 344).foldl (fun a v => a * 1024 + v) 0

/-- What a received codeword holds, when it can be corrected (R146, R147). -/
def cwDecode (c : Codeword) : Option CwDec :=
  match rsDecode (c.symbols.map (fun v => v.toNat)) with
  | none => none
  | some (l, n) =>
    let m := msgBits l
    some ⟨BitVec.ofNat 112 (m >>> 3328),
      (List.range 13).map (fun j => (beBytes 32 ((m >>> (256 * (12 - j))) % 2 ^ 256)).map (fun b => BitVec.ofNat 8 b)), n⟩

/-- The symbols of `n` times 10 bits, the highest first. -/
def symbolsOf (n v : Nat) : List Nat :=
  match n with
  | 0 => []
  | n + 1 => (v >>> (10 * n)) % 1024 :: symbolsOf n v

/-- The 360 symbols of a codeword with this header and these blocks (R146). After the header come the blocks in order, each with
its byte 0 first and each byte with its most significant bit first (assumption 148). -/
def cwEncode (header : BitVec 112) (blocks : List (List Byte)) : List Nat :=
  let m := symbolsOf 344 (blocks.foldl (fun a b => a * 2 ^ 256 + beNat (b.map (fun x => x.toNat))) header.toNat)
  m ++ rsParity m

/-- The received form of an error-free codeword. -/
def Codeword.ofSent (header : BitVec 112) (blocks : List (List Byte)) : Codeword :=
  ⟨(cwEncode header blocks).map (fun v => BitVec.ofNat 10 v)⟩

end Sys2Proof.Machine
end

