-- ==== Sys2Proof/Machine/LaneSend.lean ====
section
/-! DEFINITION. What a port sends (R146 to R148, R150, R155, R157, R162, R163, R167): the lane maps, and how the packets and
control blocks that wait on a logical lane leave as codewords while time passes. -/

namespace Sys2Proof.Machine

/-! ### Lane maps -/

/-- Physical lane that carries map entry `k` of the receive direction (0, 1 logical lanes, 2 spare); 3 none. -/
def State.rxMap (s : State) (p k : Nat) : Nat := bitsOf (s.get (Fld.LNK_LANE_MAP_RX p)) (2 * k) 2

/-- The same of the transmit direction. -/
def State.txMap (s : State) (p k : Nat) : Nat := bitsOf (s.get (Fld.LNK_LANE_MAP_TX p)) (2 * k) 2

/-- Changes an entry of the receive map. -/
def State.setRxMap (s : State) (p k m : Nat) : State :=
  s.put (Fld.LNK_LANE_MAP_RX p) (setBits (s.get (Fld.LNK_LANE_MAP_RX p)) (2 * k) 2 m)

/-- Changes an entry of the transmit map. -/
def State.setTxMap (s : State) (p k m : Nat) : State :=
  s.put (Fld.LNK_LANE_MAP_TX p) (setBits (s.get (Fld.LNK_LANE_MAP_TX p)) (2 * k) 2 m)

/-- The map of bring-up: the first two trained lanes in the order L0, L1, LS, and the third as the spare (R160). -/
def mapOf (trained : Nat) : Nat :=
  let l := (List.range 3).filter (fun m => bitsOf trained m 1 != 0)
  l.getD 0 3 + 4 * l.getD 1 3 + 16 * l.getD 2 3

/-- Working logical lanes of the receive map. -/
def State.workingLanes (s : State) (p : Nat) : Nat :=
  (if s.rxMap p 0 = 3 then 0 else 1) + (if s.rxMap p 1 = 3 then 0 else 1)

/-- The logical lane physical lane `m` carries in the receive direction. -/
def State.rxLogical (s : State) (p m : Nat) : Option Nat :=
  if s.rxMap p 0 = m then some 0 else if s.rxMap p 1 = m then some 1 else none

/-- The logical lane physical lane `m` carries in the transmit direction. -/
def State.txLogical (s : State) (p m : Nat) : Option Nat :=
  if s.txMap p 0 = m then some 0 else if s.txMap p 1 = m then some 1 else none

/-- The state of physical lane `m`. -/
def PortSt.phy (q : PortSt) (m : Nat) : PhyLaneSt := if m = 0 then q.phy0 else if m = 1 then q.phy1 else q.phy2

/-- Changes the state of physical lane `m`. -/
def PortSt.setPhy (q : PortSt) (m : Nat) (v : PhyLaneSt) : PortSt :=
  if m = 0 then { q with phy0 := v } else if m = 1 then { q with phy1 := v } else { q with phy2 := v }

/-- Changes the state of a physical lane of a port. -/
def State.setPhyOf (s : State) (p m : Nat) (v : PhyLaneSt) : State := s.setPort p ((s.port p).setPhy m v)

/-- Changes the receive side of a logical lane of a port. -/
def State.setRxOf (s : State) (p k : Nat) (r : LaneRx) : State := s.setPort p ((s.port p).setRx k r)

/-- Changes the transmit side of a logical lane of a port. -/
def State.setTxOf (s : State) (p k : Nat) (t : LaneTx) : State := s.setPort p ((s.port p).setTx k t)

/-! ### Codewords sent -/

/-- The time since reset in 1/17 ns: a codeword of 3,600 UI takes 2,304 of them (R146). -/
def State.laneNow (s : State) : Nat := 17 * s.clk.upNs

/-- What goes next of the items that wait on a logical lane: a node starts a packet of its own only when nothing forwarded
waits (R185). -/
def nextItem (l : List TxItem) : Option TxItem :=
  match l.find? (fun i => match i with | .resync => true | .pkt x => !x.own) with
  | some i => some i
  | none => l.head?

/-- A RESYNC comes next in the packet stream. -/
def LaneTx.resyncs (t : LaneTx) : Bool := t.part.isNone && decide (nextItem t.queue = some .resync)

/-- Something waits on a logical lane that may go now: a held lane keeps its data and sends control blocks (R155). -/
def LaneTx.ready (t : LaneTx) : Bool :=
  !t.resend.isEmpty || !t.ctl.isEmpty || t.mark.isSome || t.resyncs || ((t.part.isSome || !t.queue.isEmpty) && !t.hold)

/-- At a packet boundary the next packet starts: it takes its number, and `w` gives its bytes (R150, R176, R185). A packet
that has no bytes to send is gone. -/
def LaneTx.startPkt (w : Nat → Pkt → Option (List Byte)) (n : Nat) (t : LaneTx) : LaneTx :=
  match n, t.part, nextItem t.queue with
  | n + 1, none, some (.pkt x) =>
    let t' := { t with queue := t.queue.erase (.pkt x) }
    match w t.seq x with
    | some b => { t' with seq := t.seq + 1, part := some (⟨t.seq, x.tshow⟩, b) }
    | none => t'.startPkt w n
  | _, _, _ => t

/-- The packet that comes next may start where `n` bytes of a block are left: a TIME beacon fills one block (R185). -/
def LaneTx.mayStart (t : LaneTx) (n : Nat) : Bool :=
  match nextItem t.queue with
  | some (.pkt x) => decide (x.type ≠ tyTIME) || decide (n = 32)
  | _ => true

/-- Takes up to `n` bytes of the packet stream, of `k` packets at most, up to a RESYNC: the bytes, the packets they belong to
and the lane after it (R150). -/
def LaneTx.takeBytes (w : Nat → Pkt → Option (List Byte)) (k n : Nat) (t : LaneTx) : List Byte × List PktTag × LaneTx :=
  match k with
  | 0 => ([], [], t)
  | k + 1 =>
    if n = 0 then ([], [], t)
    else
      let t := if t.mayStart n then t.startPkt w t.queue.length else t
      match t.part with
      | none => ([], [], t)
      | some (g, b) =>
        if n < b.length then (b.take n, [g], { t with part := some (g, b.drop n) })
        else
          let r := LaneTx.takeBytes w k (n - b.length) { t with part := none }
          (b ++ r.1, g :: r.2.1, r.2.2)

/-- One block of a codeword being filled: whether it is a control block, its bytes, and the packets in it. -/
structure Slot32 where
  ctl   : Bool
  bytes : List Byte
  pkts  : List PktTag
  deriving DecidableEq, Repr

/-- The FILL block. -/
def fillBlock : List Byte := List.replicate 32 0

/-- A data block, where one may go now and packets have bytes for it: not on a held lane, in at most 44 of 45 slots, and not
before `dataFrom` (R148, R150, R155, R157). -/
def LaneTx.dataSlot (w : Nat → Pkt → Option (List Byte)) (t : LaneTx) (now j : Nat) : Option Slot32 × LaneTx :=
  if t.hold || decide (44 ≤ t.dataRun) || decide (25 * now + 16 * (112 + 256 * j) < 25 * t.dataFrom) then (none, t)
  else
    let d := t.takeBytes w 4 32
    if d.1.isEmpty then (none, d.2.2)
    else (some ⟨false, d.1 ++ List.replicate (32 - d.1.length) 0, d.2.1⟩,
      { d.2.2 with dataRun := t.dataRun + 1, sinceFill := t.sinceFill + 1 })

/-- What goes into block `j` of a codeword (R148, R149, R150, R155, R157, R167): a LANE_SWAP in the last block, FILL in time
for one in every 4,096 blocks, a control block, data, or FILL. -/
def LaneTx.slot (w : Nat → Pkt → Option (List Byte)) (t : LaneTx) (now j : Nat) : Slot32 × LaneTx :=
  let fill (t : LaneTx) := ((⟨true, fillBlock, []⟩ : Slot32), { t with dataRun := 0, sinceFill := 0 })
  let other (b : List Byte) (t : LaneTx) := ((⟨true, b, []⟩ : Slot32), { t with dataRun := 0, sinceFill := t.sinceFill + 1 })
  match t.mark, decide (j = 12) with
  | some m, true => other m.block { t with mark := none }
  | _, _ =>
    if 4094 ≤ t.sinceFill then fill t
    else match t.ctl with
      | b :: r => other b { t with ctl := r }
      | [] =>
        if t.resyncs then other (ctlBytes 1 [0]) { t with queue := t.queue.erase .resync }
        else match t.dataSlot w now j with
          | (some b, t) => (b, t)
          | (none, t) => fill t

/-- The blocks of a codeword from block `j` on, `n` of them. -/
def LaneTx.fillCw (w : Nat → Pkt → Option (List Byte)) (t : LaneTx) (now j n : Nat) : List Slot32 × LaneTx :=
  match n with
  | 0 => ([], t)
  | n + 1 =>
    let a := t.slot w now j
    let r := a.2.fillCw w now (j + 1) n
    (a.1 :: r.1, r.2)

/-- TMAP of the blocks of a codeword: bit 12 − j of the field for block `j` (R147). -/
def tmapOf (l : List Slot32) : BitVec 13 := BitVec.ofNat 13 (l.foldl (fun a b => 2 * a + (if b.ctl then 1 else 0)) 0)

/-- The next codeword of a logical lane as traffic: the blocks, kept for a replay (R162). A codeword of FILL alone needs no
place in the buffer. -/
def LaneTx.makeCw (w : Nat → Pkt → Option (List Byte)) (t : LaneTx) (now : Nat) : TxCw × LaneTx :=
  let r := t.fillCw w now 0 13
  let c : TxCw := ⟨t.cwseq, r.1.flatMap (fun b => b.pkts), tmapOf r.1, r.1.map (fun b => b.bytes)⟩
  let keep := r.1.any (fun b => decide (b.bytes ≠ fillBlock) || !b.ctl)
  (c, { r.2 with
    cwseq := t.cwseq + 1
    buf := if keep then t.buf ++ [c] else t.buf })

/-- What a header of port `p` says of the other direction: ACK0, ACK1, HOLD0 and HOLD1 (R147, R155, R162). -/
def PortSt.says (q : PortSt) : List Nat :=
  let ack (k : Nat) : Nat := match (q.rx k).nackOut with | some a => a.toNat | none => ((q.rx k).expect - 1).toNat
  let hold (k : Nat) : Nat := if (q.rx k).holdOut then 1 else 0
  [ack 0, ack 1, hold 0, hold 1]

/-- A NACK is to be sent with the next header. -/
def PortSt.nacks (q : PortSt) (k : Nat) : Nat := if (q.rx k).nackOut.isSome then 1 else 0

/-- The header of a codeword this port sends (*Table — Codeword header*). -/
def PortSt.header (q : PortSt) (tmap : BitVec 13) (cwseq : BitVec 16) (role kind : Nat) : BitVec 112 :=
  let w := q.says
  BitVec.ofNat 112 (tmap.toNat * 2 ^ 99 + cwseq.toNat * 2 ^ 83 + role * 2 ^ 81 + kind * 2 ^ 79 + w.getD 0 0 * 2 ^ 63 + w.getD 1 0 * 2 ^ 47 +
    q.nacks 0 * 2 ^ 46 + q.nacks 1 * 2 ^ 45 + w.getD 2 0 * 2 ^ 44 + w.getD 3 0 * 2 ^ 43)

/-- The physical lane the next codeword of a logical lane goes out on: the old one up to its LANE_SWAP (R167). -/
def State.txPhy (s : State) (p k : Nat) : Nat :=
  match ((s.port p).tx k).mark with
  | some m => m.phy
  | none => s.txMap p k

/-- A codeword leaves on port `p`, logical lane `k`. A NACK goes in one header only (R162). -/
def State.putCw (s : State) (p k : Nat) (phy : Nat) (c : TxCw) (kind : Nat) (t : LaneTx) : State :=
  let q := s.port p
  let h := q.header c.tmap c.cwseq k kind
  let q' := (q.setTx k { t with nextAt := t.nextAt + 2304 })
  let s := s.setPort p { q' with
    said := q.says
    rx0 := { q'.rx0 with nackOut := none }
    rx1 := { q'.rx1 with nackOut := none } }
  s.emit (.codeword p phy (cwEncode h c.blocks))

/-- The next codeword of a logical lane leaves: of a replay under way with KIND 1, else of traffic. -/
def State.nextCw (s : State) (p k : Nat) : State :=
  let t := (s.port p).tx k
  let phy := s.txPhy p k
  match t.resend with
  | c :: r => s.putCw p k phy c 1 { t with resend := r }
  | [] => let a := t.makeCw (s.wireOf p k) t.nextAt; s.putCw p k phy a.1 0 a.2

/-- Codewords of FILL alone pass until `now`. -/
def LaneTx.idleTo (t : LaneTx) (now : Nat) : LaneTx :=
  if now < t.nextAt then t
  else
    let n := (now - t.nextAt) / 2304 + 1
    { t with cwseq := t.cwseq + BitVec.ofNat 16 n, nextAt := t.nextAt + 2304 * n, dataRun := 0, sinceFill := 0 }

/-- The codewords of a logical lane that begin by now, at most `n` of them with content. -/
def State.runLane (s : State) (p k n : Nat) : State :=
  match n with
  | 0 => s
  | n + 1 =>
    let q := s.port p
    let t := q.tx k
    let now := s.laneNow
    if now < t.nextAt then s
    else if t.ready || decide (q.says ≠ q.said) || q.nacks 0 + q.nacks 1 != 0 then (s.nextCw p k).runLane p k n
    else s.setPort p (q.setTx k (t.idleTo now))

/-- Codewords that what waits on a lane can need. -/
def LaneTx.need (t : LaneTx) : Nat := t.resend.length + t.ctl.length + t.queued / 32 + t.queue.length + 6

/-- A logical lane of a port is sending: not failed, on a physical lane, and not in fast idle (R157). -/
def State.laneSends (s : State) (p k : Nat) : Bool :=
  s.linkUp p && !((s.port p).tx k).failed && decide (s.txPhy p k ≠ 3) &&
    !(decide (k = 1) && s.bit (Fld.LNK_PORT_STAT_L1_IDLE p))

/-- What the ports send up to now. -/
def State.lanesRun (s : State) : State :=
  forEach [0, 1, 2, 3] (fun p s => forEach [0, 1] (fun k s =>
    if s.laneSends p k then s.runLane p k ((s.port p).tx k).need else s) s) s

/-- A KIND 3 codeword with one control block, on each physical lane of a port in training (R160). -/
def State.sendTraining (s : State) (p : Nat) (block : List Byte) : State :=
  let h := (s.port p).header (BitVec.ofNat 13 (2 ^ 13 - 1)) 0 2 3
  forEach [0, 1, 2] (fun m s => s.emit (.codeword p m (cwEncode h (block :: List.replicate 12 fillBlock)))) s

/-- The exit of outgoing lane 1 from fast idle: the wake burst of 64 UI, codewords directly after it, and no data block until
120 ns after (R157). -/
def State.wakeLane1 (s : State) (p : Nat) : State :=
  if s.linkUp p && s.bit (Fld.LNK_PORT_STAT_L1_IDLE p) then
    let q := s.port p
    let s := s.put (Fld.LNK_PORT_STAT_L1_IDLE p) 0
    (s.setPort p { q with tx1 := { q.tx1 with nextAt := s.laneNow + 41, dataFrom := s.laneNow + 2040 } }).emit (.wakeBurst p (s.txPhy p 1))
  else s

/-- What a physical lane's transmitter drives. -/
inductive Drives where
  | off
  | prbs (order : Nat)
  | training
  | traffic (lane : Nat)
  | idle
  deriving DecidableEq, Repr

/-- As transmitter, the pattern of a calibration runs: from CAL_REQ to the swap, and from there until N's verification has
ended, 185.1 ms after the boundary of the swap (R167; assumption 152). -/
def State.calPattern (s : State) (p : Nat) : Bool :=
  (s.port p).remoteCal.isSome && (match (s.port p).remoteAt with
    | some t => decide (s.clk.upNs < t + 185100000)
    | none => true)

/-- What physical lane `m` of a port transmits (R157, R159, R160, R167, R173); nothing before every required rail is good (R41). -/
def State.drives (s : State) (p m : Nat) : Drives :=
  let pat := match s.get (Fld.LNK_PHY_PRBS_PAT p m) with | 1 => 9 | 2 => 15 | _ => 31
  let test := s.bit (Fld.LNK_PHY_PRBS_TXEN p m) && decide (s.get (Fld.LNK_PHY_PRBS_PAT p m) ≠ 0)
  if !(s.powered) || s.pwr.bootWait || (s.port p).deepPark then .off
  else match s.get (Fld.LNK_PORT_STAT_STATE p) with
    | 2 =>
      if s.txPhy p 0 = m ∧ ((s.port p).tx 0).failed = false then .traffic 0
      else if s.txPhy p 1 = m ∧ ((s.port p).tx 1).failed = false then
        if s.bit (Fld.LNK_PORT_STAT_L1_IDLE p) then .idle else .traffic 1
      else if test then .prbs pat
      -- the spare under calibration, and the lane it swapped with, carry PRBS-31 (R167); so does the spare that trains to
      -- stand in for a failed lane (R171)
      else if s.calPattern p && (decide (s.txMap p 2 = m) || decide ((s.port p).remoteCal = some m)) then .prbs 31
      else if decide (s.txMap p 2 = m) && (((s.port p).tx 0).failed || ((s.port p).tx 1).failed) then .prbs 31
      else .off
    | 1 => .training
    | 3 => if test then .prbs pat else .off
    | _ => .prbs 31

end Sys2Proof.Machine
end

