-- ==== Sys2Proof/Machine/Lanes.lean ====
section
/-! DEFINITION. The lane layer (R146 to R174): codewords and retry, bring-up, lane power, lane failure, calibration
and the swap of a lane for the spare, pattern tests and eye scans. -/

namespace Sys2Proof.Machine

/-! ### The working lanes -/

/-- NOSPARE, and LANES, from the receive map. -/
def State.noteLanes (s : State) (p : Nat) : State :=
  (s.putBit (Fld.LNK_PORT_STAT_NOSPARE p) (decide (s.rxMap p 2 = 3))).put (Fld.LNK_PORT_STAT_LANES p) (s.workingLanes p)

/-! ### The link -/

/-- The ports of a node carry links from firmware start on, while the node runs (R160; Global operation costs). -/
def State.portsOn (s : State) : Bool := s.running || (decide (s.pwr.state = .boot) && s.pwr.fwStarted)

/-- A calibration and the requests of a port as receiver end without an outcome; a calibration that the neighbour runs in the
other direction goes on (R166). -/
def State.dropCal (s : State) (p : Nat) : State :=
  let q := s.port p
  let s := if q.selftest = [] then s else s.selftestFail 0
  let s := s.setPort p { q with
    calib := none
    standIn := none
    move := none
    queuedCal := none
    selftest := [] }
  ((s.put (Fld.LNK_PORT_STAT_CAL_BUSY p) 0).put (Fld.LNK_CAL_STAT_STEP p) 0).put (Fld.LNK_CAL_STAT_QUEUED p) 0

/-- The link of a port goes down (R161), into state `st` of LNK_PORT_STAT. -/
def State.linkDown (s : State) (p st : Nat) : State :=
  if s.get (Fld.LNK_PORT_STAT_STATE p) ≠ 2 then s.put (Fld.LNK_PORT_STAT_STATE p) st
  else
    let s := s.dropCal p
    let q := s.port p
    let s := s.setPort p { q with
      tx0 := .reset
      tx1 := .reset
      rx0 := .reset
      rx1 := .reset
      said := []
      helloStamp := none
      met := false
      remoteCal := none
      remoteAt := none
      remoteReady := false
      -- a branch in PARK deep-parks both working lanes of a port whose link is down (R159)
      deepPark := decide (s.role = .branch ∧ s.pwr.state = .park)
      rxIdle1 := false }
    let s := s.setKeys p .reset
    let s := s.put (Fld.LNK_NET_STAT_ENC_ACTIVE p) 0
    let s := ((s.put (Fld.LNK_PORT_STAT_STATE p) st).put (Fld.LNK_PORT_STAT_LANES p) 0).put (Fld.LNK_PORT_STAT_L1_IDLE p) 0
    let s := (s.put (Fld.LNK_PORT_STAT_HELD p) 0).raise (Fld.LNK_INT_LINK p)
    let s := forEach [0, 1, 2] (fun m s =>
      if (s.get (Fld.LNK_PHY_STAT_STATE p m)) = 7 then s else s.setWord (Reg.LNK_PHY_STAT p m) 0) s
    (s.loseParent p).evtLink p false

/-- The link of a port comes up (R160): its lanes open with RESYNC of reason 2, the lane counters start again, keys are
agreed (R190), and the head walks (R182). The first codeword of each lane has CWSEQ 0 (assumption 149). -/
def State.linkUpNow (s : State) (p : Nat) : State :=
  let q := s.port p
  let s := s.setPort p { q with
    tx0 := { LaneTx.reset with nextAt := s.laneNow }
    tx1 := { LaneTx.reset with failed := decide (s.txMap p 1 = 3), nextAt := s.laneNow }
    rx0 := .reset
    rx1 := .reset
    said := []
    met := false
    move := none
    deepPark := false
    phy0 := { q.phy0 with badRun := 0, goodRun := 0, corr := 0, hourNs := 0, hourSum := 0, hourNum := 0, first := none }
    phy1 := { q.phy1 with badRun := 0, goodRun := 0, corr := 0, hourNs := 0, hourSum := 0, hourNum := 0, first := none }
    phy2 := { q.phy2 with badRun := 0, goodRun := 0, corr := 0, hourNs := 0, hourSum := 0, hourNum := 0, first := none }
    rxIdle1 := false }
  let s := (s.put (Fld.LNK_PORT_STAT_STATE p) 2).noteLanes p
  let s := s.raise (Fld.LNK_INT_LINK p)
  -- one working lane and no spare (R172)
  let s := if s.rxMap p 1 = 3 then s.raise (Fld.LNK_INT_LANE_DOWN p) else s
  let s := forEach [0, 1] (fun k s => if s.rxMap p k = 3 then s else s.put (Fld.LNK_PHY_STAT_STATE p (s.rxMap p k)) 2) s
  let s := if s.rxMap p 2 = 3 then s else s.setWord (Reg.LNK_PHY_STAT p (s.rxMap p 2)) 0
  let s := s.sendCtl p 0 1 [2]
  let s := if s.txMap p 1 = 3 then s else s.sendCtl p 1 1 [2]
  -- an Isolated port returns to Counting when its link goes down and up again (R195)
  let s := if s.get (Fld.LNK_NET_STAT_LEVEL p) = 3 then (s.setEscal p ⟨0, 0, 0⟩).setLevel p 0 else s
  let s := { s with net := { s.net with walked := s.net.walked.filter (fun q => decide (q ≠ p)) } }
  (s.clearDelay p).evtLink p true |>.keyBringUp p

/-- Sends HELLO with an echo stamp (R160): version, trained lanes, receive map, replay capacity and the stamp, the two last
with their low byte first (assumption 147); in KIND 3 codewords while the port trains. -/
def State.helloWith (s : State) (p trained : Nat) (stamp : Word) : State :=
  let d := stamp.toNat
  let args := [1, trained, s.get (Fld.LNK_LANE_MAP_RX p), 304 % 256, 304 / 256, d % 256, d / 256 % 256, d / 65536 % 256, d / 16777216]
  if s.linkUp p then s.sendCtl p 0 6 args else (s.emit (.control p 0 ⟨6, args⟩)).sendTraining p (ctlBytes 6 args)

/-- Sends this node's own HELLO, whose stamp is its DTIME (R160; assumption 114). -/
def State.sendHello (s : State) (p trained : Nat) : State :=
  (s.setPort p { s.port p with helloStamp := some s.clk.dtime }).helloWith p trained s.clk.dtime

/-- The lanes a port reports as trained: those neither failed nor retired. -/
def State.trainedLanes (s : State) (p : Nat) : Nat :=
  ([0, 1, 2].filter (fun m => decide (s.get (Fld.LNK_PHY_STAT_STATE p m) ≠ 6) &&
    decide (s.get (Fld.LNK_PHY_STAT_STATE p m) ≠ 7))).foldl (fun a m => a + 2 ^ m) 0

/-- Announces a changed receive map (R151). -/
def State.tellMap (s : State) (p : Nat) : State := s.sendHello p (s.trainedLanes p)

/-- Drops every packet with a byte in an unacknowledged codeword, the one being sent among them, and counts them (R163, R164,
R171). -/
def State.dropUnacked (s : State) (p k : Nat) : State :=
  let t := (s.port p).tx k
  let gone := (t.buf.flatMap (fun c => c.pkts.map (fun (g : PktTag) => g.num)) ++ (t.part.map (fun e => e.1.num)).toList).eraseDups
  let s := s.setTxOf p k { t with
    buf := []
    resend := []
    part := none }
  if gone = [] then s
  else ((s.count (Fld.LNK_DROPCNT_DEADLINE p) gone.length).raise (Fld.LNK_INT_DROP p)).tallyOf 0x00A 1 p gone.length

/-- An outgoing logical lane is failed: the packets that wait on it go to the other lane (R152). -/
def State.failTx (s : State) (p k : Nat) : State :=
  let q := s.port p
  let t := q.tx k
  let o := q.tx (1 - k)
  if o.failed then s.setTxOf p k { t with failed := true }
  else
    let s := s.setTxOf p k { t with
      failed := true
      queue := [] }
    s.setTxOf p (1 - k) { o with queue := o.queue ++ t.queue.filter (fun i => decide (i ≠ .resync)) }

/-- What the neighbour's new map means for outgoing logical lane `k`, which was on physical lane `old` (R171): on no lane,
it is failed and what it has unacknowledged is dropped; on another lane or on one again, RESYNC of reason 1 opens it. -/
def State.txLaneChange (s : State) (p k old : Nat) : State :=
  let new := s.txMap p k
  if new = 3 then
    if ((s.port p).tx k).failed then s
    else (s.dropUnacked p k).failTx p k
  else if ((s.port p).tx k).failed then
    (s.setTxOf p k { (s.port p).tx k with failed := false, nextAt := s.laneNow }).sendCtl p k 1 [1]
  else if new ≠ old then (s.dropUnacked p k).sendCtl p k 1 [1]
  else s

/-- A receiver adapts fully: the CTLE, DFE and phase settings it comes to are not given (R160, R167; assumption 5). -/
def State.adapt (s : State) (p m : Nat) : State :=
  let (c, s) := s.freeNat 4
  let (d, s) := s.freeNat 30
  let (f, s) := s.freeNat 6
  ((s.put (Fld.LNK_PHY_EQ0_CTLE p m) c).put (Fld.LNK_PHY_EQ1_DFE p m) d).put (Fld.LNK_PHY_EQ0_PHASE p m) f

/-- A lane is retired until the next power-on or brown-out reset; `by_` is the lane in its place (R170). -/
def State.retirePhy (s : State) (p m by_ : Nat) : State :=
  let s := s.setPhyOf p m { (s.port p).phy m with retired := true }
  let s := { s with saved := { s.saved with retiredLanes := s.saved.retiredLanes ||| BitVec.ofNat 12 (2 ^ (3 * p + m)) } }
  let s := s.setWord (Reg.LNK_PHY_STAT p m) (wd (7 * 16))
  let s := (s.noteLanes p).raise (Fld.LNK_INT_RETIRED p)
  (s.logBlot (blkLNK p) 1 clsDEGRADED m).cpcLog 1 p m by_ 0 true

/-- Coppice's ring holds a retirement of physical lane `m` of port `p` (R170, R391). -/
def State.retiredBefore (s : State) (p m : Nat) : Bool :=
  s.saved.cpcLog.any (fun (e : Nat × List Word) => decide (wbits (nth e.2 2) 31 24 = 1) && decide (wbits (nth e.2 2) 23 16 = p) &&
    decide (wbits (nth e.2 2) 15 8 = m))

/-- SIGNAL_DETECT (R160): the receivers of L0, L1 and LS lock to PRBS-31 and adapt; `trains` tells which of them do. A lane
that still fails after the reset that erased its retirement is retired again (R170). -/
def doSignalDetect (p : Nat) (trains : BitVec 3) (s : State) : State :=
  if !(s.portsOn) || s.get (Fld.LNK_PORT_STAT_STATE p) != 0 then s
  else
    let ok := (List.range 3).filter (fun m => trains.getLsbD m && !((s.port p).phy m).retired)
    let mask := ok.foldl (fun a m => a + 2 ^ m) 0
    let s := (s.setPort p { s.port p with met := false }).put (Fld.LNK_PORT_STAT_STATE p) 1
    let s := forEach [0, 1, 2] (fun m s =>
      let ph := (s.port p).phy m
      if ph.retired then s
      else
        let s := s.setPhyOf p m { ph with
          goodRun := 0
          badRun := 0 }
        let s := (s.put (Fld.LNK_PHY_STAT_STATE p m) 1).put (Fld.LNK_PHY_STAT_ALIGN p m) 0
        if m ∈ ok then (s.raise (Fld.LNK_PHY_STAT_LOCK p m)).adapt p m
        else
          let s := s.put (Fld.LNK_PHY_STAT_LOCK p m) 0
          if s.retiredBefore p m then s.retirePhy p m 3 else s) s
    (s.put (Fld.LNK_LANE_MAP_RX p) (mapOf mask)).sendHello p mask

/-- The HELLO of a neighbour: its replay capacity is noted; a stamp of this node's own comes back and gives the round trip,
and another is the neighbour's, which goes back in a HELLO (R160; assumption 114). -/
def State.takeStamp (s : State) (p capacity : Nat) (stamp : Word) : State :=
  let q := s.port p
  let s := s.setPort p { q with peerCap := capacity }
  if q.helloStamp = some stamp then
    let r := min (s.clk.dtime - stamp).toNat 65535
    let s := s.setPort p { s.port p with helloStamp := none }
    (s.put (Fld.LNK_RETRY_RTT_NS p) r).putBit (Fld.LNK_RETRY_UNAVAIL p) (decide (40000 < r))
  else s.helloWith p (s.trainedLanes p) stamp

/-- A port in training comes up once the neighbour's HELLO has come, each direction has a trained lane, and every lane of the
receive map is aligned (R160, steps 4 to 6). -/
def State.tryLinkUp (s : State) (p : Nat) : State :=
  let aligned := [0, 1].all (fun k => decide (s.rxMap p k = 3) || s.bit (Fld.LNK_PHY_STAT_ALIGN p (s.rxMap p k)))
  if s.get (Fld.LNK_PORT_STAT_STATE p) = 1 ∧ (s.port p).met = true ∧ s.rxMap p 0 ≠ 3 ∧ s.txMap p 0 ≠ 3 ∧ aligned = true then
    s.linkUpNow p
  else s

/-- The content of a HELLO (R151, R160, R164, R171): the neighbour's receive map is this node's transmit map; the round trip is
taken. A swap of outgoing logical lane 0, a stand-in too, clears the link's delay (R201). Another lane-layer version is not
read (assumption 117). -/
def State.takeHello (s : State) (p version : Nat) (trained : BitVec 3) (rxMap capacity : Nat) (stamp : Word) : State :=
  let st := s.get (Fld.LNK_PORT_STAT_STATE p)
  if !(s.portsOn) || (st != 1 && st != 2) || version != 1 then s
  else
    let s := s.takeStamp p capacity stamp
    let old0 := s.txMap p 0
    let old1 := s.txMap p 1
    let s := s.put (Fld.LNK_LANE_MAP_TX p) rxMap
    if st = 2 then
      let s := if s.txMap p 0 = old0 then s else s.clearDelay p
      (s.txLaneChange p 0 old0).txLaneChange p 1 old1
    else (s.setPort p { s.port p with met := decide (trained ≠ 0) }).tryLinkUp p

/-- HELLO (R160, step 5): the exchange of bring-up as one event follows step 4, so every locked lane is aligned. -/
def doHello (p version : Nat) (trained : BitVec 3) (rxMap capacity : Nat) (stamp : Word) (s : State) : State :=
  let s := if s.portsOn && s.get (Fld.LNK_PORT_STAT_STATE p) == 1 && version == 1 then
      forEach [0, 1, 2] (fun m s => if s.bit (Fld.LNK_PHY_STAT_LOCK p m) then s.raise (Fld.LNK_PHY_STAT_ALIGN p m) else s) s
    else s
  s.takeHello p version trained rxMap capacity stamp

/-- BRING_UP_TIMEOUT (R160): not up 10 ms after signal detect; the port starts again from PRBS-31. -/
def doBringUpTimeout (p : Nat) (s : State) : State :=
  if s.portsOn && s.get (Fld.LNK_PORT_STAT_STATE p) == 1 then
    (s.count (Fld.LNK_PORT_STAT_TRAINFAIL p)).put (Fld.LNK_PORT_STAT_STATE p) 0
  else s

/-! ### Retirement, failure and stand-in (R161, R170 to R172) -/

/-- The spare fails while it trains, for a stand-in or for a calibration (R161, R167, R171): the port has no spare left, and the
link goes down where no lane carries it. -/
def State.spareFailure (s : State) (p m : Nat) : State :=
  let q := s.port p
  if s.rxMap p 2 ≠ m ∨ (q.standIn = none ∧ q.calib = none) then s
  else
    let s := (s.setWord (Reg.LNK_PHY_STAT p m) (wd (6 * 16))).raise (Fld.LNK_INT_LANE_DOWN p)
    let s := s.setRxMap p 2 3
    let s := match q.calib with
      | some c => (s.sendCtl p 0 4 [c.lane, 1]).dropCal p
      | none => s.setPort p { s.port p with standIn := none }
    if s.workingLanes p = 0 then s.linkDown p 0 else (s.noteLanes p).tellMap p

/-- LANE_FAILURE (R161, R171, R172): physical lane `m` of the receive direction. -/
def doLaneFailure (p m : Nat) (s : State) : State :=
  if !(s.running) || !(s.linkUp p) then s
  else match s.rxLogical p m with
  | none => s.spareFailure p m
  | some k =>
    let s := s.setWord (Reg.LNK_PHY_STAT p m) (wd (6 * 16))
    let s := s.raise (Fld.LNK_INT_LANE_DOWN p)
    let s := s.setRxMap p k 3
    let q := s.port p
    match q.calib with
    | some c =>
      if c.started && decide (2 ≤ s.get (Fld.LNK_CAL_STAT_STEP p)) then
        -- the lane under sweep, with its settings restored, is brought in for the failed one
        let s := match (q.phy c.lane).saved with
          | some (ct, df, ph) => ((s.put (Fld.LNK_PHY_EQ0_CTLE p c.lane) ct).put (Fld.LNK_PHY_EQ1_DFE p c.lane) df).put
              (Fld.LNK_PHY_EQ0_PHASE p c.lane) ph
          | none => s
        let s := s.sendCtl p 0 4 [c.lane, 1]
        let s := (s.dropCal p).setRxMap p k c.lane
        let s := s.put (Fld.LNK_PHY_STAT_STATE p c.lane) 2
        let s := if k = 0 then s.clearDelay p else s
        (s.retirePhy p m c.lane).tellMap p
      else
        -- spare bring-up under way: the spare stands in
        let s := s.sendCtl p 0 4 [c.lane, 1]
        let s := s.dropCal p
        ((s.setPort p { s.port p with standIn := some m }).noteLanes p).tellMap p
    | none =>
      if s.rxMap p 2 ≠ 3 ∧ q.standIn = none then
        let s := s.put (Fld.LNK_PHY_STAT_STATE p (s.rxMap p 2)) 1
        ((s.setPort p { s.port p with standIn := some m }).noteLanes p).tellMap p
      else if s.workingLanes p = 0 ∧ s.rxMap p 2 = 3 then s.linkDown p 0
      else (s.noteLanes p).tellMap p

/-- STAND_IN_TRAINED (R171): the spare carries the failed lane's traffic, and the failed lane is retired. -/
def doStandIn (p : Nat) (s : State) : State :=
  if !(s.running) || !(s.linkUp p) then s
  else match (s.port p).standIn with
  | none => s
  | some m =>
    let sp := s.rxMap p 2
    if sp = 3 then s
    else
      let k := if s.rxMap p 0 = 3 then 0 else 1
      let s := (s.setRxMap p k sp).setRxMap p 2 3
      let s := (s.put (Fld.LNK_PHY_STAT_STATE p sp) 2).raise (Fld.LNK_PHY_STAT_LOCK p sp)
      let s := (s.setPort p { s.port p with standIn := none }).adapt p sp
      let s := if k = 0 then s.clearDelay p else s
      (s.retirePhy p m sp).tellMap p

/-! ### Calibration (R166 to R170) -/

/-- The working lane whose last calibration is oldest, the lower index on a tie. -/
def State.oldestLane (s : State) (p : Nat) : Option Nat :=
  ((List.range 3).filter (fun m => (s.rxLogical p m).isSome)).foldl (fun b m =>
    match b with
    | none => some m
    | some n => if ((s.port p).phy m).lastCal < ((s.port p).phy n).lastCal then some m else some n) none

/-- A calibration of lane `m` starts (R167). -/
def State.beginCal (s : State) (p m : Nat) : State :=
  let q := s.port p
  let n := q.calNo + 1
  let ph := q.phy m
  let q := q.setPhy m { ph with
    lastCal := n
    saved := some (s.get (Fld.LNK_PHY_EQ0_CTLE p m), s.get (Fld.LNK_PHY_EQ1_DFE p m), s.get (Fld.LNK_PHY_EQ0_PHASE p m)) }
  let s := s.setPort p { q with calNo := n, calib := some ⟨m, false, s.rxMap p 2, false⟩ }
  let s := (s.raise (Fld.LNK_PORT_STAT_CAL_BUSY p)).put (Fld.LNK_CAL_STAT_STEP p) 1
  let s := (s.put (Fld.LNK_CAL_STAT_LANE p) m).put (Fld.LNK_LANE_CFG_SWAP_ARM p) 0
  let s := s.put (Fld.LNK_PHY_STAT_STATE p (s.rxMap p 2)) 1
  s.sendCtl p 0 4 [m, 0]

/-- A request for a calibration of lane `lane`, or of the oldest (R166): true when it was dropped because one is queued. On a
link that is down it is dropped (assumption 116). -/
def State.requestCal (s : State) (p : Nat) (lane : Option Nat) : Bool × State :=
  if !(s.linkUp p) then (false, s.put (Fld.LNK_LANE_CFG_SWAP_ARM p) 0)
  else if (s.port p).calib.isSome then
    if s.bit (Fld.LNK_CAL_STAT_QUEUED p) then (true, s.put (Fld.LNK_LANE_CFG_SWAP_ARM p) 0)
    else (false, (s.setPort p { s.port p with queuedCal := lane }).raise (Fld.LNK_CAL_STAT_QUEUED p))
  else if s.rxMap p 2 = 3 ∨ (s.port p).standIn.isSome = true then
    (false, (s.raise (Fld.LNK_CAL_STAT_REFUSED p)).put (Fld.LNK_LANE_CFG_SWAP_ARM p) 0)
  else match (match lane with | some m => some m | none => s.oldestLane p) with
    | some m => (false, s.beginCal p m)
    | none => (false, s)

/-- The next lane of a SELFTEST of a port (R166): its calibration is requested; while one runs it is queued, or waits for the
end of the queued one. A refused request fails the test. -/
def State.selftestNext (s : State) (p : Nat) : State :=
  match (s.port p).selftest with
  | [] => s
  | m :: _ =>
    if (s.port p).calib.isSome && s.bit (Fld.LNK_CAL_STAT_QUEUED p) then s
    else
      let s := (s.requestCal p (some m)).2
      if (s.port p).calib.isSome then s else (s.selftestFail 0).setPort p { s.port p with selftest := [] }

/-- The calibration of a port is over, and a SELFTEST goes on with its next lane. -/
def State.endCal (s : State) (p : Nat) : State :=
  ((s.setPort p { s.port p with calib := none }).put (Fld.LNK_PORT_STAT_CAL_BUSY p) 0).selftestNext p

/-- SWAP_ARM (R166): the value written to LNK_LANE_CFG, which carries SWAP_ARM. -/
def doSwapArm (p : Nat) (v : Word) (s : State) : State :=
  if !(s.powered) then s
  else
    let s := ((s.put (Fld.LNK_LANE_CFG_FI_EN p) (wbits v 30 30)).put (Fld.LNK_LANE_CFG_FI_DELAY p) (wbits v 19 8)).put
      (Fld.LNK_LANE_CFG_DOWN_N p) (wbits v 7 0)
    let test := wbits v 29 29
    let s := if test = s.get (Fld.LNK_LANE_CFG_TEST p) then s
      else (s.put (Fld.LNK_LANE_CFG_TEST p) test).linkDown p (if test = 1 then 3 else 0)
    if wbits v 31 31 = 1 then ((s.raise (Fld.LNK_LANE_CFG_SWAP_ARM p)).requestCal p none).2 else s

/-- CALIBRATION_PERIOD (R166). -/
def doCalPeriod (p : Nat) (s : State) : State :=
  if s.running && s.get (Fld.LNK_CAL_CFG_PERIOD p) != 0 then (s.requestCal p none).2 else s

/-- CALIBRATION_QUEUED_START (R166): the queued request starts after the running calibration has ended. -/
def doCalQueued (p : Nat) (s : State) : State :=
  if s.running && s.bit (Fld.LNK_CAL_STAT_QUEUED p) && (s.port p).calib.isNone then
    let lane := (s.port p).queuedCal
    (((s.setPort p { s.port p with queuedCal := none }).put (Fld.LNK_CAL_STAT_QUEUED p) 0).requestCal p lane).2
  else s

/-- CAL_REQ (R167): as transmitter, the spare leaves deep park and sends PRBS-31; byte 2 of 1 abandons. -/
def doCalReq (p lane : Nat) (abandon : Bool) (s : State) : State :=
  if !(s.running) || !(s.linkUp p) then s
  else s.setPort p { s.port p with
    remoteCal := if abandon then none else some lane
    remoteAt := none
    remoteReady := false }

/-- CAL_READY goes out with byte 1 `byte`: from here on the swap of the lane's logical lane to `new` may come (R167, R168). -/
def State.announceMove (s : State) (p m new byte : Nat) : State :=
  let s := match s.rxLogical p m with
    | some k => s.setPort p { s.port p with move := some ⟨k, m, new, false⟩ }
    | none => s
  s.sendCtl p 0 5 [byte]

/-- SPARE_TRAINED (R167): as receiver, the spare has adapted and CAL_READY is sent. -/
def doSpareTrained (p : Nat) (s : State) : State :=
  if !(s.running) then s
  else match (s.port p).calib with
  | some c =>
    if s.get (Fld.LNK_CAL_STAT_STEP p) = 1 ∧ c.started = false then
      let s := ((s.setPort p { s.port p with calib := some { c with started := true } }).adapt p c.onto).raise
        (Fld.LNK_PHY_STAT_LOCK p c.onto)
      s.announceMove p c.lane c.onto c.lane
    else s
  | none => s

/-- CAL_READY (R167): the transmitter swaps at the next tick boundary. -/
def doCalReady (p : Nat) (s : State) : State :=
  if !(s.running) || (s.port p).remoteCal.isNone then s
  else s.setPort p { s.port p with remoteReady := true }

/-- CALIBRATION_SWAP_TICK (R167, R169, R170): LANE_SWAP ends the logical lane on the old physical lane, and the next codeword
goes on the spare; logical lane 1 leaves fast idle for it. A second swap takes the lane back and ends the pattern. A swap of
logical lane 0 clears the link's delay (R201). -/
def doCalSwap (p : Nat) (s : State) : State :=
  if !(s.running) || !((s.port p).remoteReady) then s
  else match (s.port p).remoteCal with
  | none => s
  | some m =>
    match s.txLogical p m with
    | none => s
    | some k =>
      let s := if k = 1 then s.wakeLane1 p else s
      let sp := s.txMap p 2
      let f := s.clk.fn.toNat
      let args := [k, f % 256, f / 256 % 256, f / 65536 % 256, f / 16777216]
      let s := (s.setTxOf p k { (s.port p).tx k with mark := some ⟨m, ctlBytes 2 args⟩ }).emit (.control p k ⟨2, args⟩)
      let s := (s.setTxMap p k sp).setTxMap p 2 m
      let back := (s.port p).remoteAt.isSome
      let s := s.setPort p { s.port p with
        remoteCal := if back then none else some sp
        remoteAt := if back then none else some s.clk.upNs
        remoteReady := false }
      if k = 0 then s.clearDelay p else s

/-- LANE_SWAP (R151, R153, R168): logical lane `k` ends on its physical lane and goes on on the trained spare. The marker of a
replay comes on the new lane. -/
def doLaneSwap (p m k : Nat) (s : State) : State :=
  let old := s.rxMap p k
  let again := match (s.port p).move with | some w => decide (w.lane = k) && decide (w.new = m) && !w.marked | none => false
  if !(s.running) || !(s.linkUp p) || s.rxMap p 2 == 3 || (old != m && !again) then s
  else
    let sp := s.rxMap p 2
    let sweep := match (s.port p).calib with | some c => decide (c.lane = old) | none => false
    let s := (s.setRxMap p k sp).setRxMap p 2 (if sweep then 3 else old)
    let s := (s.put (Fld.LNK_PHY_STAT_STATE p sp) 2).raise (Fld.LNK_PHY_STAT_LOCK p sp)
    let s := if sweep then (s.put (Fld.LNK_PHY_STAT_STATE p old) 1).put (Fld.LNK_CAL_STAT_STEP p) 2
      else s.setWord (Reg.LNK_PHY_STAT p old) 0
    let s := s.setPort p { s.port p with
      move := some ⟨k, old, sp, true⟩
      sweepAt := s.clk.upNs }
    let s := (if k = 0 then s.clearDelay p else s).noteLanes p
    match (s.port p).calib with
    | some c => if c.back then s.endCal p else s
    | none => s

/-- The sweep of 16 + 85 + 64 settings of 2^24 bits each has ended: LNK_CAL_STAT.STEP shows the verification (R167). -/
def State.sweepCheck (s : State) (p : Nat) : State :=
  if s.get (Fld.LNK_CAL_STAT_STEP p) = 2 ∧ 165 * 2 ^ 24 * 16 ≤ 425 * (s.clk.upNs - (s.port p).sweepAt) then
    s.put (Fld.LNK_CAL_STAT_STEP p) 3
  else s

/-- The index of the fewest errors among the given settings; the first on a tie (R167; assumption 118). -/
def fewest (l : List Nat) (idx : List Nat) : Option Nat :=
  idx.foldl (fun b i => match b with
    | none => some i
    | some j => if l.getD i 0 < l.getD j 0 then some i else some j) none

/-- The DFE word the sweep of taps 1 to 5 keeps: each tap within ±8 steps of its value, and within its six bits (R167). -/
def sweptTaps (dfe : Nat) (errs : List (List Nat)) : Nat :=
  (List.range 5).foldl (fun w t =>
    let v := signed 6 (bitsOf dfe (6 * t) 6)
    let l := errs.getD t []
    let ok := (List.range l.length).filter (fun (i : Nat) => decide (-32 ≤ v - 8 + (i : Int)) && decide (v - 8 + (i : Int) ≤ 31))
    match fewest l ok with
    | some i => setBits w (6 * t) 6 (unsigned 6 (v - 8 + (i : Int)))
    | none => w) dfe

/-- CALIBRATION_SWEEP_DONE (R167, R170): at each step the setting with the fewest PRBS errors is kept, and the errors of the
verification decide. -/
def doSweepDone (p : Nat) (ctle : List Nat) (dfe : List (List Nat)) (phase : List Nat) (errors : Nat) (s : State) : State :=
  if !(s.running) then s
  else match (s.port p).calib with
  | none => s
  | some c =>
    if s.get (Fld.LNK_CAL_STAT_STEP p) < 2 then s
    else
      let m := c.lane
      let s := match fewest ctle (List.range ctle.length) with | some i => s.put (Fld.LNK_PHY_EQ0_CTLE p m) i | none => s
      let s := s.put (Fld.LNK_PHY_EQ1_DFE p m) (sweptTaps (s.get (Fld.LNK_PHY_EQ1_DFE p m)) dfe)
      let s := match fewest phase (List.range phase.length) with | some i => s.put (Fld.LNK_PHY_EQ0_PHASE p m) i | none => s
      let done := (s.port p).selftest
      let rest := if done.head? = some m then done.tail else done
      let s := (s.setPort p { s.port p with selftest := rest }).put (Fld.LNK_CAL_STAT_STEP p) 0
      let s := (s.countWrap (Fld.LNK_CAL_STAT_COUNT p)).raise (Fld.LNK_INT_CAL_DONE p)
      if errors ≤ s.get (Fld.LNK_CAL_CFG_RETIRE_THR p) then
        let s := ((s.setRxMap p 2 m).setWord (Reg.LNK_PHY_STAT p m) 0).noteLanes p
        -- how the neighbour learns that the lane is to be swapped back is not given: CAL_READY again (assumption 41); no other
        -- calibration starts before the lane is back
        if s.bit (Fld.LNK_CAL_CFG_RETURN p) then
          (s.setPort p { s.port p with calib := some { c with back := true } }).announceMove p c.onto m m
        else s.endCal p
      -- the neighbour's map must not keep the retired lane as its spare (R151)
      else
        let s := ((s.setPort p { s.port p with calib := none }).selftestFail 0).retirePhy p m c.onto
        (s.tellMap p).endCal p

/-! ### The packet stream (R150) -/

/-- A RESYNC of logical lane `k` (R150, R163): the partial packet is discarded and a forwarding node passes the RESYNC
on. -/
def State.takeResync (s : State) (p k reason : Nat) : State :=
  let r := (s.port p).rx k
  let part := !r.packet.isEmpty
  let s := if part then s.count (Fld.LNK_DROPCNT_PARTIAL p) else s
  let s := s.setRxOf p k { r with
    packet := []
    padding := false
    nacked := false
    nackDue := false
    anySeq := true
    gapOk := decide (reason ≤ 1)
    seqE := if reason = 2 then none else r.seqE }
  if part && decide (reason ≤ 1) && decide (8 ≤ r.packet.length) then
    let b (i : Nat) : Nat := (r.packet.getD i 0).toNat
    let dest : NodeId := BitVec.ofNat 16 ((b 0 % 16) * 4096 + b 1 * 16 + b 2 / 16)
    if dest = 0 ∨ dest = s.nodeId then s
    else if dest = 0xFFFF then
      if s.role = .head then s else forEach (s.floodPorts (some p)) (fun q s => s.passResync q k) s
    else match s.outPort dest (some p) with
      | some q => s.passResync q k
      | none => s
  else s

/-- RESYNC (R150). -/
def doResync (p k reason : Nat) (s : State) : State :=
  if !(s.running) || !(s.linkUp p) then s else s.takeResync p k reason

/-- One byte of the packet stream of a lane. A packet that is complete leaves the stream: its own row carries it. -/
def LaneRx.feed (r : LaneRx) (b : Byte) : LaneRx :=
  if r.padding then r
  else if r.packet.isEmpty && decide (b.toNat / 16 = 0) then { r with padding := true }
  else
    let l := r.packet ++ [b]
    let at_ (i : Nat) : Nat := (l.getD i 0).toNat
    let r := if l.length = 3 then { r with dest := BitVec.ofNat 16 (at_ 0 % 16 * 4096 + at_ 1 * 16 + at_ 2 / 16) } else r
    let len := (l.getD 4 0).toNat % 16 * 256 + (l.getD 5 0).toNat
    if 8 ≤ l.length ∧ l.length = 12 + 4 * len then { r with packet := [] } else { r with packet := l }

/-- An outgoing logical lane takes nothing forwarded now: its last header carried HOLD, or a replay is under way (R155, R156). -/
def State.laneHeld (s : State) (q k : Nat) : Bool :=
  let t := (s.port q).tx (s.txLane q k)
  t.hold || !t.resend.isEmpty

/-- Whether the drain of receiving logical lane `k` is held: on the route of the packet last begun there (R154 to R156, R183). -/
def State.blockedDrain (s : State) (p k : Nat) : Bool :=
  let d := ((s.port p).rx k).dest
  if d = 0 ∨ d = s.nodeId then false
  else if d = 0xFFFF then decide (s.role ≠ .head) && (s.floodPorts (some p)).any (fun q => s.laneHeld q k)
  else match s.outPort d (some p) with
    | some q => s.laneHeld q k
    | none => false

/-- A slot passes at the elastic buffer: `b` comes in, when it is kept, and a block leaves unless the drains are held or the
buffer is filled up to a depth of 2, while a FILL goes out in its place (R154). A FILL that finds more than 4 blocks is
deleted. -/
def LaneRx.slot (r : LaneRx) (blocked : Bool) (b : Option (List Byte)) : LaneRx :=
  let l := match b with
    | some [] => if 4 < r.elastic.length then r.elastic else r.elastic ++ [[]]
    | some x => if r.elastic.length < 64 then r.elastic ++ [x] else r.elastic
    | none => r.elastic
  let l := if blocked || decide (l.length ≤ 2) then l else l.drop 1
  { r with
    elastic := l
    holdOut := if 16 < l.length then true else if l.length < 8 then false else r.holdOut }

/-- A block of logical lane `k` passes the elastic buffer; a control block other than FILL is taken out (R149). -/
def State.elasticSlot (s : State) (p k : Nat) (b : Option (List Byte)) : State :=
  s.setRxOf p k (((s.port p).rx k).slot (s.blockedDrain p k) b)

/-- A data block of logical lane `k` (R150, R154, R155). -/
def State.dataBlock (s : State) (p k : Nat) (bytes : List Byte) : State :=
  let r := (s.port p).rx k
  (s.setRxOf p k (bytes.foldl LaneRx.feed { r with padding := false })).elasticSlot p k (some bytes)

/-- IDLE_ENTER (R157): receiving logical lane 1 is in fast idle. -/
def doIdleEnter (p : Nat) (s : State) : State :=
  if !(s.running) || !(s.linkUp p) || s.rxMap p 1 == 3 then s
  else (s.setPort p { s.port p with rxIdle1 := true }).put (Fld.LNK_PHY_STAT_STATE p (s.rxMap p 1)) 3

/-- A little-endian value of `n` bytes of a block, from byte `i` on. -/
def blockLe (bytes : List Byte) (i n : Nat) : Nat :=
  match n with
  | 0 => 0
  | n + 1 => (bytes.getD i 0).toNat + 256 * blockLe bytes (i + 1) n

/-- A control block received on physical lane `m`, logical lane `k` (R149): one with an unassigned code is a FILL besides being
counted. -/
def State.ctlBlock (s : State) (p m k : Nat) (bytes : List Byte) : State :=
  let b (i : Nat) : Nat := (bytes.getD i 0).toNat
  match b 0 with
  | 0 => s.elasticSlot p k (some [])
  | 1 => (s.takeResync p k (b 1)).elasticSlot p k none
  | 2 => (doLaneSwap p m (b 1) s).elasticSlot p k none
  | 3 => (doIdleEnter p s).elasticSlot p k none
  | 4 => (doCalReq p (b 1) (b 2 == 1) s).elasticSlot p k none
  | 5 => (doCalReady p s).elasticSlot p k none
  | 6 => (s.takeHello p (b 1) (BitVec.ofNat 3 (b 2)) (b 3 % 64) (blockLe bytes 4 2) (wd (blockLe bytes 6 4))).elasticSlot p k none
  | _ => (s.count (Fld.LNK_DROPCNT_BADCTL p)).elasticSlot p k (some [])

/-! ### Codewords and retry (R146 to R149, R161 to R165) -/

/-- Fields of a codeword header (*Table — Codeword header*). -/
def cwField (c : CwDec) (hi lo : Nat) : Nat := bitsOf c.header.toNat lo (hi + 1 - lo)

/-- Block `j` is a control block. -/
def cwIsCtl (c : CwDec) (j : Nat) : Bool := bitsOf c.header.toNat (111 - j) 1 != 0

/-- Frees the codewords of a replay buffer up to an acknowledged one, compared within ±2^15 (R162). -/
def LaneTx.ack (t : LaneTx) (a : BitVec 16) : LaneTx :=
  { t with buf := t.buf.filter (fun c => decide (1 ≤ (c.cwseq - a).toNat) && decide ((c.cwseq - a).toNat < 2 ^ 15)) }

/-- A replay of `n` codewords ends in time for a packet shown at `t` (R163). -/
def State.replayInTime (s : State) (p n : Nat) (t : Word) : Bool :=
  let left := signed 32 (t - s.clk.dtime - wd (4000 + 1000 * s.get (Fld.LNK_RETRY_MARGIN p))).toNat
  decide (((13553 * n : Nat) : Int) ≤ 100 * left)

/-- The codewords from `a` + 1 on, `n` of them, as they were sent: one that is not in the buffer held FILL alone. -/
def LaneTx.replaySet (t : LaneTx) (a : BitVec 16) (n : Nat) : List TxCw :=
  (List.range n).map (fun i =>
    let q := a + 1 + BitVec.ofNat 16 i
    match t.buf.find? (fun c => decide (c.cwseq = q)) with
    | some c => c
    | none => ⟨q, [], BitVec.ofNat 13 (2 ^ 13 - 1), List.replicate 13 fillBlock⟩)

/-- A NACK of logical lane `k` of this node's transmit direction (R163, R164): the set from ACK + 1 to the newest codeword sent
goes out again, or is refused; an empty set asks for nothing. The buffer of 128 KiB holds the last 304 codewords. -/
def State.takeNack (s : State) (p k : Nat) (a : BitVec 16) : State :=
  let t := (s.port p).tx k
  let n := (t.cwseq - 1 - a).toNat
  let times := t.buf.flatMap (fun c => c.pkts.filterMap (fun (g : PktTag) => g.tshow))
  if n = 0 ∨ 2 ^ 15 ≤ n then s
  else if s.bit (Fld.LNK_RETRY_EN p) && decide (s.get (Fld.LNK_RETRY_RTT_NS p) ≤ 40000) && decide (n ≤ 304) &&
      times.all (s.replayInTime p n) then
    ((s.setTxOf p k { t with resend := t.replaySet a n }).count (Fld.LNK_RETRYCNT_REPLAY p)).tallyOf 0x004 1 p
  else
    (s.sendCtl p k 1 [0]).dropUnacked p k

/-- ACK, NACK and HOLD of a header, for both logical lanes (R147, R155, R162). -/
def State.takeHeader (s : State) (p : Nat) (c : CwDec) : State :=
  let a0 : BitVec 16 := BitVec.ofNat 16 (cwField c 78 63)
  let a1 : BitVec 16 := BitVec.ofNat 16 (cwField c 62 47)
  let h0 := decide (cwField c 44 44 = 1)
  let h1 := decide (cwField c 43 43 = 1)
  let q := s.port p
  let s := s.setPort p { q with tx0 := { q.tx0.ack a0 with hold := h0 }, tx1 := { q.tx1.ack a1 with hold := h1 } }
  let s := s.putBit (Fld.LNK_PORT_STAT_HELD p) (h0 || h1)
  let s := if cwField c 46 46 = 1 then s.takeNack p 0 a0 else s
  if cwField c 45 45 = 1 then s.takeNack p 1 a1 else s

/-- While a swap of logical lane `k` is announced or its last codewords may still come, codewords of the lane come on either
of two physical lanes (R153, R168). -/
def PortSt.onEither (q : PortSt) (k m : Nat) : Bool :=
  match q.move with
  | some w => decide (w.lane = k) && (decide (w.new = m) || decide (w.old = m))
  | none => false

/-- ROLE or KIND contradicts the lane's state (R147, R160, R168). On a link that is up traffic comes on the lane that carries it,
and training or test, which has ROLE 2, on a lane that carries none, or on one whose traffic has not begun yet; a port in
training has no traffic. -/
def State.contradicts (s : State) (p m : Nat) (c : CwDec) : Bool :=
  let role := cwField c 82 81
  let kind := cwField c 80 79
  let carried := s.rxLogical p m
  decide (role = 3) ||
    (if !(s.linkUp p) then decide (kind ≤ 1) || decide (role ≠ 2)
    else if kind ≤ 1 then
      decide (role = 2) && carried.isSome ||
        decide (role ≤ 1) && !(decide (carried = some role) || (s.port p).onEither role m)
    else decide (role ≠ 2) || (match carried with
      | some k => decide (kind = 2) || ((s.port p).rx k).opened
      | none => false))

/-- The logical lane whose codewords physical lane `m` brings: by the map, or as the new lane of a swap under way (R168). -/
def State.rxCarries (s : State) (p m : Nat) : Option Nat :=
  match s.rxLogical p m, (s.port p).move with
  | some k, _ => some k
  | none, some w => if w.new = m ∨ w.old = m then some w.lane else none
  | none, none => none

/-- An uncorrectable codeword on physical lane `m` (R161, R162). -/
def State.badCodeword (s : State) (p m : Nat) : State :=
  let s := (s.count (Fld.LNK_PHY_ERR_UNCORR p m)).tallyOf 0x002 1 p
  let ph := (s.port p).phy m
  let n := ph.badRun + 1
  let s := s.setPhyOf p m { ph with badRun := n, goodRun := 0 }
  let s := if max 1 (s.get (Fld.LNK_LANE_CFG_DOWN_N p)) ≤ n ∧ (s.rxLogical p m).isSome = true then
      (s.put (Fld.LNK_PHY_STAT_STATE p m) 5).put (Fld.LNK_PHY_STAT_ALIGN p m) 0
    else s
  match s.rxCarries p m with
  | some k =>
    let r := (s.port p).rx k
    if r.nacked || !(s.linkUp p) then s else s.setRxOf p k { r with nacked := true, nackDue := true, early := [] }
  | none => s

/-- The blocks of a codeword taken in order, on logical lane `k`. -/
def State.takeBlocks (s : State) (p m k : Nat) (c : CwDec) (j : Nat) (l : List (List Byte)) : State :=
  match l with
  | [] => s
  | b :: t =>
    let s := if cwIsCtl c j then s.ctlBlock p m k b else s.dataBlock p k b
    State.takeBlocks s p m k c (j + 1) t

/-- A codeword that carries a RESYNC block. -/
def cwResyncs (c : CwDec) : Bool :=
  (List.range 13).any (fun j => cwIsCtl c j && decide (((c.blocks.getD j []).getD 0 0).toNat = 1))

/-- The control blocks of a codeword that carries no logical lane (R149, R160): HELLO is taken from training, an unassigned code
is counted, and the rest have no lane to act on. -/
def State.takeOther (s : State) (p : Nat) (c : CwDec) : State :=
  forEach ((List.range 13).filter (fun j => cwIsCtl c j)) (fun j s =>
    let b := c.blocks.getD j []
    let code := (b.getD 0 0).toNat
    if 6 < code then s.count (Fld.LNK_DROPCNT_BADCTL p)
    else if code = 6 ∧ cwField c 80 79 = 3 then
      s.takeHello p (blockLe b 1 1) (BitVec.ofNat 3 (blockLe b 2 1)) (blockLe b 3 1 % 64) (blockLe b 4 2) (wd (blockLe b 6 4))
    else if code = 4 ∧ s.linkUp p then doCalReq p (blockLe b 1 1) (blockLe b 2 1 == 1) s
    else s) s

/-- The codeword next in order of logical lane `k`, received on physical lane `m` (R150, R162, R168). The swap of a lane is over
once a codeword came in order on the new one. -/
def State.takeCw (s : State) (p m k : Nat) (c : CwDec) : State :=
  let r := (s.port p).rx k
  let q : BitVec 16 := BitVec.ofNat 16 (cwField c 98 83)
  let s := s.setRxOf p k { r with
    expect := q + 1
    nacked := false
    nackDue := false
    opened := true
    marks := ((q, r.packet) :: r.marks.filter (fun e => decide (e.1 ≠ q))).take 304
    anySeq := false }
  let s := match (s.port p).move with
    | some w => if w.marked ∧ w.lane = k ∧ w.new = m then s.setPort p { s.port p with move := none } else s
    | none => s
  let s := s.takeBlocks p m k c 0 c.blocks
  s.setRxOf p k { (s.port p).rx k with anySeq := false }

/-- The codewords that came early on the new lane follow the one now taken, as far as they are next in order. -/
def State.takeEarly (s : State) (p k : Nat) (l : List CwDec) : State :=
  match l with
  | [] => s
  | c :: t =>
    let q : BitVec 16 := BitVec.ofNat 16 (cwField c 98 83)
    if q = ((s.port p).rx k).expect then (s.takeCw p (s.rxMap p k) k c).takeEarly p k t else s.takeEarly p k t

/-- A correct codeword of logical lane `k` on physical lane `m` (R153, R162, R168): the next in order is taken; one that runs
ahead on the new lane of a swap, within the skew of 16 blocks, waits for those before it; after a gap the others are
discarded and one NACK is sent. -/
def State.orderCw (s : State) (p m k : Nat) (c : CwDec) : State :=
  let r := (s.port p).rx k
  let q : BitVec 16 := BitVec.ofNat 16 (cwField c 98 83)
  let ahead := match (s.port p).move with | some w => decide (w.lane = k) && decide (w.new = m) && !w.marked | none => false
  if q = r.expect ∨ r.anySeq = true ∨ cwResyncs c = true then
    let l := r.early
    let s := s.setRxOf p k { r with early := [] }
    (s.takeCw p m k c).takeEarly p k l
  else if (q - r.expect).toNat < 2 ^ 15 ∧ r.nacked = false then
    if ahead = true ∧ (q - r.expect).toNat ≤ 2 then s.setRxOf p k { r with early := r.early ++ [c] }
    else (s.setRxOf p k { r with nacked := true, early := [] }).sendNack p k (r.expect - 1)
  else s

/-- A correct codeword's effect on the receiver of physical lane `m` (R146, R160, R161, R165): corrected symbols are counted, a
realigning lane is active again, and eight correct ones in a row align a lane in training. -/
def State.goodCodeword (s : State) (p m fixed : Nat) : State :=
  let ph := (s.port p).phy m
  let s := (s.setPhyOf p m { ph with badRun := 0, goodRun := ph.goodRun + 1, corr := ph.corr + fixed }).tallyOf 0x001 1 p fixed
  match s.get (Fld.LNK_PHY_STAT_STATE p m) with
  | 5 => (s.put (Fld.LNK_PHY_STAT_STATE p m) 2).put (Fld.LNK_PHY_STAT_ALIGN p m) 1
  | 2 => s.raise (Fld.LNK_PHY_STAT_ALIGN p m)
  | 1 => if 8 ≤ ph.goodRun + 1 then s.raise (Fld.LNK_PHY_STAT_ALIGN p m) else s
  | _ => s

/-- A NACK that was due goes out with the first header after a correct codeword on that physical lane, or on the other lane of
a swap under way (R162, R168). -/
def State.nackNow (s : State) (p m : Nat) : State :=
  match s.rxCarries p m with
  | some k =>
    let r := (s.port p).rx k
    if r.nackDue then (s.setRxOf p k { r with nackDue := false }).sendNack p k (r.expect - 1) else s
  | none => s

/-- A codeword that was decoded and does not contradict the lane's state. -/
def State.takeCodeword (s : State) (p m : Nat) (c : CwDec) : State :=
  let s := ((s.goodCodeword p m c.fixed).takeHeader p c).nackNow p m
  let role := cwField c 82 81
  (if 2 ≤ cwField c 80 79 ∨ 2 ≤ role then s.takeOther p c else s.orderCw p m role c).tryLinkUp p

/-- CODEWORD_RECEIVED (R146 to R149, R153 to R155, R161 to R165, R168). -/
def doCodeword (p m : Nat) (w : Codeword) (s : State) : State :=
  let st := s.get (Fld.LNK_PORT_STAT_STATE p)
  if !(s.portsOn) || (st != 1 && st != 2) || ((s.port p).phy m).retired then s
  else
    let s := s.tallyOf 0x000 1 p
    match cwDecode w with
    | none => s.badCodeword p m
    | some c => if s.contradicts p m c then s.badCodeword p m else s.takeCodeword p m c

/-- NACK_RESEND_TIMEOUT (R162): 2 × RTT_NS + 1 µs after a NACK. -/
def doNackResend (p k : Nat) (s : State) : State :=
  let r := (s.port p).rx k
  if s.running && s.linkUp p && r.nacked && !r.nackDue then s.sendNack p k (r.expect - 1) else s

/-! ### Fast idle and deep park (R157 to R159) -/

/-- FAST_IDLE_ENTRY (R157): FI_DELAY has passed with nothing queued and every codeword with content acknowledged. IDLE_ENTER
goes out, and that codeword is the last. -/
def doFastIdleEntry (p : Nat) (s : State) : State :=
  let t := (s.port p).tx1
  if !(s.running) || !(s.linkUp p) || !(s.bit (Fld.LNK_LANE_CFG_FI_EN p)) || s.txMap p 1 == 3 || !t.buf.isEmpty || !t.queue.isEmpty ||
      t.part.isSome || t.ready || s.bit (Fld.LNK_PORT_STAT_L1_IDLE p) then s
  else (((s.sendCtl p 1 3 []).nextCw p 1).raise (Fld.LNK_PORT_STAT_L1_IDLE p)).tallyOf 0x009 1 p

/-- FAST_IDLE_EXIT (R157): data is queued for the idle lane. -/
def doFastIdleExit (p : Nat) (s : State) : State :=
  let t := (s.port p).tx1
  if s.running && (!t.queue.isEmpty || t.ready) then s.wakeLane1 p else s

/-- FAST_IDLE_WAKE (R158): what a receiver in fast idle saw. -/
def doFastIdleWake (p : Nat) (burst ok : Bool) (s : State) : State :=
  if !(s.running) || !(s.linkUp p) || !(s.port p).rxIdle1 then s
  else if burst && ok then
    let s := (s.setPort p { s.port p with rxIdle1 := false }).put (Fld.LNK_PHY_STAT_STATE p (s.rxMap p 1)) 2
    forEach ((List.range 4).filter (fun q => decide (q ≠ p))) (fun q s => s.wakeLane1 q) s
  else s.count (Fld.LNK_DROPCNT_FALSEWAKE p)

/-! ### Tests (R173, R174) -/

/-- A generator or checker may run on lane `m` of a port in a direction: the spare or a lane under sweep of a link that is up, or
any lane of a port in test (R173). -/
def State.laneFree (s : State) (p m : Nat) (tx : Bool) : Bool :=
  s.bit (Fld.LNK_LANE_CFG_TEST p) || (s.linkUp p && (if tx then (s.txLogical p m).isNone else (s.rxLogical p m).isNone))

/-- Lane `m` of a port carries traffic in a direction. -/
def State.laneBusy (s : State) (p m : Nat) (tx : Bool) : Bool :=
  s.linkUp p && (if tx then (s.txLogical p m).isSome else (s.rxLogical p m).isSome)

/-- A generator or checker of physical lane `m` runs: enabled, with a pattern, on a lane that allows it (R173). -/
def State.prbsRuns (s : State) (p m : Nat) (tx : Bool) : Bool :=
  decide (s.get (Fld.LNK_PHY_PRBS_PAT p m) ≠ 0) && s.laneFree p m tx &&
    (if tx then s.bit (Fld.LNK_PHY_PRBS_TXEN p m) else s.bit (Fld.LNK_PHY_PRBS_RXEN p m))

/-- What a running checker counts is not given: a free value (R173; assumption 5). -/
def State.prbsCount (s : State) (p m : Nat) : State :=
  if s.prbsRuns p m false then
    let n := s.free
    ({ s with free := n + 1 }).count (Fld.LNK_PHY_PRBSERR_COUNT p m) (Config.prbsErrors n)
  else s

/-- LNK_PHY_STAT.STATE 4 shows a lane under test; it is in deep park again when the test ends (R159, R173). -/
def State.showTest (s : State) (p m : Nat) : State :=
  let st := s.get (Fld.LNK_PHY_STAT_STATE p m)
  if s.prbsRuns p m true || s.prbsRuns p m false then (if st = 0 then s.put (Fld.LNK_PHY_STAT_STATE p m) 4 else s)
  else if st = 4 then s.put (Fld.LNK_PHY_STAT_STATE p m) 0 else s

/-- LNK_PRBS_START (R173): the value written to LNK_PHY_PRBS. -/
def doPrbs (p m : Nat) (v : Word) (s : State) : State :=
  if !(s.powered) then s
  else
    let s := if wbits v 31 31 = 1 then s.put (Fld.LNK_PHY_PRBS_ERR p m) 0 else s
    let on := decide (wbits v 5 4 ≠ 0)
    let tx := on && decide (wbits v 0 0 = 1)
    let rx := on && decide (wbits v 1 1 = 1)
    if tx && s.laneBusy p m true || rx && s.laneBusy p m false then s.raise (Fld.LNK_PHY_PRBS_ERR p m)
    else
      let s := ((s.put (Fld.LNK_PHY_PRBS_PAT p m) (wbits v 5 4)).put (Fld.LNK_PHY_PRBS_RXEN p m) (wbits v 1 1)).put
        (Fld.LNK_PHY_PRBS_TXEN p m) (wbits v 0 0)
      (s.prbsCount p m).showTest p m

/-- The dwell of an eye measurement: values outside 10 to 36 act as 20 (LNK_PHY_EYE_CTL). -/
def eyeDwell (d : Nat) : Nat := if d < 10 ∨ 36 < d then 20 else d

/-- EYE_SCAN_START (R174): the value written to LNK_PHY_EYE_CTL and the disagreements that one measurement counts. -/
def doEye (p m : Nat) (v : Word) (n : Nat) (s : State) : State :=
  if !(s.powered) then s
  else
    let s := ((s.put (Fld.LNK_PHY_EYE_CTL_VOFS p m) (wbits v 23 16)).put (Fld.LNK_PHY_EYE_CTL_POFS p m) (wbits v 14 8)).put
      (Fld.LNK_PHY_EYE_CTL_DWELL p m) (wbits v 5 0)
    if wbits v 31 31 = 1 then s.setWord (Reg.LNK_PHY_EYE_RES p m) (wd (min (min n (2 ^ eyeDwell (wbits v 5 0))) 0xFFFFFFFF)) else s

/-! ### The tick -/

/-- Coppice's trend of a lane: an hour of its CORR_TICK is over (R389); consecutive hours (assumption 43). The recovery
role has no Coppice (R4). -/
def State.laneTrend (s : State) (p m c : Nat) : State :=
  let ph := (s.port p).phy m
  let ns := ph.hourNs + s.tickInt
  let sum := ph.hourSum + c
  let num := ph.hourNum + 1
  if ns < 3600000000000 then s.setPhyOf p m { ph with hourNs := ns, hourSum := sum, hourNum := num }
  else
    let s' := s.setPhyOf p m { ph with
      hourNs := 0
      hourSum := 0
      hourNum := 0
      first := match ph.first with | some f => some f | none => some (sum, num) }
    match ph.first with
    | none => s'
    | some (fs, fnum) =>
      let t := s.get Fld.CPC_CFG_LANE_TREND
      if t ≠ 0 ∧ t * fs * num < sum * fnum ∧ !(s.cpcWait.any (fun e => decide (e.1 = 1))) then
        if s'.rxMap p 2 = 3 then (s'.requestCal p (some m)).2.cpcWear
        else
          let (busy, s') := s'.requestCal p (some m)
          if busy then { s' with cpcWait := s'.cpcWait ++ [(1, p)] } else s'
      else s'

/-- A port at a tick start (R165, R166): CORR_TICK takes the corrected symbols of the tick that ended. -/
def State.lanesTick (s : State) (p : Nat) : State :=
  let s := forEach [0, 1, 2] (fun m s =>
    let ph := (s.port p).phy m
    let c := min ph.corr 65535
    let s := (s.setPhyOf p m { ph with corr := 0 }).put (Fld.LNK_PHY_ERR_CORR_TICK p m) c
    if (s.rxLogical p m).isSome && s.linkUp p && decide (s.actingRole ≠ .recovery) then s.laneTrend p m c else s) s
  let s := forEach [0, 1, 2] (fun m s => (s.prbsCount p m).showTest p m) s
  let trig := s.get (Fld.LNK_CAL_CFG_TRIG_CORR p)
  if trig ≠ 0 ∧ (List.range 3).any (fun m => (s.rxLogical p m).isSome && decide (256 * trig < s.get (Fld.LNK_PHY_ERR_CORR_TICK p m))) = true ∧
      s.linkUp p = true then (s.requestCal p none).2
  else s

/-- Lane retirements held in MRAM come back at BOOT (R170). -/
def State.restoreLanes (s : State) : State :=
  forEach (List.range 4) (fun p s => forEach [0, 1, 2] (fun m s =>
    if s.saved.retiredLanes.getLsbD (3 * p + m) then
      (s.setPhyOf p m { (s.port p).phy m with retired := true }).setWord (Reg.LNK_PHY_STAT p m) (wd (7 * 16))
    else s) s) s

end Sys2Proof.Machine
end

