-- ==== Sys2Proof/Machine/Memory.lean ====
section
/-! DEFINITION. SRAM banks and their in-service self-test (R332 to R340), and the DRAM controller of a head (R341 to
R350). -/

namespace Sys2Proof.Machine

/-! ### Worlds (R369) -/

/-- An access is made in the secure world (R369): Quill in secure mode, or client 0 (LOCAL commands included). -/
def pathSecure : Path → Bool
  | .quill b => b
  | .poke c => c == 0
  | _ => false

/-- A path by which accesses reach this node: the PCI Express balls are ignored in a role that does not use them (R33). -/
def State.pathOpen (s : State) : Path → Bool
  | .host => s.role.uses .pcie || s.actingRole.uses .pcie
  | _ => true

/-- An access over the test access port is made with JTAG_TRST_N high (R32; assumption 135). -/
def State.portUsed (s : State) : Path → State
  | .jtag => { s with pwr := { s.pwr with tapReset := false } }
  | _ => s

/-- An access over a path, when the path reaches the node. -/
def State.viaPath (s : State) (path : Path) (f : State → State) : State :=
  if s.pathOpen path then f (s.portUsed path) else s

/-! ### SRAM banks -/

/-- Keeps the map and the spare in MRAM (R340). -/
def State.saveBanks (s : State) (spare : Option Nat) : State :=
  { s with saved := { s.saved with bankMap := (List.range 16).map s.physBank, spare := spare } }

/-- Restores the map and the spare at BOOT (R340). -/
def State.restoreBanks (s : State) : State :=
  if s.saved.bankMap = [] then s
  else
    let s := forEach (List.range 16) (fun n s => s.setPhysBank n (s.saved.bankMap.getD n n)) s
    match s.saved.spare with
    | some b => (s.put Fld.MEM_SPARE_PHYS b).put Fld.MEM_SPARE_VALID 1
    | none => (s.put Fld.MEM_SPARE_VALID 0).put Fld.MEM_STAT_NOSPARE 1

/-- *Table — Default bank map*: owner of bank `n` in a role. -/
def defaultOwner (r : Role) (n : Nat) : Nat :=
  match r with
  | .head => [1, 1, 1, 1, 2, 2, 3, 3, 4, 5, 6, 7, 2, 8, 9, 10].getD n 0
  | .tile => [11, 11, 11, 7, 11, 5, 0, 0, 0, 0, 0, 0, 0, 8, 0, 0].getD n 0
  | .branch => [0, 0, 0, 0, 0, 5, 0, 0, 0, 0, 0, 0, 0, 8, 0, 0].getD n 0
  | .recovery => 0

/-- Firmware sets the default map at BOOT; each new owner takes effect at the next tick (R333). -/
def State.loadBanks (s : State) : State :=
  forEach (List.range 16) (fun n s => s.pend (Reg.MEM_BANK_OWNER n) 15 (wd (defaultOwner s.role n))) s

/-- A change of owner has taken effect at a tick (R333): from NONE to another value the bank is being cleared; to NONE it
is powered down. -/
def State.ownerChanged (s : State) (n old : Nat) : State :=
  let new := s.bankOwner n
  let o := if 12 ≤ old then 0 else old
  let rest := s.mem.clearing.filter (fun q => decide (q.1 ≠ n))
  if o = 0 ∧ new ≠ 0 then (s.bankWiped n).clearing ((n, s.clk.dtime + wd 40000) :: rest)
  else if new = 0 then (s.bankWiped n).clearing rest
  else s

/-- BANK_CLEAR_DONE (R337). -/
def doBankClear (n : Nat) (s : State) : State :=
  s.clearing (s.mem.clearing.filter (fun q => decide (q.1 ≠ n)))

/-- SRAM_CLEAR_DONE (R336): the clear of every bank on entry into BOOT ends. -/
def doSramClear (s : State) : State :=
  if s.pwr.state = .boot ∧ s.bit Fld.MEM_STAT_CLEARED = false ∧ s.pwr.bootWait = false then
    let s := (s.raise Fld.MEM_STAT_CLEARED).setWord Reg.MEM_COLL 0
    let s := forEach (List.range 16) (fun n s => s.setWord (Reg.MEM_ECC n) 0) s
    { s with mem := { s.mem with upsets := [], poison := [], clearing := [] } }
  else s

/-! ### Self-test (R338 to R340) -/

/-- MEM_BIST_STAT.STEP as read: the clear of the spare takes 40 µs, then the copy runs. -/
def State.bistStep (s : State) : Nat :=
  let v := s.get Fld.MEM_BIST_STAT_STEP
  if v = 1 && s.passed (s.mem.testAt + wd 40000) then 2 else v

/-- MEM_BIST_START: the value written to MEM_BIST_CTL. -/
def doBistStart (v : Word) (path : Path) (s : State) : State :=
  if !(s.running) then s
  else
    let s := s.put Fld.MEM_BIST_CTL_BANK (wbits v 3 0)
    if wbits v 31 31 = 1 then (s.startTest (wbits v 3 0) (pathSecure path)).2 else s

/-- The next bank of SELFTEST (R338): a bank whose test is refused counts as failed. -/
def State.testNext (s : State) (l : List Nat) : State :=
  match l with
  | [] => { s with mem := { s.mem with queue := [] } }
  | n :: t =>
    let (ok, s) := s.startTest n true
    if ok then { s with mem := { s.mem with queue := t } }
    else (s.selftestFail 1).testNext t

/-- BIST_COPY_DONE (R335, R338, R339): the copy engine has read every word of the bank, `errors` being those it found
wrong, and the copy awaits the tick boundary. -/
def doBistCopy (errors : List SramError) (s : State) : State :=
  match s.mem.test with
  | none => s
  | some n =>
    if s.get Fld.MEM_BIST_STAT_STEP = 1 ∨ s.get Fld.MEM_BIST_STAT_STEP = 2 then
      (forEach errors (fun e s => s.sramError n e) (s.readBank n)).put Fld.MEM_BIST_STAT_STEP 3
    else s

/-- BANK_MAP_SWITCH (R338): the logical bank reads from the spare from this tick boundary. MEM_SPARE.PHYS then names the
released bank. -/
def doBankSwitch (s : State) : State :=
  match s.mem.test with
  | none => s
  | some n =>
    if s.get Fld.MEM_BIST_STAT_STEP = 3 then
      let old := s.physBank n
      let spare := s.get Fld.MEM_SPARE_PHYS
      -- the spare holds exactly the contents of the bank, and the released bank none (R339)
      let s := { s with mem := { s.mem with
        poison := s.mem.poison.map (fun (e : Nat × BitVec 17) => if e.1 = old then (spare, e.2) else e) } }
      let s := s.setPhysBank n spare
      let s := (s.put Fld.MEM_SPARE_PHYS old).put Fld.MEM_BIST_STAT_STEP 4
      s.saveBanks (some old)
    else s

/-- BIST_DONE (R340). A bank that was not moved and fails is replaced by the spare (assumption 62). -/
def doBistDone (passed : Bool) (s : State) : State :=
  match s.mem.test with
  | none => s
  | some n =>
    if s.get Fld.MEM_BIST_STAT_STEP ≠ 4 then s
    else
      let bank := if s.mem.moved then s.get Fld.MEM_SPARE_PHYS else s.physBank n
      let by_ := if s.mem.moved then s.physBank n else s.get Fld.MEM_SPARE_PHYS
      let s := (s.put Fld.MEM_BIST_STAT_STEP 0).put Fld.MEM_STAT_BIST_BUSY 0
      let s := ((s.countWrap Fld.MEM_BIST_STAT_COUNT).putBit Fld.MEM_BIST_STAT_FAIL (!passed)).raise Fld.MEM_INT_BIST_DONE
      let queue := s.mem.queue
      let s := { s with mem := { s.mem with test := none, moved := false } }
      let s := if passed then (s.put Fld.MEM_SPARE_VALID 1).saveBanks (some (s.get Fld.MEM_SPARE_PHYS))
        else
          let s := ((s.setPhysBank n by_).put Fld.MEM_SPARE_VALID 0).put Fld.MEM_SPARE_PHYS bank
          let s := (s.saveBanks none).raise Fld.MEM_STAT_NOSPARE
          let s := (s.raise Fld.MEM_INT_RETIRED).logBlot blkMEM 2 clsDEGRADED bank
          (s.cpcLog 2 n bank by_ 0 true).selftestFail 1
      if queue = [] then s else s.testNext queue

/-- COPPICE_RETRY (R390): a request of the kind refused for a busy unit is made again; the lower unit goes first. -/
def doCoppiceRetry (kind : Nat) (s : State) : State :=
  if s.actingRole = .recovery then s
  else
  let mine := (s.cpcWait.filter (fun e => decide (e.1 = kind))).map (·.2)
  match mine with
  | [] => s
  | u :: t =>
    let u := t.foldl min u
    let rest := s.cpcWait.filter (fun e => decide (e ≠ (kind, u)))
    if kind = 1 then
      let (busy, s') := s.requestCal u none
      if busy then s else { s' with cpcWait := rest }
    else if kind = 2 then
      if s.mem.test.isSome then s else { (s.startTest u true).2 with cpcWait := rest }
    else s

/-! ### DRAM (R341 to R350) -/

/-- DMC_TRAINING_DONE (R341, R348): `failed` has a bit per channel. Training runs between BOOT and READY, and, of a
channel whose tracking reached its range, in PARK. -/
def doTraining (failed : BitVec 2) (s : State) : State :=
  let first := s.get Fld.DMC_STAT_TRAINED == 0 && s.get Fld.DMC_STAT_TRAINFAIL == 0
  let again := decide (s.pwr.state = .park) && !(s.mem.retrain.isEmpty)
  if !(s.dmcOn) || !(first && decide (s.pwr.state ≠ .off) || again) then s
  else
    let chans := if first then [0, 1] else s.mem.retrain
    let m := s.get Fld.DMC_CFG_MTS
    let s := { s with mem := { s.mem with
      mts := if 3200 ≤ m ∧ m ≤ 6400 then m else 6400
      retrain := []
      delays := s.mem.delays.filter (fun e => !(decide (e.1 / 2 ∈ chans))) } }
    let s := forEach chans (fun c s =>
      let bad := failed.getLsbD c
      (s.putBit ⟨Reg.DMC_STAT, c, c⟩ (!bad)).putBit ⟨Reg.DMC_STAT, 2 + c, 2 + c⟩ bad) s
    let s := s.raise Fld.DMC_INT_TRAIN
    match chans.find? (fun c => failed.getLsbD c) with
    | some c => s.logBlot blkDMC 1 clsFATAL c
    | none => s

/-- DRAM_REFRESH (R344, R348): same-bank refresh of bank `ba` of every bank group of subchannel `u`; `hot`: a component
reports a temperature above 85 °C. The read delay moves at most one step toward the drift measured; at the end of the
tracking range the channel is to be retrained. The length of the range is not given. -/
def doRefresh (u ba : Nat) (hot : Bool) (drift : Int) (s : State) : State :=
  if !(s.dmcOn) || bitsOf (s.get Fld.DMC_STAT_TRAINED) (u / 2) 1 == 0 then s
  else
    let s := s.refreshBank u ba hot
    let d := SMap.get (fun _ => (0 : Int)) s.mem.delays u
    let d' := if d < drift then d + 1 else if drift < d then d - 1 else d
    let s := { s with mem := { s.mem with delays := SMap.set (fun _ => (0 : Int)) s.mem.delays u d' } }
    let lim := Config.trackRange
    if d' ≠ d ∧ lim ≤ d'.natAbs ∧ d.natAbs < lim then
      let s := { s with mem := { s.mem with
        retrain := if u / 2 ∈ s.mem.retrain then s.mem.retrain else s.mem.retrain ++ [u / 2] } }
      (s.raise Fld.DMC_INT_TRACK).logBlot blkDMC 4 clsDEGRADED u
    else s

/-- DRAM_SELF_REFRESH_ENTRY (R345): a channel idle for DMC_SR_IDLE clocks. -/
def doSelfRefresh (c : Nat) (s : State) : State :=
  if !(s.dmcOn) || s.get Fld.DMC_SR_IDLE_CLOCKS == 0 || bitsOf (s.get Fld.DMC_STAT_TRAINED) c 1 == 0 then s
  else s.put ⟨Reg.DMC_STAT, 4 + c, 4 + c⟩ 1

/-- The corrected bursts of a row within the last 24 hours. -/
def State.rowCount (s : State) (key : Nat) : List Nat :=
  (SMap.get (fun _ => []) s.mem.rows key).filter (fun t => decide (s.clk.upNs < t + 86400000000000))

/-- DRAM_SCRUB (R343, R349): the read of one burst, with the symbol errors found in it. -/
def doScrub (addr symbolErrors : Nat) (s : State) : State :=
  if !(s.dmcOn) || s.get Fld.DMC_SCRUB_HOURS == 0 || s.get Fld.DMC_STAT_TRAINED != 3 || decide (s.pwr.state = .park) then s
  else if s.dramBytes ≤ addr then s.rangeErr addr
  else
    let s := (s.dramIssue [⟨addr / 64, none⟩]).2
    let a := s.dramAt addr
    let u := 2 * a.chan + a.sub
    if symbolErrors = 0 then s
    else if symbolErrors ≤ 8 then
      let s := (s.count (Fld.DMC_ECC_CNT_CORR u)).tally 0x146
      { s with mem := { s.mem with rows := SMap.put s.mem.rows a.rowKey (s.clk.upNs :: s.rowCount a.rowKey) } }
    else
      let s := s.poisoned addr
      s.logBlot blkDMC 2 clsFAULT (s.word Reg.DMC_ERR).toNat

/-- DRAM_ROW_REPAIR (R350): the row of `addr`, once it has collected DMC_PPR.THR corrected bursts within 24 hours. -/
def doRowRepair (addr : Nat) (resourceLeft : Bool) (s : State) : State :=
  let a := s.dramAt addr
  let n := (s.rowCount a.rowKey).length
  let thr := s.get Fld.DMC_PPR_THR
  if !(s.dmcOn) || thr == 0 || decide (n < thr) || decide (a.group ∈ s.mem.noRepair) then s
  else
    let s := { s with mem := { s.mem with rows := SMap.erase s.mem.rows a.rowKey } }
    if resourceLeft then (s.count Fld.DMC_PPR_DONE).cpcLog 4 a.bg (a.row % 256) 0xFF n false
    else
      let s := { s with mem := { s.mem with noRepair := a.group :: s.mem.noRepair } }
      ((s.raise Fld.DMC_INT_PPR_FULL).logBlot blkDMC 5 clsDEGRADED a.bg).cpcWear

end Sys2Proof.Machine
end

