-- ==== Sys2Proof/Machine/Power.lean ====
section
/-! DEFINITION. Rails, resets, power states and transitions (R37 to R52, R426), and SAFE_N (R49, R284). Firmware start
stands in Machine/Update.lean. -/

namespace Sys2Proof.Machine

/-! ### Rails (R40) -/

/-- PWR_RAIL_STAT.REQUIRED: the rails the node requires, by the role of the last strap sampling; before the first one,
every rail but VDDQ and VDRV. -/
def State.railsRequired (s : State) : BitVec 8 :=
  if s.sampled then
    match s.role with
    | .head => 0x7F
    | .tile => 0xBF
    | _ => 0x3F
  else 0x3F

/-- What the balls of the drive die do: high impedance while VDRV is absent, in another role and in OFF, BOOT and SHUTDOWN
(R4, R29, R41, R240), else driven. -/
def State.drivePins (s : State) : DrivePins :=
  if s.actingRole ≠ .tile ∨ s.running = false ∨ s.pwr.railsGood.getLsbD 7 = false then .highZ
  else if s.lit then .scanned else .offLevel

/-- The balls of a tile's drive die go to high impedance. -/
def State.floatDrive (s : State) : State := if s.role = .tile then s.emit .driveHighZ else s

/-- Every required rail is good. -/
def State.railsOk (s : State) : Bool := (s.pwr.railsGood &&& s.railsRequired) == s.railsRequired

/-! ### What resets clear and keep (R42) -/

/-- Blots whose MRAM write still waits are written before a reset takes them, a power-on reset too (assumption 137). -/
def State.flushBlots (s : State) : State :=
  let l := s.blots.mramWait
  forEach l (fun b s => s.mramBlot b) { s with blots := { s.blots with mramWait := [] } }

/-- A page write takes effect (R363). -/
def State.setNvmPage (s : State) (p : Nat) (ws : List Word) : State :=
  if 1024 ≤ p ∧ p ≤ 1055 then
    forEach (List.range 8) (fun i s =>
      let w := (ws.drop (8 * i)).take 8
      let w2 := nth w 2
      let b : Blot := ⟨nth w 0, nth w 1, BitVec.ofNat 16 (wbits w2 31 16), wbits w2 15 14, wbits w2 13 8,
        decide (wbits w2 7 7 = 1), wbits (nth w 3) 31 16, BitVec.ofNat 16 (wbits (nth w 3) 15 0), nth w 4, nth w 5, nth w 6, nth w 7⟩
      { s with saved := { s.saved with blotRing := SMap.put s.saved.blotRing (8 * (p - 1024) + i) b } }) s
  else if 1056 ≤ p ∧ p ≤ 1730 then
    forEach (List.range 64) (fun i s =>
      { s with saved := { s.saved with
        ledger := SMap.set (fun _ => 0) s.saved.ledger (64 * (p - 1056) + i) (nth ws i).toNat } }) s
  else { s with nvm := { s.nvm with pages := SMap.set (fun _ => List.replicate 64 0) s.nvm.pages p ws } }

/-- A physical page returns to the free pool: the old home of a page written, or the page an undone write took (R363,
R364). -/
def State.pageFreed (s : State) : State := s.put Fld.NVM_POOL_FREE (s.get Fld.NVM_POOL_FREE + 1)

/-- An MRAM write in progress at a reset ends whole or not at all, and NVM_RECOV records which (R364): whether the page had
been programmed is open (assumption 5). -/
def State.nvmRecover (s : State) : State :=
  match s.nvm.writing with
  | none => s
  | some (p, ws) =>
    let (b, s) := s.freeNat 1
    let s := ({ s with nvm := { s.nvm with writing := none } }).pageFreed
    let s := if b = 1 then s.setNvmPage p ws else s
    (s.put Fld.NVM_RECOV_PAGE p).put Fld.NVM_RECOV_OUTCOME (if b = 1 then 1 else 2)

/-- The node with everything outside the always-on domain, MRAM and flash at its reset value, in state `st`. -/
def State.cleared (s : State) (st : PState) : State :=
  let b := s.flushBlots.nvmRecover
  let r := { State.reset with
    role    := b.role
    wq      := b.wq
    hq      := b.hq
    sampled := b.sampled
    regs    := []
    pwr     := { b.pwr with
      state     := st
      trans     := none
      queued    := none
      fromWake  := false
      bootWait  := false
      strapped  := false
      fwStarted := false
      noForward := false
      domReset  := none
      groups    := [] }
    saved   := b.saved
    keys    := { b.keys with
      origEnd  := false
      origSaid := false }
    lamp    := { Lamp.reset with
      copy0 := b.lamp.copy0
      copy1 := b.lamp.copy1 }
    priv    := { Privet.reset with persisted := b.priv.persisted }
    nvm     := { Nvm.reset with
      pages    := b.nvm.pages
      oldPairs := b.nvm.oldPairs }
    upd     := { Upd.reset with
      record := b.upd.record
      flash  := b.upd.flash }
    host    := { HostIf.reset with mem := b.host.mem }
    out     := b.out
    free    := b.free
    pending := b.pending }
  forEach [Reg.PWR_WAKE_CFG, Reg.PWR_RST_CAUSE, Reg.SYS_BLOT_SEQ, Reg.NVM_POOL, Reg.NVM_RECOV, Reg.SYS_STRAP]
    (fun x s => s.setWord x (b.word x)) r

/-- Values that MRAM restores on entry into BOOT (reset "restored" in the register maps). -/
def State.restored (s : State) : State :=
  let s := s.restoreNet.restoreBanks.restoreLanes
  let s := s.put Fld.SYS_FAULT_EPOCH_EPOCH s.saved.faultEpoch.toNat
  let s := s.put Fld.SYS_BLOT_STAT_MNEXT s.saved.mnext
  let s := (s.put Fld.RED_STAT_PARTNER s.saved.partner.toNat).putBit Fld.RED_STAT_HEADID s.saved.headId
  let s := s.put Fld.RED_EPOCH_EPOCH s.saved.redEpoch.toNat
  -- a paired head comes up as standby, out of step, and sends RESYNC_REQ (R271)
  let s := if s.saved.partner ≠ 0 then
      let s := (s.put Fld.RED_STAT_ROLE 2).raise Fld.RED_STAT_OOS
      { s with red := { s.red with reqDue := true } }
    else s
  let s := (s.setWord Reg.RED_TILE_CFG s.saved.tilePair).putBit Fld.RED_TILE_STAT_FOLLOW s.saved.follow
  let s := (s.put Fld.CPC_LOG_STAT_TOTAL s.saved.cpcTotal).put Fld.CPC_LOG_STAT_NEXT s.saved.cpcNext
  let s := forEach [0, 1, 2] (fun c s =>
    match s.saved.ceilWall[c]? with | some v => s.put (Fld.COR_CEIL_WALL_CEIL c) v | none => s) s
  ({ s with lamp := { s.lamp with ledger := s.saved.ledger, ledgerView := s.saved.ledger } }).restoreItems

/-- A head goes on from its ORIG reservation in MRAM (R188). -/
def State.origAgain (s : State) : State :=
  if s.keys.domain.isSome then { s with keys := { s.keys with orig := s.keys.orig + 2 ^ 20 } } else s

/-- The node has a role: that of the last strap sampling, which it keeps until the next one (R2, R40). -/
def State.roleKnown (s : State) : Bool := s.sampled || s.running

/-- SAFE_N low holds a request for ACTIVE at a tile (R49), whether or not the straps have been sampled since the last entry
into BOOT (R31). -/
def State.safeHold (s : State) : Bool := decide (s.role = .tile) && s.roleKnown && !(s.pwr.safeN)

/-- While SAFE_N is low a tile requests ACTIVE; the request replaces a queued one (R49). -/
def State.safeRequest (s : State) : State :=
  if s.safeHold && s.powered then
    if s.pwr.trans = none ∧ s.pwr.state = .active then { s with pwr := { s.pwr with queued := none } }
    else if s.pwr.trans.map (·.req) = some (.state .active) then { s with pwr := { s.pwr with queued := none } }
    else { s with pwr := { s.pwr with queued := some (.state .active) } }
  else s

/-- What a low SAFE_N does in a powered node (R31, R49, R284): a head shows its SAFE items, and a tile too, which shows
RED_TILE_STAT.SAFE and requests ACTIVE. A branch ignores the level (R7). -/
def State.safeLevel (s : State) : State :=
  if s.pwr.safeN || !(s.powered) || !(s.roleKnown) then s
  else
    match s.role with
    | .head => { s with priv := { s.priv with safe := true, safeEnd := none } }
    | .tile =>
      let s := { s with priv := { s.priv with safe := true } }
      let s := if s.bit Fld.RED_TILE_STAT_SAFE then s
        else (s.raise Fld.RED_TILE_STAT_SAFE).raise Fld.RED_TILE_INT_SAFE
      s.safeRequest
    | _ => s

/-- Entry into BOOT (R42, R240, R399): `wake` tells a wake from a reset. The transition to READY begins, and a low SAFE_N
counts again. -/
def State.enterBoot (s : State) (wake : Bool) : State :=
  let s := (s.cleared .boot).restored.origAgain.epochUp
  State.safeLevel <| State.floatDrive { s with pwr := { s.pwr with
    trans    := some ⟨.state .ready, false, 0⟩
    fromWake := wake
    wakeSeen := false
    pulls    := true
    bootWait := !(s.railsOk) } }

/-- WAKE high with POWER_OFF_N high takes a node in OFF into BOOT (R51). -/
def State.wakeCheck (s : State) : State :=
  if decide (s.pwr.state = .off) && (s.pwr.wakePin || s.pwr.wakeSeen) && s.pwr.powerOffN && decide (s.pwr.held = 0) then
    ((s.enterBoot true).put Fld.PWR_RST_CAUSE_WAKE_PIN 1).put Fld.PWR_RST_CAUSE_WAKE_LINK 0
  else s

/-- OFF is entered. -/
def State.enterOff (s : State) : State := (s.cleared .off).floatDrive.wakeCheck

/-! ### Requests (R45 to R49) -/

/-- A request that is refused (R45, R49, R341). While SAFE_N is low a write of ACTIVE is refused as well: the request that
SAFE_N makes is the only one that stands (assumption 97). -/
def State.reqRefused (s : State) (r : PReq) : Bool :=
  s.safeHold ||
  (match r with
   | .state .dim => decide (s.role ≠ .tile)
   | .state .boot => true
   | .state .shutdown => true
   | .state .active => decide (s.role = .head) && s.get Fld.DMC_STAT_TRAINFAIL != 0
   | .state .park => decide (s.role = .head) && s.get Fld.DMC_STAT_TRAINFAIL != 0
   | _ => false)

/-- Files a request: true when it is accepted (R45, R47). A request waiting for its tick boundary stands in the queue. -/
def State.request (s : State) (r : PReq) : Bool × State :=
  if s.reqRefused r then (false, s.raise Fld.PWR_REQ_ERR)
  else if s.pwr.trans = none ∧ r = .state s.pwr.state then (true, s)
  else (true, { s with pwr := { s.pwr with queued := some r } })

/-- PWR registers can be written: powered, no reset held. -/
def State.pwrOpen (s : State) : Bool := s.powered && decide (s.pwr.held = 0)

/-- A write of PWR_REQ.REQ that names a state. -/
def State.writeReq (s : State) (p : PState) : State :=
  if !(s.pwrOpen) then s else ((s.put Fld.PWR_REQ_REQ p.code).request (.state p)).2

/-- PWR_REQ_OFF (R45). -/
def doReqOff (s : State) : State := s.writeReq .off
/-- PWR_REQ_READY (R46). -/
def doReqReady (s : State) : State := s.writeReq .ready
/-- PWR_REQ_ACTIVE (R46, R341). -/
def doReqActive (s : State) : State := s.writeReq .active
/-- PWR_REQ_DIM (R44, R45). -/
def doReqDim (s : State) : State := s.writeReq .dim
/-- PWR_REQ_PARK (R46, R341). -/
def doReqPark (s : State) : State := s.writeReq .park

/-- The state a value of PWR_REQ.REQ names, when a request for it can be accepted. -/
def reqState (v : Nat) : Option PState :=
  match v with
  | 0 => some .off
  | 2 => some .ready
  | 3 => some .active
  | 4 => some .dim
  | 5 => some .park
  | _ => none

/-- A write of any value of PWR_REQ.REQ: BOOT, SHUTDOWN and the reserved values are refused (R45). -/
def State.writeReqValue (s : State) (v : Nat) : State :=
  match reqState v with
  | some p => s.writeReq p
  | none => if s.pwrOpen then (s.put Fld.PWR_REQ_REQ v).raise Fld.PWR_REQ_ERR else s

/-- PWR_REQ_INVALID (R45). -/
def doReqInvalid (v : Nat) (s : State) : State := s.writeReqValue v

/-- WARM_RESET (R42, R45): the key files a request whose target is BOOT; other values are ignored. -/
def doWarmReset (key : BitVec 16) (s : State) : State :=
  if s.pwrOpen && key == 0xB007 then (s.request .warm).2 else s

/-! ### Transitions (R46, R47) -/

/-- The ageing ledger is written to MRAM (R235). The settings records that firmware writes with it are firmware's own page
contents (R367). -/
def State.flushToMram (s : State) : State := if s.role = .tile then s.writeLedger else s

/-- A branch in PARK: the working lanes of ports whose link is down are in deep park (R159). -/
def State.deepPark (s : State) (on : Bool) : State :=
  forEach (List.range 4) (fun p s =>
    if on then (if s.linkUp p then s else s.setPort p { s.port p with deepPark := true })
    else s.setPort p { s.port p with deepPark := false }) s

/-- The state named by a transition is reached. -/
def State.reach (s : State) (p : PState) : State :=
  let was := s.pwr.state
  let s := { s with pwr := { s.pwr with state := p, trans := none } }
  match s.role with
  | .tile =>
    let lit (q : PState) : Bool := q == .active || q == .dim
    if lit p && !(lit was) then s.pinStart else s
  | .head =>
    let s := if p = .park then s.put Fld.DMC_STAT_SR 3 else if was = .park then s.put Fld.DMC_STAT_SR 0 else s
    s.dropMaster
  | _ => if p = .park then s.deepPark true else s

/-- A head leaves ACTIVE: it stops pushing, and RELINQUISH names the next tick (R269). -/
def State.leaveActive (s : State) (n : Word) : State :=
  if s.role = .head ∧ s.pwr.state = .active then s.unqueuePush.stopPush.relinquish (n + 1) else s

/-- A head that enters ACTIVE discards its record of SEALs sent, so its first frame is Full for every tile (R135). -/
def State.forgetSeals (s : State) : State :=
  { s with heads := { s.heads with
    active := false
    hist := s.heads.hist.map (fun e => (e.1, { e.2 with good := [] })) } }

/-- A request starts at tick boundary `n` (*Table — Transition durations*). -/
def State.startReq (s : State) (r : PReq) (n : Word) : State :=
  let s := { s with pwr := { s.pwr with queued := none } }
  let s0 := s.pwr.state
  let go (done : Bool) (s : State) : State := { s with pwr := { s.pwr with trans := some ⟨r, done, n⟩ } }
  match r with
  | .warm => go false { s.leaveActive n with pwr := { (s.leaveActive n).pwr with noForward := true } }
  | .state p =>
    if p = s0 then s
    else match p with
    | .off => go false { s.leaveActive n with pwr := { (s.leaveActive n).pwr with noForward := true } }
    | _ =>
      match s.role with
      | .tile =>
        let lit (q : PState) : Bool := q == .active || q == .dim
        if lit p then
          if lit s0 then s.reach p else go false s.railStart
        else go (!(lit s0)) s
      | .head =>
        if p = .active then go true s.forgetSeals else go true (s.leaveActive n)
      | _ => if s0 = .park then go false s else go true s

/-- The power state at tick boundary `n`: a transition whose work is done completes, or a waiting request starts. -/
def State.powerTick (s : State) (n : Word) : State :=
  if !(s.powered) then s
  else match s.pwr.trans with
  | some t =>
    if t.workDone && decide (t.since ≠ n) then
      match t.req with
      | .state .off => s.enterOff
      | .state p => (s.reach p).safeRequest
      | .warm => s
    else s
  | none =>
    match s.pwr.queued with
    | some r => s.startReq r n
    | none => s

/-- QUEUED_REQUEST_START (R47): at the next tick boundary, when no transition is in progress. -/
def doQueuedStart (s : State) : State :=
  match s.pwr.trans, s.pwr.queued with
  | none, some r => if s.powered then (s.advanceTo (s.startOf (s.clk.fn + 1))).startReq r (s.clk.fn + 1) else s
  | _, _ => s

/-- The work of the transition in progress is done. -/
def State.workIsDone (s : State) : State :=
  match s.pwr.trans with
  | some t => { s with pwr := { s.pwr with trans := some { t with workDone := true } } }
  | none => s

/-- The target of the transition in progress. -/
def State.target (s : State) : Option PReq := s.pwr.trans.map (·.req)

/-- RAIL_SOFT_START_DONE (R253). -/
def doSoftStart (s : State) : State :=
  if decide (s.role = .tile) && (s.target == some (.state .active) || s.target == some (.state .dim)) && !(s.drive.railUp) then
    ({ s with drive := { s.drive with railUp := true } }.raise Fld.DRV_RAIL_STAT_REG).workIsDone
  else s

/-- VLED_DISCHARGED (R253): after the lamps have gone dark. -/
def doDischarged (s : State) : State :=
  if decide (s.role = .tile) && s.drive.dark && s.pwr.trans.isSome then
    let s := s.put Fld.DRV_RAIL_STAT_PH_ACTIVE 0
    if s.target = some (.state .ready) ∨ s.target = some (.state .park) then s.workIsDone else s
  else s

/-- OFF_FLUSH_DONE (R235; *Entering OFF*): once the lamps are dark, the ledger and settings stand in MRAM. A warm reset
then enters BOOT at once. -/
def doOffFlush (s : State) : State :=
  if s.lit then s
  else if s.target = some (.state .off) then s.flushToMram.workIsDone
  else if s.target = some .warm then (s.flushToMram.enterBoot false).raise Fld.PWR_RST_CAUSE_WARM
  else s

/-- DEEP_PARK_EXIT_DONE (R159): the lanes of a branch are out of deep park. -/
def doDeepParkExit (s : State) : State :=
  if s.role = .branch ∨ s.role = .recovery then
    if s.pwr.state = .park ∧ s.pwr.trans.isSome = true then (s.deepPark false).workIsDone else s
  else s

/-! ### Resets (R42, R426) -/

/-- A power-on or brown-out reset is asserted: the whole part resets; pins, MRAM and flash stay. -/
def State.assertReset (s : State) (kind : Nat) (clearLatch : Bool) : State :=
  let s := (s.cleared (if s.pwr.thermalLatch && !clearLatch then .shutdown else .off)).floatDrive
  { s with
    sampled := false
    regs    := SMap.set resetReg (SMap.set resetReg [] Reg.NVM_POOL (s.word Reg.NVM_POOL)) Reg.NVM_RECOV (s.word Reg.NVM_RECOV)
    saved   := { s.saved with retiredLanes := 0 }
    pwr     := { s.pwr with
      held := kind
      wakeSeen := false
      pulls := false
      thermalLatch := s.pwr.thermalLatch && !clearLatch } }

/-- The other rails that stand above 0.3 V (R41). -/
def State.othersUp (s : State) : BitVec 8 := (s.pwr.railsGood ||| s.pwr.railsRisen) &&& 0xFE

/-- VAON has left its tolerance: a rail that is still above 0.3 V then shows the order of R41 broken. -/
def State.vaonFell (s : State) : State :=
  let s := { s with pwr := { s.pwr with railsGood := s.pwr.railsGood &&& 0xFE } }
  if s.othersUp ≠ 0 then s.raise Fld.PWR_RST_CAUSE_SEQ else s

/-- POWER_ON_RESET (R42, R426): VAON below 1.0 V, or POR_N low for `lowUs` µs. A pulse of 1 to 10 µs may or may not
reset the part. -/
def doPowerOnReset (lowUs : Nat) (below1V : Bool) (s : State) : State :=
  if below1V then (s.assertReset 1 true).vaonFell
  else if 10 ≤ lowUs ∨ (1 ≤ lowUs ∧ Config.porMid lowUs = true) then s.assertReset 1 false
  else s

/-- BROWN_OUT (R426): VAON below 1.6 V for `ns`. A dip of 1 µs or less resets nothing. -/
def doBrownOut (ns : Nat) (below1V : Bool) (s : State) : State :=
  if ns ≤ 1000 then s
  else if below1V then (s.assertReset 1 true).vaonFell
  else if s.pwr.held = 1 then s.vaonFell
  else (s.assertReset 2 false).vaonFell

/-- RESET_RELEASE (R426, R51): the cause alone is recorded and the node starts in OFF. -/
def doResetRelease (s : State) : State :=
  if s.pwr.held = 0 then s
  else
    let k := s.pwr.held
    let early := !(s.pwr.railsGood.getLsbD 0) && s.othersUp != 0
    let seq := if early then 1 else s.get Fld.PWR_RST_CAUSE_SEQ
    let s := { s with pwr := { s.pwr with held := 0, railsGood := s.pwr.railsGood ||| 1 } }
    let s := (s.setWord Reg.PWR_RST_CAUSE (if k = 1 then 1 else 2)).put Fld.PWR_RST_CAUSE_SEQ seq
    s.wakeCheck

/-- RAIL_FAILURE (R48, R40): a required rail other than VAON; a rail not required only shows in PWR_RAIL_STAT. -/
def doRailFailure (r : Fin 8) (s : State) : State :=
  let need := s.railsRequired.getLsbD r.val
  let s := { s with pwr := { s.pwr with railsGood := s.pwr.railsGood &&& ~~~(BitVec.ofNat 8 (2 ^ r.val)) } }
  if r.val = 0 || !need || !(s.powered) || decide (s.pwr.held ≠ 0) then s
  else
    -- the 100 ms of a wake go on (R52)
    let wake := decide (s.pwr.state = .boot) && s.pwr.fromWake
    (s.driveOff.enterBoot wake).raise Fld.PWR_RST_CAUSE_RAILFAIL

/-- RAILS_GOOD (R41, R42): the rails that are good and those above 0.3 V; when every required one is good, a waiting BOOT goes
on. A rail above 0.3 V while VAON is not good shows the order of R41 broken. -/
def doRailsGood (r : Rails) (s : State) : State :=
  let s := { s with pwr := { s.pwr with railsGood := r.good, railsRisen := r.risen } }
  let s := if r.good.getLsbD 0 = false ∧ s.othersUp ≠ 0 then s.raise Fld.PWR_RST_CAUSE_SEQ else s
  if s.pwr.bootWait && s.railsOk then { s with pwr := { s.pwr with bootWait := false } } else s

/-- RAIL_TIMEOUT (R52): 100 ms after a wake. -/
def doRailTimeout (s : State) : State :=
  if decide (s.pwr.state = .boot) && s.pwr.fromWake && s.pwr.bootWait then
    (s.raise Fld.PWR_RST_CAUSE_RAILTO).enterOff
  else s

/-- WAKE (R51): the pin is high, and stays so when `stays` tells so. One that comes while the node enters OFF acts once OFF
has been reached (R47). -/
def doWake (stays : Bool) (s : State) : State :=
  let s := { s with pwr := { s.pwr with wakePin := true, wakeSeen := s.pwr.wakeSeen || s.target == some (PReq.state .off) } }
  let s := s.wakeCheck
  { s with pwr := { s.pwr with wakePin := stays } }

/-- LINK_ACTIVITY_WAKE (R51). -/
def doLinkWake (p : Nat) (s : State) : State :=
  if decide (s.pwr.state = .off) && s.pwr.powerOffN && decide (s.pwr.held = 0) && bitsOf (s.get Fld.PWR_WAKE_CFG_LINK_EN) p 1 == 1 then
    ((s.enterBoot true).put Fld.PWR_RST_CAUSE_WAKE_LINK 1).put Fld.PWR_RST_CAUSE_WAKE_PIN 0
  else s

/-- EMERGENCY_OFF (R48): POWER_OFF_N low. -/
def doEmergencyOff (s : State) : State :=
  let s := { s with pwr := { s.pwr with powerOffN := false, wakeSeen := false } }
  if s.pwr.held ≠ 0 then s
  else
    let s := s.raise Fld.PWR_RST_CAUSE_EOFF
    if s.powered then s.driveOff.enterOff else s

/-- EMERGENCY_OFF_RELEASE (R51). -/
def doEmergencyRelease (s : State) : State := ({ s with pwr := { s.pwr with powerOffN := true } }).wakeCheck

/-- THERMAL_SHUTDOWN (R48, R388): the lamps go dark, the epoch and the FATAL blot are in MRAM, and the latch leaves only
the always-on domain running. -/
def doShutdown (s : State) : State :=
  if !(s.powered) then s
  else
    let s := s.driveOff.logBlot blkTHM 4 clsFATAL (s.get Fld.THM_STAT_TJ)
    let s := { s with pwr := { s.pwr with thermalLatch := true } }
    ((s.raise Fld.PWR_RST_CAUSE_THERMAL).cleared .shutdown).floatDrive

/-- DOMAIN_RESET_INSTANT (R42, R187): at the instant, the drive goes dark, ledger and settings are written, and the node
resets as a warm reset does. -/
def doDomainReset (s : State) : State :=
  match s.pwr.domReset with
  | none => s
  | some t =>
    if !(s.powered) then s
    else ((s.advanceTo t).driveOff.flushToMram.enterBoot false).raise Fld.PWR_RST_CAUSE_DOMRST

/-- TEST_RESET (R32): the test access port alone is held in its reset state, and boundary scan drives no pin. It stays so until
JTAG_TRST_N is high again, as it is when the port is next used (`State.portUsed`; assumption 135). -/
def doTestReset (s : State) : State := { s with pwr := { s.pwr with tapReset := true, scanPins := [] } }

/-! ### Straps (R37, R38) -/

/-- The number of samples after which three in a row agree, within the first 100, and the value taken. -/
def strapsAgree (l : List Straps) (n : Nat) : Option (Nat × Straps) :=
  match l with
  | a :: b :: c :: t =>
    if 100 < n + 3 then none
    else if a = b ∧ b = c then some (n + 3, a)
    else strapsAgree (b :: c :: t) (n + 1)
  | _ => none

/-- What a low SAFE_N did in another role than the one now taken ends: a request that a tile holds, and its items. -/
def State.safeDropped (s : State) : State :=
  let queued := if s.safeHold then none else s.pwr.queued
  { s with pwr := { s.pwr with queued := queued }, priv := { s.priv with safe := false } }.put Fld.RED_TILE_STAT_SAFE 0

/-- A role and boot mode are taken. -/
def State.takeStraps (s : State) (role boot n : Nat) (unstable : Bool) : State :=
  let s := if s.role = Role.ofCode role then s else s.safeDropped
  let s := { s with
    role    := Role.ofCode role
    sampled := true
    pwr     := { s.pwr with
      strapped := true
      pulls    := false
      groups   := ballGroups.filter (Role.ofCode role).uses }
    quill   := { s.quill with debug := decide (boot = 2) && !(unstable) && decide (role ≠ 3) } }
  let s := s.setWord Reg.SYS_STRAP (wd (n * 2 ^ 8 + (if unstable then 16 else 0) + boot * 4 + role))
  -- the rails that the role requires may differ from those that BOOT waited for (R40, R41, R52)
  let s := { s with pwr := { s.pwr with bootWait := !(s.railsOk) } }
  s.safeLevel

/-- STRAP_SAMPLING (R37, R38): the samples of one entry into BOOT. A list that neither agrees nor reaches 100 samples is
still going on. -/
def doStraps (l : List Straps) (s : State) : State :=
  if decide (s.pwr.state ≠ .boot) || s.pwr.strapped then s
  else match strapsAgree l 0 with
  | some (n, v) => s.takeStraps v.role.toNat v.boot.toNat n false
  | none => if 100 ≤ l.length then s.takeStraps 3 0 100 true else s

/-! ### SAFE_N (R49, R284) -/

/-- The configuration of every frame past C with the Privet items shown now (cause 2). -/
def State.showLate (s : State) : State :=
  match s.heads.frames with
  | [] => s
  | h :: _ => s.lateChange 2 h.fn (fun s h => { h.cfg with shown := s.shownFor h.fn }) []

/-- SAFE_N_LOW: low for 2 µs. A running head changes every frame past C too. -/
def doSafeLow (s : State) : State :=
  let s := ({ s with pwr := { s.pwr with safeN := false } }).safeLevel
  if s.role = .head ∧ s.running = true then s.showLate else s

/-- SAFE_N_HIGH: high for 2 µs. A head removes the cause at the next tick; a tile clears RED_TILE_STAT.SAFE and stops with
the next pipeline run. A request for ACTIVE that SAFE_N queued and that has not started stays queued (assumption 136). -/
def doSafeHigh (s : State) : State :=
  let s := { s with pwr := { s.pwr with safeN := true } }
  match s.role with
  | .head => { s with priv := { s.priv with safeEnd := if s.priv.safe then some (s.clk.fn + 1) else none } }
  | .tile =>
    let s := if s.bit Fld.RED_TILE_STAT_SAFE then s.raise Fld.RED_TILE_INT_SAFE else s
    { s.put Fld.RED_TILE_STAT_SAFE 0 with priv := { s.priv with safe := false } }
  | _ => { s with priv := { s.priv with safe := false } }

end Sys2Proof.Machine
end

