-- ==== Sys2Proof/Machine/Quill.lean ====
section
/-! DEFINITION. Worlds and violations (R369, R370), the interrupt controller as software works it (R356 to R360), MRAM
(R362 to R366), and Quill's restarts and user partition (R351 to R354). -/

namespace Sys2Proof.Machine

/-! ### Violations (R370) -/

/-- MASTER of SEC_VIOL_INFO. -/
def pathMaster : Path → Nat
  | .host => 1
  | .user => 2
  | .jtag => 3
  | .i2c => 4
  | _ => 0

/-- A normal-world attempt on SRW bits or a secure page (R370): counted, recorded, and logged at most once per 1 ms. -/
def State.secViol (s : State) (path : Path) (addr : Nat) : State :=
  let s := s.count Fld.SEC_VIOL_CNT_COUNT
  let s := (s.put Fld.SEC_VIOL_INFO_MASTER (pathMaster path)).put Fld.SEC_VIOL_INFO_ADDR addr
  let recent := match s.blots.violSent with
    | some t => decide (t ≤ s.clk.upNs) && decide (s.clk.upNs < t + 1000000)
    | none => false
  if recent then s
  else
    ({ s with blots := { s.blots with violSent := some s.clk.upNs } }).logBlot blkSEC 1 clsDEGRADED (s.word Reg.SEC_VIOL_INFO).toNat

/-! ### Interrupt controller -/

/-- A register of the ICU entry is secure (R361). -/
def State.icuSecure (s : State) (n : Nat) : Bool := s.bit (Fld.ICU_SRC_SEC n)

/-- ICU_SETPEND (R357, R361). -/
def doSetpend (n : Nat) (path : Path) (s : State) : State :=
  if !s.powered then s
  else if s.icuSecure n && !(pathSecure path) then s.secViol path Reg.ICU_SETPEND
  else s.put (Fld.ICU_SRC_PEND n) 1

/-- ICU_CLRPEND (R357, R361). -/
def doClrpend (n : Nat) (path : Path) (s : State) : State :=
  if !s.powered then s
  else if s.icuSecure n && !(pathSecure path) then s.secViol path Reg.ICU_CLRPEND
  else s.put (Fld.ICU_SRC_PEND n) 0

/-- Counts a source whose handler starts with the input low (R359). -/
def State.spuriousCheck (s : State) (n : Nat) : State :=
  if icuLevel n && !(s.icuInput n) then (s.count Fld.ICU_SPURIOUS_COUNT).tally 0x184 else s

/-- A read of ICU_CLAIM1 claims for processor 1 (R356, R359). -/
def State.readClaim1 (s : State) : Word × State :=
  match s.icuPresented 1 with
  | some n =>
    let s := ((s.spuriousCheck n).icuClaim 1 n).settlePba n
    (wd n, { s with icu := { s.icu with presented1 := none, sent1 := false } })
  | none =>
    let s := if s.icu.sent1 then (s.count Fld.ICU_SPURIOUS_COUNT).tally 0x184 else s
    (0x100, { s with icu := { s.icu with presented1 := none, sent1 := false } })

/-- ICU_CLAIM1_READ (R356, R359). -/
def doClaim1 (s : State) : State :=
  if s.powered then let (v, s) := s.readClaim1; s.emit (.readValue Reg.ICU_CLAIM1 v) else s

/-- ICU_EOI (R358); firmware's handler of source 27 logs the mismatch (*Table — Fault codes*). -/
def doEoi (p lv : Nat) (s : State) : State :=
  if !s.powered then s
  else
    let bad := (s.icuStack p).head? ≠ some lv
    let s := s.icuEoi p lv
    if bad then s.logBlot blkICU 1 clsDEGRADED (s.word Reg.ICU_FAULT).toNat else s

/-- Quill takes interrupts: it runs and its mask is clear. -/
def State.quillTakes (s : State) : Bool := s.quill.up && !(s.icu.quillMask)

/-- INTERRUPT_CLAIM (R356, R359): the ICU hands Quill the vector of the presented source; its handler starts 30 ns later. -/
def doInterruptClaim (s : State) : State :=
  if !s.quillTakes then s
  else match s.icuPresented 0 with
    | none => s
    | some n =>
      let s := s.icuClaim 0 n
      let s := { s with icu := { s.icu with
        vector := some (wd (s.get Fld.ICU_VBASE_BASE * 4096 + 16 * n)) } }
      (s.elapse 30).spuriousCheck n

/-- QUILL_WAKE (R360): a pending source, enabled and targeting Quill, ends the sleep; with the mask clear, Quill takes the
presented vector. -/
def doQuillWake (masked : Bool) (s : State) : State :=
  if s.quill.up && (List.range 256).any (fun n => s.bit (Fld.ICU_SRC_EN n) && decide (s.get (Fld.ICU_SRC_TGT n) = 0) && s.icuPend n) then
    doInterruptClaim { s with icu := { s.icu with quillMask := masked } }
  else s

/-- The source presented to processor 1 changes: a new one sends its vector's message (R320, R356). -/
def State.present1 (s : State) : State :=
  let p := s.icuPresented 1
  if p = s.icu.presented1 then s
  else
    let s := { s with icu := { s.icu with presented1 := p, sent1 := s.icu.sent1 || p.isSome } }
    match p with
    | some n => s.sendMsix (s.get (Fld.PCI_MSIX_SRC_VEC n))
    | none => s

/-! ### MRAM -/

/-- Contents of a logical page (*Table — MRAM page map*): the Blot ring, the ledger and the wrapped client keys stand
where the map puts them, any other page holds what was written to it. -/
def State.nvmPage (s : State) (p : Nat) : List Word :=
  if 1024 ≤ p ∧ p ≤ 1055 then
    (List.range 8).flatMap (fun i =>
      match SMap.find s.saved.blotRing (8 * (p - 1024) + i) with
      | some b => b.words
      | none => List.replicate 8 0)
  else if 1056 ≤ p ∧ p ≤ 1730 then
    (List.range 64).map (fun i => wd (SMap.get (fun _ => 0) s.saved.ledger (64 * (p - 1056) + i)))
  else if 256 ≤ p ∧ p ≤ 938 then
    (List.range 6).flatMap (fun i =>
      match SMap.find s.keys.clients (6 * (p - 256) + i) with
      | some k => keyWrapBy Config.nodeKey k
      | none => List.replicate 10 0) ++ List.replicate 4 0
  else SMap.get (fun _ => List.replicate 64 0) s.nvm.pages p

/-- NVM_WRITE_DONE (R362, R363, R397): the page holds the new content, its old home is free, and blots that waited are
written. -/
def doNvmDone (s : State) : State :=
  match s.nvm.writing with
  | none => s
  | some (p, ws) =>
    let s := ((s.setNvmPage p ws).pageFreed).put Fld.NVM_STAT_BUSY 0
    (({ s with nvm := { s.nvm with writing := none } }).tally 0x185).flushBlots

/-- A secure page named from the normal world (R366). -/
def nvmRefused (p : Nat) (path : Path) : Bool := decide (p ≤ 255) && !(pathSecure path)

/-- NVM_READ (R362): a read of the page being written returns the new content. -/
def doNvmRead (p : Nat) (path : Path) (s : State) : State :=
  if !s.powered then s
  else if nvmRefused p path then (s.raise Fld.NVM_STAT_SECERR).secViol path p
  else
    let s := if s.nvm.writing.map (·.1) = some p then doNvmDone s else s
    let ws := s.nvmPage p
    let s := forEach (List.range 64) (fun i s => s.setWord (Reg.NVM_RBUF i) (nth ws i)) s
    { s with nvm := { s.nvm with rbufPage := some p } }

/-- Retires `n` pages whose verification failed (R363, R365). -/
def State.retirePages (s : State) (p n : Nat) : State :=
  match n with
  | 0 => s
  | k + 1 =>
    let free := s.get Fld.NVM_POOL_FREE
    if free = 0 then s
    else
      let s := (s.put Fld.NVM_POOL_FREE (free - 1)).count Fld.NVM_POOL_RETIRED
      State.retirePages (s.cpcLog 3 (p / 16) (p / 16) 0xFF (s.get Fld.NVM_POOL_RETIRED) (decide (free = 1))) p k

/-- NVM_WRITE (R362, R363, R365, R366): `failing` free pages fail their verification before one holds the data, which has
left the pool. Pages 256 to 938 are the security unit's, and a command on them writes nothing. -/
def doNvmWrite (p : Nat) (path : Path) (failing : Nat) (s : State) : State :=
  if !s.powered then s
  else if nvmRefused p path then (s.raise Fld.NVM_STAT_SECERR).secViol path p
  else if s.bit Fld.NVM_STAT_BUSY then s.raise Fld.NVM_STAT_REJ
  else if 256 ≤ p ∧ p ≤ 938 then s
  else
    let s := s.retirePages p failing
    let free := s.get Fld.NVM_POOL_FREE
    if free = 0 then (s.raise Fld.NVM_STAT_NOFREE).logBlot blkNVM 2 clsFAULT
    else
      let s := if free < 8 then s.logBlot blkNVM 1 clsDEGRADED free else s
      let ws := (List.range 64).map (fun i => s.word (Reg.NVM_WBUF i))
      { (s.put Fld.NVM_POOL_FREE (free - 1)).raise Fld.NVM_STAT_BUSY with nvm := { s.nvm with writing := some (p, ws) } }

/-! ### Quill -/

/-- QUILL_LOCKSTEP_MISMATCH (R351): both cores stop, a FAULT blot is logged and a restart begins. -/
def doLockstep (cycles : Word) (s : State) : State :=
  if !(s.quill.up || s.quill.restart.isSome) then s
  else
    let s := s.logBlot blkQUILL 1 clsFAULT cycles.toNat
    { s with quill := { s.quill with up := false, restart := some (s.quill.restart.getD 1) } }

/-- The helper sequencers' programs are reloaded at a Quill start (R353). The scan sequencer changes store at the next
tick boundary; no packet or frame is cut between two commands, so the others change at once, but for ingest while a frame
is open. -/
def State.loadHelpers (s : State) (crcOk : Bool) : State :=
  let used := (if s.role = .tile then 1 else 0) + 30 + (if s.role = .head then 32 else 0)
  if !crcOk then
    let (f, s) := s.freeNat 3
    let n := if s.role = .tile then f % 5 else if s.role = .head then 1 + f % 5 else 1 + f % 4
    (s.logBlot blkQUILL 3 clsFAULT n)
  else { s with quill := { s.quill with storeDue := used } }

/-- A source has a frame open. -/
def State.frameOpen (s : State) : Bool := s.ingest.srcs.any (fun (e : Nat × Source) => e.2.cur.isSome || !e.2.waiting.isEmpty)

/-- Sequencer `n` changes to its other store (R353). -/
def State.switchStore (s : State) (n : Nat) : State :=
  if bitsOf s.quill.storeDue n 1 = 0 then s
  else
    let q := s.quill
    ({ s with quill := { q with
      stores   := setBits q.stores n 1 (1 - bitsOf q.stores n 1)
      storeDue := setBits q.storeDue n 1 0 } }).emit (.helperStore n)

/-- The switch points reached by now: the tick boundary for scan, packet and frame boundaries for the others. -/
def State.switchStores (s : State) (tick : Bool) : State :=
  if s.quill.storeDue = 0 then s
  else
    let s := if tick then s.switchStore 0 else s
    let s := forEach [1, 2, 3, 4] (fun n s => s.switchStore n) s
    if s.frameOpen then s else s.switchStore 5

/-- SYS_QUILL_STAT at a Quill start. -/
def State.quillStarted (s : State) (cause : Nat) : State :=
  { s.put Fld.SYS_QUILL_STAT_CAUSE cause with quill := { s.quill with up := true, restart := none } }

/-- Firmware writes the checkpoint of the tick into the slot whose turn it is (R352). What else it holds is firmware's own
state, which stands in the fields it concerns (assumption 163). -/
def State.checkpoint (s : State) : State :=
  if !s.quill.up || s.quill.recovery || !(s.bankHolds 13) then s
  else
    let q := s.quill
    { s with quill := if q.ckptNext = 0 then { q with ckpt0 := some s.clk.fn, ckptNext := 1 }
      else { q with ckpt1 := some s.clk.fn, ckptNext := 0 } }

/-- The checkpoint a restart takes: of the slots that hold one whose CRC checks, that with the later FN. -/
def takenCkpt (a b : Option Word) : Option Word :=
  match a, b with
  | some x, some y => if later y x then some y else some x
  | some x, none => some x
  | none, b => b

/-- QUILL_RESTART_DONE after a lockstep mismatch (R352): the checkpoint, the helper sequencers and the count. -/
def State.restartDone (s : State) (cause : Nat) (slot0Ok slot1Ok helperCrcOk : Bool) : State :=
  let s := s.count Fld.SYS_QUILL_STAT_RESTARTS
  let used := takenCkpt (if slot0Ok then s.quill.ckpt0 else none) (if slot1Ok then s.quill.ckpt1 else none)
  let s := { s with quill := { s.quill with resumed := used } }
  let s := s.putBit Fld.SYS_QUILL_STAT_NOCKPT used.isNone
  let s := if used.isNone then s.logBlot blkQUILL 2 clsDEGRADED else s
  (s.loadHelpers helperCrcOk).quillStarted cause

/-- A customer command ends in the user partition (R354): INTERNAL or TIMEOUT restarts the partition. -/
def State.userEnd (s : State) (status opcode : Nat) : State :=
  s.logBlot blkQUILL 4 clsINFO status opcode

end Sys2Proof.Machine
end

