-- ==== Sys2Proof/Machine/Thermal.lean ====
section
/-! DEFINITION. Sensors, the thermal model and the thermal levels (R382 to R388). -/

namespace Sys2Proof.Machine

/-- Inserts a number in rising order. -/
def insertInt (a : Int) : List Int → List Int
  | [] => [a]
  | b :: t => if a ≤ b then a :: b :: t else b :: insertInt a t

/-- A list in rising order. -/
def sortInt : List Int → List Int
  | [] => []
  | a :: t => insertInt a (sortInt t)

/-- The median; the mean of the two middle values of an even count (assumption 63). -/
def medianOf (l : List Int) : Option Rat :=
  let m := sortInt l
  let n := m.length
  if n = 0 then none
  else if n % 2 = 1 then some (m.getD (n / 2) 0 : Rat)
  else some (((m.getD (n / 2 - 1) 0 + m.getD (n / 2) 0 : Int) : Rat) / 2)

/-- Sensors of a model node (*Table — Thermal model nodes*). -/
def nodeSensors (j : Nat) : List Nat :=
  match j with
  | 0 => [0, 1, 2, 3]
  | 1 => [4, 5]
  | 2 => [6, 7]
  | 3 => [8, 9, 10]
  | 4 => [11]
  | _ => []

/-- Model node of a sensor. -/
def sensorNode (i : Nat) : Nat := if i < 4 then 0 else if i < 6 then 1 else if i < 8 then 2 else if i < 11 then 3 else 4

/-- Sensors of the die of sensor `i`. -/
def dieSensors (i : Nat) : List Nat := if i < 8 then List.range 8 else [8, 9, 10, 11]

/-- Sensors read in this role (R382). -/
def State.sensors (s : State) : List Nat := if s.role = .tile then List.range 12 else List.range 8

/-- A sensor that is not voted out. -/
def State.sensValid (s : State) (i : Nat) : Bool := decide (i ∈ s.sensors) && s.bit (Fld.THM_SENS_VALID i)

/-- A valid sensor that is not suspect in the last sample. -/
def State.sensGood (s : State) (i : Nat) : Bool := s.sensValid i && !(s.bit (Fld.THM_SENS_SUSPECT i))

/-- The last reading, in 1/8 °C. -/
def State.reading (s : State) (i : Nat) : Int := signed 16 (s.get (Fld.THM_SENS_T i))

/-- The level that 2 of the last 3 results reach; none before two results (R261). -/
def confirmed (l : List Nat) : Option Nat :=
  match l with
  | [a, b] => some (min a b)
  | a :: b :: c :: _ => some (max (min a b) (min (max a b) c))
  | _ => none

/-- The reading a sensor gives in a sample, in 1/8 °C (R382): sensors 8 to 11 come through sense ADC inputs 9 to 12, −40 to
150 °C, as R261 confirms them; until then the last reading stands. -/
def State.sensorRead (s : State) (x : ThermalSample) (i : Nat) : Int :=
  if i < 8 then x.sensors.getD i 0
  else match confirmed (SMap.get (fun _ => []) s.drive.tempRes (i + 1)) with
    | some c => (c * 1520 / 4096 : Nat) - 320
    | none => s.reading i

/-- Median of the valid ones of some sensors, in °C. -/
def State.medianC (s : State) (l : List Nat) : Option Rat :=
  (medianOf ((l.filter s.sensValid).map s.reading)).map (· / 8)

/-- T[j]. -/
def State.nodeTemp (s : State) (j : Nat) : Rat := s.thm.temps.getD j 0

/-- Sets T[j] and its register. -/
def State.setTemp (s : State) (j : Nat) (t : Rat) : State :=
  ({ s with thm := { s.thm with temps := setAt s.thm.temps j t } }).put (Fld.THM_NODE_T_T j) (unsigned 16 (t * 8).floor)

/-- TAMB in °C. -/
def State.ambient (s : State) : Rat := (signed 8 (s.get Fld.THM_BOARD_TAMB) : Int)

/-- The starting values of the model at BOOT (R383). -/
def State.startModel (s : State) : State :=
  let p := (s.medianC (List.range 8)).getD s.ambient
  let d := if s.role = .tile then (s.medianC [8, 9, 10, 11]).getD p else p
  let s := forEach [0, 1, 2] (fun j s => s.setTemp j p) s
  let s := forEach [3, 4] (fun j s => s.setTemp j d) s
  let s := s.setTemp 5 s.ambient
  { s with thm := { s.thm with started := true } }

/-- V_SET − THM_VNEED[c], or V_HR, in mV (R382). -/
def State.sinkDrop (s : State) (c : Nat) : Int :=
  let n := s.get (Fld.THM_VNEED_V c)
  if n = 0 then 10 * (max 20 (min 60 (s.get Fld.DRV_RAIL_CFG_VHR)) : Nat)
  else (s.get Fld.DRV_RAIL_STAT_VSET : Int) - 10 * n

/-- The sink dissipation of the tick that ended, in W (R382): over colours, mean current times drop. -/
def State.sinkPower (s : State) : Rat :=
  if !(s.lit) then 0
  else
    let st := if s.drive.scanFn.toNat % 2 = 0 then s.lamp.staging0 else s.lamp.staging1
    let p := s.parsFor s.drive.scanFn
    (st.map (fun e =>
      let n := (2 ^ p.slog * e.2.1 + e.2.2) / 65536
      (s.lampCurrent p e.1 : Rat) / 16 * (n * p.gclk * 2 ^ 32 : Nat) / (max 1 p.texact : Nat) * (s.sinkDrop (e.1 % 3) : Rat) / 1000000000)).sum

/-- The sink dissipation is taken at each tick start. -/
def State.sinkTick (s : State) : State :=
  if s.role = .tile then { s with thm := { s.thm with sink := s.sinkPower } } else s

/-- Power input of model node `j` in W: the rail monitors of nodes 0 to 2 in 10 mW. -/
def State.nodePower (s : State) (x : ThermalSample) (j : Nat) : Rat :=
  if j < 3 then (x.powers.getD j 0 : Rat) / 100
  else if s.role ≠ .tile then 0
  else if j = 3 then s.thm.sink
  else if j = 4 then Config.thermalConst 2 4
  else 0

/-- One model node advances by Δ = 1 ms (R383): conductances Config.thermalConst 1 (6 j + m), capacities
Config.thermalConst 0 j. -/
def State.modelNode (s : State) (x : ThermalSample) (j : Nat) : State :=
  let t := s.nodeTemp j
  let p := s.nodePower x j
  let flow := ((List.range 6).map (fun m => Config.thermalConst 1 (6 * j + m) * (s.nodeTemp m - t))).sum
  let amb := if j = 5 then (s.ambient - t) * 100 / (max 1 (s.get Fld.THM_BOARD_RCA) : Nat) else 0
  let t := t + (1 / 1000) / Config.thermalConst 0 j * (p + flow + amb)
  let t := match s.medianC (nodeSensors j) with
    | some m => t + (m - t) * (1 / 10000)
    | none => t
  (s.put (Fld.THM_NODE_T_P j) (unsigned 16 (p * 100).floor)).setTemp j t

/-- The vote on one sensor (R384), after the model's step. -/
def State.voteSensor (s : State) (i : Nat) : State :=
  if !(s.sensValid i) then s
  else
    let t : Rat := (s.reading i : Rat) / 8
    let far (a : Rat) : Bool := decide (5 < t - a) || decide (5 < a - t)
    let sus := far (s.nodeTemp (sensorNode i)) &&
      (match s.medianC ((dieSensors i).filter (fun k => decide (k ≠ i))) with | some m => far m | none => false)
    let n := if sus then min 3 (s.get (Fld.THM_SENS_SCNT i) + 1) else 0
    (s.putBit (Fld.THM_SENS_SUSPECT i) sus).put (Fld.THM_SENS_SCNT i) n

/-- A sensor suspect in three consecutive samples is voted out. -/
def State.dropSensor (s : State) (i : Nat) : State :=
  if s.sensValid i && decide (3 ≤ s.get (Fld.THM_SENS_SCNT i)) then
    let d := ((s.reading i : Rat) - 8 * s.nodeTemp (sensorNode i)).floor.natAbs
    let s := (s.put (Fld.THM_SENS_VALID i) 0).raise Fld.THM_INT_VOTE
    (s.logBlot blkTHM 3 clsDEGRADED i).cpcLog 8 i i 0xFF d false
  else s

/-- MODELONLY of both dies. -/
def State.modelOnly (s : State) : State :=
  let few (l : List Nat) : Bool := decide ((l.filter s.sensValid).length < 2)
  let s := s.putBit Fld.THM_STAT_MODELONLY_P (few (List.range 8))
  if s.role = .tile then s.putBit Fld.THM_STAT_MODELONLY_D (few [8, 9, 10, 11]) else s

/-- T_J in °C (R385). -/
def State.junction (s : State) : Rat :=
  let ts := (List.range 5).map s.nodeTemp ++ ((s.sensors.filter s.sensGood).map (fun i => (s.reading i : Rat) / 8))
  ts.foldl max (s.nodeTemp 0)

/-- The shutdown trigger fires (R388). -/
def State.tooHot (s : State) : Bool :=
  (List.range 5).any (fun j => decide (125 ≤ s.nodeTemp j)) ||
    (!(s.bit Fld.THM_STAT_MODELONLY_D) &&
      [List.range 8, [8, 9, 10, 11]].any (fun l => (l.filter s.sensGood).any (fun i => (l.filter s.sensGood).any (fun k =>
        decide (i < k) && decide (1000 ≤ s.reading i) && decide (1000 ≤ s.reading k) &&
        decide ((s.reading i - s.reading k).natAbs ≤ 40)))))

/-- Thresholds in °C, with the values that out-of-range codes act as. -/
def State.warnC (s : State) : Nat := max 60 (min 100 (s.get Fld.THM_CFG_WARN))
def State.throtC (s : State) : Nat := max 70 (min 108 (s.get Fld.THM_CFG_THROT))
def State.hystC (s : State) : Nat := max 1 (s.get Fld.THM_CFG_HYST)

/-- The level T_J calls for (*Table — Thermal levels*): 0 normal, 1 Warn, 2 Throttle. -/
def State.levelFor (s : State) (tj : Rat) : Nat :=
  let l := s.get Fld.THM_STAT_LEVEL
  let w : Rat := (s.warnC : Nat)
  let t : Rat := (s.throtC : Nat)
  let h : Rat := (s.hystC : Nat)
  if t ≤ tj ∨ (l = 2 ∧ t - h ≤ tj) then 2
  else if w ≤ tj ∨ (1 ≤ l ∧ w - h ≤ tj) then 1
  else 0

/-! ### Throttle (R386, R387) -/

/-- PWR_DIM.GAIN as last written: values above 0x8000 act as 0x8000. -/
def State.dimGain (s : State) : Nat := min 0x8000 (wbits (s.coming Reg.PWR_DIM) 15 0)

/-- Writes PWR_DIM.GAIN, effective at the next tick. -/
def State.writeDim (s : State) (g : Nat) : State := s.pend Reg.PWR_DIM 0xFFFF (wd g)

/-- Entry into Throttle. -/
def State.throttleOn (s : State) : State :=
  let s := { s with thm := { s.thm with hotMs := 0 } }
  match s.role with
  | .tile =>
    let start := min 0x8000 (s.get Fld.THM_THROT_CFG_START)
    if s.pwr.state = .active then
      let s := (s.put Fld.THM_THROT_STAT_HOSTDIM s.dimGain).writeDim start
      let (ok, s) := s.request (.state .dim)
      { s with thm := { s.thm with kept := true, inDim := ok } }
    else if s.pwr.state = .dim then
      let s := (s.put Fld.THM_THROT_STAT_HOSTDIM s.dimGain).writeDim (min s.dimGain start)
      { s with thm := { s.thm with kept := true, inDim := false } }
    else s
  | .head => { s with thm := { s.thm with gateTo := some (if 2 < s.get Fld.CMP_LANE_STAT_LANES then 1 else 0) } }
  | _ => s

/-- One more step of the throttle. -/
def State.throttleMore (s : State) : State :=
  match s.role with
  | .tile =>
    if s.thm.kept then s.writeDim (min s.dimGain (max 0x2000 (s.dimGain - 0x1000))) else s
  | .head =>
    let off := s.get Fld.THM_STAT_LANES_OFF
    let n := s.thm.gateTo.getD off
    if n + 2 < s.get Fld.CMP_LANE_STAT_LANES + off then { s with thm := { s.thm with gateTo := some (n + 1) } } else s
  | _ => s

/-- The end of Throttle. -/
def State.throttleOff (s : State) : State :=
  match s.role with
  | .tile =>
    if s.thm.kept then
      let dim := s.thm.inDim
      let s := s.writeDim (s.get Fld.THM_THROT_STAT_HOSTDIM)
      let s := { s with thm := { s.thm with kept := false, inDim := false } }
      if dim then (s.request (.state .active)).2 else s
    else s
  | .head => { s with thm := { s.thm with gateTo := some 0 } }
  | _ => s

/-- A change of level (R385). -/
def State.setLevelC (s : State) (n : Nat) (tj : Nat) : State :=
  let l := s.get Fld.THM_STAT_LEVEL
  let s := s.put Fld.THM_STAT_LEVEL n
  if n = l then s
  else if l < n then
    let s := if n = 2 then (s.raise Fld.THM_INT_THROT).logBlot blkTHM 2 clsINFO tj
      else (s.raise Fld.THM_INT_WARN).logBlot blkTHM 1 clsINFO tj
    if n = 2 then s.throttleOn else s
  else
    let s := s.raise Fld.THM_INT_CLEAR
    if l = 2 then s.throttleOff else s

/-- THERMAL_MODEL_UPDATE (R383 to R388): every 1 ms of DTIME. -/
def doThermal (x : ThermalSample) (s : State) : State :=
  if !(s.powered) then s
  else
    let s := forEach s.sensors (fun i s => s.put (Fld.THM_SENS_T i) (unsigned 16 (s.sensorRead x i))) s
    let s := if s.thm.started then s else s.startModel
    let s := forEach (List.range 6) (fun j s => s.modelNode x j) s
    let s := forEach s.sensors (fun i s => s.voteSensor i) s
    let s := forEach s.sensors (fun i s => s.dropSensor i) s
    let s := s.modelOnly
    let tj := s.junction
    let code := unsigned 16 (tj * 8).floor
    let s := s.put Fld.THM_STAT_TJ code
    if s.tooHot then doShutdown s
    else
      let s := s.setLevelC (s.levelFor tj) code
      if (s.throtC : Rat) ≤ tj then { s with thm := { s.thm with hotMs := s.thm.hotMs + 1 } }
      else { s with thm := { s.thm with hotMs := 0 } }

/-- THROTTLE_STEP (R386, R387): STEP_S seconds at or above THROT have passed since the last step. -/
def doThrottleStep (s : State) : State :=
  let n := 1000 * max 1 (s.get Fld.THM_THROT_CFG_STEP_S)
  if decide (s.get Fld.THM_STAT_LEVEL = 2) && decide (n ≤ s.thm.hotMs) && s.powered then
    ({ s with thm := { s.thm with hotMs := s.thm.hotMs - n } }).throttleMore
  else s

/-- What the tick start does: gated lanes (R387) and the throttle gain in effect. -/
def State.thermalTick (s : State) : State :=
  let s := match s.thm.gateTo with
    | some n =>
      let off := s.get Fld.THM_STAT_LANES_OFF
      let s := s.put Fld.CMP_LANE_STAT_LANES (s.get Fld.CMP_LANE_STAT_LANES + off - n)
      { s.put Fld.THM_STAT_LANES_OFF n with thm := { s.thm with gateTo := none } }
    | none => s
  let s := s.put Fld.THM_THROT_STAT_GAIN (if s.thm.kept then min 0x8000 (s.get Fld.PWR_DIM_GAIN) else 0x8000)
  s.sinkTick

/-- A write of PWR_DIM.GAIN by software: during a throttle it goes into HOSTDIM only (R386). -/
def State.writeHostDim (s : State) (g : Nat) : State :=
  if s.thm.kept then s.put Fld.THM_THROT_STAT_HOSTDIM g else s.writeDim g

end Sys2Proof.Machine
end

