-- ==== Sys2Proof/Machine/Settings.lean ====
section
/-! DEFINITION. Settings records and their migration (R367, R368). Which settings a firmware image has, where it keeps them
and what it makes of an older format is the image's own and comes with its start (assumption 115). -/

namespace Sys2Proof.Machine

/-- The first page of a settings record, by its place in the region 1,731 to 4,095 (*Table — MRAM page map*). -/
def settingPage (n : Nat) : Nat := 1731 + n % 2365

/-- Fields of a record's header (R367). -/
def recRid (r : List Word) : Nat := wbits (nth r 0) 15 0
def recFormat (r : List Word) : Nat := wbits (nth r 0) 31 16
def recLen (r : List Word) : Nat := (nth r 1).toNat
def recGen (r : List Word) : Word := nth r 2

/-- CRC-32C over a record with the CRC field taken as 0. -/
def recCrc (r : List Word) : Word := wd (crc32c ((leStream (setAt r 3 0)).take (recLen r)))

/-- The content of a record after its header. -/
def recContent (r : List Word) : List Word := r.drop 4

/-- A record with its header; LEN counts the header too (assumption 115). -/
def makeRec (rid format : Nat) (gen : Word) (content : List Word) : List Word :=
  let r := [wd (rid % 65536 + format % 65536 * 65536), wd (16 + 4 * content.length), gen, 0] ++ content
  setAt r 3 (recCrc r)

/-- The words of the `n` pages from page `p` on. -/
def State.pageRun (s : State) (p n : Nat) : List Word :=
  match n with
  | 0 => []
  | n + 1 => s.nvmPage p ++ s.pageRun (p + 1) n

/-- The record of one setting and format that begins at page `p`, when its CRC checks. -/
def State.recAt (s : State) (rid format p : Nat) : Option (List Word) :=
  let len := recLen (s.nvmPage p)
  let n := (len + 255) / 256
  let r := (s.pageRun p (if p + n ≤ 4096 then n else 0)).take ((len + 3) / 4)
  if 16 ≤ len ∧ p + n ≤ 4096 ∧ recRid r = rid ∧ recFormat r = format ∧ nth r 3 = recCrc r then some r else none

/-- Writes words into the pages from page `p` on. -/
def State.putPages (s : State) (p : Nat) (n : Nat) (ws : List Word) : State :=
  match n with
  | 0 => s
  | n + 1 => (s.setNvmPage p ((ws.take 64 ++ List.replicate 64 0).take 64)).putPages (p + 1) n (ws.drop 64)

/-- Writes a record at page `p`. -/
def State.putRec (s : State) (p : Nat) (r : List Word) : State := s.putPages p ((r.length + 63) / 64) r

/-- What the reading of a record pair comes to (R367): the copy used, the copies to rewrite, and whether a blot is due. -/
structure PairRead where
  used   : Option (List Word)
  fixPri : Bool
  fixMir : Bool
  blot   : Bool
  deriving DecidableEq, Repr

/-- The four cases of R367, by the copies that check. -/
def readPair (pri mir : Option (List Word)) : PairRead :=
  match pri, mir with
  | none, none => ⟨none, false, false, true⟩
  | some a, none => ⟨some a, false, true, false⟩
  | none, some b => ⟨some b, true, false, false⟩
  | some a, some b =>
    if recGen a ≠ recGen b then
      (if later (recGen b) (recGen a) then ⟨some b, true, false, false⟩ else ⟨some a, false, true, false⟩)
    else ⟨some a, false, false, decide (a ≠ b)⟩

/-- A setting as firmware holds it from now on. -/
def State.useSetting (s : State) (rid : Nat) (content : List Word) : State :=
  { s with nvm := { s.nvm with settings := SMap.put s.nvm.settings rid content } }

/-- Writes a record as its primary copy and then as its mirror (R367). -/
def State.writePair (s : State) (pri mir : Nat) (r : List Word) : State := (s.putRec pri r).putRec mir r

/-- Firmware reads one setting at its start (R367, R368). Without a pair of its own FORMAT and with one of a format it can
migrate, it writes the migrated record as a new pair and leaves the old one. -/
def State.loadSetting (s : State) (c : Setting) : State :=
  let rid := c.rid.toNat
  let p := settingPage c.primary.val
  let m := settingPage c.mirror.val
  let read (fmt p m : Nat) : PairRead := readPair (s.recAt rid fmt p) (s.recAt rid fmt m)
  let own := read c.format.toNat p m
  match own.used with
  | some r =>
    let s := if own.fixPri then s.putRec p r else s
    let s := if own.fixMir then s.putRec m r else s
    let s := if own.blot then s.logBlot blkNVM 3 clsDEGRADED rid else s
    s.useSetting rid (recContent r)
  | none =>
    match c.old.find? (fun (o : OldSetting) => (read o.format.toNat (settingPage o.primary.val) (settingPage o.mirror.val)).used.isSome) with
    | some o =>
      let p0 := settingPage o.primary.val
      let m0 := settingPage o.mirror.val
      let gen := match (read o.format.toNat p0 m0).used with | some r => recGen r + 1 | none => 1
      let s := s.writePair p m (makeRec rid c.format.toNat gen o.migrated)
      ({ s with nvm := { s.nvm with oldPairs := s.nvm.oldPairs ++ [(⟨rid, o.format.toNat, p0, m0⟩ : OldPair)] } }).useSetting rid o.migrated
    | none => (s.logBlot blkNVM 3 clsDEGRADED rid).useSetting rid c.default

/-- Firmware reads its settings. -/
def State.loadSettings (s : State) (l : List Setting) : State := forEach l (fun c s => s.loadSetting c) s

/-- Frees the pages of a record. -/
def State.freeRec (s : State) (rid format p : Nat) : State :=
  match s.recAt rid format p with
  | some r => s.putPages p ((r.length + 63) / 64) []
  | none => s

/-- UPD_CONFIRM has been accepted: the old pairs are freed (R368, R379). -/
def State.freeOldPairs (s : State) : State :=
  let l := s.nvm.oldPairs
  forEach l (fun (o : OldPair) s => (s.freeRec o.rid o.format o.primary).freeRec o.rid o.format o.mirror)
    { s with nvm := { s.nvm with oldPairs := [] } }

end Sys2Proof.Machine
end

