-- ==== Sys2Proof/Machine/Update.lean ====
section
/-! DEFINITION. Firmware update (R371 to R381): the image and its validity, the update record, distribution,
verification, activation and trial, and the start of firmware at BOOT. -/

namespace Sys2Proof.Machine

/-! ### The image (R371, R372) -/

/-- An erased 4 KiB block. -/
def erased : List Word := List.replicate 1024 0xFFFFFFFF

/-- Block `j` of a slot. -/
def State.flashBlock (s : State) (slot j : Nat) : List Word := SMap.get (fun _ => erased) s.upd.flash (4096 * slot + j)

/-- CRC-32C of a block. -/
def blockCrc (b : List Word) : Nat := crc32c (leStream b)

/-- HCRC checks. -/
def hcrcOk (b : List Word) : Bool := blockCrc (setAt b 6 0) == (nth b 6).toNat

def hBlocks (b : List Word) : Nat := (nth b 2).toNat
def hVersion (b : List Word) : Word := nth b 3
def hSvn (b : List Word) : Nat := (nth b 4).toNat
def hM (b : List Word) : Nat := wbits (nth b 5) 2 0
def hKeyId (b : List Word) : Nat := wbits (nth b 5) 9 8

/-- Item 1 of R372, with the ranges of *Table — Pensiys header*. -/
def headerOk (b : List Word) : Bool :=
  nth b 0 == 0x53594E50 && wbits (nth b 1) 15 0 == 1 && decide (4 ≤ hBlocks b) && decide (hBlocks b ≤ 4096) &&
    decide (1 ≤ hM b) && decide (hM b ≤ 5) && hcrcOk b

/-- The manifest: blocks 1 to M. -/
def State.manifest (s : State) (slot : Nat) : List Word :=
  (List.range (hM (s.flashBlock slot 0))).flatMap (fun j => s.flashBlock slot (j + 1))

/-- A section entry: type, first block, block count, digest. -/
structure Section where
  kind   : Nat
  first  : Nat
  count  : Nat
  digest : List Word
  deriving DecidableEq, Repr

/-- The used section entries of a manifest. -/
def sectionsOf (m : List Word) : List Section :=
  ((List.range 16).map (fun i =>
    (⟨wbits (nth m (16 * i)) 7 0, (nth m (16 * i + 1)).toNat, (nth m (16 * i + 2)).toNat, (m.drop (16 * i + 4)).take 12⟩ : Section))).filter
    (fun e => decide (e.kind ≠ 0))

/-- Most blocks a section of a type may have (R371). -/
def sectionMax (kind : Nat) : Nat :=
  match kind with
  | 1 => 112
  | 2 => 4
  | 3 => 4
  | 4 => 4
  | 5 => 16
  | _ => 4096

/-- The contents of a section. -/
def State.sectionWords (s : State) (slot : Nat) (e : Section) : List Word :=
  (List.range e.count).flatMap (fun j => s.flashBlock slot (e.first + j))

/-- Two sections share no block. -/
def Section.apart (a b : Section) : Bool := decide (a.first + a.count ≤ b.first) || decide (b.first + b.count ≤ a.first)

/-- No two sections of a list overlap. -/
def sectionsApart (l : List Section) : Bool :=
  match l with
  | [] => true
  | e :: t => t.all (fun f => e.apart f) && sectionsApart t

/-- Items 4 and 5 of R372: the key and the signature. -/
def State.signatureOk (s : State) (slot : Nat) : Bool :=
  let b := s.flashBlock slot 0
  let key := (b.drop 16).take 24
  digestWords (leStream key) == Config.fusedKey (hKeyId b) && !(Config.keyRevoked (hKeyId b)) &&
    ecdsaOk (pairOfLe key) (sha384 (leStream (b.take 40 ++ s.manifest slot))) (pairOfLe ((b.drop 40).take 24))

/-- Items 1 to 3 of R372. -/
def State.crcsOk (s : State) (slot : Nat) : Bool :=
  let b := s.flashBlock slot 0
  headerOk b && decide ((1024 + 4 * hBlocks b + 4095) / 4096 ≤ hM b) &&
    (List.range (hM b)).all (fun j => blockCrc (s.flashBlock slot (j + 1)) == (nth b (8 + j)).toNat) &&
    (List.range (hBlocks b)).all (fun j => decide (j ≤ hM b) ||
      blockCrc (s.flashBlock slot j) == (nth (s.manifest slot) (256 + j)).toNat)

/-- Items 6 and 7 of R372. -/
def State.sectionsOk (s : State) (slot : Nat) : Bool :=
  let b := s.flashBlock slot 0
  let l := sectionsOf (s.manifest slot)
  l.any (fun e => e.kind == 1) && sectionsApart l &&
    l.all (fun e => decide (hM b < e.first) && decide (e.first + e.count ≤ hBlocks b) && decide (e.count ≤ sectionMax e.kind) &&
      digestWords (leStream (s.sectionWords slot e)) == e.digest) &&
    decide (s.upd.record.minSvn ≤ hSvn b)

/-- What a node checks at a checkpoint restart or an activation (R372): items 1, 4 and 5, and item 6 for the sections it
loads into TCM and the helper sequencers. -/
def State.imageStarts (s : State) (slot : Nat) : Bool :=
  let b := s.flashBlock slot 0
  let l := (sectionsOf (s.manifest slot)).filter (fun e => decide (e.kind ≤ 5))
  headerOk b && s.signatureOk slot && l.any (fun e => e.kind == 1) && sectionsApart l &&
    l.all (fun e => decide (hM b < e.first) && decide (e.first + e.count ≤ hBlocks b) && decide (e.count ≤ sectionMax e.kind) &&
      digestWords (leStream (s.sectionWords slot e)) == e.digest)

/-- The image of a slot is valid (R372). -/
def State.validSlot (s : State) (slot : Nat) : Bool := s.crcsOk slot && s.signatureOk slot && s.sectionsOk slot

/-! ### The update record (R373) -/

def State.setRecord (s : State) (r : UpdRec) : State := { s with upd := { s.upd with record := r } }

/-- The target slot: the one ACTIVE does not name; slot A for the recovery loader (R381). -/
def State.targetSlot (s : State) : Nat := if s.quill.recovery then 0 else 1 - s.upd.record.active

/-- UPD_CFG.WDOG in ns. -/
def State.wdogNs (s : State) : Nat := max 1 (s.get Fld.UPD_CFG_WDOG) * 60000000000

/-- A trial start: WDOG minutes begin (R378). -/
def State.trialStart (s : State) : State :=
  { s with upd := { s.upd with trial := true, wdogEnd := s.clk.upNs + s.wdogNs } }

/-- The ROM's choice at BOOT (R373): the slot to start, or none for the recovery loader; the record is updated. -/
def State.chooseSlot (s : State) : Option Nat × State :=
  let r := s.upd.record
  let target := 1 - r.active
  if r.pending && decide (r.trials < 3) && s.validSlot target then
    (some target, (s.setRecord { r with trials := r.trials + 1 }).trialStart)
  else
    let s := if r.pending then
        (s.setRecord { r with pending := false, trials := 0 }).logBlot blkUPD 1 clsDEGRADED r.trials
      else s
    let r := s.upd.record
    if s.validSlot r.active then (some r.active, s)
    else if s.validSlot target && r.verified then
      ((some target, (((s.setRecord { r with active := target }).logBlot blkUPD 2 clsDEGRADED target).cpcLog 7 target r.active target 0 true)))
    else (none, s)

/-! ### Firmware start (R36, R373, R381) -/

/-- UPD_SLOT_VER: the version of a slot's image, 0 when its header is not valid. -/
def State.slotVersions (s : State) : State :=
  forEach [0, 1] (fun i s =>
    let b := s.flashBlock i 0
    s.setWord (Reg.UPD_SLOT_VER i) (if headerOk b then hVersion b else 0)) s

/-- The image of a slot has a user section (R354). -/
def State.hasUser (s : State) (slot : Nat) : Bool := (sectionsOf (s.manifest slot)).any (fun e => e.kind == 5)

/-- What firmware does at its start in a working role: its settings, the bank map, the tile's calibration, ageing and
reference check. -/
def State.firmwareUp (s : State) (slot iref : Nat) (settings : List Setting) : State :=
  let s := { s with quill := { s.quill with slot := slot } }
  let s := s.loadSettings settings
  let s := ((s.putBit Fld.SYS_QUILL_STAT_USER (s.hasUser slot)).loadHelpers true).quillStarted 0
  let s := s.loadBanks
  if s.role = .tile then ((s.bootCal).irefCheck iref).ageRequest else s

/-- The recovery loader starts (R381). The role stays the one the straps gave (R2). It fills slot A, from the first block
unless an open session was filling that slot. -/
def State.recoveryUp (s : State) : State :=
  let r := s.upd.record
  let s := if r.isOpen ∧ r.active = 1 then s else s.setRecord { r with next := 0 }
  ({ s with quill := { s.quill with recovery := true, up := true } }).raise Fld.UPD_STAT_REC

/-- FIRMWARE_START (R373, R381): with the straps taken, SRAM cleared and the required rails good, and no debug hold. The
work of the transition to READY is then done. -/
def doFirmwareStart (iref : Nat) (settings : List Setting) (s : State) : State :=
  if decide (s.pwr.state ≠ .boot) || !(s.bit Fld.MEM_STAT_CLEARED) || !(s.pwr.strapped) || s.pwr.bootWait || s.quill.debug ||
      s.pwr.fwStarted then s
  else
    let s := s.slotVersions
    let s := if s.role = .recovery then s.recoveryUp
      else match s.chooseSlot with
        | (some slot, s) => s.firmwareUp slot iref settings
        | (none, s) => s.recoveryUp
    ({ s with pwr := { s.pwr with fwStarted := true } }).workIsDone

/-! ### Sessions (R374) -/

/-- Gives bank 14 of a tile or a branch to QUILL, or takes it back to NONE (R376). -/
def State.bank14 (s : State) (on : Bool) : State :=
  if s.role = .tile ∨ s.role = .branch then s.pend (Reg.MEM_BANK_OWNER 14) 0xF (if on then 9 else 0) else s

/-- The status UPD_BEGIN draws at once, or none when the target slot is erased first (R374). -/
def State.beginStatus (s : State) (p : List Word) : Option Nat :=
  let r := s.upd.record
  let len := (nth p 1).toNat
  if r.isOpen ∧ r.session = wbits (nth p 0) 15 0 ∧ r.length = len then some stOK
  else if len = 0 then some stOK
  else if r.isOpen ∨ s.upd.trial = true then some stBUSY
  else none

/-- The session closes. -/
def State.closeSession (s : State) : State :=
  ((s.setRecord { s.upd.record with isOpen := false }).bank14 false)

/-- The sectors the image needs are erased (R374). -/
def State.eraseSlot (s : State) (len : Nat) : State :=
  let base := 4096 * s.targetSlot
  let n := (len + 65535) / 65536 * 16
  { s with upd := { s.upd with
    flash := s.upd.flash.filter (fun (e : Nat × List Word) => !(decide (base ≤ e.1) && decide (e.1 < base + n)))
    staging := []
    done := []
    held := [] } }

/-- UPD_BEGIN acts at a node (R374). -/
def State.applyBegin (s : State) (c : Cmd) : State :=
  let p := c.params
  match s.beginStatus p with
  | some st =>
    let s := if (nth p 1).toNat = 0 ∧ s.upd.record.isOpen = true then s.closeSession else s
    s.answer opUPD_BEGIN c st false s.clk.fn []
  | none =>
    let s := (s.setRecord { s.upd.record with
      isOpen := true, session := wbits (nth p 0) 15 0, length := (nth p 1).toNat, next := 0, verified := false }).bank14 true
    let s := s.eraseSlot (nth p 1).toNat
    { s with upd := { s.upd with erasing := some c } }

/-- UPD_ERASE_DONE (R374). -/
def doEraseDone (s : State) : State :=
  match s.upd.erasing with
  | some c => ({ s with upd := { s.upd with erasing := none } }).answer opUPD_BEGIN c stOK false s.clk.fn []
  | none => s

/-! ### Blocks (R375, R376) -/

/-- A header or manifest block the node holds: accepted in this session, or programmed. -/
def State.heldBlock (s : State) (j : Nat) : Option (List Word) :=
  match SMap.find s.upd.held j with
  | some b => some b
  | none => if j < s.upd.record.next ∨ j ∈ s.upd.done then some (s.flashBlock s.targetSlot j) else none

/-- A block passes the CRC check of R375. -/
def State.blockOk (s : State) (j : Nat) (b : List Word) : Bool :=
  if j = 0 then hcrcOk b
  else match s.heldBlock 0 with
    | none => false
    | some h =>
      if hBlocks h ≤ j then false
      else if j ≤ hM h then blockCrc b == (nth h (7 + j)).toNat
      else
        let ms := (List.range (hM h)).map (fun k => s.heldBlock (k + 1))
        ms.all Option.isSome && blockCrc b == (nth (ms.flatMap (fun m => m.getD [])) (256 + j)).toNat

/-- The node already holds block `j`. -/
def State.hasBlock (s : State) (j : Nat) : Bool :=
  decide (j < s.upd.record.next) || decide (j ∈ s.upd.done) || s.upd.staging.any (fun (e : Nat × List Word) => decide (e.1 = j))

/-- Puts an accepted block into staging; with staging full it is dropped and counted (R376). -/
def State.stageBlock (s : State) (j : Nat) (b : List Word) : State :=
  if s.hasBlock j then s
  else if 64 ≤ s.upd.staging.length then s.count Fld.UPD_CNT_DROP
  else
    { s with upd := { s.upd with
      staging := s.upd.staging ++ [(j, b)]
      held    := if j ≤ 5 then SMap.put s.upd.held j b else s.upd.held } }

/-- The lowest block not yet programmed, from `n` on. -/
def nextBlock (done : List Nat) (fuel n : Nat) : Nat :=
  match fuel with
  | 0 => n
  | k + 1 => if n ∈ done then nextBlock done k (n + 1) else n

/-- UPD_BLOCK_PROGRAMMED (R376): the oldest staged block stands in the target slot, and NEXT is written to MRAM. -/
def doProgrammed (s : State) : State :=
  match s.upd.staging with
  | [] => s
  | (j, b) :: t =>
    let done := j :: s.upd.done
    let s := { s with upd := { s.upd with
      staging := t
      done    := done
      flash   := SMap.put s.upd.flash (4096 * s.targetSlot + j) b } }
    s.setRecord { s.upd.record with next := nextBlock done 4097 s.upd.record.next }

/-- Ports a head sends UPD on: every port whose link is up (R375). -/
def State.upPorts (s : State) : List Nat := (List.range 4).filter (fun p => s.portLocal p)

/-- The queue once port `p` has sent its next UPD: the first entry that waits for `p` waits for it no longer. -/
def dropPort (p : Nat) (l : List (List Word × List Nat)) : List (List Word × List Nat) :=
  match l with
  | [] => []
  | e :: t =>
    if p ∈ e.2 then
      let rest := e.2.filter (fun x => decide (x ≠ p))
      if rest.isEmpty then t else (e.1, rest) :: t
    else e :: dropPort p t

/-- Sends the next queued UPD of port `p`, if the port's GAP has ended (R375). -/
def State.sendUpd (s : State) (p : Nat) : State :=
  if p ∈ s.upd.gap then s
  else match s.upd.queue.find? (fun e => decide (p ∈ e.2)) with
    | none => s
    | some e =>
      let s := { s with upd := { s.upd with queue := dropPort p s.upd.queue, gap := p :: s.upd.gap } }
      s.sendOn p 0 tyUPD 0 s.nodeId e.1

/-- UPD_SEND_GAP (R375). -/
def doSendGap (p : Nat) (s : State) : State :=
  ({ s with upd := { s.upd with gap := s.upd.gap.filter (fun x => decide (x ≠ p)) } }).sendUpd p

/-- The parameters of UPD_BLOCK (R375); a session other than the open one is BAD_PARAM too (assumption 70). -/
def State.blockParamOk (s : State) (p : List Word) : Bool :=
  s.upd.record.isOpen && decide (s.upd.record.session = wbits (nth p 0) 15 0) && decide ((nth p 1).toNat < 4096) &&
    s.blockOk (nth p 1).toNat (p.drop 2)

/-- UPD_BLOCK acts at the node that takes it (R375): its own target slot, and a head's distribution. -/
def State.applyBlock (s : State) (c : Cmd) : State :=
  let p := c.params
  let s := s.stageBlock (nth p 1).toNat (p.drop 2)
  let s := if s.role = .head ∧ s.upPorts ≠ [] then
      s.tagAnd tyUPD 0 (wd (s.upd.record.session * 2 ^ 16) :: nth p 1 :: p.drop 2) (fun b s =>
        let s := { s with upd := { s.upd with queue := s.upd.queue ++ [(b, s.upPorts)] } }
        forEach s.upPorts (fun q s => s.sendUpd q) s)
    else s
  s.answer opUPD_BLOCK c stOK false s.clk.fn []

/-- The block of a received UPD (R376). -/
def State.takeUpd (s : State) (x : Rx) (b : List Word) : State :=
  let r := s.upd.record
  let j := wbits (nth b 1) 31 0
  let data := (b.drop 2).take 1024
  -- the recovery loader takes a distribution without a session of its own (R381)
  if x.type.toNat ≠ tyUPD ∨ (r.isOpen = false ∧ s.quill.recovery = false) ∨
      (r.isOpen = true ∧ r.session ≠ wbits (nth b 0) 31 16) then s
  else if !(s.blockOk j data) then s.count Fld.UPD_CNT_CRCERR
  else
    let s := s.stageBlock j data
    if s.role = .head then s
    else
      let back := (s.headIndex x.src).map (fun i => s.get (Fld.LNK_HEAD_PORT i))
      forEach ((s.floodPorts none).filter (fun p => decide (some p ≠ back))) (fun p s => s.sendOn p 0 tyUPD 0 x.src x.body) s

/-- UPD_RECEIVED (R376, R381): the recovery loader takes it unchecked while no domain key is held. -/
def doUpd (x : Rx) (s : State) : State :=
  s.receive x (fun b s => s.takeUpd x b)
    (fun k s => if k = .noKey ∧ s.quill.recovery = true then s.takeUpd x x.body else s)

/-! ### Verification and activation (R377 to R380) -/

/-- Clears VERIFIED and starts the check (R377). -/
def State.applyVerify (s : State) (c : Cmd) : State :=
  let s := s.setRecord { s.upd.record with verified := false }
  { s with upd := { s.upd with verifying := some c } }

/-- The outcome of the check (R377). -/
def State.verifyStatus (s : State) (session : Nat) : Nat :=
  let t := s.targetSlot
  let r := s.upd.record
  if r.isOpen = false ∨ r.session ≠ session ∨ s.crcsOk t = false ∨ r.next < hBlocks (s.flashBlock t 0) then stBAD_PARAM
  else if !(s.signatureOk t) then stAUTH_FAIL
  else if !(s.sectionsOk t) then stBAD_PARAM
  else stOK

/-- UPD_VERIFY_DONE (R377). -/
def doVerifyDone (s : State) : State :=
  match s.upd.verifying with
  | none => s
  | some c =>
    let st := s.verifyStatus (wbits (nth c.params 0) 15 0)
    let s := ({ s with upd := { s.upd with verifying := none } }).raise Fld.UPD_INT_VERIFY
    let s := if st = stOK then s.setRecord { s.upd.record with verified := true } else s
    s.answer opUPD_VERIFY c st false s.clk.fn []

/-- UPD_ACTIVATE arms a trial in one record write (R378). -/
def State.applyActivate (s : State) (at_ : Word) : State :=
  s.setRecord { s.upd.record with pending := true, actAt := at_, trials := 1 }

/-- Quill restarts on a slot (R378, R380). -/
def State.restartOn (s : State) (slot : Nat) : State :=
  { s with quill := { s.quill with up := false, restart := some 2, slot := slot } }

/-- ACT_DTIME has passed, and the trial it arms has not begun. -/
def State.activateDue (s : State) : Bool :=
  s.upd.record.pending && !s.upd.trial && s.passed s.upd.record.actAt && s.quill.restart.isNone && s.running && !s.quill.recovery

/-- ACTIVATION_INSTANT (R378): the first tick start after ACT_DTIME with no restart running. -/
def doActivation (s : State) : State :=
  if s.activateDue then (s.restartOn (1 - s.upd.record.active)).trialStart else s

/-- UPD_CONFIRM (R379). -/
def State.applyConfirm (s : State) : State :=
  let t := 1 - s.upd.record.active
  let s := s.setRecord { s.upd.record with
    active := t, pending := false, trials := 0, minSvn := max s.upd.record.minSvn (hSvn (s.flashBlock t 0)), isOpen := false }
  -- settings of the old format are freed (R368)
  (({ s with upd := { s.upd with trial := false } }).bank14 false).freeOldPairs

/-- A trial runs and its watchdog has not expired. -/
def State.trialRuns (s : State) : Bool := s.upd.trial && decide (s.clk.upNs < s.upd.wdogEnd)

/-- TRIAL_WATCHDOG_EXPIRY (R380): the restart on the ACTIVE slot follows at the next tick start. -/
def doTrialExpiry (s : State) : State :=
  if !s.upd.trial then s
  else
    let s := if s.clk.upNs < s.upd.wdogEnd then s.elapse (s.upd.wdogEnd - s.clk.upNs) else s
    let r := s.upd.record
    let s := (s.setRecord { r with pending := false, trials := 0 }).logBlot blkUPD 3 clsDEGRADED r.session
    let s := (s.raise Fld.UPD_INT_REVERT).cpcLog 7 (1 - r.active) (1 - r.active) r.active 0 true
    { s with upd := { s.upd with trial := false }, quill := { s.quill with revert := true } }

/-- What a tick start does to an update: an activation, or a reversion that waits (R378, R380). -/
def State.updTick (s : State) : State :=
  let s := doActivation s
  if s.quill.revert && s.quill.restart.isNone then
    ({ s with quill := { s.quill with revert := false } }).restartOn s.upd.record.active
  else s

/-- A restart finds an image that is not valid, and does not run it (R372). On trial, the trial is abandoned and the ACTIVE
slot is started; otherwise Quill stays stopped (assumption 124). -/
def State.restartFails (s : State) : State :=
  if s.upd.trial && decide (s.quill.slot ≠ s.upd.record.active) then
    let r := s.upd.record
    let s := (s.setRecord { r with pending := false, trials := 0 }).logBlot blkUPD 1 clsDEGRADED r.trials
    ({ s with upd := { s.upd with trial := false } }).restartOn r.active
  else s

/-- QUILL_RESTART_DONE (R352, R353, R378): the image is checked, the checkpoint taken and the helper programs reloaded;
firmware reads its settings (R367). -/
def doRestartDone (slot0Ok slot1Ok helperCrcOk : Bool) (settings : List Setting) (s : State) : State :=
  match s.quill.restart with
  | none => s
  | some cause =>
    if !(s.imageStarts s.quill.slot) then s.restartFails
    else
    let s := (s.restartDone cause slot0Ok slot1Ok helperCrcOk).loadSettings settings
    let s := s.putBit Fld.SYS_QUILL_STAT_USER (s.hasUser s.quill.slot)
    if s.upd.trial && decide (s.quill.slot ≠ s.upd.record.active) then
      let s := if cause = 2 then s.raise Fld.UPD_INT_ACTIVATED else s
      s.trialStart
    else s

/-! ### Recovery (R381) -/

/-- UPD_REC_BLOCK (R381): the block in the to-head mailbox is checked, and staged for slot A. -/
def doRecBlock (v : Word) (s : State) : State :=
  if !(s.quill.recovery && s.running) || !s.upd.staging.isEmpty then s
  else
    let j := wbits v 11 0
    let b := (List.range 1024).map (fun i => SMap.get (fun _ => 0) s.host.toHead i)
    if s.blockOk j b then (s.stageBlock j b).put Fld.UPD_REC_STAT_ERR 0 else s.raise Fld.UPD_REC_STAT_ERR

/-- RECOVERY_IMAGE_DONE (R381): slot A is verified, becomes ACTIVE, and the node enters BOOT by warm reset. -/
def doRecoveryDone (s : State) : State :=
  if s.quill.recovery && s.running && s.validSlot 0 then
    ((s.setRecord { s.upd.record with active := 0, pending := false }).flushToMram.enterBoot false).raise Fld.PWR_RST_CAUSE_WARM
  else s

end Sys2Proof.Machine
end

