-- ==== Sys2Proof/Machine/RegAccess.lean ====
section
/-! DEFINITION. The register space as an access sees it (R3 to R5, R369, R370, R417 to R423): which blocks a role has,
reads with their views and side effects, writes by access code, and the registers whose writes do something. -/

namespace Sys2Proof.Machine

/-- The blocks (offset / 0x1_0000) of the recovery role (R4). -/
def recoveryBlocks : List Nat := [0x00, 0x01, 0x02, 0x03, 0x05, 0x06, 0x07, 0x10, 0x11, 0x12, 0x13, 0x22, 0x23, 0x25]

/-- Whether a role uses the block an offset lies in (R3, R5). -/
def roleUses (r : Role) (x : Nat) : Bool :=
  let b := x / 0x10000
  match r with
  | .head => !(decide (0x1C ≤ b) && decide (b ≤ 0x1E))
  | .tile => !(decide (0x14 ≤ b) && decide (b ≤ 0x1B)) && b != 0x08 && b != 0x20 && b != 0x25
  | .branch => !(decide (0x14 ≤ b) && decide (b ≤ 0x1E)) && b != 0x08 && b != 0x20 && b != 0x21 && b != 0x25
  | .recovery => decide (b ∈ recoveryBlocks)

/-- A bit in a place. -/
def at_ (b : Bool) (n : Nat) : Nat := if b then 2 ^ n else 0

/-! ### Views: registers that show structured state -/

/-- PWR_STATE. -/
def State.pwrStateWord (s : State) : Word :=
  let st := s.pwr.state.code
  let target := match s.pwr.trans with
    | some t => (match t.req with | .state p => p.code | .warm => PState.boot.code)
    | none => if s.pwr.state = .boot then PState.ready.code else st
  let queued := match s.pwr.queued with
    | some (.state p) => p.code
    | some .warm => PState.boot.code
    | none => 0
  wd (at_ s.safeHold 16 + at_ s.pwr.queued.isSome 12 + queued * 2 ^ 8 + target * 2 ^ 4 + st)

/-- ICU_SRC[n]. -/
def State.icuSrcWord (s : State) (n : Nat) : Word :=
  wd (setBits (setBits (setBits (s.word (Reg.ICU_SRC n)).toNat 28 1 (bitNat (icuLevel n))) 27 1 (bitNat (s.icuPend n))) 26 1
    (bitNat (s.icuInput n)))

/-- The lamp COR_LAMP_SEL selects. -/
def State.lampSel (s : State) : Nat :=
  let l := s.get Fld.COR_LAMP_SEL_LAMP
  if 43199 < l then 0 else l

/-- UPD_STAT. -/
def State.updStatWord (s : State) : Word :=
  let r := s.upd.record
  wd (at_ s.quill.recovery 7 + at_ r.isOpen 6 + at_ r.verified 5 + at_ r.pending 4 + r.trials % 4 * 4 + r.active % 2)

/-- UPD_WDOG_LEFT: whole seconds of the running trial, rounded up. -/
def State.wdogLeft (s : State) : Nat :=
  if s.trialRuns then (s.upd.wdogEnd - s.clk.upNs + 999999999) / 1000000000 else 0

/-- CPC_SPARES. -/
def State.sparesWord (s : State) : Word :=
  let head := decide (s.role = .head)
  let tile := decide (s.role = .tile)
  let lanes := ((List.range 4).map (fun p => at_ (s.linkUp p && !(s.bit (Fld.LNK_PORT_STAT_NOSPARE p))) p)).sum
  wd (at_ (head && s.mem.noRepair.isEmpty) 19 + at_ (s.validSlot (1 - s.quill.slot)) 18 +
    at_ (tile && s.bit Fld.DRV_RAIL_CFG_SPARE_EN && s.drive.spareFor.isNone) 17 + at_ (head && s.spareFree) 16 +
    s.get Fld.NVM_POOL_FREE % 256 * 2 ^ 8 + at_ (s.bit Fld.MEM_SPARE_VALID) 4 + lanes)

/-- PCI_RING_STAT of the selected client. -/
def State.ringStatWord (s : State) : Word :=
  let r := s.ring (BitVec.ofNat 12 (s.get Fld.PCI_RING_SEL_CLIENT))
  wd (at_ r.en 31 + at_ r.err 29 + at_ r.stopped 28 + r.reason % 8 * 2 ^ 25 + at_ r.rfull 24)

/-- LNK_SEC_USE of port `p` (R193). -/
def State.secUseWord (s : State) (p : Nat) : Word :=
  let k := s.keysOf p
  let q := s.link.ports.getD p PortSt.reset
  if k.agreed then wd (min (max (2 * q.tx0.seq - k.ctr0) (2 * q.tx1.seq - k.ctr1) / 2 ^ 24) 0xFFFFFFFF) else 0

/-- The MSI-X table word and the pending bits of the PCI Express layout (R310, R320). -/
def State.msixWord (s : State) (i : Nat) : Word :=
  if i < 256 then SMap.get (fun k => if k % 4 = 3 then 1 else 0) s.host.msix i else 0

/-- The 32-bit word `k` of the pending bit array. -/
def State.pbaWord (s : State) (k : Nat) : Word :=
  wd ((s.host.pba.filter (fun v => decide (v / 32 = k))).map (fun v => 2 ^ (v % 32))).sum

/-- Views of blocks SYS to CMD. -/
def State.viewLow (s : State) (x : Nat) : Option Word :=
  if x = Reg.SYS_ID then some (wd (0x4310 * 2 ^ 16 + Config.grade % 16 * 2 ^ 12 + Config.step % 16 * 2 ^ 8))
  else if x = Reg.PWR_STATE then some s.pwrStateWord
  else if x = Reg.PWR_RAIL_STAT then some (wd (s.railsRequired.toNat * 256 + s.pwr.railsGood.toNat))
  else if Reg.ICU_SRC 0 ≤ x ∧ x < Reg.ICU_SRC 256 then some (s.icuSrcWord ((x - Reg.ICU_SRC 0) / 4))
  else if x = Reg.ICU_LEVEL 0 then some (wd (s.icu.stack0.length * 2 ^ 16 + s.icu.stack0.headD 0))
  else if x = Reg.ICU_LEVEL 1 then some (wd (s.icu.stack1.length * 2 ^ 16 + s.icu.stack1.headD 0))
  else if x = Reg.TIME_HT_SEC then some s.readHtSec
  else if x = Reg.TIME_MASTER_CFG ∧ s.role ≠ .head then some (s.word x &&& ~~~0x10)
  else if x = Reg.CMD_CLIENT then some (SMap.get shownDefault s.cmds.shown (s.get Fld.CMD_CLIENT_SEL_CLIENT))
  else none

/-- Views of the other shared blocks: NVM, MEM, LNK, RED, SEC, UPD, PMU, CPC. -/
def State.viewShared (s : State) (secure : Bool) (x : Nat) : Option Word :=
  if Reg.NVM_RBUF 0 ≤ x ∧ x < Reg.NVM_RBUF 64 then
    (if !secure && (match s.nvm.rbufPage with | some p => decide (p ≤ 255) | none => false) then some 0 else none)
  else if x = Reg.MEM_BIST_STAT then some (wd (setBits (s.word x).toNat 27 3 s.bistStep))
  else if (List.range 4).any (fun p => decide (x = Reg.LNK_SEC_USE p)) then some (s.secUseWord ((x - Reg.LNK_SEC_USE 0) / 0x10000))
  else if x = Reg.RED_TILE_STAT then
    some (wd (setBits (setBits (setBits (s.word x).toNat 4 1 (bitNat s.priv.place.isNone)) 2 1 (bitNat s.tile.strB.lastf.isSome)) 1 1
      (bitNat s.tile.strA.lastf.isSome)))
  else if x = Reg.RED_PRV_HELD 0 then some (itemWord (s.priv.items.map (·.1)) 0)
  else if x = Reg.RED_PRV_HELD 1 then some (itemWord (s.priv.items.map (·.1)) 1)
  else if x = Reg.RED_PRV_SHOWN 0 then some (itemWord s.itemsShown 0)
  else if x = Reg.RED_PRV_SHOWN 1 then some (itemWord s.itemsShown 1)
  else if x = Reg.RED_PRV_BYTES then some (wd s.privetBytes)
  else if x = Reg.SEC_WORLD then some (wd (bitNat secure))
  else if Reg.SEC_IDKEY 0 ≤ x ∧ x < Reg.SEC_IDKEY 24 then some (nth idKey ((x - Reg.SEC_IDKEY 0) / 4))
  else if x = Reg.UPD_STAT then some s.updStatWord
  else if x = Reg.UPD_SESSION then some (wd (s.upd.record.session % 2 ^ 16 * 2 ^ 16 + s.upd.record.next % 2 ^ 13))
  else if x = Reg.UPD_MINSVN then some (wd s.upd.record.minSvn)
  else if x = Reg.UPD_WDOG_LEFT then some (wd (min s.wdogLeft 0xFFFF))
  else if x = Reg.UPD_REC_STAT then
    some (wd (at_ (s.quill.recovery && !s.upd.staging.isEmpty) 31 + at_ (s.bit Fld.UPD_REC_STAT_ERR) 30 +
      (if s.quill.recovery then s.upd.record.next % 2 ^ 13 else 0)))
  else if (List.range 32).any (fun n => decide (x = Reg.PMU_CNT_HI n)) then
    some (wd (s.pmu.latch.getD ((x - Reg.PMU_CNT_HI 0) / 16) 0))
  else if x = Reg.CPC_SPARES then some s.sparesWord
  else if Reg.CPC_LOG 0 ≤ x ∧ x < Reg.CPC_LOG 4 then
    some (nth (SMap.get (fun _ => []) s.saved.cpcLog (s.get Fld.CPC_LOG_SEL_ENTRY)) ((x - Reg.CPC_LOG 0) / 4))
  else none

/-- Views of a head's blocks. -/
def State.viewHead (s : State) (x : Nat) : Option Word :=
  if x = Reg.CMP_WDESC_SEL then
    let w := s.get Fld.CMP_WDESC_SEL_WIN
    some (wd (at_ (SMap.find s.comp.winShown w).isSome 31 + w))
  else if Reg.CMP_WDESC 0 ≤ x ∧ x < Reg.CMP_WDESC 16 then
    some (match SMap.find s.comp.winShown (s.get Fld.CMP_WDESC_SEL_WIN) with
      | some w => nth w.words ((x - Reg.CMP_WDESC 0) / 4)
      | none => 0)
  else if x = Reg.CMP_TDESC_SEL then
    let t := s.get Fld.CMP_TDESC_SEL_TILE
    some (wd (at_ (match SMap.find s.comp.tileShown t with | some d => decide (tdWq d ≠ 0) | none => false) 31 + t))
  else if Reg.CMP_TDESC 0 ≤ x ∧ x < Reg.CMP_TDESC 8 then
    some (match SMap.find s.comp.tileShown (s.get Fld.CMP_TDESC_SEL_TILE) with
      | some d => nth d ((x - Reg.CMP_TDESC 0) / 4)
      | none => 0)
  else if x = Reg.JRN_PI_LO then some (wd s.jrn.main)
  else if x = Reg.JRN_PI_HI then some (wd (s.jrn.main / 2 ^ 32))
  else if x = Reg.PCI_RING_STAT then some s.ringStatWord
  else if Reg.PCI_RING_CFG 0 ≤ x ∧ x < Reg.PCI_RING_CFG 8 then
    some (SMap.get (fun _ => 0) s.host.ctx (8 * s.get Fld.PCI_RING_SEL_CLIENT + (x - Reg.PCI_RING_CFG 0) / 4))
  else if 0x258000 ≤ x ∧ x < 0x258400 then some (s.msixWord ((x - 0x258000) / 4))
  else if x = 0x259000 then some (s.pbaWord 0)
  else if x = 0x259004 then some (s.pbaWord 1)
  else none

/-- Views of a tile's blocks. -/
def State.viewTile (s : State) (x : Nat) : Option Word :=
  let l := s.lampSel
  if x = Reg.COR_LAMP_LEDGER then some (wd (SMap.get (fun _ => 0) s.lamp.ledgerView l))
  else if x = Reg.COR_LAMP_GAIN then
    some (wd (SMap.get (fun _ => 0) s.lamp.effView l % 2 ^ 16 * 2 ^ 16 + SMap.get (fun _ => 0x8000) s.lamp.gainView l % 2 ^ 16))
  else if x = Reg.COR_LAMP_FLAGS then some (wd (SMap.get (fun _ => 0) s.lamp.flagView l))
  else if x = Reg.COR_LAMP_DUTY then some (wd (SMap.get (fun _ => 0) s.lamp.dutyView l))
  else if x = Reg.DRV_FAULT_STAT then
    some (wd (setBits (setBits (s.word x).toNat 31 1 (bitNat s.noProbe)) 30 1 (bitNat s.noTest)))
  else if x = Reg.DRV_TCAL_STAT then some (wd (setBits (s.word x).toNat 30 1 (bitNat s.noTest)))
  else none

/-- What a register reads as without side effect. -/
def State.peekReg (s : State) (secure : Bool) (x : Nat) : Word :=
  let v := if x < 0x50000 then s.viewLow x
    else if 0x140000 ≤ x ∧ x < 0x1C0000 ∨ 0x200000 ≤ x ∧ x < 0x210000 ∨ 0x250000 ≤ x ∧ x < 0x260000 then s.viewHead x
    else if 0x1C0000 ≤ x ∧ x < 0x200000 then s.viewTile x
    else s.viewShared secure x
  match v with
  | some w => w
  | none => s.word x

/-- A read of the register at offset `x` over a path (R417, R421, R422): reads with side effects have them on every path.
An offset that is no multiple of 4, a block the role does not use, and a node without power read 0. -/
def State.readReg (s : State) (path : Path) (x : Nat) : Word × State :=
  if !(s.powered) || decide (x % 4 ≠ 0) || decide (0x400000 ≤ x) || !(roleUses s.role x) then (0, s)
  else if x = Reg.TIME_DTIME then s.readDtime
  else if x = Reg.TIME_HT_NS then s.readHtNs
  else if x = Reg.ICU_CLAIM1 then s.readClaim1
  else if x = Reg.SRC_LUT_DATA then s.readLutData
  else if x = Reg.CMP_FILT_DATA then s.readFiltData
  else if x = Reg.CMP_WLUT_DATA then s.readWlutData
  else match (List.range 32).find? (fun n => decide (x = Reg.PMU_CNT_LO n)) with
    | some n => s.readCntLo n
    | none => (s.peekReg (pathSecure path) x, s)

/-! ### Writes by access code (R418, R419) -/

/-- The bits of a field in place. -/
def RegField.bits (f : RegField) (v : Word) : Nat := bitsOf v.toNat f.lo (f.hi + 1 - f.lo)

/-- A write of one field. -/
def State.writeField (s : State) (x : Nat) (v : Word) (secure : Bool) (f : RegField) : State :=
  let fld : Fld := ⟨x, f.hi, f.lo⟩
  let n := f.bits v
  let mask := wd (2 ^ (f.hi + 1) - 2 ^ f.lo)
  match f.acc with
  | .rw => s.put fld n
  | .ro => s
  | .w1c => s.put fld (s.get fld &&& (2 ^ (f.hi + 1 - f.lo) - 1 - n))
  | .w1s => s.put fld (s.get fld ||| n)
  | .wo => s
  | .rwt => s.pend x mask v
  | .srw => if secure then s.put fld n else s
  | .srwt => if secure then s.pend x mask v else s
  | .clr0 => if n = 0 then s.put fld 0 else s

/-- SRW bits of a register differ between a write and their current value. -/
def State.srwDiffers (s : State) (x : Nat) (v : Word) (l : List RegField) : Bool :=
  l.any (fun f => (f.acc == .srw || f.acc == .srwt) && decide (f.bits v ≠ s.get ⟨x, f.hi, f.lo⟩))

/-- A write of every field of a register by its access code; a normal-world attempt on SRW bits is a violation (R370). -/
def State.writePlain (s : State) (path : Path) (x : Nat) (v : Word) : State :=
  let l := regFields x
  let secure := pathSecure path
  let bad := !secure && s.srwDiffers x v l
  let s := forEach l (fun f s => s.writeField x v secure f) s
  if bad then s.secViol path x else s

/-- A write of an ICU_SRC entry: an entry of the secure world is left alone from the normal world (R361). -/
def State.writeIcuSrc (s : State) (path : Path) (n : Nat) (v : Word) : State :=
  let x := Reg.ICU_SRC n
  if s.icuSecure n && !(pathSecure path) then
    if (regFields x).any (fun f => f.acc != .ro && decide (f.bits v ≠ s.get ⟨x, f.hi, f.lo⟩)) then s.secViol path x else s
  else s.writePlain path x v

/-- A write of SCN_CFG or DRV_GATE: DEAD must be at least RAMP (R246); CFG_ERR is bit 6 of SCN_INT. -/
def State.writeScan (s : State) (path : Path) (x : Nat) (v : Word) : State :=
  let clamp (n : Nat) : Nat := max 20 (min 200 n)
  let dead := clamp (wbits (if x = Reg.SCN_CFG then v else s.coming Reg.SCN_CFG) 23 16)
  let ramp := clamp (wbits (if x = Reg.DRV_GATE then v else s.coming Reg.DRV_GATE) 23 16)
  if dead < ramp then s.scnEvent 6 else s.writePlain path x v

/-- Registers of blocks SYS to DMC whose writes do more than their access codes say. -/
def State.writeLow (s : State) (path : Path) (x : Nat) (v : Word) : Option State :=
  if x = Reg.PWR_REQ then
    some ((if wbits v 31 31 = 1 then s.put Fld.PWR_REQ_ERR 0 else s).writeReqValue (wbits v 3 0))
  else if x = Reg.PWR_RST then some (doWarmReset (BitVec.ofNat 16 (wbits v 15 0)) s)
  else if x = Reg.PWR_DIM then some (s.writeHostDim (wbits v 15 0))
  else if Reg.ICU_SRC 0 ≤ x ∧ x < Reg.ICU_SRC 256 then some (s.writeIcuSrc path ((x - Reg.ICU_SRC 0) / 4) v)
  else if x = Reg.ICU_SETPEND then some (doSetpend (wbits v 7 0) path s)
  else if x = Reg.ICU_CLRPEND then some (doClrpend (wbits v 7 0) path s)
  else if x = Reg.ICU_EOI 0 then some (doEoi 0 (wbits v 3 0) s)
  else if x = Reg.ICU_EOI 1 then some (doEoi 1 (wbits v 3 0) s)
  else if x = Reg.TIME_HT_NS then some (s.writeHtNs v)
  else if x = Reg.TIME_HT_SEC then some (s.writeHtSec v)
  else if x = Reg.TIME_MASTER_CFG then some (s.writePlain path x v).dropMaster
  else if x = Reg.TIME_REF_CFG then
    some (let u := s.writePlain path x v; if u.refSrc = s.refSrc then u else u.newReference)
  else if x = Reg.NVM_CMD then
    some (match wbits v 31 30 with
      | 1 => doNvmRead (wbits v 11 0) path s
      | 2 => doNvmWrite (wbits v 11 0) path 0 s
      | _ => s)
  else if x = Reg.MEM_BIST_CTL then some (doBistStart v path s)
  else if x = Reg.MEM_BIST_STAT then some (if wbits v 31 31 = 1 then s.put Fld.MEM_BIST_STAT_REFUSED 0 else s)
  else if x = Reg.DMC_MAP then
    some (if s.get Fld.DMC_STAT_TRAINED = 0 then
      (s.put Fld.DMC_MAP_HASH (wbits v 2 2)).put Fld.DMC_MAP_ORDER (wbits v 1 0) else s)
  else none

/-- Registers of the LNK blocks: port `p`, offset `y` in the block. -/
def State.writeLnk (s : State) (p y : Nat) (v : Word) : Option State :=
  if y = 0x008 then some (doSwapArm p v s)
  else if y = 0x208 then some (escRelease p v s)
  else if y % 0x40 = 0x10 ∧ 0x110 ≤ y ∧ y ≤ 0x190 then some (doPrbs p ((y - 0x110) / 0x40) v s)
  else if y % 0x40 = 0x18 ∧ 0x118 ≤ y ∧ y ≤ 0x198 then
    -- what the measurement counts is not the writer's to say: a free value (assumption 5)
    let (n, s) := s.freeNat 32
    some (doEye p ((y - 0x118) / 0x40) v n s)
  else none

/-- Registers of a head's blocks. -/
def State.writeHead (s : State) (path : Path) (x : Nat) (v : Word) : Option State :=
  if x = Reg.SRC_GRP_CFG 0 then some (doGmodeWrite 0 v s)
  else if x = Reg.SRC_GRP_CFG 1 then some (doGmodeWrite 1 v s)
  else if x = Reg.SRC_LUT_CTL then some (doLutSwap v s)
  else if x = Reg.SRC_LUT_DATA then some (s.writeLutData v)
  else if Reg.SRC_HREADY 0 ≤ x ∧ x < Reg.SRC_HREADY 64 then some (doHready ((x - Reg.SRC_HREADY 0) / 4) v s)
  else if 0x144000 ≤ x ∧ x < 0x146000 ∧ (x - 0x144000) % 0x80 < 12 ∧ s.bit (Fld.SRC_CFG_ENABLED ((x - 0x144000) / 0x80)) = true then
    -- R78: while the source is enabled only SRC_CFG.LIVE takes a write
    some (if (x - 0x144000) % 0x80 = 0 then s.put (Fld.SRC_CFG_LIVE ((x - 0x144000) / 0x80)) (wbits v 31 31) else s)
  else if x = Reg.CMP_PLANE_ORDER then some (doPlaneOrderWrite v s)
  else if x = Reg.CMP_WTAB_BASE then some (if s.comp.windows.isEmpty then s.writePlain path x v else s)
  else if x = Reg.CMP_FILT_CTL then some (doFiltSwap v s)
  else if x = Reg.CMP_FILT_DATA then some (s.writeFiltData v)
  else if x = Reg.CMP_TTAB_BASE then some (if (placedTiles s.comp.tiles).isEmpty then s.writePlain path x v else s)
  else if x = Reg.CMP_INK_CTL then some (doInkInval v s)
  else if x = Reg.CMP_PREV_BASE then
    let s' := s.pend x 0x80000000 v
    some (if s.bit ⟨Reg.CMP_PREV_BASE, 31, 31⟩ then s' else s'.put ⟨Reg.CMP_PREV_BASE, 15, 0⟩ (wbits v 15 0))
  else if x = Reg.CMP_RUNAHEAD then some (doRunahead v s)
  else if x = Reg.CMP_WLUT_CTL then some (doWlutSwap v s)
  else if x = Reg.CMP_WLUT_DATA then some (s.writeWlutData v)
  else if x = Reg.JRN_STAGE then some (if s.jrnRuns || s.replaying then s else s.writePlain path x v)
  else if x = Reg.JRN_CI_HI then some (doCiHi v s)
  else none

/-- Registers of the PCI block (R313, R315, R316, R320). -/
def State.writePci (s : State) (x : Nat) (v : Word) : Option State :=
  if x = Reg.PCI_XLT_INV then some (doXltInvalidate v s)
  else if x = Reg.PCI_RING_STAT then some (s.ringStatWrite v)
  else if Reg.PCI_RING_CFG 0 ≤ x ∧ x < Reg.PCI_RING_CFG 8 then
    let c := s.get Fld.PCI_RING_SEL_CLIENT
    some (if (s.ring (BitVec.ofNat 12 c)).en then s
      else { s with host := { s.host with ctx := SMap.set (fun _ => 0) s.host.ctx (8 * c + (x - Reg.PCI_RING_CFG 0) / 4) v } })
  else if 0x258000 ≤ x ∧ x < 0x258400 then
    some ({ s with host := { s.host with
      msix := SMap.set (fun k => if k % 4 = 3 then 1 else 0) s.host.msix ((x - 0x258000) / 4) v } }).releasePba
  else match (List.range 5).find? (fun c => decide (x = Reg.PCI_CH_STAT c)) with
    | some c =>
      let s := s.channelResume c v
      some (if c = 2 then s.runJournal else s)
    | none => none

/-- Registers of a tile's blocks. -/
def State.writeTile (s : State) (path : Path) (x : Nat) (v : Word) : Option State :=
  if x = Reg.SCN_CFG ∨ x = Reg.DRV_GATE then some (s.writeScan path x v)
  else if x = Reg.COR_AGE_CTL then some (doAgeNow v s)
  else if x = Reg.DRV_ADC_SEQ then some (s.put Fld.DRV_ADC_SEQ_EN (wbits v 15 0 ||| 0x1FF9))
  else match (List.range 3).find? (fun w => decide (x = Reg.DRV_ROW_LATCH w)) with
    | some w => some (doRowRelease w v s)
    | none => none

/-- Registers of UPD and PMU. -/
def State.writeRest (s : State) (x : Nat) (v : Word) : Option State :=
  if x = Reg.UPD_REC_CTL then some (doRecBlock v s)
  else if x = Reg.PMU_TIMED_CTL then some (doTimedArm v s)
  else match (List.range 32).find? (fun n => decide (x = Reg.PMU_CNT_CFG n)) with
    | some n => some (doCounterClear n v s)
    | none => none

/-- Registers a write of which can do more than the access codes of their fields say. -/
def ownWrite (x : Nat) : Bool :=
  [Reg.PWR_REQ, Reg.PWR_RST, Reg.PWR_DIM, Reg.ICU_SETPEND, Reg.ICU_CLRPEND, Reg.ICU_EOI 0, Reg.ICU_EOI 1, Reg.TIME_HT_NS,
    Reg.TIME_HT_SEC, Reg.TIME_MASTER_CFG, Reg.TIME_REF_CFG, Reg.NVM_CMD, Reg.MEM_BIST_CTL, Reg.MEM_BIST_STAT, Reg.DMC_MAP,
    Reg.SRC_GRP_CFG 0, Reg.SRC_GRP_CFG 1, Reg.SRC_LUT_CTL, Reg.SRC_LUT_DATA, Reg.CMP_PLANE_ORDER, Reg.CMP_WTAB_BASE,
    Reg.CMP_FILT_CTL, Reg.CMP_FILT_DATA, Reg.CMP_TTAB_BASE, Reg.CMP_INK_CTL, Reg.CMP_PREV_BASE, Reg.CMP_RUNAHEAD,
    Reg.CMP_WLUT_CTL, Reg.CMP_WLUT_DATA, Reg.JRN_STAGE, Reg.JRN_CI_HI, Reg.PCI_XLT_INV, Reg.PCI_RING_STAT, Reg.SCN_CFG,
    Reg.DRV_GATE, Reg.COR_AGE_CTL, Reg.DRV_ADC_SEQ, Reg.UPD_REC_CTL, Reg.PMU_TIMED_CTL].contains x ||
  (decide (Reg.ICU_SRC 0 ≤ x) && decide (x < Reg.ICU_SRC 256)) ||
  (decide (0x100000 ≤ x) && decide (x < 0x140000) &&
    (let y := x % 0x10000
     decide (y = 0x008) || decide (y = 0x208) || ((decide (y % 0x40 = 0x10) || decide (y % 0x40 = 0x18)) && decide (0x110 ≤ y) && decide (y ≤ 0x198)))) ||
  (decide (Reg.SRC_HREADY 0 ≤ x) && decide (x < Reg.SRC_HREADY 64)) ||
  (decide (0x144000 ≤ x) && decide (x < 0x146000) && decide ((x - 0x144000) % 0x80 < 12)) ||
  (decide (Reg.PCI_RING_CFG 0 ≤ x) && decide (x < Reg.PCI_RING_CFG 8)) || (decide (0x258000 ≤ x) && decide (x < 0x258400)) ||
  (List.range 5).any (fun c => decide (x = Reg.PCI_CH_STAT c)) || (List.range 3).any (fun w => decide (x = Reg.DRV_ROW_LATCH w)) ||
  (List.range 32).any (fun n => decide (x = Reg.PMU_CNT_CFG n))

/-- A write of the register at offset `x` over a path (R417, R418, R421): no effect on a block the role does not use, nor
where no register lies. -/
def State.writeReg (s : State) (path : Path) (x : Nat) (v : Word) : State :=
  if !(s.powered) || decide (x % 4 ≠ 0) || decide (0x400000 ≤ x) || !(roleUses s.role x) then s
  else
    let r := if x < 0x100000 then s.writeLow path x v
      else if x < 0x140000 then s.writeLnk ((x - 0x100000) / 0x10000) (x % 0x10000) v
      else if x < 0x1C0000 ∨ 0x200000 ≤ x ∧ x < 0x210000 then s.writeHead path x v
      else if x < 0x200000 then s.writeTile path x v
      else if 0x250000 ≤ x ∧ x < 0x260000 then s.writePci x v
      else s.writeRest x v
    match r with
    | some t => t
    | none => s.writePlain path x v

/-- REGISTER_WRITE (R418). -/
def doRegisterWrite (x : Nat) (v : Word) (path : Path) (s : State) : State := s.viaPath path (fun s => s.writeReg path x v)

/-- SRW_NORMAL_WORLD_WRITE (R370): a write from the normal world. A path of the secure world names no such write, and
then it is a plain write. -/
def doSrwWrite (x : Nat) (v : Word) (path : Path) (s : State) : State := s.viaPath path (fun s => s.writeReg path x v)

/-! ### Access by command (R295) -/

/-- A register with SRW bits. -/
def secureCode (x : Nat) : Bool := (regFields x).any (fun f => f.acc == .srw || f.acc == .srwt)

/-- MRAM data of a secure page. -/
def State.secureData (s : State) (x : Nat) : Bool :=
  decide (Reg.NVM_RBUF 0 ≤ x) && decide (x < Reg.NVM_RBUF 64) &&
    (match s.nvm.rbufPage with | some p => decide (p ≤ 255) | none => false)

/-- Reads `n` words from offset `x` on. -/
def State.readSpan (s : State) (path : Path) (x n : Nat) : List Word × State :=
  match n with
  | 0 => ([], s)
  | k + 1 =>
    let (w, s) := s.readReg path x
    let (l, s) := s.readSpan path (x + 4) k
    (w :: l, s)

/-- Writes words from offset `x` on, in address order (R423). -/
def State.writeSpan (s : State) (path : Path) (x : Nat) (l : List Word) : State :=
  match l with
  | [] => s
  | v :: t => (s.writeReg path x v).writeSpan path (x + 4) t

end Sys2Proof.Machine
end

