-- ==== Sys2Proof/Machine/CmdObjects.lean ====
section
/-! DEFINITION. Commands on the objects of a head (R298): sources, windows, planes, tile descriptors, clients, Privet
items and the journal. For each, the status its parameters and its object's state draw, and what it changes. A T
command is checked on the head as it will be at its tick (R119), and applied at that tick (R303). -/

namespace Sys2Proof.Machine

/-! ### Sources (R56, R66, R77, R78, R87) -/

/-- Bits of the register at `x` that software can write. -/
def softBits (x : Nat) : Word :=
  (regFields x).foldl (fun (m : Word) (f : RegField) => if f.acc == .ro then m else m ||| wd (2 ^ (f.hi + 1) - 2 ^ f.lo)) 0

/-- Lays values over the writable bits of registers. -/
def State.layWords (s : State) (l : List (Nat × Word)) : State :=
  forEach l (fun e s => s.setWord e.1 ((s.word e.1 &&& ~~~(softBits e.1)) ||| (e.2 &&& softBits e.1))) s

/-- The source registers SRC_DEFINE writes. -/
def srcWords (n : Nat) (p : List Word) : List (Nat × Word) :=
  [(Reg.SRC_CFG n, nth p 1), (Reg.SRC_RASTER n, nth p 2), (Reg.SRC_RATE n, nth p 3), (Reg.SRC_GEOM n, nth p 4),
   (Reg.SRC_DETECT n, nth p 5), (Reg.SRC_CHASE n, nth p 6), (Reg.SRC_CMAT n 0, nth p 7), (Reg.SRC_CMAT n 1, nth p 8)] ++
    (List.range 5).map (fun i => (Reg.SRC_LMAT n i, nth p (9 + i)))

/-- The entries of four words that follow w14. -/
def srcEntries (p : List Word) : List (List Word) :=
  (List.range (wbits (nth p 14) 2 0)).map (fun i => (p.drop (15 + 4 * i)).take 4)

/-- The flow filter registers of the entries of a kind 3 source, with SOURCE forced. -/
def flowWords (n : Nat) (p : List Word) : List (Nat × Word) :=
  (srcEntries p).flatMap (fun e =>
    let i := wbits (nth e 0) 31 0
    [(Reg.SRC_FLOW_ADDR i, nth e 1), (Reg.SRC_FLOW_CFG i, nth e 2), (Reg.SRC_FLOW_MAP i, wd (setBits (nth e 3).toNat 0 6 n))])

/-- Parameters of SRC_DEFINE out of range (R56, R66, R78). `t` is the head with the registers written. -/
def State.defineBad (s t : State) (n : Nat) (p : List Word) : Bool :=
  let kind := t.get (Fld.SRC_CFG_KIND n)
  let w := t.rasterW n
  let h := t.rasterH n
  let num := t.get (Fld.SRC_RATE_NUM n)
  let den := t.get (Fld.SRC_RATE_DEN n)
  let il := t.bit (Fld.SRC_RASTER_INTERLACED n)
  decide (4 < wbits (nth p 14) 2 0) || !(formatOk kind (t.get (Fld.SRC_CFG_FORMAT n))) ||
    decide (w < 16) || decide (8192 < w) || decide (h < 16) || decide (4320 < h) || !(rateOk num den) ||
    !(sdiOk kind w h num den il) ||
    (t.bit (Fld.SRC_CFG_CHASE n) && (il || !(tickRateIs s.tickInt (s.get (Fld.TIME_SCHED_VALUE 1)) num den))) ||
    (decide (kind = 3) && (srcEntries p).any (fun e => decide (511 < (nth e 0).toNat))) ||
    (decide (kind = 4) && (srcEntries p).isEmpty)

/-- A redefinition that the windows of a source exclude (R87), or a filter that maps another source. -/
def State.defineConflict (s t : State) (n : Nat) (p : List Word) : Bool :=
  let kind := t.get (Fld.SRC_CFG_KIND n)
  s.comp.windows.any (fun (e : Nat × Win) =>
    let w := e.2
    !w.isFill && decide (w.source = n) &&
      (decide (kind = 0) || decide (16 * t.rasterW n < w.cx + w.cw) || decide (16 * t.rasterH n < w.cy + w.ch) ||
        (decide (0 < w.level) && !(t.bit (Fld.SRC_CFG_PYR n))))) ||
    (decide (kind = 3) && (srcEntries p).any (fun e =>
      let i := (nth e 0).toNat
      s.bit (Fld.SRC_FLOW_CFG_VALID i) && decide (s.get (Fld.SRC_FLOW_MAP_SOURCE i) ≠ n)))

/-- The status SRC_DEFINE draws. -/
def State.defineStatus (s : State) (p : List Word) : Nat :=
  let n := wbits (nth p 0) 5 0
  let t := s.layWords (srcWords n p)
  if s.defineBad t n p then stBAD_PARAM
  else if s.bit (Fld.SRC_CFG_ENABLED n) then stBUSY
  else if s.defineConflict t n p then stCONFLICT
  else stOK

/-- SRC_DEFINE takes effect: the registers by their access codes (R299), the buffers of a host source, and every stored
frame discarded (R94). -/
def State.applyDefine (s : State) (cl : ClientId) (p : List Word) : State :=
  let n := wbits (nth p 0) 5 0
  let s := forEach (srcWords n p) (fun e s => s.writePlain (.poke cl) e.1 e.2) s
  let kind := s.get (Fld.SRC_CFG_KIND n)
  let s := if kind = 3 then forEach (flowWords n p) (fun e s => s.writePlain (.poke cl) e.1 e.2) s else s
  let bufs : List (Nat × Nat) := if kind = 4 then
      (srcEntries p).map (fun e => ((nth e 0).toNat + (nth e 1).toNat * 2 ^ 32, (nth e 2).toNat))
    else []
  let s := s.setSrc n { s.src n with
    bufs     := bufs
    frames   := []
    cur      := none
    waiting  := []
    lastRtp  := []
    fetching := none
    heldBell := none
    pick     := none
    since    := false
    hold     := none
    seqs     := [] }
  let gone (k : Nat) : Bool := match SMap.find s.comp.windows k with
    | some w => decide (w.source = n)
    | none => false
  { s with comp := { s.comp with latched := s.comp.latched.map (fun (e : Nat × Option SrcFrame) =>
    if gone e.1 then (e.1, none) else e) } }

/-- The states of a source that exclude SRC_ENABLE (R53, R60, *Source opcodes*). -/
def State.enableStatus (s : State) (w0 : Word) : Nat :=
  let n := wbits w0 5 0
  let kind := s.get (Fld.SRC_CFG_KIND n)
  let input := s.get (Fld.SRC_CFG_INPUT n)
  let mode (g : Nat) : Nat := s.ingest.gmode.getD g 3
  let flows := (List.range 512).filter (fun i => s.bit (Fld.SRC_FLOW_CFG_VALID i) && decide (s.get (Fld.SRC_FLOW_MAP_SOURCE i) = n))
  if wbits w0 31 31 = 0 then stOK
  else if kind = 0 ∨ (kind = 1 ∧ mode (input / 4) ≠ 0) ∨ (kind = 2 ∧ mode input ≠ 1) then stCONFLICT
  else if kind = 3 ∧ (flows = [] ∨ flows.any (fun i => decide (mode (i / 256) ≠ 2)) = true) then stCONFLICT
  else stOK

/-- SRC_ENABLE takes effect. A disabled source takes no input (R79): the frame and the fetch in progress end, and no
doorbell stays held (assumption 17). -/
def State.applyEnable (s : State) (w0 : Word) : State :=
  let n := wbits w0 5 0
  if wbits w0 31 31 = 1 then
    if s.bit (Fld.SRC_CFG_ENABLED n) then s
    else (s.setSrc n { s.src n with since := false }).put (Fld.SRC_CFG_ENABLED n) 1
  else (s.setSrc n { s.src n with cur := none, waiting := [], lastRtp := [], seqs := [], fetching := none, heldBell := none }).put (Fld.SRC_CFG_ENABLED n) 0

/-- The loads of the enabled sources keep R77: 6.0 Gpx/s of ingest and 20.0 GB/s of writes. -/
def State.ingestFits (s : State) : Bool :=
  let l := s.srcLoads
  decide (l.1 ≤ 6000000000) && decide (l.2 ≤ 20000000000)

/-! ### Windows (R84 to R86, R96, R305) -/

/-- Descriptor word `k` with its reserved bits 0. -/
def winWord (k : Nat) (w : Word) : Word :=
  if k = 0 then w else if k = 1 then w &&& 0xFFFFC7FF#32 else w &&& 0x000FFFFF#32

/-- The descriptor of a new window: words 0 to 12, CLIENT and APPLIED filled by the head (R84). -/
def newWords (owner : ClientId) (d : List Word) (applied : Word) : List Word :=
  wd (setBits (nth d 0).toNat 20 12 owner.toNat) :: ((List.range 12).map (fun i => winWord (i + 1) (nth d (i + 1)))) ++ [applied]

/-- Words carried by a modify laid over a descriptor, in ascending `k`. -/
def mergeWords (owner : ClientId) (old : List Word) (mask : Word) (vals : List Word) (applied : Word) : List Word :=
  let r := (List.range 13).foldl (fun (a : List Word × List Word) k =>
    if wbits mask (16 + k) (16 + k) = 1 then (setAt a.1 k (winWord k (nth a.2 0)), a.2.drop 1) else a) (old, vals)
  newWords owner r.1 applied

/-- The scaling limits of R96 are broken. -/
def Win.scaleBad (w : Win) (pyr : Bool) : Bool :=
  decide (64 * w.cw < w.dw) || decide (64 * w.ch < w.dh) || decide (2 < w.level) || (decide (0 < w.level) && !pyr)

/-- The status a descriptor draws from its issuer (R85). -/
def State.descStatus (s : State) (issuer : ClientId) (w : Win) : Nat :=
  let n := w.source
  if w.plane = 7 then (if issuer = 0 then stBAD_PARAM else stNOT_OWNER)
  else if w.dw = 0 ∨ w.dh = 0 ∨ 2 ^ 20 < w.dx + w.dw ∨ 2 ^ 20 < w.dy + w.dh ∨ (w.live && w.static) = true then stBAD_PARAM
  else if w.isFill then stOK
  else if s.get (Fld.SRC_CFG_KIND n) = 0 ∨ w.cw < 16 ∨ w.ch < 16 ∨ 16 * s.rasterW n < w.cx + w.cw ∨ 16 * s.rasterH n < w.cy + w.ch ∨
      w.scaleBad (s.bit (Fld.SRC_CFG_PYR n)) = true then stBAD_PARAM
  else stOK

/-- Window commands as entries of R305: a create, a modify or a delete. -/
def winEntries (op : Nat) (p : List Word) : List BatchEntry :=
  let e (k : Nat) : BatchEntry := ⟨k, nth p 0, p.drop 1⟩
  if op = opWIN_CREATE then [e 0]
  else if op = opWIN_MODIFY then [e 1]
  else if op = opWIN_DELETE then [e 2]
  else (batchEntries (wbits (nth p 0) 8 0) (p.drop 1)).getD []

/-- The window an entry names. -/
def BatchEntry.win (e : BatchEntry) : Nat := wbits e.head 13 0

/-- The status of one entry (R85, R86, *Window and plane opcodes*). -/
def State.entryStatus (s : State) (issuer : ClientId) (e : BatchEntry) : Nat :=
  match e.kind, SMap.find s.comp.windows e.win with
  | 0, old =>
    let st := s.descStatus issuer ⟨issuer, newWords issuer e.words 0⟩
    if st ≠ stOK then st else if old.isSome then stCONFLICT else stOK
  | 1, some w =>
    let d : Win := ⟨w.owner, mergeWords w.owner w.words e.head e.words 0⟩
    if issuer ≠ 0 ∧ w.owner ≠ issuer then stNOT_OWNER
    else if issuer ≠ 0 ∧ d.plane = 7 then stNOT_OWNER
    else if maskCount e.head = 0 then stBAD_PARAM
    else s.descStatus issuer d
  | 2, some w => if issuer ≠ 0 ∧ w.owner ≠ issuer then stNOT_OWNER else stOK
  | _, _ => stBAD_PARAM

/-- One entry takes effect at frame `g`. -/
def State.applyEntry (s : State) (issuer : ClientId) (g : Word) (e : BatchEntry) : State :=
  let put (w : Win) : State := { s with comp := { s.comp with windows := SMap.put s.comp.windows e.win w } }
  match e.kind, SMap.find s.comp.windows e.win with
  | 0, _ => put ⟨issuer, newWords issuer e.words g⟩
  | 1, some w => put ⟨w.owner, mergeWords w.owner w.words e.head e.words g⟩
  | 2, some _ => { s with comp := { s.comp with windows := SMap.erase s.comp.windows e.win } }
  | _, _ => s

/-- The entries of a batch in turn: the first failing status and its index (R305). -/
def State.batchStatus (s : State) (issuer : ClientId) (es : List BatchEntry) (i : Nat) (seen : List Nat) : Nat × List Word :=
  match es with
  | [] => (stOK, [])
  | e :: t =>
    let st := if e.win ∈ seen then stBAD_PARAM else s.entryStatus issuer e
    if st = stOK then s.batchStatus issuer t (i + 1) (e.win :: seen) else (st, [wd i])

/-! ### Tile descriptors (R103, R104) -/

/-- A descriptor with its reserved bits 0. -/
def tileWords (p : List Word) : List Word :=
  [nth p 1 &&& 0xFFFFFFFE#32, nth p 2] ++ (List.range 6).map (fun i => nth p (3 + i) &&& 0x00FFFFFF#32)

/-- The status TILE_PLACE draws (R104). -/
def State.placeStatus (s : State) (p : List Word) : Nat :=
  let n := wbits (nth p 0) 12 0
  let d := tileWords p
  let node := tdNode d
  if tdWq d = 0 then stOK
  else if 10 < tdWq d ∨ tdHq d < 2 ∨ 6 < tdHq d ∨ tdFmt d = 3 ∨ node = 0 ∨ node = 0xFFFF then stBAD_PARAM
  else if (match SMap.find s.net.record node with
      | some r => decide (r.role = 0) && decide (r.wq ≠ 0) && (decide (r.wq ≠ tdWq d) || decide (r.hq ≠ tdHq d))
      | none => false) = true then stBAD_PARAM
  else if (placedTiles s.comp.tiles).any (fun (e : Nat × List Word) => decide (e.1 ≠ n) && decide (tdNode e.2 = node)) then stCONFLICT
  else stOK

/-- TILE_PLACE takes effect at frame `g`: the tile's first frame is Full, and a head without a pairing sets the tile's
pairing unless the tile already names it (R264, R425). -/
def State.applyPlace (s : State) (p : List Word) (g : Word) : State :=
  let n := wbits (nth p 0) 12 0
  let d := tileWords p
  let had := SMap.find s.comp.tiles n
  if tdWq d = 0 then
    if had.isNone then s
    else { s with comp := { s.comp with tiles := SMap.erase s.comp.tiles n, placed := s.comp.placed ++ [n] } }
  else
    let known := (placedTiles s.comp.tiles).any (fun (e : Nat × List Word) => decide (tdNode e.2 = tdNode d))
    let s := { s with comp := { s.comp with tiles := SMap.put s.comp.tiles n d, placed := s.comp.placed ++ [n] } }
    let s := if known then s else s.setHist n TileHist.reset
    if s.paired || known then s else s.sendRedTile (BitVec.ofNat 16 (tdNode d)) s.nodeId 0 0 false g

/-! ### Clients (R290) -/

/-- The entry CLIENT_OPEN and CLIENT_GRANT give. -/
def clientOf (p : List Word) : Client := ⟨true, decide (wbits (nth p 0) 31 31 = 1), wbits (nth p 0) 18 16, wbits (nth p 1) 7 0⟩

/-- The client a client opcode names. -/
def clientArg (p : List Word) : ClientId := BitVec.ofNat 12 (wbits (nth p 0) 11 0)

/-- The status CLIENT_OPEN (`opens`) and CLIENT_GRANT draw. -/
def State.clientStatus (s : State) (opens : Bool) (p : List Word) : Nat :=
  if clientArg p = 0 ∨ wbits (nth p 0) 18 16 = 7 then stBAD_PARAM
  else if (s.client (clientArg p)).isOpen = opens then stCONFLICT
  else stOK

/-- Changes a client's entry. -/
def State.setClient (s : State) (n : ClientId) (c : Client) : State :=
  { s with cmds := { s.cmds with clients := SMap.set (fun _ => Client.closed) s.cmds.clients n.toNat c } }

/-- CLIENT_CLOSE takes effect: windows deleted, unapplied commands answered DISCARDED, the key erased and the watches
dropped. -/
def State.applyClose (s : State) (n : ClientId) : State :=
  let mine := s.cmds.accepted.filter (fun (a : Accepted) => decide (a.cmd.client = n) && !a.mirror)
  let s := forEach mine (fun a s => s.answer a.opcode a.cmd stDISCARDED false a.tick []) s
  let s := { s with
    comp := { s.comp with windows := s.comp.windows.filter (fun (e : Nat × Win) => decide (e.2.owner ≠ n)) }
    keys := { s.keys with clients := SMap.erase s.keys.clients n.toNat }
    cmds := { s.cmds with
      accepted := s.cmds.accepted.filter (fun (a : Accepted) => decide (a.cmd.client ≠ n))
      watches  := s.cmds.watches.filter (fun (e : ClientId × Nat × Nat) => decide (e.1 ≠ n)) } }
  s.setClient n Client.closed

/-- SRC_WATCH: events of a source added or removed for a client. -/
def State.applyWatch (s : State) (cl : ClientId) (w0 : Word) : State :=
  let n := wbits w0 5 0
  let ev := wbits w0 10 8
  let old := match s.cmds.watches.find? (fun (e : ClientId × Nat × Nat) => decide (e.1 = cl) && decide (e.2.1 = n)) with
    | some e => e.2.2
    | none => 0
  let new := if wbits w0 31 31 = 1 then old ||| ev else old &&& (7 - ev)
  let rest := s.cmds.watches.filter (fun (e : ClientId × Nat × Nat) => !(decide (e.1 = cl) && decide (e.2.1 = n)))
  { s with cmds := { s.cmds with watches := if new = 0 then rest else (cl, n, new) :: rest } }

/-! ### T commands on head objects -/

/-- The status the parameters and the object of a T command draw, on the head as it will be at its tick (steps 5, 7 and
8 of R289), with the result words of a refusal. -/
def State.objStatus (s : State) (op : Nat) (c : Cmd) : Nat × List Word :=
  let p := c.params
  let w0 := nth p 0
  let es := winEntries op p
  if op = opWIN_CREATE ∨ op = opWIN_MODIFY ∨ op = opWIN_DELETE then ((s.batchStatus (cmdIssuer c) es 0 []).1, [])
  else if op = opWIN_BATCH then
    if wbits w0 8 0 = 0 ∨ 256 < wbits w0 8 0 then (stBAD_PARAM, []) else s.batchStatus (cmdIssuer c) es 0 []
  else if op = opPLANE_ORDER then (if isOrder w0 then stOK else stBAD_PARAM, [])
  else if op = opTILE_PLACE then (s.placeStatus p, [])
  else if op = opSRC_ENABLE then (s.enableStatus w0, [])
  else if op = opCLIENT_CLOSE then (if clientArg p = 0 then stBAD_PARAM else stOK, [])
  else if op = opCLIENT_GRANT then (s.clientStatus false p, [])
  else if op = opPRIVET_SHOW ∨ op = opPRIVET_HIDE then
    (if (itemsOf w0 (nth p 1)).all (fun n => (SMap.find s.priv.items n).isSome) then stOK else stBAD_PARAM, [])
  else if op = opJRN_START then (if s.jrn.configured then stOK else stCONFLICT, [])
  else (stOK, [])

/-- A T command takes effect on the head's objects at frame `g`. -/
def State.applyObj (s : State) (op : Nat) (c : Cmd) (g : Word) : State :=
  let p := c.params
  let w0 := nth p 0
  if op = opWIN_CREATE ∨ op = opWIN_MODIFY ∨ op = opWIN_DELETE ∨ op = opWIN_BATCH then
    forEach (winEntries op p) (fun e s => s.applyEntry (cmdIssuer c) g e) s
  else if op = opPLANE_ORDER then { s with comp := { s.comp with orderCmd := some (wbits w0 20 0) } }
  else if op = opTILE_PLACE then s.applyPlace p g
  else if op = opSRC_ENABLE then s.applyEnable w0
  else if op = opCLIENT_CLOSE then s.applyClose (clientArg p)
  else if op = opCLIENT_GRANT then s.setClient (clientArg p) (clientOf p)
  else if op = opPRIVET_LOAD then (if wbits w0 31 31 = 1 then s.applyLoad (wbits w0 5 0) else s)
  else if op = opPRIVET_SHOW then s.applyShow true (itemsOf w0 (nth p 1))
  else if op = opPRIVET_HIDE then s.applyShow false (itemsOf w0 (nth p 1))
  else if op = opJRN_START then s.jrnStart
  else if op = opJRN_STOP then
    -- a running replay ends with CMD_DONE DISCARDED (R329); else the journal stops
    match s.jrn.replay with
    | some r => s.endReplay r stDISCARDED []
    | none => s.put Fld.JRN_STAT_RUN 0
  else s

/-- The head as it will be at tick `g`: with every accepted command due at `g` or earlier in effect (R119). -/
def State.projected (s : State) (g : Word) : State :=
  let due := s.cmds.accepted.filter (fun (a : Accepted) => !(later a.tick g))
  -- by tick, and in the order of acceptance within a tick
  forEach (sortBy (fun (a : Accepted) => 2 ^ 32 - 1 - (g - a.tick).toNat) due) (fun a s => s.applyObj a.opcode a.cmd g) s

/-! ### Admission (R77, R119) -/

/-- The plane order of a projected head. -/
def State.orderNow (s : State) : Word :=
  match s.comp.orderCmd with
  | some v => wd v
  | none => s.coming Reg.CMP_PLANE_ORDER

/-- Commands that the admission check of R119 covers. A removal of an empty descriptor has no effect (R104). -/
def State.admits (s : State) (op : Nat) (c : Cmd) : Bool :=
  op == opWIN_CREATE || op == opWIN_MODIFY || op == opWIN_BATCH || op == opPLANE_ORDER || op == opSRC_ENABLE ||
    (op == opTILE_PLACE && (decide (tdWq (tileWords c.params) ≠ 0) || (SMap.find s.comp.tiles (wbits (nth c.params 0) 12 0)).isSome))

/-- The budget a command breaks on the projected head `t` with the command in effect: 0 none, 4 the source loads of R77. -/
def State.admission (t : State) (op : Nat) (c : Cmd) : Nat × Nat :=
  if op = opSRC_ENABLE ∧ wbits (nth c.params 0) 31 31 = 1 ∧ t.ingestFits = false then (4, 0)
  else t.budgetBroken (t.steadyLoad t.comp.windows t.orderNow t.comp.tiles) t.jrnRate

/-! ### Objects and conflicts (R302) -/

/-- The objects a command touches (*Table — Command objects*). -/
def State.objectsOf (s : State) (op : Nat) (c : Cmd) : List Obj :=
  let p := c.params
  let w0 := nth p 0
  if op = opWIN_CREATE ∨ op = opWIN_MODIFY ∨ op = opWIN_DELETE ∨ op = opWIN_BATCH then
    (winEntries op p).map (fun e => (objWindow, e.win))
  else if op = opTILE_PLACE then
    [(objTile, wbits w0 12 0)] ++ (if tdWq (tileWords p) = 0 then
        (match SMap.find s.comp.tiles (wbits w0 12 0) with | some d => [(objNode, tdNode d)] | none => [])
      else [(objNode, tdNode (tileWords p))])
  else if op = opSRC_DEFINE ∨ op = opSRC_ENABLE then [(objSource, wbits w0 5 0)]
  else if op = opPLANE_ORDER then [(objOrder, 0)]
  else if op = opCLIENT_CLOSE then
    (objClient, wbits w0 11 0) :: (s.comp.windows.filter (fun (e : Nat × Win) => decide (e.2.owner = clientArg p))).map
      (fun (e : Nat × Win) => (objWindow, e.1))
  else if op = opCLIENT_OPEN ∨ op = opCLIENT_GRANT then [(objClient, wbits w0 11 0)]
  else if op = opPRIVET_LOAD then [(objPrivet, wbits w0 5 0)]
  else if op = opPRIVET_SHOW ∨ op = opPRIVET_HIDE then (itemsOf w0 (nth p 1)).map (fun n => (objPrivet, n))
  else if op = opTICK_CONFIG ∨ op = opLEAD_SET then [(objSchedule, 0)]
  else if op = opRED_PAIR ∨ op = opRED_SWITCH then [(objPair, 0)]
  else []

/-- Accepted commands of other clients that touch an object of the command at its tick. -/
def State.rivals (s : State) (op : Nat) (c : Cmd) (g : Word) : List Accepted :=
  let os := s.objectsOf op c
  s.cmds.accepted.filter (fun (a : Accepted) => decide (a.tick = g) && decide (a.cmd.client ≠ c.client) &&
    (s.objectsOf a.opcode a.cmd).any (fun o => decide (o ∈ os)))

/-- The command of client `a` beats that of client `b`: the higher class, then the lower client ID. -/
def State.beats (s : State) (a b : ClientId) : Bool :=
  let ca := (s.client a).cls
  let cb := (s.client b).cls
  decide (cb < ca) || (decide (ca = cb) && decide (a.toNat < b.toNat))

/-- The head without the accepted commands that a command of tick `g` conflicts with: what it finds is judged without
them, since they go where it beats them (R302). -/
def State.withoutRivals (s : State) (op : Nat) (c : Cmd) (g : Word) : State :=
  let l := s.rivals op c g
  { s with cmds := { s.cmds with accepted := s.cmds.accepted.filter (fun (a : Accepted) => !(decide (a ∈ l))) } }

/-- A standby head removes the commands that a mirrored one has beaten at the active head (R302;
assumption 153). -/
def State.withoutBeaten (s : State) (op : Nat) (c : Cmd) (g : Word) : State :=
  let l := (s.rivals op c g).filter (fun (a : Accepted) => s.beats c.client a.cmd.client)
  { s with cmds := { s.cmds with accepted := s.cmds.accepted.filter (fun (a : Accepted) => !(decide (a ∈ l))) } }

/-- Removes beaten commands, each answered CONFLICT with its tick. -/
def State.dropBeaten (s : State) (l : List Accepted) : State :=
  forEach l (fun a s => ({ s with cmds := { s.cmds with accepted := s.cmds.accepted.erase a } }).answer a.opcode a.cmd stCONFLICT false
    a.tick []) s

end Sys2Proof.Machine
end

