-- ==== Sys2Proof/Machine/CmdNode.lean ====
section
/-! DEFINITION. Commands that act on the node they name, whatever its role: information, keys, registers, lamps, time,
update and health (*Opcodes*). For each, the check of its parameters, the state that excludes it, and what it does. -/

namespace Sys2Proof.Machine

/-! ### Parameters (step 7 of R289) -/

/-- Grid points of one axis of LINK_EYE, as two's complement bytes (R174); a step of 0 reaches no end. -/
def eyeAxis (w : Word) : Option (List Nat) :=
  let a := signed 8 (wbits w 7 0)
  let b := signed 8 (wbits w 15 8)
  let st := wbits w 23 16
  if st = 0 then (if a = b then some [unsigned 8 a] else none)
  else if b < a then some []
  else some ((List.range ((b - a).toNat / st + 1)).map (fun (i : Nat) => unsigned 8 (a + (i : Int) * (st : Int))))

/-- The grid of LINK_EYE, VOFS outer and POFS inner; none when it has more than 4,080 points. -/
def eyeGrid (p : List Word) : Option (List (Nat × Nat)) :=
  match eyeAxis (nth p 1), eyeAxis (nth p 2) with
  | some xs, some ys => if xs.length * ys.length ≤ 4080 then some (ys.flatMap (fun v => xs.map (fun x => (v, x)))) else none
  | _, _ => none

/-- Blots a ring holds: 1,024 in SRAM, 256 in MRAM (R397). -/
def blotRingSize (mram : Bool) : Nat := if mram then 256 else 1024

/-- Lamp indices of LAMP_TEST, two to a word. -/
def lampArgs (p : List Word) : List Nat :=
  ((p.drop 1).flatMap (fun w => [wbits w 15 0, wbits w 31 16])).take (wbits (nth p 0) 31 16)

/-- Whether INT and FRAC are a period of *Table — Tick rates* (R199). -/
def tickRate (int frac : Nat) : Bool :=
  [(24000, 1001), (24, 1), (25, 1), (30000, 1001), (30, 1), (48000, 1001), (48, 1), (50, 1), (60000, 1001), (60, 1), (100, 1), (120000, 1001),
   (120, 1), (240, 1)].any (fun (r : Nat × Nat) => tickRateIs int frac r.1 r.2)

/-- A parameter of a node command is out of range, as any node can check it. -/
def paramBad (op : Nat) (p : List Word) : Bool :=
  let w0 := nth p 0
  let w1 := nth p 1
  if op = opKEY_INSTALL then
    decide (4 < wbits w0 31 24) || (decide (wbits w0 31 24 = 2 ∨ wbits w0 31 24 = 4) && !(onCurve (pointOf ((p.drop 1).take 24))))
  else if op = opNODE_PEEK ∨ op = opNODE_POKE then
    w0.toNat % 4 != 0 || decide (w1.toNat = 0) || decide (1024 < w1.toNat) || decide (2 ^ 22 < w0.toNat + 4 * w1.toNat)
  else if op = opCOR_LOAD then w0.toNat % 4 != 0 || decide (calSize < w0.toNat + 4 * (p.length - 1))
  else if op = opLAMP_TEST then
    decide (wbits w0 1 0 = 3) || decide (wbits w0 31 16 = 0) || decide (8156 < wbits w0 31 16) ||
      (lampArgs p).any (fun l => decide (43199 < l))
  else if op = opHOUSE_TIME then decide (1000000000 ≤ (nth p 2).toNat)
  else if op = opTICK_CONFIG then !(tickRate w0.toNat w1.toNat)
  else if op = opUPD_BEGIN then decide (16777216 < w1.toNat)
  else if op = opPMU_CONFIG then !(pmuEventOk (wbits w1 8 0) (wbits (nth p 2) 30 28))
  else if op = opBLOT_READ then
    decide (blotRingSize (decide (wbits w0 0 0 = 1)) ≤ w1.toNat) || decide ((nth p 2).toNat = 0) || decide (127 < (nth p 2).toNat)
  else if op = opLINK_EYE then decide (wbits w0 3 2 = 3) || (eyeGrid p).isNone
  else false

/-! ### Keys (R188, R293, KEY_INSTALL) -/

/-- A 256-bit key of eight words, key byte 0 in bits [7:0] of the first. -/
def keyOf (l : List Word) : BitVec 256 :=
  BitVec.ofNat 256 (l.zipIdx.foldl (fun a (e : Word × Nat) => a + e.1.toNat * 2 ^ (32 * e.2)) 0)

/-- The key a KEY_INSTALL of kind 0, 1, 3 or 4 carries; none when its wrap check fails. -/
def State.installKey (s : State) (p : List Word) : Option (BitVec 256) :=
  if wbits (nth p 0) 31 24 = 4 then keyUnwrap (sealKey ((p.drop 1).take 24)) (p.drop 25)
  else if p.length = 9 then some (keyOf (p.drop 1))
  else match s.keys.client0 with
    | some k => keyUnwrap k (p.drop 1)
    | none => none

/-- The status of a KEY_INSTALL at the node that installs the key. -/
def State.keyStatus (s : State) (p : List Word) : Nat :=
  let kind := wbits (nth p 0) 31 24
  if kind ≠ 2 ∧ (s.installKey p).isNone = true then stBAD_PARAM
  else if kind = 4 ∧ s.keys.client0.isSome = true then stCONFLICT
  else if kind = 1 ∧ s.role = .head ∧ s.bit Fld.TIME_HT_CTL_SET = false then stCONFLICT
  else stOK

/-- A key is installed. A domain key sets ORIG of a head to house time (R188). -/
def State.applyKey (s : State) (p : List Word) : State :=
  let w0 := nth p 0
  match wbits w0 31 24, s.installKey p with
  | 2, _ => { s with keys := { s.keys with stations := SMap.put s.keys.stations (wbits w0 1 0) ((p.drop 1).take 24) } }
  | 0, some k =>
    if wbits w0 11 0 = 0 then { s with keys := { s.keys with client0 := some k } }
    else { s with keys := { s.keys with clients := SMap.put s.keys.clients (wbits w0 11 0) k } }
  | 1, some k =>
    let s := { s with keys := { s.keys with domain := some k } }
    if s.role = .head then { s with keys := { s.keys with orig := s.houseNs, origEnd := false, origSaid := false } } else s
  | _, some k => { s with keys := { s.keys with client0 := some k } }
  | _, none => s

/-! ### What immediate commands do -/

/-- Result words of GET_INFO. -/
def State.info (s : State) (p : List Word) : List Word :=
  if wbits (nth p 0) 0 0 = 1 then (List.range 24).map (fun i => s.peekReg false (Reg.SEC_IDKEY i))
  else
    [s.peekReg false Reg.SYS_ID, s.peekReg false Reg.SYS_STRAP, s.word (Reg.UPD_SLOT_VER s.quill.slot),
     wd (s.nodeId.toNat * 2 ^ 16 + s.pwr.state.code),
     (match s.role with | .head => s.peekReg false Reg.RED_STAT | .tile => s.peekReg false Reg.RED_TILE_STAT | _ => 0),
     (if s.role = .tile then wd (s.hq * 2 ^ 4 + s.wq) else 0)]

/-- HOUSE_TIME writes the registers by R213, in the order given. -/
def State.applyHouse (s : State) (p : List Word) : State :=
  let s := s.put Fld.TIME_HT_CTL_IMM (wbits (nth p 1) 0 0)
  let s := if wbits (nth p 1) 1 1 = 1 then s.writeHtNs (nth p 2) else s
  s.writeHtSec (nth p 0)

/-- COR_LOAD writes its bytes into the inactive copy (R231). -/
def State.applyCorLoad (s : State) (p : List Word) : State :=
  let at_ := (nth p 0).toNat
  let put (m : SMap Nat) : SMap Nat :=
    (leStream (p.drop 1)).zipIdx.foldl (fun m (e : Nat × Nat) => SMap.set (fun _ => 0) m (at_ + e.2) e.1) m
  if s.saved.activeCal then { s with lamp := { s.lamp with copy0 := put s.lamp.copy0 } }
  else { s with lamp := { s.lamp with copy1 := put s.lamp.copy1 } }

/-- PMU_CONFIG (R392): EVENT, FKIND and FVAL are loaded, then stop, clear and start act. The filter word has the places
of PMU_CNT_CFG (assumption 71). -/
def State.applyPmu (s : State) (p : List Word) : State :=
  let n := wbits (nth p 0) 4 0
  let s := s.put (Fld.PMU_CNT_CFG_EVENT n) (wbits (nth p 1) 8 0)
  let s := (s.put (Fld.PMU_CNT_CFG_FKIND n) (wbits (nth p 2) 30 28)).put (Fld.PMU_CNT_CFG_FVAL n) (wbits (nth p 2) 27 14)
  let s := if wbits (nth p 0) 30 30 = 1 then s.put (Fld.PMU_CNT_CFG_RUN n) 0 else s
  let s := if wbits (nth p 0) 29 29 = 1 then s.setCount n 0 else s
  if wbits (nth p 0) 31 31 = 1 then s.put (Fld.PMU_CNT_CFG_RUN n) 1 else s

/-- Result words of PMU_READ. -/
def State.pmuWords (s : State) : List Word :=
  (List.range 32).flatMap (fun n => let v := s.pmu.cnt.getD n 0; [wd (v / 2 ^ 32), wd v])

/-- Result words of BLOT_READ: indices run on round the ring. -/
def State.blotWords (s : State) (p : List Word) : List Word :=
  let mram := decide (wbits (nth p 0) 0 0 = 1)
  let ring := if mram then s.saved.blotRing else s.blots.sram
  (List.range (nth p 2).toNat).flatMap (fun i =>
    (SMap.get (fun _ => Blot.empty) ring (((nth p 1).toNat + i) % blotRingSize mram)).words)

/-- A SELFTEST of the kind is running. -/
def State.testRuns (s : State) (mask : Nat) : Bool :=
  s.mem.selftests.any (fun (t : SelfTest) => decide (t.waiting &&& mask ≠ 0)) ||
    (decide (bitsOf mask 1 1 = 1) && s.mem.test.isSome) || (decide (bitsOf mask 2 1 = 1) && s.drive.trim.isSome)

/-- Working lanes of a port in the receive direction, as physical lanes. -/
def State.testLanes (s : State) (p : Nat) : List Nat := ([0, 1].map (fun k => s.rxMap p k)).filter (fun m => decide (m < 3))

/-- SELFTEST starts (R126, R166, R248, R338). A port whose link is down has no lane to calibrate and fails. -/
def State.startSelftest (s : State) (d : PendingDone) (w0 : Word) : State :=
  let mask := wbits w0 3 0
  let s := { s with mem := { s.mem with selftests := s.mem.selftests ++ [⟨d, mask, 0, 0⟩] } }
  let s := if bitsOf mask 0 1 = 1 then
      forEach ((List.range 4).filter (fun p => decide (wbits w0 (4 + p) (4 + p) = 1))) (fun p s =>
        if s.linkUp p then (s.setPort p { s.port p with selftest := s.testLanes p }).selftestNext p else s.selftestFail 0) s
    else s
  let s := if bitsOf mask 1 1 = 1 then s.testNext (List.range 16) else s
  if bitsOf mask 2 1 = 1 ∧ s.scans = true then s.trimStart else s

/-- Counts of a LINK_EYE grid: what the sampler counts is a free value, at most 2^DWELL (R174; assumption 5). -/
def State.eyeCounts (s : State) (dwell : Nat) (l : List (Nat × Nat)) : List Word × State :=
  match l with
  | [] => ([], s)
  | _ :: t =>
    let (f, s) := s.freeNat 64
    let (ws, s) := s.eyeCounts dwell t
    (wd (f % (2 ^ dwell + 1)) :: ws, s)

/-- LINK_EYE leaves the last point of its grid in LNK_PHY_EYE_CTL and its count in LNK_PHY_EYE_RES. -/
def State.runEye (s : State) (p : List Word) : List Word × State :=
  let grid := (eyeGrid p).getD []
  let port := wbits (nth p 0) 1 0
  let lane := wbits (nth p 0) 3 2
  let dwell := wbits (nth p 0) 9 4
  let (ws, s) := s.eyeCounts (eyeDwell dwell) grid
  match grid.getLast?, ws.getLast? with
  | some g, some v =>
    let s := ((s.put (Fld.LNK_PHY_EYE_CTL_VOFS port lane) g.1).put (Fld.LNK_PHY_EYE_CTL_POFS port lane) g.2).put
      (Fld.LNK_PHY_EYE_CTL_DWELL port lane) dwell
    (ws, s.setWord (Reg.LNK_PHY_EYE_RES port lane) v)
  | _, _ => (ws, s)

/-- The reply of the customer command that ran, unless the ring that gave it was reset meanwhile (R308, R316). -/
def State.userAnswer (s : State) (op : Nat) (c : Cmd) (status : Nat) : State :=
  if s.cmds.userMute then { s with cmds := { s.cmds with userMute := false } } else s.answer op c status false s.clk.fn []

/-- A customer command runs in the user partition (R354): OK with its result words, INTERNAL when it touched another
address, or still running. -/
def State.runUser (s : State) (op : Nat) (c : Cmd) : State :=
  let n := s.free
  let s := { s with free := n + 1 }
  let (how, res) := Config.userCode op c.params n
  match how with
  | 0 => s.answer op c stOK false s.clk.fn res
  | 1 => (s.userEnd stINTERNAL op).answer op c stINTERNAL false s.clk.fn []
  | _ => { s with cmds := { s.cmds with userBusy := some (c, op) } }

/-- USER_COMMAND_TIMEOUT (R354): 100 ms. -/
def doUserTimeout (s : State) : State :=
  match s.cmds.userBusy with
  | some (c, op) =>
    let s := { s with cmds := { s.cmds with userBusy := none } }
    (s.userEnd stTIMEOUT op).userAnswer op c stTIMEOUT
  | none => s

/-! ### Immediate commands at the node they name -/

/-- The path of the register accesses of a command. -/
def cmdPath (c : Cmd) : Path := .poke (cmdIssuer c)

/-- NODE_PEEK or NODE_POKE reaches state of the secure world from another client than 0 (R295). What MRAM data this node's
NVM_RBUF holds counts where the command acts `here`; the words reached end with the register space. -/
def State.secureOnly (s : State) (op : Nat) (c : Cmd) (here : Bool) : Bool :=
  (op == opNODE_PEEK || op == opNODE_POKE) && decide (cmdIssuer c ≠ 0) &&
    (List.range (min (nth c.params 1).toNat ((2 ^ 22 - (nth c.params 0).toNat) / 4))).any (fun i =>
      let x := (nth c.params 0).toNat + 4 * i
      secureCode x || (here && s.secureData x))

/-- The state of this node that excludes an immediate command (step 8 of R289), or a key's wrap check. -/
def State.nowStatus (s : State) (op : Nat) (c : Cmd) : Nat :=
  let p := c.params
  if op = opKEY_INSTALL then s.keyStatus p
  else if op = opUPD_BLOCK then
    if !(s.blockParamOk p) then stBAD_PARAM
    else if s.role = .head ∧ 64 ≤ s.upd.queue.length then stBUSY
    else stOK
  else if op = opUPD_ACTIVATE then
    if s.upd.record.verified && decide (s.upd.record.session = wbits (nth p 0) 15 0) then stOK else stCONFLICT
  else if op = opUPD_CONFIRM then (if s.trialRuns then stOK else stCONFLICT)
  else if op = opSELFTEST then (if s.testRuns (wbits (nth p 0) 3 0) then stBUSY else stOK)
  else if op / 4096 = 7 then (if s.cmds.userBusy.isSome then stBUSY else stOK)
  else stOK

/-- An immediate or DTIME command acts at this node and is answered (R289). -/
def State.applyNow (s : State) (op : Nat) (c : Cmd) : State :=
  let p := c.params
  let ok (s : State) (res : List Word) : State := s.answer op c stOK false s.clk.fn res
  if op = opNOP then ok s []
  else if op = opECHO then ok s p
  else if op = opGET_INFO then ok s (s.info p)
  else if op = opKEY_INSTALL then ok (s.applyKey p) []
  else if op = opNODE_PEEK then
    let (ws, s) := s.readSpan (cmdPath c) (nth p 0).toNat (nth p 1).toNat
    ok s ws
  else if op = opNODE_POKE then ok (s.writeSpan (cmdPath c) (nth p 0).toNat (p.drop 2)) []
  else if op = opCOR_LOAD then ok (s.applyCorLoad p) []
  else if op = opHOUSE_TIME then ok (s.applyHouse p) []
  else if op = opDOM_RESET then ok { s with pwr := { s.pwr with domReset := some (nth p 0) } } [nth p 0]
  else if op = opUPD_BEGIN then s.applyBegin c
  else if op = opUPD_BLOCK then s.applyBlock c
  else if op = opUPD_VERIFY then s.applyVerify c
  else if op = opUPD_ACTIVATE then ok (s.applyActivate (nth p 1)) []
  else if op = opUPD_CONFIRM then ok s.applyConfirm []
  else if op = opPMU_CONFIG then ok (s.applyPmu p) []
  else if op = opPMU_READ then ok s s.pmuWords
  else if op = opBLOT_READ then
    let s := if wbits (nth p 0) 0 0 = 0 then s.readBank 13 else s
    ok s (s.blotWords p)
  else if op = opSELFTEST then
    (s.answerPending op c).startSelftest ⟨op, c.client, c.tag, c.route⟩ (nth p 0)
  else if op = opLINK_EYE then
    let s := s.answerPending op c
    let (ws, s) := s.runEye p
    s.cmdDone ⟨op, c.client, c.tag, c.route⟩ stOK ws
  else s.runUser op c

/-! ### T commands at a node that is not the head (R132) -/

/-- The status of a T command at its arrival at a tile, and again at its frame. -/
def State.tileStatus (s : State) (op : Nat) (c : Cmd) : Nat :=
  let p := c.params
  let w0 := nth p 0
  if op = opCOR_COMMIT then s.commitStatus
  else if op = opRED_TILE then
    if wbits (nth p 1) 1 1 = 1 ∧ w0 ≠ s.word Reg.RED_TILE_CFG then stBAD_PARAM else stOK
  else stOK

/-- Only a head in the head table that the words name sets a tile's pairing (R425). -/
def State.redTileOwner (s : State) (c : Cmd) : Bool :=
  match c.route with
  | .broash src _ => (s.headIndex src).isSome &&
      (decide (wbits (nth c.params 0) 31 16 = src.toNat) || decide (wbits (nth c.params 0) 15 0 = src.toNat))
  | _ => false

/-- What a T command does when it arrives at a node: a schedule or a lead is loaded (R128, R199), a tile's pairing is
written (R425). -/
def State.onArrival (s : State) (op : Nat) (c : Cmd) (g : Word) : State :=
  let p := c.params
  if op = opLEAD_SET then
    (s.put Fld.TIME_LEAD_NEXT_NS (nth p 0).toNat).setWord Reg.TIME_LEAD_AT g
  else if op = opTICK_CONFIG then
    s.awaitSched ⟨g, nth p 0, nth p 1, nth p 2, nth p 3, nth p 4⟩
  else if op = opRED_TILE ∧ s.follow ≠ wbits (nth p 1) 0 0 ∧ wbits (nth p 1) 1 1 = 1 then s.freeFrom g
  else if op = opRED_TILE ∧ wbits (nth p 1) 1 1 = 0 then
    let s := if s.follow ≠ wbits (nth p 1) 0 0 then s.freeFrom g else s
    { s.setWord Reg.RED_TILE_CFG (nth p 0) with saved := { s.saved with tilePair := nth p 0 } }
  else s

/-- Flags of lamps as LAMP_TEST answers them, four to a word. -/
def State.flagWords (s : State) (l : List Nat) : List Word :=
  let f (i : Nat) : Nat := match l[i]? with | some n => SMap.get (fun _ => 0) s.lamp.flags n | none => 0
  (List.range ((l.length + 3) / 4)).map (fun i => wd (f (4 * i) + f (4 * i + 1) * 2 ^ 8 + f (4 * i + 2) * 2 ^ 16 + f (4 * i + 3) * 2 ^ 24))

/-- Sets or clears MASK of lamps. -/
def maskFlags (on : Bool) (l : List Nat) (m : SMap Nat) : SMap Nat :=
  l.foldl (fun m n => SMap.set (fun _ => 0) m n (setBits (SMap.get (fun _ => 0) m n) 3 1 (bitNat on))) m

/-- Sets or clears MASK of lamps in the flags in effect. -/
def State.maskLamps (s : State) (on : Bool) (l : List Nat) : State :=
  { s with lamp := { s.lamp with flags := maskFlags on l s.lamp.flags } }

/-- Sets a field for frame `g`, unless a register write of a later tick has set it already (R25). -/
def State.putFor (s : State) (g : Word) (f : Fld) (v : Nat) : State :=
  if s.tookFrom (g + 1) s.clk.fn f.off then s else s.put f v

/-- CW_c are set for frame `at_` (R237). -/
def State.setCeilings (s : State) (at_ : Word) (r g b : Nat) : State :=
  let s := s.putFor at_ (Fld.COR_CEIL_WALL_CEIL 0) r
  let s := s.putFor at_ (Fld.COR_CEIL_WALL_CEIL 1) g
  (s.putFor at_ (Fld.COR_CEIL_WALL_CEIL 2) b).keepCeilings

/-- AGEING_CTL (R237 to R239). -/
def State.applyAgeing (s : State) (p : List Word) (g : Word) : State :=
  let w0 := nth p 0
  let w1 := nth p 1
  let s := if wbits w0 30 30 = 1 then s.putFor g Fld.COR_AGE_CTL_MODE (wbits w0 1 0) else s
  let s := if wbits w0 29 29 = 1 then s.put Fld.COR_AGE_CTL_PERIOD (wbits w0 15 8) else s
  let s := if wbits w0 28 28 = 1 then s.setCeilings g (wbits w1 15 0) (wbits w1 31 16) (wbits (nth p 2) 15 0) else s
  if wbits w0 31 31 = 1 ∧ s.ageMode ≤ 1 then (s.raise Fld.COR_AGE_CTL_NOW).ageRequest else s

/-- The parameters of a run for frame `g` or a later one after a T command for frame `g` (R25, R218). -/
def State.patchRun (s : State) (op : Nat) (c : Cmd) (g : Word) (p : RunPars) : RunPars :=
  let w0 := nth c.params 0
  if earlier p.fn g then p
  else if op = opCOR_COMMIT then s.commitRun (decide (wbits w0 0 0 = 1)) g p
  else if op = opLAMP_TEST ∧ wbits w0 1 0 ≤ 1 then { p with flags := maskFlags (decide (wbits w0 1 0 = 0)) (lampArgs c.params) p.flags }
  else if op = opWALL_GAIN then
    let v := [wbits w0 15 0, wbits w0 31 16, wbits (nth c.params 1) 15 0]
    { p with wg := (List.range 3).map (fun i =>
        if s.tookFrom (g + 1) p.fn (Reg.COR_WALL_GAIN i) then p.wg.getD i 0 else v.getD i 0) }
  else if op = opAGEING_CTL ∧ wbits w0 30 30 = 1 ∧ s.tookFrom (g + 1) p.fn Reg.COR_AGE_CTL = false then
    { p with mode := min 2 (wbits w0 1 0) }
  else p

/-- The noted parameters after a T command for frame `g`. -/
def State.patchPars (s : State) (op : Nat) (c : Cmd) (g : Word) : State :=
  { s with lamp := { s.lamp with pars := s.lamp.pars.map (s.patchRun op c g) } }

/-- A T command takes effect at a tile or another node for tick or frame `g`: its result words and the node after it. -/
def State.applyAtNode (s : State) (op : Nat) (c : Cmd) (g : Word) : List Word × State :=
  let p := c.params
  let w0 := nth p 0
  if op = opCOR_COMMIT then ([], (s.commitCal (decide (wbits w0 0 0 = 1)) g).trimAfresh)
  else if op = opLAMP_TEST then
    match wbits w0 1 0 with
    | 0 => ([], s.maskLamps true (lampArgs p))
    | 1 => ([], s.maskLamps false (lampArgs p))
    | _ => (s.flagWords (lampArgs p), s)
  else if op = opWALL_GAIN then
    let s := s.putFor g (Fld.COR_WALL_GAIN_GAIN 0) (wbits w0 15 0)
    let s := s.putFor g (Fld.COR_WALL_GAIN_GAIN 1) (wbits w0 31 16)
    ([], s.putFor g (Fld.COR_WALL_GAIN_GAIN 2) (wbits (nth p 1) 15 0))
  else if op = opAGEING_CTL then ([], s.applyAgeing p g)
  else if op = opRED_TILE then
    let f := wbits (nth p 1) 0 0
    ([], { s.put Fld.RED_TILE_STAT_FOLLOW f with saved := { s.saved with follow := decide (f = 1) } })
  else if op = opTILE_PLACE then
    let d := tileWords p
    ([], { s with priv := { s.priv with place := if tdWq d = 0 then none else some d } })
  else ([], s)

/-- T commands due at a tick or frame `g` take effect at this node in the order they came, and are answered (R132, R289,
R303). -/
def State.applyDueAt (s : State) (g : Word) : State :=
  let due := s.cmds.accepted.filter (fun (a : Accepted) => !(later a.tick g))
  let s := { s with cmds := { s.cmds with accepted := s.cmds.accepted.filter (fun (a : Accepted) => later a.tick g) } }
  forEach due (fun a s =>
    let st := s.tileStatus a.opcode a.cmd
    if st = stOK then
      let (ws, s) := s.applyAtNode a.opcode a.cmd g
      (s.patchPars a.opcode a.cmd g).answer a.opcode a.cmd stOK a.late g ws
    else s.answer a.opcode a.cmd st a.late g []) s

end Sys2Proof.Machine
end

