-- ==== Sys2Proof/Machine/CmdApply.lean ====
section
/-! DEFINITION. Commands taking effect: at C(F) on the head (R303), as a late change (R134, R304), at T_dec on a tile
(R132). COMPOSE_START and COMMIT_DECISION stand here. -/

namespace Sys2Proof.Machine

/-! ### The head -/

/-- One accepted command takes effect at frame `f`, and is answered. A command whose object no longer fits ends
INTERNAL (assumption 72). -/
def State.applyAccepted (s : State) (a : Accepted) (f : Word) : State :=
  if (s.objStatus a.opcode a.cmd).1 = stOK then
    let s := (s.applyObj a.opcode a.cmd f).noteCmd a.opcode a.cmd
    if a.mirror then s else s.answer a.opcode a.cmd stOK a.late f []
  else if a.mirror then s
  else s.answer a.opcode a.cmd stINTERNAL a.late f []

/-- The commands due at frame `f`, in the order in which they were accepted (R303); `fuel` bounds their number. -/
def State.applyHead (s : State) (f : Word) (fuel : Nat) : State :=
  match fuel with
  | 0 => s
  | k + 1 =>
    match s.cmds.accepted.find? (fun (a : Accepted) => !(later a.tick f)) with
    | none => s
    | some a => (({ s with cmds := { s.cmds with accepted := s.cmds.accepted.erase a } }).applyAccepted a f).applyHead f k

/-- What a window changed by a late command of tick `g` shows in frame `h`: a STATIC one the frame that it latched at C(g)
(R113), any other one what `h` picked, or the fallback that its source was in at C of `h`. -/
def State.showsLate (s : State) (g : Word) (h : HeadFrame) (w : Win) : Shows :=
  if w.isFill then .fill
  else if w.static then latchShows (s.latchAt g w.source)
  else winShows h.fn h.picks (SMap.find h.falls w.source) w

/-- The configuration of a frame past C with a command in effect in it (R134). -/
def State.cfgWith (s : State) (op : Nat) (c : Cmd) (g : Word) (h : HeadFrame) : FrameCfg :=
  let s := { s with
    comp := { s.comp with windows := h.cfg.wins, tiles := h.cfg.tiles, orderCmd := none }
    priv := { s.priv with items := h.cfg.items } }
  let t := s.applyObj op c g
  let named := (winEntries op c.params).map BatchEntry.win
  { h.cfg with
    wins  := t.comp.windows
    tiles := t.comp.tiles
    items := t.priv.items
    shown := t.shownFor h.fn
    order := match t.comp.orderCmd with | some v => wd v | none => h.cfg.order
    shows := t.comp.windows.map (fun (e : Nat × Win) =>
      (e.1, if e.1 ∈ named then t.showsLate g h e.2 else SMap.get (fun _ => Shows.fill) h.cfg.shows e.1)) }

/-- A command takes effect as a late change of frame `g`, on top of every command already applied (R304). -/
def State.applyLate (s : State) (op : Nat) (c : Cmd) (g : Word) : State :=
  let s0 := s
  let loaded := if op = opPRIVET_LOAD ∧ wbits (nth c.params 0) 31 31 = 1 then [wbits (nth c.params 0) 5 0] else []
  let s := (s.applyObj op c g).lateChange 1 g (fun _ h => s0.cfgWith op c g h) loaded
  let named := (winEntries op c.params).map BatchEntry.win
  let latched := named.foldl (fun (m : SMap (Option SrcFrame)) n =>
    match SMap.find s.comp.windows n with
    | some w => if w.static && !w.isFill then SMap.put m n (s.latchAt g w.source) else SMap.erase m n
    | none => SMap.erase m n) s.comp.latched
  ({ s with comp := { s.comp with latched := latched } }).noteLate op c g

/-- Frame `g` has been begun: C(g) lies behind. -/
def State.pastCompose (s : State) (g : Word) : Bool :=
  match s.heads.lastC with
  | some f => !(later g f)
  | none => false

/-- COMPOSE_START (R127): C of the next frame. A head that composes nothing takes the changes due at it all the same;
nothing is composed during fault handling (R399). -/
def doComposeStart (s : State) : State :=
  if decide (s.role ≠ .head) || !(s.running) then s
  else
    let f := s.nextCompose
    let s := (s.advanceTo (s.compose f)).closeTicks
    let s := forEach (List.range 64) (fun n s => s.stepFallback f n) s
    let s := s.applyHead f s.cmds.accepted.length
    let s := s.applyLuts.takeChanges f
    let (seed, s) := s.freeNat 64
    let s := { s with comp := { s.comp with seed := BitVec.ofNat 64 seed } }
    let s := if s.composes && !(s.replaying) && !s.jrn.restore && !(s.bit Fld.SYS_FAULT_STAT_HANDLING) then s.beginFrame f
      else { s with heads := { s.heads with lastC := some f } }
    -- an order that takes effect at a tick already begun stands in CMP_PLANE_ORDER at once (R90)
    let s := match s.comp.orderCmd with
      | some v => if s.clk.fn = f then
          { s.setWord Reg.CMP_PLANE_ORDER (wd v) with comp := { s.comp with orderCmd := none } }
        else s
      | none => s
    (s.journalFrame f).dramAccess

/-! ### The tile -/

/-- COMMIT_DECISION (R127, R132, R138): at T_dec of the next frame to be decided, the commands for that frame take
effect, then the decision is taken. -/
def doCommitDecision (s : State) : State :=
  if !(s.tileRuns) then s
  else
    let g := s.nextDecision
    let s := s.advanceTo (s.tdec g)
    let s := (s.applyDueAt g).privetDue g
    (s.takeDecision g).scnEvent 0

end Sys2Proof.Machine
end

