-- ==== Sys2Proof/Machine/Replay.lean ====
section
/-! DEFINITION. Re-run (R328 to R331). The head's own state stands aside; a second composition state is loaded from the SNAP,
takes the CMD records, and composes each journalled tick again from the frames that SRCF holds. Where the journal does not fix
a choice of the re-run, assumption 161 says what the model does. -/

namespace Sys2Proof.Machine

/-! ### The composition state of a re-run -/

/-- The source frames whose SRCF records the ring still holds. -/
def State.framesHeld (s : State) : List JrnFrame := s.jrn.frames.filter (fun (f : JrnFrame) => s.ringHolds jtSRCF f.seq)

/-- Frame `no` of source `n` among some recorded frames. -/
def recorded (l : List JrnFrame) (n no : Nat) : Option JrnFrame :=
  l.find? (fun (f : JrnFrame) => decide (f.source = n) && decide (f.frame.no = no))

/-- The head with a recorded composition state in place of its own, and the INT, LANES and seed of TICK (R330). -/
def State.asRecorded (s : State) (b : SnapState) (u : Rerun) (t : JrnTick) : State :=
  let s := forEach b.regs (fun e s => s.setWord e.1 e.2) { s with
    rwt := []
    comp := { Comp.reset with windows := b.wins, tiles := b.tiles, filt := b.filt, wlut := b.wlut, seed := t.seed }
    priv := { Privet.reset with items := b.items, shown := b.shown, parts := u.parts }
    cmds := { Cmds.reset with clients := b.clients }
    heads := { HeadFrames.reset with hist := u.hist }
    ingest := { s.ingest with slut := b.slut, tf := b.tf }
    jrn := Jrn.reset }
  ((s.setWord Reg.CMP_PLANE_ORDER b.order).setWord (Reg.TIME_SCHED 0) (wd t.int)).put Fld.CMP_LANE_STAT_LANES t.lanes

/-- A CMD entry takes effect in tick `f` of a re-run, without authentication, conflict or admission checks (R330). -/
def State.applyRecorded (s : State) (f : Word) (e : JrnCmd) : State :=
  let c := e.cmd
  let s := if e.opcode = opPRIVET_LOAD then s.takePart c.params else s
  let s := if e.opcode = opSRC_DEFINE then s.applyDefine c.client c.params
    else if e.opcode = opCLIENT_OPEN then s.setClient (clientArg c.params) (clientOf c.params)
    else if e.opcode = opJRN_START ∨ e.opcode = opJRN_STOP then s
    else s.applyObj e.opcode c f
  match s.comp.orderCmd with
  | some v => { s.setWord Reg.CMP_PLANE_ORDER (wd v) with comp := { s.comp with orderCmd := none } }
  | none => s

/-- CMD entries in turn. -/
def State.applyAllRecorded (s : State) (f : Word) (l : List JrnCmd) : State := forEach l (fun e s => s.applyRecorded f e) s

/-- The state after each of some CMD entries. -/
def State.statesAfter (s : State) (f : Word) (l : List JrnCmd) : List State :=
  match l with
  | [] => []
  | e :: t => let s := s.applyRecorded f e; s :: s.statesAfter f t

/-- The head with the recorded frames as those its sources hold. -/
def State.withFrames (s : State) (l : List JrnFrame) : State :=
  forEach (List.range 64) (fun n s => s.setSrc n { s.src n with
    frames  := (l.filter (fun (f : JrnFrame) => decide (f.source = n))).map (·.frame)
    cur     := none
    waiting := [] }) s

/-- What window `n` showed in a journalled tick (TICK): the frame its own entry names, a fill, or the frame of its source. -/
def JrnTick.showed (t : JrnTick) (l : List JrnFrame) (n : Nat) (w : Win) : Shows :=
  if w.isFill then .fill
  else match SMap.find t.uses n with
    | some (some no) => match recorded l w.source no with
      | some f => .still f.frame
      | none => .pick no
    | some none => .fill
    | none => match SMap.find t.picks w.source with
      | some no => .pick no
      | none => .hidden

/-- The configuration of a journalled tick on a re-run's state. -/
def State.cfgRecorded (s : State) (l : List JrnFrame) (t : JrnTick) : FrameCfg :=
  { s.cfgNow t.fn t.picks with shows := s.comp.windows.map (fun e => (e.1, t.showed l e.1 e.2)) }

/-- A state that a journalled tick may have been composed from, with its configuration. -/
structure Retake where
  st  : State
  cfg : FrameCfg

/-- The source frames that some windows of a configuration read. -/
def FrameCfg.reads (c : FrameCfg) (l : List (Nat × Win)) : List (Nat × Nat) :=
  l.filterMap (fun e =>
    if e.2.isFill then none
    else match SMap.get (fun _ => Shows.fill) c.shows e.1 with
      | .still f => some (e.2.source, f.no)
      | .pick no => some (e.2.source, no)
      | _ => none)

/-- Every frame that patch `i` of descriptor `d` reads has SRCF records. -/
def Retake.complete (v : Retake) (l : List JrnFrame) (d : List Word) (i : Nat) : Bool :=
  (v.cfg.reads (v.cfg.touching (patchBox d i))).all (fun e => (recorded l e.1 e.2).isSome)

/-- The payload of patch `i` of descriptor `d` composed again, `m` of its pixels. -/
def Retake.payload (v : Retake) (d : List Word) (i m : Nat) : List Word :=
  let r := v.st.composePatch v.cfg 0 none d i m
  packCodes (fmtBits (tdFmt d)) (v.cfg.codes (tdFmt d) (r.out ++ List.replicate (240 - m) v.cfg.back))

/-! ### What is recomposed, and what OUTS holds -/

/-- The mask of a tile in a re-run: in the first tick, of which the frame before is not known, that of OUTS; the whole field
where OUTS holds all of it, since nothing records that a Full frame was owed; else the damage (assumption 161). -/
def JrnTick.want (t : JrnTick) (first : Bool) (w : Want) : Want :=
  let sent := maskOf ((t.outs.filter (fun o => decide (o.tile = w.t))).map (·.patch))
  if first || sent == fullMask w.d then { w with mask := sent } else w

/-- The patches of each descriptor recomposed in a tick, and the histories after it: those the plan takes, and those that late
changes touch. `vs` holds the views from C on, `u` what the ticks before left. -/
def State.replan (s : State) (u : Rerun) (t : JrnTick) (c : FrameCfg) (late : List FrameCfg) : SMap (BitVec 60) × SMap TileHist :=
  let dmg := damageOf (u.last.getD c) c [] [] s.comp.placed s.comp.reloaded
  let ws := (s.wants c dmg false).map (t.want u.last.isNone)
  let got := planOf t.fn s.planBudget ws
  let (tiles, p) := s.planAll t.fn got false ws []
  let pairs := (c :: late).zip late
  let extra (d : List Word) : BitVec 60 := pairs.foldl (fun m e =>
    let g := damageOf e.1 e.2 [] [] [] []
    m ||| touchedBy d (g.rects ++ g.privet)) 0
  (tiles.map (fun e => (e.1, e.2.plan ||| (match SMap.find c.tiles e.1 with | some d => extra d | none => 0))), p.heads.hist)

/-- What one patch of a journalled tick comes to: a frame it reads is not held; it agrees, or does not, with the payload
composed again if it was. -/
inductive Judged where
  | noSource
  | done (equal : Bool) (payload : Option (List Word))

/-- Judges patch `i` of descriptor `d`: `o` is its OUTS entry, `again` says that it was recomposed (R330). A revision composed
before or after a late change agrees when one of the configurations of the tick gives its SIG. -/
def judge (vs : List Retake) (l : List JrnFrame) (d : List Word) (i : Nat) (again : Bool) (o : Option OutRec) : Judged :=
  let good := vs.filter (fun v => v.complete l d i)
  let m := match o with | some o => o.upto | none => 240
  let ps := good.map (fun v => v.payload d i m)
  let pick := match o with | some o => if o.rev = 0 then ps.head? else ps.getLast? | none => ps.getLast?
  let same := match o with | some o => ps.find? (fun p => decide (crc64 (wireStream p) = o.sig)) | none => none
  match again, same with
  | true, some p => .done true (some p)
  | true, none => if good.length < vs.length then .noSource else .done false pick
  | false, _ => if good.length < vs.length then .noSource else .done false none

/-- A patch of a re-run to be sent: descriptor, revision, patch, UNDER and payload. -/
structure Resent where
  tile    : Nat
  rev     : Nat
  patch   : Nat
  under   : Bool
  payload : List Word

/-- A mismatch: counted, and the first by descriptor and patch kept. -/
def State.noteMismatch (s : State) (r : Replay) (fn : Word) (node patch : Nat) : Replay × State :=
  let s := s.count Fld.JRN_RPL_MISMATCH_COUNT
  match r.first with
  | none => ({ r with first := some (fn, node, patch) }, s)
  | some _ => (r, s)

/-- The patches of a tick to be judged, in order of descriptor and patch: those of OUTS, and those recomposed that OUTS does not
hold. The rest of a tile that a VOID gave up was not sent. -/
def JrnTick.entries (t : JrnTick) (again : SMap (BitVec 60)) : List (Nat × Nat × Option OutRec) :=
  let sent := t.outs.map (fun o => (o.tile, o.patch, some o))
  let more := again.flatMap (fun e =>
    if t.voids.any (fun v => decide (v.tile = e.1) && !v.recomp) then []
    else ((patchesOf e.2).filter (fun i => !(t.outs.any (fun o => decide (o.tile = e.1) && decide (o.patch = i))))).map
      (fun i => (e.1, i, none)))
  sortBy (fun (e : Nat × Nat × Option OutRec) => e.1 * 64 + e.2.1) (sent ++ more)

/-- Judges the patches of a tick: the mismatches and the patches without a source frame are counted, and what was recomposed
stands ready to be sent. -/
def State.compare (s : State) (r : Replay) (fn : Word) (vs : List Retake) (l : List JrnFrame) (again : SMap (BitVec 60))
    (es : List (Nat × Nat × Option OutRec)) (acc : List Resent) : Replay × List Resent × State :=
  match es with
  | [] => (r, acc, s)
  | (n, i, o) :: rest =>
    match vs.findSome? (fun v => SMap.find v.cfg.tiles n) with
    | none =>
      let (r, s) := s.noteMismatch r fn 0 i
      s.compare r fn vs l again rest acc
    | some d =>
      match judge vs l d i ((SMap.get (fun _ => 0) again n).getLsbD i) o with
      | .noSource => (s.count Fld.JRN_RPL_NOSRC_COUNT).compare r fn vs l again rest acc
      | .done equal pay =>
        let (r, s) := if equal then (r, s) else s.noteMismatch r fn (tdNode d) i
        let new : List Resent := match pay, o with
          | some p, some o => [⟨n, o.rev, i, o.under, p⟩]
          | some p, none => [⟨n, 0, i, false, p⟩]
          | none, _ => []
        s.compare r fn vs l again rest (acc ++ new)

/-! ### Sending (R331) -/

/-- A packet of a re-run on its port. -/
def State.replayPacket (s : State) (p type : Nat) (d : List Word) (body : List Word) : State :=
  if s.portOpen p then s.sendOn p 0 type (BitVec.ofNat 16 (tdNode d)) s.nodeId body else s.unroute p

/-- A recomposed PATCH leaves with this head's FN, T_show and HEADID; `count` is COUNT of its revision. -/
def State.replayPatch (s : State) (p : Nat) (d : List Word) (count : Nat) (e : Resent) : State :=
  let f := s.clk.fn
  let sig := crc64 (wireStream e.payload)
  let w2 := e.rev * 2 ^ 28 + e.patch * 2 ^ 22 + count * 2 ^ 15 + (if e.under then 2 ^ 14 else 0) + s.headId * 2 ^ 13 + tdFmt d * 2 ^ 9
  let body := [f, s.tshow f, wd w2, wd (sig / 2 ^ 32), wd sig] ++ e.payload
  if s.portOpen p then s.sendPatch p (s.patchLane p) (BitVec.ofNat 16 (tdNode d)) s.nodeId body false else s.unroute p

/-- Revision `rev` of a tile in a re-run: its PATCHes, and the VOID that the tick holds of it or else its SEAL, whose BASE is
the frame of this head last sealed for the tile. -/
def State.replayRev (s : State) (p : Nat) (u : Rerun) (t : JrnTick) (l : List Resent) (n : Nat) (d : List Word) (rev : Nat) : Rerun × State :=
  let f := s.clk.fn
  let mine := l.filter (fun e => decide (e.tile = n) && decide (e.rev = rev))
  let s := forEach mine (fun e s => s.replayPatch p d mine.length e) s
  match t.voids.find? (fun v => decide (v.tile = n) && decide (v.rev = rev)) with
  | some v =>
    (u, s.replayPacket p tyVOID d [f, wd (rev * 2 ^ 28 + s.headId * 2 ^ 27 + bitNat v.recomp * 2 ^ 26 + v.cause * 2 ^ 22)])
  | none =>
    let base := SMap.get (fun _ => f) u.sealed n
    ({ u with sealed := SMap.put u.sealed n f },
      s.replayPacket p tySEAL d [f, s.tshow f, wd (rev * 2 ^ 28 + mine.length * 2 ^ 21 + s.headId * 2 ^ 20), base])

/-- The revisions of a tile, `k` of them from `rev` on. -/
def State.replayRevs (s : State) (p : Nat) (u : Rerun) (t : JrnTick) (l : List Resent) (n : Nat) (d : List Word) (rev k : Nat) : Rerun × State :=
  match k with
  | 0 => (u, s)
  | k + 1 => let (u, s) := s.replayRev p u t l n d rev; s.replayRevs p u t l n d (rev + 1) k

/-- The last revision of a tile in a tick. -/
def JrnTick.lastRev (t : JrnTick) (n : Nat) : Nat :=
  max ((t.outs.filter (fun o => decide (o.tile = n))).foldl (fun m o => max m o.rev) 0)
    ((t.voids.filter (fun v => decide (v.tile = n))).foldl (fun m v => max m (if v.recomp then v.rev + 1 else v.rev)) 0)

/-- Sends a re-run tick on the output port, tile by tile in descriptor order (R331): a tile without patches has its SEAL too. -/
def State.replaySend (s : State) (p : Nat) (u : Rerun) (t : JrnTick) (l : List Resent) (tiles : List (Nat × List Word)) : Rerun × State :=
  match tiles with
  | [] => (u, s)
  | (n, d) :: rest =>
    let (u, s) := s.replayRevs p u t l n d 0 (t.lastRev n + 1)
    s.replaySend p u t l rest

/-! ### One journal tick -/

/-- r0 to r2 of CMD_DONE. -/
def Replay.result (r : Replay) : List Word :=
  match r.first with
  | some (fn, node, patch) => [1, fn, wd (node * 2 ^ 16 + patch)]
  | none => [0, 0, 0]

/-- The failure that reading the records of tick `f` meets (R329): a GAP, or a record whose CRC fails, as the target shows it. -/
def State.recordFails (s : State) (f : Word) : Option Nat :=
  if s.jrn.gaps.any (fun g => !(later g.1 f) && !(earlier g.2 f)) then some stBAD_PARAM
  else if f ∈ s.host.mem.damaged then some stINTERNAL
  else none

/-- A line of a recorded frame disagrees with its SRCD digest. -/
def JrnFrame.digestBad (f : JrnFrame) : Bool :=
  match f.digests with
  | some ds => decide (ds ≠ f.frame.digests f.alpha f.width f.height)
  | none => false

/-- The tick of a frame that some views read whose SRCF records fail their CRC or whose lines disagree with SRCD (R329). -/
def State.frameFails (s : State) (vs : List Retake) (l : List JrnFrame) : Option Word :=
  (vs.flatMap (fun v => v.cfg.reads v.cfg.wins)).findSome? (fun e =>
    match recorded l e.1 e.2 with
    | some f => if f.fn ∈ s.host.mem.damaged ∨ f.digestBad = true then some f.fn else none
    | none => none)

/-- What a tick leaves to the next masks (R112): its underrun patches, and the masks of the tiles given up. -/
def JrnTick.carries (t : JrnTick) (again : SMap (BitVec 60)) (n : Nat) : BitVec 60 :=
  let cut := maskOf ((t.outs.filter (fun o => decide (o.tile = n) && o.under)).map (·.patch))
  if t.voids.any (fun v => decide (v.tile = n) && !v.recomp) then cut ||| SMap.get (fun _ => 0) again n else cut

/-- The views of a tick: at C, after each late change, and without the late changes of the ticks before. -/
structure TickViews where
  begun : Retake
  after : List Retake
  older : List (Nat × Retake)

/-- The views of tick `t`. -/
def State.viewsOf (s : State) (u : Rerun) (t : JrnTick) (l : List JrnFrame) : TickViews :=
  let due := t.cmds.filter (fun (e : JrnCmd) => !e.late)
  let view (x : State) : Retake := let x := x.withFrames l; ⟨x, x.cfgRecorded l t⟩
  let atC (b : SnapState) : State := (s.asRecorded b u t).applyAllRecorded t.fn due
  let x := atC u.base
  ⟨view x, (x.statesAfter t.fn (t.cmds.filter (fun (e : JrnCmd) => e.late))).map view, u.alts.map (fun e => (e.1 + 1, view (atC e.2)))⟩

/-- The views in one list, that at C first. -/
def TickViews.all (v : TickViews) : List Retake := v.begun :: (v.older.map (·.2) ++ v.after)

/-- What stands after tick `t`, whose recomposed patches are `again`. -/
def Rerun.step (u : Rerun) (t : JrnTick) (v : TickViews) (again : SMap (BitVec 60)) (hist : SMap TileHist) : Rerun :=
  let fin := v.after.getLast?.getD v.begun
  let olds := (if v.after.isEmpty then [] else (0, v.begun) :: (v.after.dropLast.map (fun x => (0, x)))) ++ v.older
  { u with
    base  := fin.st.snapState
    alts  := (olds.filter (fun e => decide (e.1 < 2))).map (fun e => (e.1, e.2.st.snapState))
    last  := some fin.cfg
    hist  := again.foldl (fun m e =>
      let h := SMap.get (fun _ => TileHist.reset) m e.1
      SMap.set (fun _ => TileHist.reset) m e.1 { h with carry := t.carries again e.1 }) hist
    parts := fin.st.priv.parts }

/-- A journal tick of the replay, read without failure up to its source frames (R330): the failure they meet, or the replay
after it. -/
def State.rerunTick (s : State) (r : Replay) (u : Rerun) (t : JrnTick) : (Option Word) × Replay × State :=
  let l := s.framesHeld
  let v := s.viewsOf u t l
  match s.frameFails v.all l with
  | some fn => (some fn, r, s)
  | none =>
    let (again, hist) := v.begun.st.replan u t v.begun.cfg (v.after.map (·.cfg))
    let (r, sent, s) := s.compare r t.fn v.all l again (t.entries again) []
    let (u, s) := match r.port with
      | some p => s.replaySend p u t sent (placedTiles v.begun.cfg.tiles)
      | none => (u, s)
    (none, { r with run := some (u.step t v again hist) }, s)

/-- The composition state that a replay goes on from: the SNAP of its first tick is loaded first (R330). -/
def State.rerunFrom (s : State) (r : Replay) : Option Rerun :=
  match r.run with
  | some u => some u
  | none => (s.jrn.snapped.find? (fun (e : JrnSnap) => decide (e.fn = r.next))).map (fun e => ⟨e.base, [], none, [], none, []⟩)

/-- One journal tick of the replay (R330). A failure ends it: nothing is compared past that point (R329). -/
def State.replayTick (s : State) : State :=
  match s.jrn.replay with
  | none => s
  | some r => match s.recordFails r.next with
    | some st => s.endReplay r st [wd (bitNat r.first.isSome), r.next]
    | none =>
      let (bad, r, s) := match s.jrn.ticks.find? (fun t => decide (t.fn = r.next)), s.rerunFrom r with
        | some t, some u => s.rerunTick r u t
        | _, u => (none, { r with run := u }, s)
      match bad with
      | some fn => s.endReplay r stINTERNAL [wd (bitNat r.first.isSome), fn]
      | none =>
        if r.next = r.last then s.endReplay r stOK r.result
        else { s with jrn := { s.jrn with replay := some { r with next := r.next + 1 } } }

/-- The whole replay at once, with pacing 1 (R331); the range of ticks bounds its length. -/
def State.replayAll (s : State) (fuel : Nat) : State :=
  match fuel with
  | 0 => match s.jrn.replay with
    | some r => s.endReplay r stOK r.result
    | none => s
  | k + 1 => match s.jrn.replay with
    | some _ => s.replayTick.replayAll k
    | none => s

/-- JRN_REPLAY starts (R329): the first FN needs a complete SNAP; the other checks are made as records are read. A mirrored one
is silent (R266). -/
def State.startReplay (s : State) (c : Cmd) (silent : Bool) : State :=
  let w0 := nth c.params 0
  let a := nth c.params 1
  let b := nth c.params 2
  let out := wbits w0 1 1 = 1
  let r : Replay := ⟨c.client, c.tag, c.route, decide (wbits w0 0 0 = 1) && !(decide out), if out then some (wbits w0 3 2) else none,
    a, b, none, silent, none⟩
  let s := (((s.raise Fld.JRN_STAT_REPLAY).put Fld.JRN_RPL_MISMATCH_COUNT 0).put Fld.JRN_RPL_NOSRC_COUNT 0)
  let s := { s with jrn := { s.jrn with replay := some r } }
  if !(s.jrn.snapped.any (fun (e : JrnSnap) => decide (e.fn = a) && s.ringHolds jtSNAP e.seq)) then s.endReplay r stBAD_PARAM [0]
  else if r.free then s.replayAll ((b - a).toNat + 1)
  else s

end Sys2Proof.Machine
end

