-- ==== Sys2Proof/Machine/Resync.lean ====
section
/-! DEFINITION. Resynchronisation of a pair of heads and the mirrored commands (R264, R266 to R268, R278). A TABLE packet
carries one unit of 64 bytes; the layout of a unit is the model's (assumption 73). -/

namespace Sys2Proof.Machine

/-! ### Tables -/

/-- Words filled up to a unit of 16. -/
def unit16 (l : List Word) : List Word := (l ++ List.replicate 16 0).take 16

/-- Units of a run of words, numbered from `n` up; `fuel` bounds their number. -/
def unitsFrom (fuel n : Nat) (l : List Word) : List (Nat × List Word) :=
  match fuel with
  | 0 => []
  | k + 1 => if l = [] then [] else (n, unit16 l) :: unitsFrom k (n + 1) (l.drop 16)

/-- Table and offset as word 2 of a TABLE gives them. -/
def unitKey (table ofs : Nat) : Nat := table * 2 ^ 24 + ofs

/-- The window table: window n is unit n, its 14 words from the first. -/
def State.winUnits (s : State) : List (Nat × List Word) := s.comp.windows.map (fun (e : Nat × Win) => (unitKey 0 e.1, unit16 e.2.words))

/-- The tile table: descriptors 2k and 2k + 1 share unit k. -/
def State.tileUnits (s : State) : List (Nat × List Word) :=
  let half (n : Nat) : List Word := ((SMap.find s.comp.tiles n).getD (List.replicate 8 0)).take 8
  ((s.comp.tiles.map (fun (e : Nat × List Word) => e.1 / 2)).eraseDups).map (fun k => (unitKey 1 k, half (2 * k) ++ half (2 * k + 1)))

/-- The Privet store: an item's length and content from unit 2^14 × item, and the mask of items shown in the last unit. -/
def State.privUnits (s : State) : List (Nat × List Word) :=
  s.priv.items.flatMap (fun (e : Nat × PrivetItem) =>
    unitsFrom (e.2.length / 64 + 2) (unitKey 2 (e.1 * 2 ^ 14)) (wd e.2.length :: wordsOf e.2)) ++
    [(unitKey 2 0xFFFFFF, unit16 [itemWord s.priv.shown 0, itemWord s.priv.shown 1])]

/-- The client table: entry, command sequence and the key wrapped under the domain key (R266). -/
def State.clientUnits (s : State) : List (Nat × List Word) :=
  let ids := (s.cmds.clients.map (fun (e : Nat × Client) => e.1) ++ s.keys.cseq.map (fun (e : Nat × Nat) => e.1) ++
    s.keys.clients.map (fun (e : Nat × BitVec 256) => e.1) ++ [0]).eraseDups
  ids.map (fun n =>
    let id : ClientId := BitVec.ofNat 12 n
    let c := s.client id
    let q := s.lastCseq id
    let w0 := wd (bitNat c.isOpen * 2 ^ 31 + bitNat c.authReq * 2 ^ 30 + bitNat (s.clientKey id).isSome * 2 ^ 29 + c.cls % 8 * 2 ^ 16 + c.rights % 256)
    let k := match s.clientKey id, s.keys.domain with
      | some k, some d => keyWrapBy d k
      | _, _ => []
    (unitKey 3 n, unit16 ([w0, wd (q / 2 ^ 32), wd q] ++ k)))

/-- Every unit of the four tables, in order. -/
def State.allUnits (s : State) : List (Nat × List Word) := s.winUnits ++ s.tileUnits ++ s.privUnits ++ s.clientUnits

/-- CRC-32C of all TABLE data. -/
def unitsCrc (l : List (Nat × List Word)) : Nat := crc32c (leStream (l.flatMap (·.2)))

/-- Ticks that sending `n` TABLE packets takes at RED_CFG.RATE percent of a port of 48 Gbit/s; a packet has 2 header, 3
content, 6 trailer and 1 CRC words beside the unit's. -/
def State.tableTicks (s : State) (n : Nat) : Nat :=
  let r := s.get Fld.RED_CFG_RATE
  let rate := if r = 0 ∨ 50 < r then 10 else r
  ceilDiv (n * 28 * 32 * 100) (48 * rate * s.tickInt)

/-! ### The active head -/

/-- A resynchronisation starts (R278). The tables are those the head will hold at the apply tick. -/
def State.startResync (s : State) : State :=
  if !(s.paired) || s.standby then s
  else
    let n := s.allUnits.length
    let g := s.clk.fn + wd (s.tableTicks n + 3)
    let l := (s.projected g).allUnits
    let last := s.red.lastCmd
    let s := forEach l (fun e s => s.sendMirror mkTABLE (wd e.1 :: e.2)) s
    let hi := wd (s.comp.seed.toNat / 2 ^ 32)
    let lo := wd s.comp.seed.toNat
    let s := s.sendMirror mkSNAPEND [g, wd last, hi, lo, wd (unitsCrc l)]
    ({ s with red := { s.red with resync := true, snapEnd := some (g, last, hi, lo, wd (unitsCrc l)) } }).raise Fld.RED_STAT_RESYNC

/-- The apply tick of a resynchronisation has come at the active head: RED_RESYNC is answered. -/
def State.resyncTick (s : State) : State :=
  match s.red.snapEnd with
  | some (g, _) =>
    if s.standby || later g s.clk.fn then s
    else
      let s := ({ s with red := { s.red with resync := false, snapEnd := none } }).put Fld.RED_STAT_RESYNC 0
      let s := s.raise Fld.RED_INT_RESYNC_DONE
      let mine := s.cmds.done.filter (fun (d : PendingDone) => decide (d.opcode = opRED_RESYNC) && decide (d.route = .ring))
      let s := { s with cmds := { s.cmds with done := s.cmds.done.filter (fun (d : PendingDone) => !(decide (d ∈ mine))) } }
      forEach mine (fun d s => s.cmdDone d stOK []) s
  | none => s

/-- RESYNC_REQ_RECEIVED (R278). A request that comes while one runs starts it again. -/
def doResyncReq (x : Rx) (s : State) : State := s.onMirror x mkRESYNC_REQ (fun _ s => s.startResync)

/-- An accepted command is mirrored with its apply tick (R266). -/
def State.mirror (s : State) (op : Nat) (c : Cmd) (g : Word) : State :=
  if s.paired && !(s.standby) then s.sendMirror mkCMD (g :: cmdWords op c) else s

/-! ### The standby head -/

/-- Mirrored commands that act on head state (R266). -/
def mirrorActs (op : Nat) (p : List Word) : Bool :=
  if op = opKEY_INSTALL then decide (wbits (nth p 0) 31 24 = 0) || (decide (wbits (nth p 0) 31 24 = 3) && p.length == 11)
  else if op = opRED_PAIR ∨ op = opRED_SWITCH ∨ op = opRED_RESYNC then false
  else if op = opTICK_CONFIG ∨ op = opLEAD_SET then true
  else match opRow op with
    | some o => o.headObj
    | none => false

/-- An immediate mirrored command acts at once; a T command waits for its tick, or is a late change when C of it has
passed (R268). -/
def State.takeMirrored (s : State) (g : Word) (op : Nat) (c : Cmd) : State :=
  let p := c.params
  if !(mirrorActs op p) then s
  else match opRow op with
    | some o =>
      if o.acts = .tick then
        let s := if op = opPRIVET_LOAD then s.takePart p else s.onArrival op c g
        let s := if op = opLEAD_SET then { s with heads := { s.heads with leadPend := true, advNext := some (wbits (nth p 1) 15 0, g) } } else s
        -- what the active head removed because this command beat it goes here too (R302)
        let s := s.withoutBeaten op c g
        if s.pastCompose g then s.applyLate op c g
        else { s with cmds := { s.cmds with accepted := s.cmds.accepted ++ [⟨op, c, g, false, true⟩] } }
      else if op = opCLIENT_OPEN then s.setClient (clientArg p) (clientOf p)
      else if op = opKEY_INSTALL then s.applyKey p
      else if op = opSRC_DEFINE then s.applyDefine c.client p
      else if op = opSRC_WATCH then s.applyWatch c.client (nth p 0)
      else if op = opJRN_CONFIG then s.jrnConfigure p
      else if op = opJRN_REPLAY then (if s.pwr.state = .active ∨ s.replaying = true then s else s.startReplay c true)
      else s
    | none => s

/-- A head that is out of step keeps a copy of what is mirrored until the resynchronisation ends. -/
def State.resyncing (s : State) : Bool := s.bit Fld.RED_STAT_OOS || s.red.snapEnd.isSome || !s.red.tables.isEmpty

/-- A client sequence that the active head accepted; a recorded one never goes back (R266, R292). -/
def State.raiseCseq (s : State) (n : ClientId) (v : Nat) : State := s.takeCseq n (max (s.lastCseq n) v)

/-- The mirrored commands that have now been received in order act, in the order of their MSEQ (R268). -/
def State.takeHeld (s : State) : State :=
  let r := s.red.recv
  let ready (e : Word × Nat × List Word) : Bool := !(later (wd e.2.1) (wd r))
  let now := sortBy (fun (e : Word × Nat × List Word) => (e.2.1 + 2 ^ 32 + 2 ^ 31 - r) % 2 ^ 32) (s.red.heldCmds.filter ready)
  let s := { s with red := { s.red with heldCmds := s.red.heldCmds.filter (fun e => !(ready e)) } }
  forEach now (fun e s => let (op, c) := parseCmd .ring e.2.2; s.takeMirrored e.1 op c) s

/-- MIRROR_CMD_RECEIVED (R266, R268). The client sequence of every mirrored command is recorded; what came in order acts,
also at a head that is out of step. -/
def doMirrorCmd (x : Rx) (s : State) : State :=
  s.onMirror x mkCMD (fun b s =>
    if !(s.standby) then s
    else
      let c := (parseCmd .ring (b.drop 1)).2
      let s := s.put Fld.RED_EPOCH_EPOCH (wbits (nth x.body 0) 15 0)
      let s := match c.trailer with | some t => s.raiseCseq c.client t.cseq.toNat | none => s
      let e : Word × Nat × List Word := (nth b 0, (nth x.body 1).toNat, b.drop 1)
      let s := { s with red := { s.red with
        mirrored := if s.resyncing then s.red.mirrored ++ [e] else []
        heldCmds := s.red.heldCmds ++ [e] } }
      s.takeHeld)

/-- MIRROR_TABLE_RECEIVED (R271, R278): a head that RED_RESYNC repairs is out of step from the first one on, and sends
RESYNC_REQ. -/
def doMirrorTable (x : Rx) (s : State) : State :=
  s.onMirror x mkTABLE (fun b s =>
    if !(s.standby) then s
    else
      let s := if s.bit Fld.RED_STAT_OOS then s else s.setOos.sendResyncReq
      let s := if s.red.snapEnd.isSome then { s with red := { s.red with tables := [], snapEnd := none } } else s
      let s := s.raise Fld.RED_STAT_RESYNC
      { s with red := { s.red with tables := s.red.tables ++ [((nth b 0).toNat, unit16 (b.drop 1))] } })

/-- Every client key of the tables unwraps under the domain key (R278). -/
def State.keysUnwrap (s : State) (l : List (Nat × List Word)) : Bool :=
  (l.filter (fun e => decide (e.1 / 2 ^ 24 = 3) && (nth e.2 0).getLsbD 29)).all (fun e =>
    match s.keys.domain with
    | some d => (keyUnwrap d ((e.2.drop 3).take 10)).isSome
    | none => false)

/-- Every MIRROR up to MSEQ `m` counts as received: the tables hold what the missing ones did (R278). -/
def State.mirrorTo (s : State) (m : Nat) : State :=
  ({ s with red := { s.red with recv := m, ahead := s.red.ahead.filter (fun k => later (wd k) (wd m)) } }).showMseq

/-- SNAPEND_RECEIVED (R278): the CRC and the wrapped keys are checked; a failed check draws RESYNC_REQ again. -/
def doSnapend (x : Rx) (s : State) : State :=
  s.onMirror x mkSNAPEND (fun b s =>
    if !(s.standby) then s
    else if (nth b 4).toNat = unitsCrc s.red.tables ∧ s.keysUnwrap s.red.tables = true then
      let s := (s.mirrorTo (nth x.body 1).toNat).put Fld.RED_EPOCH_EPOCH (wbits (nth x.body 0) 15 0)
      ({ s with red := { s.red with snapEnd := some (nth b 0, (nth b 1).toNat, nth b 2, nth b 3, nth b 4) } }).takeHeld
    else (({ s with red := { s.red with tables := [], snapEnd := none } }).put Fld.RED_STAT_RESYNC 0).sendResyncReq)

/-- The windows of a resynchronisation. -/
def unitWins (l : List (Nat × List Word)) : SMap Win :=
  (l.filter (fun e => decide (e.1 / 2 ^ 24 = 0))).foldl (fun m e =>
    SMap.put m (e.1 % 2 ^ 24) ⟨BitVec.ofNat 12 (wbits (nth e.2 0) 31 20), e.2.take 14⟩) []

/-- Its tile descriptors. -/
def unitTiles (l : List (Nat × List Word)) : SMap (List Word) :=
  (l.filter (fun e => decide (e.1 / 2 ^ 24 = 1))).foldl (fun m e =>
    let k := e.1 % 2 ^ 24
    let a := e.2.take 8
    let b := e.2.drop 8
    let m := if tdWq a = 0 then m else SMap.put m (2 * k) a
    if tdWq b = 0 then m else SMap.put m (2 * k + 1) b) []

/-- Its Privet items. -/
def unitItems (l : List (Nat × List Word)) : SMap PrivetItem :=
  (List.range 64).foldl (fun m n =>
    let ws := (l.filter (fun e => decide (unitKey 2 (n * 2 ^ 14) ≤ e.1) && decide (e.1 < unitKey 2 ((n + 1) * 2 ^ 14)))).flatMap (·.2)
    if ws = [] then m else SMap.put m n ((leStream (ws.drop 1)).take (nth ws 0).toNat)) []

/-- The Privet items it shows. -/
def unitShown (l : List (Nat × List Word)) : List Nat :=
  match l.find? (fun e => decide (e.1 = unitKey 2 0xFFFFFF)) with
  | some e => itemsOf (nth e.2 0) (nth e.2 1)
  | none => []

/-- Installs one client record; a key that does not unwrap under the domain key is not installed. -/
def State.takeClient (s : State) (n : Nat) (u : List Word) : State :=
  let w0 := nth u 0
  let id : ClientId := BitVec.ofNat 12 n
  let s := if n = 0 then s
    else s.setClient id ⟨decide (wbits w0 31 31 = 1), decide (wbits w0 30 30 = 1), wbits w0 18 16, wbits w0 7 0⟩
  let s := s.raiseCseq id ((nth u 1).toNat * 2 ^ 32 + (nth u 2).toNat)
  let key := match s.keys.domain with
    | some d => if wbits w0 29 29 = 1 then keyUnwrap d ((u.drop 3).take 10) else none
    | none => none
  match key with
  | some k => if n = 0 then { s with keys := { s.keys with client0 := some k } }
    else { s with keys := { s.keys with clients := SMap.put s.keys.clients n k } }
  | none => s

/-- Opcodes whose whole effect the four tables hold. -/
def tableOp (op : Nat) : Bool :=
  op == opCLIENT_OPEN || op == opCLIENT_CLOSE || op == opCLIENT_GRANT || op == opKEY_INSTALL || op == opWIN_CREATE ||
    op == opWIN_MODIFY || op == opWIN_DELETE || op == opWIN_BATCH || op == opTILE_PLACE || op == opPRIVET_LOAD ||
    op == opPRIVET_SHOW || op == opPRIVET_HIDE

/-- The mirrored commands that the tables of a resynchronisation should hold and do not: those after SNAPEND's MSEQ
`last`, received in order, for ticks up to the apply tick `g`. -/
def State.afterSnap (s : State) (g : Word) (last : Nat) : List (Word × Nat × Cmd) :=
  ((s.red.mirrored.filter (fun (m : Word × Nat × List Word) => later (wd m.2.1) (wd last) && !(later (wd m.2.1) (wd s.red.recv)) &&
    !(later m.1 g))).map (fun (m : Word × Nat × List Word) => let (op, c) := parseCmd .ring m.2.2; (m.1, op, c))).filter
    (fun (m : Word × Nat × Cmd) => tableOp m.2.1)

/-- An accepted command is the mirrored one `m`. -/
def Accepted.is (a : Accepted) (m : Word × Nat × Cmd) : Bool := decide (a.tick = m.1) && decide (a.opcode = m.2.1) && decide (a.cmd = m.2.2)

/-- The item of a FINAL part of a PRIVET_LOAD. -/
def finalItem (op : Nat) (p : List Word) : Option Nat :=
  if op = opPRIVET_LOAD ∧ wbits (nth p 0) 31 31 = 1 then some (wbits (nth p 0) 5 0) else none

/-- The first gathered load of an item is dropped: the tables hold the item. -/
def dropLoad (l : List (Word × Nat × PrivetItem)) (item : Nat) : List (Word × Nat × PrivetItem) :=
  match l with
  | [] => []
  | e :: t => if e.2.1 = item then t else e :: dropLoad t item

/-- RESYNC_APPLY (R278): at the apply tick the tables, the seeds and the commands after SNAPEND's MSEQ take effect, every
Inkwell tag is cleared, every patch is marked changed and the next frame is Full for every tile. The tables hold what was
mirrored up to SNAPEND's MSEQ for ticks up to the apply tick; what waits for a later tick, and what acts on state that no
table carries, stands. -/
def doResyncApply (s : State) : State :=
  match s.red.snapEnd with
  | none => s
  | some (g, last, hi, lo, _) =>
    if !(s.standby) || later g s.nextCompose then s
    else
      let l := s.red.tables
      let fresh := s.afterSnap g last
      let stays (a : Accepted) : Bool := later a.tick g || !(tableOp a.opcode) || fresh.any (fun m => a.is m)
      let gone := (s.cmds.accepted.filter (fun (a : Accepted) => !(stays a))).filterMap (fun (a : Accepted) => finalItem a.opcode a.cmd.params)
      let again := fresh.filter (fun m => !(s.cmds.accepted.any (fun (a : Accepted) => a.is m)))
      let loaded := again.filterMap (fun (m : Word × Nat × Cmd) => finalItem m.2.1 m.2.2.params)
      let items := loaded.foldl (fun (m : SMap PrivetItem) n =>
        match SMap.find s.priv.items n with | some t => SMap.put m n t | none => m) (unitItems l)
      let s := { s with
        comp  := { s.comp with windows := unitWins l, tiles := unitTiles l, inval := true, last := none, seed := hi ++ lo }
        priv  := { s.priv with items := items, shown := unitShown l, loads := gone.foldl dropLoad s.priv.loads }
        cmds  := { s.cmds with clients := [], accepted := s.cmds.accepted.filter stays }
        keys  := { s.keys with clients := [] }
        heads := { s.heads with hist := [], active := false } }
      let s := forEach (l.filter (fun e => decide (e.1 / 2 ^ 24 = 3))) (fun e s => s.takeClient (e.1 % 2 ^ 24) e.2) s
      let s := { s with red := { s.red with tables := [], snapEnd := none, mirrored := [] } }
      let s := (((s.put Fld.RED_STAT_OOS 0).put Fld.RED_STAT_RESYNC 0).raise Fld.RED_INT_RESYNC_DONE).savePair
      forEach again (fun m s => s.takeMirrored m.1 m.2.1 m.2.2) s

end Sys2Proof.Machine
end

