-- ==== Sys2Proof/Machine/CmdHead.lean ====
section
/-! DEFINITION. Commands that a head itself carries out for its domain and its objects, and the status each draws: DTIME
commands (R299), immediate head commands, and the T commands on the schedule, the lead and the pair. -/

namespace Sys2Proof.Machine

/-! ### DTIME commands (R187, R299) -/

/-- d of R187: the largest hop count of the enumeration record. -/
def State.maxHops (s : State) : Nat := s.net.record.foldl (fun (m : Nat) (e : Nat × NodeRec) => max m e.2.hops) 0

/-- The DTIME of a D command: 0 lets the head choose d × h + 100 µs ahead. -/
def State.dInstant (s : State) (w : Word) : Word := if w = 0 then s.clk.dtime + wd (s.maxHops * 300 + 100000) else w

/-- An instant leads the arrival by d × h or more. -/
def State.dLeads (s : State) (t : Word) : Bool :=
  let d := (t - s.clk.dtime).toNat
  decide (s.maxHops * 300 ≤ d) && decide (d < 2 ^ 31)

/-- AACC of an anchor at tick `g` (R198). -/
def State.accAt (s : State) (g : Word) : Word := wd ((s.schedFor g).acc g)

/-- A command with the words that the head fills in: the instant it chose, or the anchor of a schedule (R199). -/
def State.filled (s : State) (op : Nat) (c : Cmd) (g : Word) : Cmd :=
  let p := c.params
  if op = opDOM_RESET then { c with params := [s.dInstant (nth p 0)] }
  else if op = opDOM_SNAPSHOT then { c with params := [nth p 0, s.dInstant (nth p 1)] }
  else if op = opTICK_CONFIG then { c with params := [nth p 0, nth p 1, g, s.startOf g, s.accAt g] }
  else c

/-- A D command whose instant does not lead is BAD_PARAM where the command is taken (R299). -/
def State.instantBad (s : State) (op : Nat) (c : Cmd) : Bool :=
  let p := c.params
  if op = opDOM_RESET then !(s.dLeads (s.dInstant (nth p 0)))
  else if op = opDOM_SNAPSHOT then !(s.dLeads (s.dInstant (nth p 1)))
  else if op = opUPD_ACTIVATE then !(s.dLeads (nth p 1))
  else false

/-! ### Immediate commands of a head -/

/-- Opcodes below that a head carries out for itself or its domain. -/
def headOp (op : Nat) : Bool :=
  op == opCLIENT_OPEN || op == opSRC_DEFINE || op == opSRC_STATUS || op == opSRC_WATCH || op == opDOM_ENUMERATE || op == opTILE_QUERY ||
    op == opDOM_BARRIER || op == opDOM_SNAPSHOT || op == opRED_PAIR || op == opRED_RESYNC || op == opJRN_CONFIG || op == opJRN_REPLAY

/-- Words 1 and 2 of the REPORT of a node's enumeration. -/
def reportWords (id : Nat) (r : NodeRec) : List Word :=
  [wd (id * 2 ^ 16 + r.role * 2 ^ 14 + r.wq * 2 ^ 10 + r.hq * 2 ^ 7 + r.arr * 2 ^ 5), wd (r.hops * 2 ^ 20 + r.ports * 2 ^ 16)]

/-- The result of TILE_QUERY: by descriptor, or by node ID; none when there is no such descriptor or node. -/
def State.queryOf (s : State) (w0 : Word) : Option (List Word) :=
  let report (n : Nat) : List Word := match SMap.find s.net.record n with | some r => reportWords n r | none => [0, 0]
  if wbits w0 31 31 = 0 then
    (SMap.find s.comp.tiles (wbits w0 12 0)).map (fun d => d.take 8 ++ report (tdNode d))
  else
    let n := wbits w0 15 0
    match (placedTiles s.comp.tiles).find? (fun (e : Nat × List Word) => decide (tdNode e.2 = n)) with
    | some e => some (e.2.take 8 ++ report n)
    | none => (SMap.find s.net.record n).map (fun r => List.replicate 8 0 ++ reportWords n r)

/-- The status of RED_PAIR (R264). -/
def State.pairStatus (s : State) (p : List Word) : Nat :=
  let h0 := wbits (nth p 0) 31 16
  let h1 := wbits (nth p 0) 15 0
  let me := s.nodeId.toNat
  let other := if h0 = me then h1 else h0
  -- a head answers a walk with its ID and sends no REPORT (R179): the heads the walks met count as heads of the record
  let isHead : Bool := (match SMap.find s.net.record other with | some r => decide (r.role = 1) | none => false) ||
    s.net.metHead.any (fun e => decide (e.2.toNat = other))
  if h0 = h1 ∨ (h0 ≠ me ∧ h1 ≠ me) then stBAD_PARAM
  else if isHead = false ∨ (s.paired && decide (s.partner.toNat ≠ other)) = true then stCONFLICT
  else stOK

/-- The status an immediate head command draws (steps 7, 8 and 10 of R289). -/
def State.headStatus (s : State) (op : Nat) (c : Cmd) : Nat :=
  let p := c.params
  if op = opCLIENT_OPEN then s.clientStatus true p
  else if op = opSRC_DEFINE then s.defineStatus p
  else if op = opDOM_ENUMERATE then
    (if (match s.net.walk with | some w => w.cmd.isSome | none => false) = true then stBUSY else stOK)
  else if op = opTILE_QUERY then (if (s.queryOf (nth p 0)).isNone then stBAD_PARAM else stOK)
  else if op = opDOM_BARRIER then (if s.net.barMine.isSome then stBUSY else stOK)
  else if op = opRED_PAIR then s.pairStatus p
  else if op = opRED_RESYNC then (if !(s.paired) then stCONFLICT else if s.red.resync then stBUSY else stOK)
  else if op = opJRN_CONFIG then
    (if !(s.jrnParamOk p) then stBAD_PARAM else if s.jrnRuns then stBUSY else if (s.jrnBroken p).1 ≠ 0 then stNO_RESOURCE else stOK)
  else if op = opJRN_REPLAY then (if s.pwr.state = .active then stCONFLICT else stOK)
  else stOK

/-- RED_PAIR takes effect at this head; the head that took it from a ring sends it to the partner, and the active head
resynchronises the other at once (R264). -/
def State.applyPair (s : State) (c : Cmd) : State :=
  let p := c.params
  let h0 : NodeId := BitVec.ofNat 16 (wbits (nth p 0) 31 16)
  let h1 : NodeId := BitVec.ofNat 16 (wbits (nth p 0) 15 0)
  let other := if s.nodeId = h0 then h1 else h0
  let s := match c.route with
    | .broash _ _ => s
    | _ => s.sendCmd other opRED_PAIR c
  let s := s.setPair h0 h1 (wbits (nth p 1) 0 0)
  let s := s.answer opRED_PAIR c stOK false s.clk.fn []
  if s.standby then s else s.startResync

/-- DOM_SNAPSHOT: SNAP to every node, this one included (R187, R395). -/
def State.applySnapshot (s : State) (c : Cmd) : State :=
  let id := (s.net.snapIds + 1) % 2 ^ 16
  let scope := wbits (nth c.params 0) 15 0
  let at_ := nth c.params 1
  let s := { s with net := { s.net with snapIds := id } }
  let s := s.sendTo tySNAP 0xFFFF [wd (id * 2 ^ 16 + scope), at_, s.clk.dtime]
  let s := s.queueSnap id scope at_ s.nodeId
  s.answer opDOM_SNAPSHOT c stOK false s.clk.fn [at_, wd (id * 2 ^ 16)]

/-- An immediate head command acts, and is answered. -/
def State.applyHeadNow (s : State) (op : Nat) (c : Cmd) : State :=
  let p := c.params
  let w0 := nth p 0
  let ok (s : State) (res : List Word) : State := s.answer op c stOK false s.clk.fn res
  if op = opCLIENT_OPEN then ok (s.setClient (clientArg p) (clientOf p)) []
  else if op = opSRC_DEFINE then ok (s.applyDefine c.client p) []
  else if op = opSRC_STATUS then
    let n := wbits w0 5 0
    ok s ([Reg.SRC_STAT n, Reg.SRC_FCNT n, Reg.SRC_SIG n, Reg.SRC_RANGECNT n, Reg.SRC_SYNCCNT n, Reg.SRC_ERRCNT n, Reg.SRC_RTPOFS n].map
      (fun x => s.peekReg false x))
  else if op = opSRC_WATCH then ok (s.applyWatch c.client w0) []
  else if op = opDOM_ENUMERATE then
    s.enumerate (decide (wbits w0 16 16 = 0)) ((List.range 4).filter (fun i => decide (wbits w0 i i = 1))) (p.drop 1) c
  else if op = opTILE_QUERY then ok s ((s.queryOf w0).getD [])
  else if op = opDOM_BARRIER then s.startBarrier c
  else if op = opDOM_SNAPSHOT then s.applySnapshot c
  else if op = opRED_PAIR then s.applyPair c
  else if op = opRED_RESYNC then
    let s := s.answerPending op c
    let d : PendingDone := ⟨op, c.client, c.tag, c.route⟩
    ({ s with cmds := { s.cmds with done := s.cmds.done ++ [d] } }).startResync
  else if op = opJRN_CONFIG then ok (s.jrnConfigure p) []
  else if op = opJRN_REPLAY then (s.answerPending op c).startReplay c false
  else s

/-! ### T commands of a head on its schedule, its lead and its pair -/

/-- The status of LEAD_SET for apply tick `g` (R128). -/
def State.leadStatus (s : State) (p : List Word) (g : Word) : Nat :=
  let lead := (nth p 0).toNat
  if lead < 100000 ∨ 3 * s.tickInt < 2 * lead ∨ s.leadOk lead (wbits (nth p 1) 15 0) = false ∨ 2 * lead + s.tickInt < 2 * s.leadOf g then
    stBAD_PARAM
  else if s.heads.leadPend then stBUSY
  else stOK

/-- The status of TICK_CONFIG but for the budgets (R199). -/
def State.schedStatus (s : State) (p : List Word) : Nat :=
  let int := (nth p 0).toNat
  let lead := s.get Fld.TIME_LEAD_NS
  let adv := s.get Fld.CMP_RUNAHEAD_ADV * 1000
  if 3 * int < 2 * lead ∨ int < adv ∨ 3 * int < 2 * (lead + adv) then stBAD_PARAM
  else if (List.range 64).any (fun n => s.bit (Fld.SRC_CFG_ENABLED n) && s.bit (Fld.SRC_CFG_CHASE n)) then stCONFLICT
  else stOK

/-- The status of RED_SWITCH: the pair and the standby's last HEARTBEAT. -/
def State.switchStatus (s : State) : Nat :=
  let seen : Bool := match s.red.lastBeat with
    | some t => decide ((s.clk.dtime - t).toNat ≤ s.hbTmo)
    | none => false
  let fit : Bool := match s.red.beat with
    | some f => decide (wbits f 2 2 = 1) && decide (wbits f 1 1 = 0)
    | none => false
  if s.paired && seen && fit then stOK else stCONFLICT

/-- The status a T command draws at a head for its tick `g` (steps 7 and 8 of R289), with result words. -/
def State.tickStatus (s : State) (op : Nat) (c : Cmd) (g : Word) : Nat × List Word :=
  if op = opLEAD_SET then (s.leadStatus c.params g, [])
  else if op = opTICK_CONFIG then (s.schedStatus c.params, [])
  else if op = opRED_SWITCH then (s.switchStatus, [])
  else if op = opPRIVET_LOAD then (s.loadStatus c.params, [])
  else (s.projected g).objStatus op c

/-- The budget a T command breaks at tick `g` (R77, R119, R199, R280): 0 none, 1 to 3 those of R119, 4 the source loads,
5 the Privet store. -/
def State.resourceOf (s : State) (op : Nat) (c : Cmd) (g : Word) : Nat × Nat :=
  if op = opTICK_CONFIG then
    let t := ((s.projected g).setWord (Reg.TIME_SCHED 0) (nth c.params 0)).setWord (Reg.TIME_SCHED 1) (nth c.params 1)
    t.budgetBroken (t.steadyLoad t.comp.windows t.orderNow t.comp.tiles) t.jrnRate
  else if op = opPRIVET_LOAD then (if s.loadFits c.params then (0, 0) else (5, 0))
  else
    let t := s.projected g
    if t.admits op c then (t.applyObj op c g).admission op c else (0, 0)

/-! ### The tick of a command at a head (R128, R131, R304) -/

/-- APPLY_TICK names a tick (R131). -/
def asksTick (c : Cmd) : Bool := c.atTick && decide (c.applyTick ≠ 0)

/-- URGENT is honoured (R304). -/
def State.urgentOk (s : State) (op : Nat) (c : Cmd) : Bool :=
  c.urgent && (op == opPRIVET_SHOW || op == opPRIVET_HIDE ||
    ((op == opWIN_MODIFY || op == opWIN_DELETE || op == opWIN_BATCH) &&
      (decide (c.client = 0) || decide (bitsOf (s.client c.client).rights 4 1 = 1))))

/-- Ports with a non-empty descriptor. -/
def State.usedPorts (s : State) : List Nat :=
  (List.range 4).filter (fun p => (placedTiles s.comp.tiles).any (fun (e : Nat × List Word) => decide (tdPort e.2 = p)))

/-- The earliest frame, not before `lo`, whose earliest push deadline has not passed; none without a descriptor. -/
def State.urgentFrame (s : State) (lo : Option Word) : Option Word :=
  if s.usedPorts = [] then none
  else ([s.clk.fn - 1, s.clk.fn, s.clk.fn + 1, s.clk.fn + 2] : List Word).find? (fun g =>
    (match lo with | some l => !(earlier g l) | none => true) && s.usedPorts.all (fun p => !(s.passed (s.pushBy p g))))

/-- The first tick, not before `g`, whose C lies at least 1 ms ahead, with the ADV of `adv` µs that takes effect at it
(R128). A tick more than 16 ticks ahead always does. -/
def State.leadTick (s : State) (g : Word) (adv : Nat) : Word :=
  if later g (s.clk.fn + 16) then g
  else (([g, g + 1, g + 2] : List Word).find? (fun f =>
    !(earlier (s.startOf f - wd (adv * 1000)) (s.clk.dtime + wd 1000000)))).getD (g + 3)

/-- The tick a command of a head takes, LATE, and whether the head moved it to a later tick. -/
def State.headTick (s : State) (op : Nat) (c : Cmd) : Word × Bool × Bool :=
  let n := s.pickTick c
  let from_ (g : Word) : Word × Bool × Bool := let d := asksTick c && decide (g ≠ c.applyTick); (g, d, d)
  if op = opLEAD_SET then from_ (s.leadTick n.1 (wbits (nth c.params 1) 15 0))
  else if s.urgentOk op c && (!(asksTick c) || n.2.2) then
    match s.urgentFrame (if asksTick c then some c.applyTick else none) with
    | some g => from_ g
    | none => n
  else n

end Sys2Proof.Machine
end

