-- ==== Sys2Proof/Machine/Commands.lean ====
section
/-! DEFINITION. Taking a command: the checks in the order of R289, and where the command goes (R296). Command rings, the
LOCAL port and CMD packets end here. -/

namespace Sys2Proof.Machine

/-! ### Checks before a tick is chosen -/

/-- The node takes commands by this path. The rings are a head's; the LOCAL port is a tile's or the recovery loader's
(R4, R294). None is taken while entering OFF; rings and LOCAL wait for fault handling and for a restart of Quill (R351,
R399). -/
def State.takes (s : State) (c : Cmd) : Bool :=
  s.running && !s.pwr.noForward &&
    (match c.route with
     | .ring => decide (s.actingRole = .head) && s.quill.up && !(s.bit Fld.SYS_FAULT_STAT_HANDLING)
     | .localPort => (decide (s.role = .tile) || decide (s.actingRole = .recovery)) && s.quill.up && !(s.bit Fld.SYS_FAULT_STAT_HANDLING)
     | .broash _ _ => true)

/-- Opcodes that need the HEALTH right. -/
def healthOp (op : Nat) : Bool :=
  match opRow op with
  | some o => decide (o.issuer = .right 6)
  | none => false

/-- Commands that a standby head answers as any head does (R265). -/
def State.standbyTakes (s : State) (op : Nat) (c : Cmd) : Bool :=
  op == opNOP || op == opECHO || op == opGET_INFO || op == opBLOT_READ || op == opPMU_READ ||
    (op == opNODE_PEEK && (decide (c.target = 0) || decide (c.target = s.nodeId))) ||
    (op == opKEY_INSTALL && decide (1 ≤ wbits (nth c.params 0) 31 24) && decide (wbits (nth c.params 0) 31 24 ≤ 4))

/-- The node answers BUSY whatever the command holds: in the hold state (R401), at a standby head (R265), while a replay
runs (R329). -/
def State.busyNow (s : State) (op : Nat) (c : Cmd) : Bool :=
  (s.bit Fld.SYS_FAULT_STAT_HOLD &&
      !(op == opNOP || op == opECHO || op == opGET_INFO || op == opNODE_PEEK || op == opBLOT_READ)) ||
    (s.standby && decide (c.route = .ring) && !(s.standbyTakes op c)) ||
    (s.replaying && !(op == opNOP || op == opECHO || op == opGET_INFO || op == opJRN_STOP || healthOp op))

/-- The command names this node. -/
def State.toSelf (s : State) (c : Cmd) : Bool :=
  match c.route with
  | .broash _ _ => true
  | _ => decide (c.target = 0) || (s.bit Fld.LNK_NODE_ID_VALID && decide (c.target = s.nodeId))

/-- The form of KEY_INSTALL that carries the key unwrapped is only for provisioning from a ring or a LOCAL port (R293). -/
def State.bareKeyOk (s : State) (op : Nat) (c : Cmd) : Bool :=
  !(op == opKEY_INSTALL && decide (wbits (nth c.params 0) 31 24 = 3) && c.params.length == 9) ||
    (s.toSelf c && s.keys.client0.isNone && (match c.route with | .broash _ _ => false | _ => true))

/-- The target of a command at the node that takes it (step 4 of R289; R6, R294, R298). -/
def State.targetOk (s : State) (op : Nat) (o : OpRow) (c : Cmd) : Bool :=
  match c.route with
  | .localPort => s.toSelf c && o.has s.actingRole
  | .broash _ _ => o.has s.actingRole && (!o.headObj || op == opRED_PAIR)
  | .ring =>
    if s.toSelf c then o.has s.actingRole
    else !o.headObj && op != opUPD_BLOCK

/-- Steps 1 to 4 of R289: length, opcode, PLEN, target. -/
def State.formStatus (s : State) (op : Nat) (c : Cmd) : Nat :=
  if 4089 < cmdLength c then stBAD_LENGTH
  else match opRow op with
    | none => stBAD_OPCODE
    | some o =>
      if op = opRED_TILE ∧ (match c.route with | .broash _ _ => false | _ => true) = true then stBAD_OPCODE
      else if op / 4096 = 7 ∧ s.toSelf c = true ∧ s.bit Fld.SYS_QUILL_STAT_USER = false then stBAD_OPCODE
      else if !(plenOk op c.params) || !(s.bareKeyOk op c) then stBAD_LENGTH
      else if !(s.targetOk op o c) then stBAD_TARGET
      else stOK

/-- The Issuer column admits the client of a ring (R290). -/
def State.issuerOk (s : State) (o : OpRow) (c : Cmd) : Bool :=
  let cl := s.client c.client
  cl.isOpen && (match o.issuer with
    | .any => true
    | .own => true
    | .zero => decide (c.client = 0)
    | .closing => decide (c.client = 0) || decide (clientArg c.params = c.client)
    | .heads => false
    | .right b => decide (c.client = 0) || decide (bitsOf cl.rights b 1 = 1))

/-- Step 5 of R289: the client, its rights and its ownership of the one window named. Clients stand in the head's table;
a LOCAL command is client 0's. -/
def State.ownerOk (s : State) (op : Nat) (o : OpRow) (c : Cmd) : Bool :=
  match c.route with
  | .localPort => true
  | .broash _ _ => !(decide (o.issuer = .heads)) || s.redTileOwner c
  | .ring =>
    s.issuerOk o c &&
      (!(op == opWIN_CREATE || op == opWIN_MODIFY || op == opWIN_DELETE) ||
        (let g := (s.headTick op c).1
         decide ((((s.withoutRivals op c g).projected g).objStatus op c).1 ≠ stNOT_OWNER)))

/-- Step 6: authentication. A CMD's client tag was checked by the head that forwarded it (R292). -/
def State.authOk (s : State) (op : Nat) (o : OpRow) (c : Cmd) : Bool × State :=
  match c.route with
  | .broash _ _ => (true, s)
  | _ => s.authenticate op o.auth c

/-! ### T commands at a head -/

/-- Accepted and unapplied commands are at a limit (R300). -/
def State.queueFull (s : State) (c : Cmd) : Bool :=
  decide (65536 ≤ s.cmds.accepted.length) ||
    decide (256 ≤ (s.cmds.accepted.filter (fun (a : Accepted) => decide (a.cmd.client = c.client))).length)

/-- Nodes of the record whose role has a function, and this head when its role has it, in ascending order (R297). -/
def State.countedNodes (s : State) (o : OpRow) : List NodeId :=
  let others : List NodeId := (s.net.record.filter (fun (e : Nat × NodeRec) => o.has (Role.ofCode e.2.role))).map
    (fun (e : Nat × NodeRec) => BitVec.ofNat 16 e.1)
  if o.has s.actingRole then
    others.filter (fun n => decide (n.toNat < s.nodeId.toNat)) ++ [s.nodeId] ++
      others.filter (fun n => decide (s.nodeId.toNat < n.toNat))
  else others

/-- Opens the gather of a broadcast; with no node counted it closes at once (R297). -/
def State.openGather (s : State) (op : Nat) (o : OpRow) (c : Cmd) (tick : Word) (late : Bool) : State :=
  let g : Gather := ⟨c.client, c.tag, c.noReply, tick, late, s.countedNodes o, [], op⟩
  if g.counted = [] then s.closeGather g else { s with cmds := { s.cmds with gathers := s.cmds.gathers ++ [g] } }

/-- A TILE_PLACE of client 0 with AUTH goes on to the tile with NO_REPLY cleared (R289); a removal goes to the node of the
descriptor it removes (R282). -/
def State.forwardPlace (s : State) (c : Cmd) (g : Word) : State :=
  let d := tileWords c.params
  let c := { c with noReply := false }
  if c.client ≠ 0 ∨ c.trailer = none then s
  else if tdWq d ≠ 0 then s.sendAuth tyCMD (BitVec.ofNat 16 (tdNode d)) (cmdWords opTILE_PLACE c)
  else match SMap.find (s.projected g).comp.tiles (wbits (nth c.params 0) 12 0) with
    | some old => s.sendAuth tyCMD (BitVec.ofNat 16 (tdNode old)) (cmdWords opTILE_PLACE c)
    | none => s

/-- RED_SWITCH for tick `g` (R270). -/
def State.startSwitch (s : State) (g : Word) : State :=
  let mine := s.get Fld.RED_STAT_HEADID
  let a := if mine = 0 then s.nodeId else s.partner
  let b := if mine = 0 then s.partner else s.nodeId
  (s.relinquish g).sendRedTile 0xFFFF a b (1 - mine) true g

/-- The lead and the ADV of an accepted LEAD_SET wait for their tick (R128). -/
def State.leadWaits (s : State) (p : List Word) (g : Word) : State :=
  { s with heads := { s.heads with leadPend := true, advNext := some (wbits (nth p 1) 15 0, g) } }

/-- What an accepted T command does beside waiting for its tick: packets to tiles and nodes, a schedule or lead loaded. The
timing master broadcasts a schedule (R199), and any head one for every node (R296); another head hands it to its master, whose broadcast it then adopts
(assumption 99). -/
def State.tickSends (s : State) (op : Nat) (c : Cmd) (g : Word) : State :=
  if op = opPRIVET_LOAD then (s.takePart c.params).forwardPrivet op c g
  else if op = opPRIVET_SHOW ∨ op = opPRIVET_HIDE then s.forwardPrivet op c g
  else if op = opTILE_PLACE then s.forwardPlace c g
  else if op = opRED_SWITCH then s.startSwitch g
  else if op = opLEAD_SET then
    ((s.onArrival op c g).leadWaits c.params g).sendCmd 0xFFFF op { c with atTick := true, applyTick := g }
  else if op = opTICK_CONFIG then
    let f := { c with atTick := true, applyTick := g }
    if s.clk.isMaster || decide (c.target = 0xFFFF) then (s.onArrival op c g).sendCmd 0xFFFF op f
    else if s.clk.hasMaster then s.sendCmd (BitVec.ofNat 16 (s.get Fld.TIME_STAT_MASTER)) op f
    else s.onArrival op c g
  else s

/-- A T command is accepted at a head for tick `g`. One whose C has passed is a late change at once (R304). -/
def State.acceptTick (s : State) (op : Nat) (o : OpRow) (c : Cmd) (g : Word) (late moved : Bool) : State :=
  let n := c.client.toNat
  let s := s.tallyOf 0x040 4 n
  let s := if moved then (s.count Fld.CMP_LATECMD_COUNT).tallyOf 0x044 4 n else s
  let f := s.filled op c g
  let s := s.mirror op f g
  let s := if c.target = 0xFFFF then s.openGather op o c g late else s
  let s := s.tickSends op f g
  if s.pastCompose g then (s.applyLate op f g).answer op c stOK late g []
  else { s with cmds := { s.cmds with accepted := s.cmds.accepted ++ [⟨op, f, g, late, false⟩] } }

/-- A command refused after its authentication: its client sequence, recorded all the same, is mirrored as that of a NOP with
the trailer (R266, R292; assumption 157). -/
def State.turnAway (s : State) (c : Cmd) (status : Nat) (g : Word) (res : List Word) : State :=
  let s := s.refuse c status g res
  if c.route = .ring ∧ c.trailer.isSome = true then
    s.mirror opNOP ⟨.ring, c.client, c.tag, 0, false, true, false, 0, [], c.trailer⟩ s.clk.fn
  else s

/-- Steps 7 to 10 of R289 for a T command of a head, and its acceptance (R300, R302). -/
def State.takeTick (s : State) (op : Nat) (o : OpRow) (c : Cmd) : State :=
  let (g, late, moved) := s.headTick op c
  let (st, res) := (s.withoutRivals op c g).tickStatus op c g
  if paramBad op c.params then s.turnAway c stBAD_PARAM g []
  else if st = stBAD_PARAM ∨ st = stNOT_OWNER then s.turnAway c st g res
  else if s.queueFull c then s.turnAway c stBUSY g []
  else if st ≠ stOK then s.turnAway c st g res
  else
    let l := s.rivals op c g
    if l.any (fun (a : Accepted) => s.beats a.cmd.client c.client) then s.turnAway c stCONFLICT g []
    else
      let s := s.dropBeaten l
      let e := s.resourceOf op c g
      if e.1 = 0 then s.acceptTick op o c g late moved
      else (if e.1 ≤ 3 then s.admFail e else s).turnAway c stNO_RESOURCE g []

/-! ### T commands at other nodes -/

/-- The tick or frame a T command takes at a node that did not choose it, and LATE (R132). At a node that decides no
frames it is the tick named while that tick has not begun, else the next. -/
def State.nodeTick (s : State) (c : Cmd) : Word × Bool :=
  if s.role = .tile then s.pickFrame c
  else if !(asksTick c) then (s.clk.fn + 1, false)
  else if later c.applyTick s.clk.fn then (c.applyTick, false)
  else (s.clk.fn + 1, true)

/-- A T command at a tile, a branch or the recovery loader, or one that reached a head over Broash. A head refuses a
schedule on the same grounds as from a ring, and as timing master broadcasts it (R199). -/
def State.takeNodeTick (s : State) (op : Nat) (c : Cmd) : State :=
  let (g, late) := s.nodeTick c
  let head := decide (s.role = .head)
  let st := if s.role = .tile then s.tileStatus op c
    else if head && decide (op = opTICK_CONFIG) then s.schedStatus c.params else stOK
  if paramBad op c.params then s.refuse c stBAD_PARAM g []
  else if st = stBAD_PARAM then s.refuse c st g []
  else if head && s.queueFull c then s.refuse c stBUSY g []
  else if st ≠ stOK then s.refuse c st g []
  else if head && decide (op = opTICK_CONFIG) && decide ((s.resourceOf op c g).1 ≠ 0) then s.refuse c stNO_RESOURCE g []
  else
    let toMaster := head && s.clk.isMaster && decide (op = opTICK_CONFIG)
    let c := if toMaster then s.filled op c g else c
    let s := (s.tallyOf 0x040 4 c.client.toNat).onArrival op c g
    let s := if toMaster then s.sendCmd 0xFFFF op { c with atTick := true, applyTick := g } else s
    let s := if op = opLEAD_SET ∧ s.role = .head then s.leadWaits c.params g else s
    { s with cmds := { s.cmds with accepted := s.cmds.accepted ++ [⟨op, c, g, late, false⟩] } }

/-- TILE_PLACE at a tile: the head's copy of a client-0 placement (R282). The head has cleared NO_REPLY, so the client tag
is checked with either value of it (assumption 156). -/
def State.placeAtTile (s : State) (c : Cmd) : State :=
  let ok : Bool := match s.keys.client0, c.trailer with
    | some k, some t => decide (c.client = 0) &&
        (clientTagOk k opTILE_PLACE c || clientTagOk k opTILE_PLACE { c with noReply := true }) && decide (s.lastCseq 0 < t.cseq.toNat)
    | _, _ => false
  if 4089 < cmdLength c ∨ plenOk opTILE_PLACE c.params = false then s.refuse c stBAD_LENGTH 0 []
  else if !ok then s.refuse c stAUTH_FAIL 0 []
  else
    let s := match c.trailer with | some t => s.takeCseq 0 t.cseq.toNat | none => s
    let (g, late) := s.pickFrame c
    if tdNode (tileWords c.params) ≠ s.nodeId.toNat then s.refuse c stBAD_PARAM g []
    else { s with cmds := { s.cmds with accepted := s.cmds.accepted ++ [⟨opTILE_PLACE, c, g, late, false⟩] } }

/-! ### Immediate and DTIME commands -/

/-- The status of an immediate command at this node (steps 7, 8 and 10 of R289). A broadcast customer opcode without a
handler at this head gives it the result BAD_OPCODE (R297). -/
def State.nowCheck (s : State) (op : Nat) (c : Cmd) : Nat :=
  if op / 4096 = 7 ∧ s.bit Fld.SYS_QUILL_STAT_USER = false then stBAD_OPCODE
  else if paramBad op c.params then stBAD_PARAM else if headOp op then s.headStatus op c else s.nowStatus op c

/-- An accepted immediate command acts. -/
def State.actNow (s : State) (op : Nat) (c : Cmd) : State := if headOp op then s.applyHeadNow op c else s.applyNow op c

/-- A command that acts on head objects goes into the journal's CMD record (R327). -/
def State.noteNow (s : State) (op : Nat) (o : OpRow) (c : Cmd) : State := if o.headObj then s.noteCmd op c else s

/-- A command that a ring of this head gave is mirrored (R266). -/
def State.mirrorRing (s : State) (op : Nat) (c : Cmd) (g : Word) : State :=
  match c.route with
  | .ring => s.mirror op c g
  | _ => s

/-- An immediate or DTIME command for this node. -/
def State.takeNow (s : State) (op : Nat) (o : OpRow) (c : Cmd) : State :=
  let st := s.nowCheck op c
  if (match c.route with | .broash _ _ => false | _ => s.instantBad op c) then s.turnAway c stBAD_PARAM s.clk.fn []
  else if st ≠ stOK then
    (if op = opJRN_CONFIG ∧ st = stNO_RESOURCE then s.admFail (s.jrnBroken c.params) else s).turnAway c st s.clk.fn []
  else
    let s := s.tallyOf 0x040 4 c.client.toNat
    let f := match c.route with | .broash _ _ => c | _ => s.filled op c s.clk.fn
    let s := (s.mirrorRing op f s.clk.fn).noteNow op o f
    let s := if updLong op && decide (c.route = .ring) then s.reply c stPENDING false s.clk.fn [] else s
    let s := if op = opDOM_RESET ∧ c.route = .ring then s.sendCmd 0xFFFF op f else s
    s.actNow op f

/-! ### Forwarding (R296, R297) -/

/-- A command for another node. -/
def State.forwardCmd (s : State) (op : Nat) (o : OpRow) (c : Cmd) : State :=
  if paramBad op c.params || s.instantBad op c then s.turnAway c stBAD_PARAM (if o.acts ≠ .tick then s.clk.fn else if asksTick c then c.applyTick else 0) []
  else match s.outPort c.target none with
    | none => (s.sendTo tyCMD c.target []).turnAway c stUNREACHABLE 0 []
    | some _ =>
      let f := s.filled op c s.clk.fn
      let s := (s.tallyOf 0x040 4 c.client.toNat).mirror op f (if o.acts = .tick then c.applyTick else s.clk.fn)
      let w : Forwarded := ⟨c.client, c.tag, c.target, c.noReply, op⟩
      let s := { s with cmds := { s.cmds with forwarded := s.cmds.forwarded ++ [w] } }
      let s := if updLong op then s.reply c stPENDING false s.clk.fn [] else s
      s.sendCmd c.target op f

/-- A broadcast of a T command that tiles alone carry out: the copies name the tick chosen here (R296). -/
def State.broadcastTick (s : State) (op : Nat) (o : OpRow) (c : Cmd) : State :=
  let (g, late, moved) := s.headTick op c
  if paramBad op c.params then s.turnAway c stBAD_PARAM g []
  else
    let n := c.client.toNat
    let s := s.tallyOf 0x040 4 n
    let s := if moved then (s.count Fld.CMP_LATECMD_COUNT).tallyOf 0x044 4 n else s
    let s := s.mirror op c g
    let s := s.openGather op o c g late
    s.sendCmd 0xFFFF op { c with atTick := true, applyTick := g }

/-- A broadcast of an immediate or DTIME command: this head acts when its role has the function, and its own result
enters the gather. -/
def State.broadcastNow (s : State) (op : Nat) (o : OpRow) (c : Cmd) : State :=
  if paramBad op c.params || s.instantBad op c then s.turnAway c stBAD_PARAM s.clk.fn []
  else
    let s := s.tallyOf 0x040 4 c.client.toNat
    let f := s.filled op c s.clk.fn
    let s := s.mirror op f s.clk.fn
    let s := if updLong op then s.reply c stPENDING false s.clk.fn [] else s
    let s := s.openGather op o c s.clk.fn false
    let s := s.sendCmd 0xFFFF op f
    if !(o.has s.actingRole) then s
    else
      let st := s.nowCheck op f
      if st ≠ stOK then s.answer op f st false s.clk.fn [] else s.actNow op f

/-- Where a command that has passed the first six checks goes (R296). -/
def State.route (s : State) (op : Nat) (o : OpRow) (c : Cmd) : State :=
  let ring : Bool := decide (c.route = .ring)
  if o.acts = .tick ∧ s.tooFar c = true then s.turnAway c stBAD_PARAM 0 []
  else if s.toSelf c then
    if o.acts = .tick then (if ring then s.takeTick op o c else s.takeNodeTick op c) else s.takeNow op o c
  else if c.target = 0xFFFF then
    if o.acts = .tick then (if o.has s.actingRole then s.takeTick op o c else s.broadcastTick op o c) else s.broadcastNow op o c
  else s.forwardCmd op o c

/-- Takes a command (R289, R296). -/
def State.takeCommand (s : State) (op : Nat) (c : Cmd) : State :=
  if !(s.takes c) then s
  else if s.busyNow op c then s.refuse c stBUSY 0 []
  else if op = opTILE_PLACE ∧ s.role = .tile ∧ c.route ≠ .localPort then s.placeAtTile c
  else
    let st := s.formStatus op c
    if st ≠ stOK then s.refuse c st 0 []
    else match opRow op with
      | none => s
      | some o =>
        if !(s.ownerOk op o c) then s.refuse c stNOT_OWNER 0 []
        else
          let (ok, s) := s.authOk op o c
          if !ok then s.refuse c stAUTH_FAIL 0 []
          else if s.secureOnly op c (s.toSelf c || decide (c.target = 0xFFFF)) then s.turnAway c stSECURE_ONLY 0 []
          else s.route op o c

/-- A command of the opcode table taken by this node. -/
def doCommand (op : Nat) (c : Cmd) (s : State) : State := s.takeCommand op c

/-! ### Command rings (R301, R317) -/

/-- A ring may be taken from: enabled, not stopped, its replies written, and Bus Master Enable set (R309, R317, R318). -/
def State.ringTakes (s : State) (n : ClientId) : Bool :=
  let r := s.ring n
  let c : Cmd := ⟨.ring, n, 0, 0, false, false, false, 0, [], none⟩
  r.en && !r.stopped && !r.rfull && !(decide (Staged.stop n ∈ s.cmds.staged)) && s.masters && s.pci && s.takes c

/-- A header that announces more than 4,089 words, or more than the ring holds, stops the ring once its reply is written
(R317). -/
def State.ringBad (s : State) (n : ClientId) (words : List Word) : State :=
  let tag : BitVec 16 := BitVec.ofNat 16 (wbits (nth words 1) 15 0)
  let s := s.stageReply .ring ⟨stBAD_LENGTH, false, false, n, tag, s.nodeId, s.epoch, 0, []⟩
  { s with cmds := { s.cmds with staged := s.cmds.staged ++ [.stop n] } }

/-- One command leaves a ring: its words are in the node. -/
def State.ringTake (s : State) (n : ClientId) (words : List Word) : State :=
  let (op, c) := parseCmd .ring words
  let r := s.ring n
  let s := s.setRing n { r with cmdCi := r.cmdCi + wd (announced words) }
  if c.client = n then s.takeCommand op c
  else s.stageReply .ring ⟨stNOT_OWNER, false, false, n, c.tag, s.nodeId, s.epoch, 0, []⟩

/-- RING_COMMAND_TAKEN (R301, R317): the command at CMD_CI of a client's ring, once CMD_PI covers it. -/
def doRingCommand (n : ClientId) (words : List Word) (m : HostMem) (s : State) : State :=
  if !(s.ringTakes n) then s
  else
    let s := s.showMem m
    let r := s.ring n
    let len := announced words
    let have_ := (r.cmdPi - r.cmdCi).toNat
    if have_ < 4 then s
    else if 4089 < len ∨ 2 ^ ctxLog r.cfg 0 < len then
      match s.ringFetch n 4 with
      | (some f, s) => s.ringFault n f
      | (none, s) => s.ringBad n words
    else if have_ < len then s
    else match s.ringFetch n len with
      | (some f, s) => s.ringFault n f
      | (none, s) => s.ringTake n words

/-! ### The LOCAL port and CMD packets -/

/-- LOCAL_COMMAND (R287, R294). -/
def doLocalCommand (words : List Word) (s : State) : State :=
  let (op, c) := parseCmd .localPort words
  s.takeCommand op c

/-- A CMD without the domain tag that R293 lets a node without a domain key act on. -/
def State.keylessTakes (s : State) (op : Nat) (c : Cmd) (broadcast : Bool) : Bool :=
  if broadcast then
    op == opKEY_INSTALL && decide (wbits (nth c.params 0) 31 24 = 1) &&
      (match s.keys.client0 with | some k => decide (c.client = 0) && clientTagOk k op c | none => false)
  else op == opGET_INFO || (op == opKEY_INSTALL && decide (wbits (nth c.params 0) 31 24 = 4))

/-- CMD_PACKET_RECEIVED (R189, R293, R296). -/
def doCmdPacket (x : Rx) (s : State) : State :=
  let bc : Bool := decide (x.dest = 0xFFFF)
  let (op, c) := parseCmd (.broash x.src bc) (x.body.take (x.body.length - 6))
  s.receive x (fun _ s => if x.type.toNat = tyCMD then s.takeCommand op c else s)
    (fun k s =>
      if x.type.toNat ≠ tyCMD then s
      else if k = .noKey ∧ s.keylessTakes op c bc = true then s.takeCommand op c
      else if bc then s
      else s.refuse c stAUTH_FAIL 0 [])

end Sys2Proof.Machine
end

