-- ==== Sys2Proof/Machine/Faults.lean ====
section
/-! DEFINITION. Steps 2 to 5 of fault handling and its end (R399 to R401), and `settle`: what the node does of itself
once an event has been taken, before the next one. -/

namespace Sys2Proof.Machine

/-! ### Fault handling (R399) -/

/-- Commands that were forwarded to other nodes when they were accepted, and are not discarded (R399, step 3). -/
def sentAtOnce (op : Nat) : Bool := op == opLEAD_SET || op == opTICK_CONFIG || op == opRED_SWITCH || op == opRED_TILE

/-- Step 2: a head voids its frames, a tile frees its slots. -/
def State.voidWork (s : State) : State :=
  match s.role with
  | .head => s.cancelFrames
  | .tile => s.freeSlots
  | _ => s

/-- Step 3 for commands accepted and not yet applied. -/
def State.discardAccepted (s : State) : State :=
  let gone := s.cmds.accepted.filter (fun (a : Accepted) => !(sentAtOnce a.opcode))
  let s := { s with cmds := { s.cmds with accepted := s.cmds.accepted.filter (fun (a : Accepted) => sentAtOnce a.opcode) } }
  let s := if s.role = .head then { s with priv := { s.priv with loads := [], parts := none } } else s
  forEach gone (fun a s => if a.mirror then s else s.answer a.opcode a.cmd stDISCARDED false a.tick []) s

/-- Step 3 for commands answered PENDING, and for immediate ones whose work goes on. A command of another head's is
closed by that head. -/
def State.discardPending (s : State) : State :=
  let mine := s.cmds.done.filter (fun (d : PendingDone) => match d.route with | .broash _ _ => false | _ => true)
  let s := { s with cmds := { s.cmds with done := s.cmds.done.filter (fun (d : PendingDone) => !(decide (d ∈ mine))) } }
  let s := forEach mine (fun d s => s.cmdDone d stDISCARDED []) s
  let tests := s.mem.selftests
  let s := { s with mem := { s.mem with selftests := [] } }
  let s := forEach tests (fun (t : SelfTest) s => s.cmdDone t.done stDISCARDED []) s
  let s := match s.upd.erasing with
    | some c => ({ s with upd := { s.upd with erasing := none } }).answer opUPD_BEGIN c stDISCARDED false s.clk.fn []
    | none => s
  let s := match s.upd.verifying with
    | some c => ({ s with upd := { s.upd with verifying := none } }).answer opUPD_VERIFY c stDISCARDED false s.clk.fn []
    | none => s
  let s := match s.cmds.userBusy with
    | some (c, op) => ({ s with cmds := { s.cmds with userBusy := none } }).userAnswer op c stDISCARDED
    | none => s
  match s.jrn.replay with
  | some r => s.endReplay r stDISCARDED []
  | none => s

/-- Step 4: open DMA of a head is cancelled: channel 1 discards its partial frames, channel 4 skips its patches. -/
def State.cancelDma (s : State) : State :=
  let s := forEach (List.range 64) (fun n s => if (s.src n).fetching.isSome then s.fetchFail n else s) s
  let k := s.host.prevq.length
  if k = 0 then s else ({ s with host := { s.host with prevq := [] } }).count Fld.PCI_ERR_PREVSKIP k

/-- Step 5: the pair is brought back into step. -/
def State.repairPair (s : State) : State :=
  if !(s.paired) then s else if s.standby then s.sendResyncReq else s.startResync

/-- Steps 2 to 5 of R399, when a blot has made them due. -/
def State.faultSteps (s : State) : State :=
  if s.blots.work then
    let s := ({ s with blots := { s.blots with work := false } }).voidWork.discardAccepted.discardPending
    (if s.role = .head then s.cancelDma else s).repairPair
  else s

/-- The node enters the hold state (R401). -/
def State.enterHold (s : State) : State :=
  let s := s.raise Fld.SYS_FAULT_STAT_HOLD
  if s.role = .head then (s.relinquish (s.clk.fn + 1)).stopPush.dropMaster else s

/-- FAULT_HANDLING_END (R399 to R401). -/
def doFaultEnd (s : State) : State :=
  if !(s.bit Fld.SYS_FAULT_STAT_HANDLING) then s
  else
    let hold := s.blots.fatal || s.blots.nestedHit
    let s := { s.put Fld.SYS_FAULT_STAT_HANDLING 0 with blots := { s.blots with fatal := false, nestedHit := false } }
    if hold then s.enterHold else s

/-! ### SELFTEST -/

/-- Kinds of test of a SELFTEST that have ended. `tick` tells that a tick boundary has come, at which the test of the
pixel lanes ends. -/
def State.testsEnded (s : State) (tick : Bool) : List Nat :=
  (if (List.range 4).all (fun p => (s.port p).selftest == []) then [0] else []) ++
    (if s.mem.test.isNone && s.mem.queue.isEmpty then [1] else []) ++
    (if s.drive.trim.isNone then [2] else []) ++ (if tick then [3] else [])

/-- Kinds of test that the role has units for. -/
def testRole (r : Role) (kind : Nat) : Bool := if kind = 2 then decide (r = .tile) else if kind = 3 then decide (r = .head) else true

/-- One running SELFTEST: the kinds that have ended leave it. -/
def SelfTest.take (t : SelfTest) (r : Role) (ended : List Nat) : SelfTest :=
  ended.foldl (fun (t : SelfTest) k =>
    if bitsOf t.waiting k 1 = 0 then t
    else
      let ok := bitNat (testRole r k && bitsOf t.failed k 1 == 0)
      { t with waiting := setBits t.waiting k 1 0, passed := setBits t.passed k 1 ok }) t

/-- SELFTESTs whose every kind has ended are answered with the masks of tests passed and failed. -/
def State.settleTests (s : State) (tick : Bool) : State :=
  if s.mem.selftests.isEmpty then s
  else
    let ended := s.testsEnded tick
    let role := s.role
    let l := s.mem.selftests.map (fun (t : SelfTest) => t.take role ended)
    let s := { s with mem := { s.mem with selftests := l.filter (fun (t : SelfTest) => decide (t.waiting ≠ 0)) } }
    forEach (l.filter (fun (t : SelfTest) => decide (t.waiting = 0))) (fun (t : SelfTest) s =>
      s.cmdDone t.done stOK [wd t.passed, wd t.failed]) s

/-- What the test of the pixel lanes finds is not given: a free value (assumption 5). -/
def State.pixelTests (s : State) : State :=
  if s.role = .head ∧ s.mem.selftests.any (fun (t : SelfTest) => decide (bitsOf t.waiting 3 1 = 1)) = true then
    let (f, s) := s.freeNat 1
    if f = 1 then s.selftestFail 3 else s
  else s

/-! ### After every event -/

/-- A head whose ORIG has come to its end logs a FAULT blot once (R188). -/
def State.origBlot (s : State) : State :=
  if s.keys.origEnd && !s.keys.origSaid then
    ({ s with keys := { s.keys with origSaid := true } }).logBlot (blkLNK 0) 5 clsFAULT
  else s

/-- Nothing is left to do of itself. -/
def State.quiet (s : State) : Bool :=
  !s.blots.work && s.net.barriers.isEmpty && s.ingest.irregular.isEmpty && s.ingest.completed.isEmpty && s.cmds.journal.isEmpty &&
    s.jrn.staged.isEmpty && s.jrn.ops.isEmpty && s.host.prevq.isEmpty && s.cmds.staged.isEmpty && decide (s.quill.storeDue = 0) && !s.keys.origEnd &&
    s.mem.selftests.isEmpty && !s.clk.stepped

/-- DTIME was set to the first sample: a tile frees its FILLING and PENDING slots, as at any step (R206). -/
def State.stepFrees (s : State) : State :=
  if s.clk.stepped then
    let s := { s with clk := { s.clk with stepped := false } }
    if s.role = .tile then s.freeSlots else s
  else s

/-- What is left to do: fault handling, a held barrier, late changes of ingest, helper stores, SELFTEST, the journal, the
preview, replies and events. -/
def State.settleBusy (s : State) : State :=
  let s := s.stepFrees.origBlot.faultSteps.barCheck
  let s := s.takeIrregular
  let s := (s.switchStores false).settleTests false
  ((s.journalNotes.runJournal).runPreview).flushStaged

/-- What the lanes do while time passes (R148, R167): a sweep ends, and what waits leaves as codewords. -/
def State.lanesSettle (s : State) : State := (forEach [0, 1, 2, 3] (fun p s => s.sweepCheck p) s).lanesRun

/-- The node once an event has been taken: the work left, what the lanes send, and the interrupt presented to processor 1
(R356). -/
def settle (s : State) : State :=
  let s := if s.quiet then s else s.settleBusy
  let s := s.lanesSettle
  if s.pci then s.present1 else s

/-- XLT_INVALIDATE_DONE (R313): no cached entry is left, and held walks go on. -/
def doXltDone (s : State) : State :=
  if s.pci && s.host.inval then
    ({ s with host := { s.host with inval := false, cache := [] } }).put Fld.PCI_XLT_INV_INV 0
  else s

/-- CHANNEL_RESUME (R315): the value written to PCI_CH_STAT; the journal's channel writes its staged records. -/
def doChannelResume (ch : Nat) (v : Word) (s : State) : State :=
  let s := s.channelResume ch v
  if ch = 2 then s.runJournal else s

end Sys2Proof.Machine
end

