-- ==== Sys2Proof/Machine/TickStart.lean ====
section
/-! DEFINITION. TICK_START (R198, R199, R206, R215, R418): the next tick begins, and what each chapter lets take effect at
a tick boundary does. The rows of the table that name one such change do the same, once it is due; whichever comes first
takes it, and the other finds nothing left to do. -/

namespace Sys2Proof.Machine

/-- The schedules whose apply tick is `n` or earlier are adopted, the last of them to stay (R199). -/
def State.adoptSched (s : State) (n : Word) : State :=
  if s.clk.scheds.all (fun q => later q.at_ n) then s
  else
    let q := s.schedFor n
    (({ s with clk := { s.clk with scheds := s.clk.scheds.filter (fun r => later r.at_ n) } }).useSched q).raise
      Fld.TIME_SCHED_STAT_HELD

/-- The offset that a jump of the master's time left for this tick start is added to DTIME (R206): TIME_INT.STEP; a tile
frees its FILLING and PENDING slots. -/
def State.stepTick (s : State) : State :=
  match s.clk.step with
  | some d =>
    let s := { s with clk := { s.clk with step := none } }
    let s := s.stepTime d
    let s := (s.raise Fld.TIME_INT_STEP).tally 0x1C2
    if s.role = .tile then s.freeSlots else s
  | none => s

/-- Tick `n` is the running one, and the anchor is rebased to it (R198). `last` is the start of the tick before it by the
schedule that it ran by; without a schedule its phase moves with DTIME (assumption 12). -/
def State.beginTick (s : State) (n last : Word) : State :=
  let last := if s.bit Fld.TIME_SCHED_STAT_HELD then last else s.startOf s.clk.fn
  ({ s with clk := { s.clk with fn := n, prev := some last, prevLead := some (s.leadFrom s.clk.fn) } }).rebase n

/-- The lead and the ADV of an accepted LEAD_SET take effect at their tick (R128). -/
def State.leadSwitch (s : State) (n : Word) : State :=
  let s := if later (s.word Reg.TIME_LEAD_AT) n then s else s.put Fld.TIME_LEAD_NS (s.get Fld.TIME_LEAD_NEXT_NS)
  match s.heads.advNext with
  | some (a, g) =>
    if later g n then s
    else { s.put Fld.CMP_RUNAHEAD_ADV a with heads := { s.heads with advNext := none, leadPend := false } }
  | none => s

/-- One RWT write takes effect (R418): the bits it covers. -/
def State.takeRwt (s : State) (e : Nat × Word × Word) : State :=
  s.setWord e.1 ((s.word e.1 &&& ~~~e.2.1) ||| (e.2.2 &&& e.2.1))

/-- A register write waits for this tick. -/
def State.waits (s : State) (x : Nat) : Bool := s.rwt.any (fun (e : Nat × Word × Word) => decide (e.1 = x))

/-- A table whose every one of `n` entries holds zero, where an unlisted entry reads as `d`. -/
def zeroTable {α : Type} [DecidableEq α] [OfNat α 0] (d : Nat → α) (n : Nat) : SMap α :=
  ((List.range n).filter (fun k => decide (d k ≠ 0))).map (fun k => (k, 0))

/-- A powered-down bank 12 of a head: filter sets, transfer tables, SLUT and wire tables. -/
def State.tablesLost (s : State) : State :=
  { s with
    comp := { s.comp with
      filt := zeroTable filtReset 18432, filtShadow := zeroTable filtReset 18432
      wlut := zeroTable wlutReset 8192, wlutShadow := zeroTable wlutReset 8192 }
    ingest := { s.ingest with tf := [], tfShadow := [], slut := [], slutShadow := [] } }

/-- A powered-down bank of replay buffers: no codeword is left to send again. -/
def State.replayLost (s : State) : State :=
  forEach (List.range 4) (fun p s =>
    let q := s.port p
    s.setPort p { q with tx0 := { q.tx0 with buf := [], resend := [] }, tx1 := { q.tx1 with buf := [], resend := [] } }) s

/-- The frame slots of a tile without their codes. -/
def State.slotsLost (s : State) : State :=
  let blank (r : RecFrame) : RecFrame :=
    { r with patches := r.patches.map (fun (e : Nat × TilePatch) => (e.1, { e.2 with codes := [] })) }
  let lost (x : Stream) : Stream := { x with recs := x.recs.map blank }
  { s with tile := { s.tile with
    shown := [], strA := lost s.tile.strA, strB := lost s.tile.strB
    waiting := s.tile.waiting.map (fun (d : Decision) => { d with built := d.built.map (fun b => ([], b.2)) }) } }

/-- What a bank of a head holds is lost (R333, *Table — Default bank map*). Line and tap buffers, descriptor caches, ingest
staging and host scratch hold nothing here that outlives a command. -/
def State.headBankLost (s : State) (n : Nat) : State :=
  match n with
  | 5 => { s with comp := { s.comp with tags := [] } }
  | 8 => { s with cmds := { s.cmds with staged := [] } }
  | 9 => s.replayLost
  | 10 => { s with jrn := { s.jrn with staged := [] } }
  | 11 => { s with priv := { s.priv with items := [] } }
  | 12 => s.tablesLost
  | _ => s

/-- What a bank of a tile holds is lost; the matrices of the calibration record are bytes 0xC200 to 0x4B6FF. -/
def State.tileBankLost (s : State) (n : Nat) : State :=
  match n with
  | 0 => s.slotsLost
  | 1 => { s with lamp := { s.lamp with
      flags := [], cal := s.lamp.cal.map (fun m => m.filter (fun e => !(decide (0xC200 ≤ e.1) && decide (e.1 < 0x4B700)))) } }
  | 2 => { s with lamp := { s.lamp with ledger := [], gains := zeroTable (fun _ => 0x8000) 43200, effs := [] } }
  | 3 => { s with priv := { s.priv with items := [] } }
  | 4 => { s with lamp := { s.lamp with staging0 := [], staging1 := [] } }
  | _ => s

/-- The contents of bank `n`, whose owner became NONE, are lost (R333). -/
def State.bankLost (s : State) (n : Nat) : State :=
  let s := match s.role with
    | .head => s.headBankLost n
    | .tile => s.tileBankLost n
    | _ => s
  if n = 5 ∧ (s.role = .tile ∨ s.role = .branch) then s.replayLost
  else if n = 13 then
    forEach (List.range 129) (fun i s => s.setWord (Reg.PMU_SNAPBUF i) 0) { s with
      blots := { s.blots with sram := [] }
      quill := { s.quill with ckpt0 := none, ckpt1 := none } }
  else if n = 14 then { s with upd := { s.upd with staging := [] } }
  else s

/-- The RWT writes that wait take effect, in the order in which they were made (R418). An order write that meets a
PLANE_ORDER command at the same tick is lost (R90); a bank with a new owner is cleared or powered down (R333). -/
def State.rwtTick (s : State) (n : Word) : State :=
  let cmdOrder := s.comp.orderCmd.isSome ||
    s.cmds.accepted.any (fun (a : Accepted) => decide (a.opcode = opPLANE_ORDER) && !(later a.tick n))
  let s := if s.waits Reg.CMP_PLANE_ORDER && cmdOrder then s.raise Fld.CMP_STAT_ORDER_LOST else s
  let owners := (List.range 16).map (fun k => s.get (Fld.MEM_BANK_OWNER_OWNER k))
  let l := s.rwt
  let s := (forEach l (fun e s => s.takeRwt e) { s with rwt := [] }).noteTook n (l.map (·.1))
  forEach ((List.range 16).zip owners) (fun e s =>
    if s.get (Fld.MEM_BANK_OWNER_OWNER e.1) = e.2 then s
    else
      let s := s.ownerChanged e.1 e.2
      if s.bankOwner e.1 = 0 then s.bankLost e.1 else s) s

/-- CMD_CLIENT of one client as the head shows it (chapter *Command set*). -/
def State.clientWord (s : State) (n : ClientId) : Word :=
  let c := s.client n
  let k := (s.cmds.accepted.filter (fun (a : Accepted) => decide (a.cmd.client = n))).length
  wd ((if c.isOpen then 2 ^ 31 else 0) + (if c.authReq then 2 ^ 30 else 0) + (if (s.clientKey n).isSome then 2 ^ 29 else 0) +
    c.cls % 8 * 2 ^ 16 + min k 255 * 2 ^ 8 + c.rights % 2 ^ 8)

/-- The head updates CMD_CLIENT at tick boundaries. Only clients something is known of can differ from what an unknown
client shows. -/
def State.clientTick (s : State) : State :=
  if s.role ≠ .head then s
  else
    let ids := (0 :: s.cmds.clients.map (·.1)) ++ s.keys.clients.map (·.1) ++ s.cmds.accepted.map (fun (a : Accepted) => a.cmd.client.toNat)
    let shown := ids.foldl (fun (m : SMap Word) n => SMap.set shownDefault m n (s.clientWord (BitVec.ofNat 12 n))) []
    { s with cmds := { s.cmds with shown := shown } }

/-- T commands whose tick has come at a node that decides no frames (R132). -/
def State.nodeTicks (s : State) (n : Word) : State :=
  match s.role with
  | .branch | .recovery => s.applyDueAt n
  | _ => s

/-- After a replay the head's own composition state stands again from the tick (R329). -/
def State.standAgain (s : State) : State := { s with jrn := { s.jrn with restore := false } }

/-- What compositor, correction, scan and drive take at the tick start. `scan`, `ceil`: registers they depend on were
written. -/
def State.frameTick (s : State) (scan ceil : Bool) : State :=
  let s := (s.standAgain.closeTicks.cmpTick s.jrnRate).scanTick scan
  let s := match s.jrn.replay with
    | some r => if r.free then s else s.replayTick
    | none => s
  ((s.lampTick ceil).trimTick).pinTick

/-- What links, memory and Quill take at the tick start. -/
def State.unitTick (s : State) : State :=
  let s := doBankSwitch s
  let s := forEach (List.range 4) (fun p s => (doCalSwap p s).lanesTick p) s
  let s := forEach (List.range 4) (fun p s => s.keysTick p) s
  ((s.switchStores true).thermalTick).checkpoint

/-- What the pair, an update, the preview and the tests take at the tick start. -/
def State.nodeTickWork (s : State) (n : Word) : State :=
  let s := ((s.powerTick n).safeTick n).redTick
  let s := (doTakeover s).resyncTick
  let s := (doResyncApply s).updTick
  let s := (s.previewTick.pixelTests).settleTests true
  (s.nodeTicks n).clientTick

/-- TICK_START: tick FN + 1 starts at its instant. -/
def doTickStart (s : State) : State :=
  if !(s.powered) then s
  else
    let n := s.clk.fn + 1
    let last := s.startOf s.clk.fn
    let s := s.adoptSched n
    let s := s.advanceTo (s.startOf n)
    let s := (((s.stepTick).beginTick n last).tally 0x1C3).leadSwitch n
    let ceil := (List.range 3).any (fun c => s.waits (Reg.COR_CEIL_WALL c))
    let scan := s.waits Reg.SCN_CFG
    let s := (((s.rwtTick n).frameTick scan ceil).unitTick).nodeTickWork n
    if s.role = .tile then s.notePars else s

end Sys2Proof.Machine
end

