-- ==== Sys2Proof/Machine/Outcome.lean ====
section
/-! DEFINITION. How a meaning answers: the next state, once the node has settled; and what a node without commands does. -/

namespace Sys2Proof.Machine

/-- The node after a command found in `s` whose own effect gave `u`: what is left to do of itself is done, and the queue
is the one the command found. -/
def after (s u : State) : State := { settle u with pending := s.pending }

/-- The answer of a command found in `s` whose own effect gave `u`. -/
def finish (s u : State) : Host.Outcome State Fault Refusal := .next (after s u)

/-- What a node with no command waiting does: one nanosecond passes in a node that is powered (assumption 1). -/
def State.idle (s : State) : State := if s.powered then s.elapse 1 else s

end Sys2Proof.Machine
end

