-- ==== Sys2Proof/Machine/FrameRows.lean ====
section
/-! DEFINITION. Meanings of rows of spec/opcode_table.json: frames at the head and at the tile, and the journal. -/

namespace Sys2Proof.Machine

/-- COMPOSE_START (R127). At C(F) the head picks source frames, applies tick changes, forms masks and plans patches.
-/
def execComposeStart (s : State) : Host.Outcome State Fault Refusal := finish s (doComposeStart s)

/-- JOURNAL_ROOM_RETURN (R325). Staging room returns after dropped ticks and a GAP record is written. -/
def execJournalRoomReturn (s : State) : Host.Outcome State Fault Refusal := finish s (doRoomReturn s)

/-- PATCH_COMPOSED (R133). Espalier finishes a planned patch and the head sends it as a PATCH with its signature. -/
def execPatchComposed (tile : Fin 8192) (patch : Fin 60) (lane : Fin 4) (spareDiffers : Bool) (ends : PatchEnd) (s : State) :
    Host.Outcome State Fault Refusal :=
  finish s (doPatchComposed tile.val patch.val lane.val spareDiffers ends.agrees ends.errors s)

/-- PUSH_DEADLINE (R129). At PD_p(F) unfinished patches underrun and unsealed frames fail. -/
def execPushDeadline (port : Port) (unfinished : List (Fin 8192 × Fin 60 × Fin 240)) (s : State) : Host.Outcome State Fault Refusal :=
  finish s (doPushDeadline port.val (unfinished.map (fun (e : Fin 8192 × Fin 60 × Fin 240) => (e.1.val, e.2.1.val, e.2.2.val))) s)

/-- PATCH_RECEIVED (R137). A tile checks a PATCH and stores it in a slot or keeps only its SIG. -/
def execPatchReceived (p : Rx) (s : State) : Host.Outcome State Fault Refusal := finish s (doPatchReceived p s)

/-- SEAL_RECEIVED (R136). A tile holds a SEAL and moves the slot to PENDING when complete. -/
def execSealReceived (p : Rx) (s : State) : Host.Outcome State Fault Refusal := finish s (doSealReceived p s)

/-- VOID_RECEIVED (R136). A tile honours a VOID and returns the frame's slot to FILLING. -/
def execVoidReceived (p : Rx) (s : State) : Host.Outcome State Fault Refusal := finish s (doVoidReceived p s)

/-- COMMIT_DECISION (R138). At T_dec(F) a tile commits, partially commits or holds frame F. -/
def execCommitDecision (s : State) : Host.Outcome State Fault Refusal := finish s (doCommitDecision s)

/-- SHOW (R26). At T_show(F) a tile rotates its slots and the lamps show the committed frame. -/
def execShowFrame (s : State) : Host.Outcome State Fault Refusal := finish s (doShow s)

/-- JRN_SNAP_TIMER (R327). Every SNAP_MIN minutes a SNAP record is written. -/
def execJrnSnapTimer (s : State) : Host.Outcome State Fault Refusal := finish s (doSnapTimer s)

/-- NVME_COMPLETION (R322). An NVMe completion is taken, retried once on error, or stops the journal. -/
def execNvmeCompletion (device : Fin 4) (status : BitVec 16) (s : State) : Host.Outcome State Fault Refusal :=
  finish s (doNvme device.val status.toNat s)

end Sys2Proof.Machine
end

