-- ==== Sys2Proof/Machine/IntakeRows.lean ====
section
/-! DEFINITION. Meanings of rows of spec/opcode_table.json: how commands arrive and are closed, and what the host does to rings, mailbox, translation and the endpoint. -/

namespace Sys2Proof.Machine

/-- RING_COMMAND_TAKEN (R317). Head takes a command from a client's command ring once the producer index covers it. -/
def execRingCommandTaken (client : ClientId) (words : List Word) (mem : HostMem) (s : State) : Host.Outcome State Fault Refusal :=
  finish s (doRingCommand client words mem s)

/-- LOCAL_COMMAND (R294). A tile takes a command on its LOCAL port as a command of client 0. -/
def execLocalCommand (words : List Word) (s : State) : Host.Outcome State Fault Refusal := finish s (doLocalCommand words s)

/-- CMD_PACKET_RECEIVED (R189). A node takes a Broash CMD addressed to it, checks its domain tag and acts on it. -/
def execCmdPacketReceived (p : Rx) (s : State) : Host.Outcome State Fault Refusal := finish s (doCmdPacket p s)

/-- RPL_RECEIVED (R186). A head takes a forwarded RPL and closes the command toward the client. -/
def execRplReceived (p : Rx) (s : State) : Host.Outcome State Fault Refusal := finish s (doRpl p s)

/-- COMMAND_TIMEOUT (R186). RPL_TMO expires for a forwarded command, which is closed with TIMEOUT. -/
def execCommandTimeout (client : ClientId) (tag : BitVec 16) (s : State) : Host.Outcome State Fault Refusal :=
  finish s (doCommandTimeout client tag s)

/-- BROADCAST_GATHER_TIMEOUT (R297). The gather time of a broadcast ends and the head sends one combined reply. -/
def execBroadcastGatherTimeout (client : ClientId) (tag : BitVec 16) (s : State) : Host.Outcome State Fault Refusal :=
  finish s (doGatherTimeout client tag s)

/-- STAGED_REPLY_WRITE (R318). A reply held for want of room is written once the reply ring has room. -/
def execStagedReplyWrite (_client : ClientId) (mem : HostMem) (s : State) : Host.Outcome State Fault Refusal :=
  finish s (doStagedWrite mem s)

/-- XLT_INVALIDATE (R313). PCI_XLT_INV.INV invalidates every cached translation entry. -/
def execXltInvalidate (v : Value) (s : State) : Host.Outcome State Fault Refusal := finish s (doXltInvalidate v s)

/-- CHANNEL_RESUME (R315). PCI_CH_STAT.RESUME restarts a stopped bus-master channel from its walk. -/
def execChannelResume (ch : Fin 5) (v : Value) (s : State) : Host.Outcome State Fault Refusal :=
  finish s (doChannelResume ch.val v s)

/-- RING_ENABLE (R316). PCI_RING_STAT.EN loads a client's ring context and zeroes its indices. -/
def execRingEnable (v : Value) (s : State) : Host.Outcome State Fault Refusal := finish s (doRingEnable v s)

/-- RING_RESET (R316). PCI_RING_STAT.RESET disables a client's rings. -/
def execRingReset (v : Value) (s : State) : Host.Outcome State Fault Refusal := finish s (doRingReset v s)

/-- DOORBELL_WRITE (R311). A write of a client doorbell updates CMD_PI or the reply and event consumer indices. -/
def execDoorbellWrite (client : ClientId) (dword0 : Option Word) (dword1 : Option Word) (s : State) : Host.Outcome State Fault Refusal :=
  finish s (doDoorbell client dword0 dword1 s)

/-- MAILBOX_WRITE (R310). A write of word 0 of the to-head mailbox raises a Quill interrupt source. -/
def execMailboxWrite (index : Fin 1024) (v : Value) (s : State) : Host.Outcome State Fault Refusal :=
  finish s (doMailbox index.val v s)

/-- BAR_BAD_SIZE_ACCESS (R310). A BAR access of a size other than 32 or 64 bits is dropped or returns all ones. -/
def execBarBadSizeAccess (write : Bool) (s : State) : Host.Outcome State Fault Refusal := finish s (doBadSize write s)

/-- PCIE_RESET (R308). PE_PERST_N low resets the PCI Express endpoint, channels and rings. -/
def execPcieReset (s : State) : Host.Outcome State Fault Refusal := finish s (doPcieReset s)

/-- FUNCTION_LEVEL_RESET (R308). A function-level reset acts as PE_PERST_N. -/
def execFunctionLevelReset (s : State) : Host.Outcome State Fault Refusal := finish s (doFlr s)

/-- BUS_MASTER_ENABLE_CHANGE (R309). Bus Master Enable cleared pauses channels and MSI-X; set resumes them. -/
def execBusMasterEnableChange (enabled : Bool) (s : State) : Host.Outcome State Fault Refusal := finish s (doBme enabled s)

/-- USER_COMMAND_TIMEOUT (R354). A customer command runs 100 ms and ends with TIMEOUT. -/
def execUserCommandTimeout (s : State) : Host.Outcome State Fault Refusal := finish s (doUserTimeout s)

/-- RING_HOLDOFF_END (R318). The COAL holdoff of a ring ends and the head sends the withheld MSI-X vector. -/
def execRingHoldoffEnd (client : ClientId) (s : State) : Host.Outcome State Fault Refusal := finish s (doHoldoffEnd client s)

/-- XLT_INVALIDATE_DONE (R313). The translation invalidation ends, INV reads 0 and the channels resume their held
walks. -/
def execXltInvalidateDone (s : State) : Host.Outcome State Fault Refusal := finish s (doXltDone s)

end Sys2Proof.Machine
end

