-- ==== Sys2Proof/Machine/LampRows.lean ====
section
/-! DEFINITION. Meanings of rows of spec/opcode_table.json: the correction pipeline, scan, drive and ageing. -/

namespace Sys2Proof.Machine

/-- PIPELINE_RUN (R217). The correction pipeline turns the SHOWN frame into staging words for every lamp. -/
def execPipelineRun (s : State) : Host.Outcome State Fault Refusal := finish s (doPipelineRun s)

/-- PIPELINE_RUN_END (R263). The run ends with SCN_SHOWN_SIG and advances the freeze detector. -/
def execPipelineRunEnd (s : State) : Host.Outcome State Fault Refusal := finish s (doPipelineEnd s)

/-- SUBFRAME_START (R252). At each subframe start the outer loop moves V_SET from the last subframe's checks. -/
def execSubframeStart (sub : Fin 64) (checks : List SinkCheck) (s : State) : Host.Outcome State Fault Refusal :=
  finish s (doSubframeStart sub.val checks s)

/-- ROW_SLOT (R245). A row slot plays a row pair through gates and sinks. -/
def execRowSlot (sub : Fin 64) (row : Fin 45) (pipelineStalled : Bool) (s : State) : Host.Outcome State Fault Refusal :=
  finish s (doRowSlot sub.val row.val pipelineStalled s)

/-- DEAD_TIME (R259). A dead time serves one pin-short test, probe or trim comparison. -/
def execDeadTime (use : DeadUse) (s : State) : Host.Outcome State Fault Refusal := finish s (doDeadTime use s)

/-- ROW_OVERCURRENT_TRIP (R250). The shunt comparator trips and the gate and half's sinks turn off. -/
def execRowOvercurrentTrip (row : Fin 90) (s : State) : Host.Outcome State Fault Refusal := finish s (doRowTrip row.val s)

/-- SCAN_PERIOD_END (R256). Per-lamp fault results are taken, flags decided and rows latched. -/
def execScanPeriodEnd (checks : List SinkCheck) (s : State) : Host.Outcome State Fault Refusal :=
  finish s (doPeriodEnd checks s)

/-- TRIM_SWEEP_START (R248). The trim calibration period expires and a sweep of all sinks starts. -/
def execTrimSweepStart (s : State) : Host.Outcome State Fault Refusal := finish s (doTrimStart s)

/-- TRIM_SWEEP_END (R249). A trim sweep ends with results awaiting the next tick boundary. -/
def execTrimSweepEnd (s : State) : Host.Outcome State Fault Refusal := finish s (doTrimEnd s)

/-- PHASE_SHARE_WINDOW (R254). Each 1 ms window averages phase currents and may swap a phase for the spare. -/
def execPhaseShareWindow (averages : List Nat) (s : State) : Host.Outcome State Fault Refusal :=
  finish s (doPhaseShare averages s)

/-- ADC_CONVERSION (R260). The sense ADC converts the next enabled input. -/
def execAdcConversion (raw : Int) (s : State) : Host.Outcome State Fault Refusal := finish s (doAdc raw s)

/-- LEDGER_FLUSH (R235). Every 10 minutes the ageing ledger is written to MRAM. -/
def execLedgerFlush (s : State) : Host.Outcome State Fault Refusal := finish s (doLedgerFlush s)

/-- AGEING_PERIOD (R238). The PERIOD timer requests a gain computation in MODE 0. -/
def execAgeingPeriod (s : State) : Host.Outcome State Fault Refusal := finish s (doAgeingPeriod s)

/-- AGEING_GAIN_DONE (R238). A gain set computation ends and applies at the next tick boundary. -/
def execAgeingGainDone (s : State) : Host.Outcome State Fault Refusal := finish s (doAgeingDone s)

end Sys2Proof.Machine
end

