-- ==== Sys2Proof/Machine/LinkRows.lean ====
section
/-! DEFINITION. Meanings of rows of spec/opcode_table.json: the lane layer and the network layer. -/

namespace Sys2Proof.Machine

/-- CODEWORD_RECEIVED (R146). A codeword is decoded and its header ACK, NACK and HOLD fields applied. -/
def execCodewordReceived (p : Port) (m : PhyLane) (cw : Codeword) (s : State) : Host.Outcome State Fault Refusal :=
  finish s (doCodeword p.val m.val cw s)

/-- NACK_RESEND_TIMEOUT (R162). The expected codeword has not arrived and the NACK is sent again. -/
def execNackResendTimeout (p : Port) (k : LogLane) (s : State) : Host.Outcome State Fault Refusal :=
  finish s (doNackResend p.val k.val s)

/-- RESYNC (R150). The receiver discards the partial packet of the logical lane. -/
def execResync (p : Port) (k : LogLane) (reason : BitVec 8) (s : State) : Host.Outcome State Fault Refusal :=
  finish s (doResync p.val k.val reason.toNat s)

/-- LANE_SWAP (R168). The marker ends a logical lane on a physical lane and the next codeword comes on the new lane.
-/
def execLaneSwap (p : Port) (m : PhyLane) (k : LogLane) (_fn : Word) (s : State) : Host.Outcome State Fault Refusal :=
  finish s (doLaneSwap p.val m.val k.val s)

/-- IDLE_ENTER (R157). Logical lane 1 enters fast idle after this codeword. -/
def execIdleEnter (p : Port) (s : State) : Host.Outcome State Fault Refusal := finish s (doIdleEnter p.val s)

/-- CAL_REQ (R167). The neighbour brings its spare out of deep park and sends PRBS-31. -/
def execCalReq (p : Port) (lane : PhyLane) (abandon : Bool) (s : State) : Host.Outcome State Fault Refusal :=
  finish s (doCalReq p.val lane.val abandon s)

/-- CAL_READY (R167). The spare receiver is trained and the swap is scheduled at the next tick boundary. -/
def execCalReady (p : Port) (_lane : PhyLane) (s : State) : Host.Outcome State Fault Refusal := finish s (doCalReady p.val s)

/-- HELLO (R160). Lane-layer capabilities and echo stamp are exchanged during bring-up. -/
def execHello (p : Port) (version : Byte) (trained : BitVec 3) (rxMap : BitVec 6) (capLow capHigh : Byte) (stamp : Word) (s : State) :
    Host.Outcome State Fault Refusal :=
  finish s (doHello p.val version.toNat trained rxMap.toNat (capLow.toNat + 256 * capHigh.toNat) stamp s)

/-- FAST_IDLE_ENTRY (R157). FI_DELAY expires with lane 1 empty and acknowledged and it enters fast idle. -/
def execFastIdleEntry (p : Port) (s : State) : Host.Outcome State Fault Refusal := finish s (doFastIdleEntry p.val s)

/-- FAST_IDLE_EXIT (R157). Data queued for an idle lane sends the wake burst and resumes codewords. -/
def execFastIdleExit (p : Port) (s : State) : Host.Outcome State Fault Refusal := finish s (doFastIdleExit p.val s)

/-- FAST_IDLE_WAKE (R158). A receiver accepts a wake burst and wakes outgoing lane 1 on other ports. -/
def execFastIdleWake (p : Port) (burstSeen : Bool) (codewordOk : Bool) (s : State) : Host.Outcome State Fault Refusal :=
  finish s (doFastIdleWake p.val burstSeen codewordOk s)

/-- SIGNAL_DETECT (R160). Signal on L0 starts link bring-up. -/
def execSignalDetect (p : Port) (trains : BitVec 3) (s : State) : Host.Outcome State Fault Refusal :=
  finish s (doSignalDetect p.val trains s)

/-- BRING_UP_TIMEOUT (R160). The link is not up 10 ms after signal detect and training restarts. -/
def execBringUpTimeout (p : Port) (s : State) : Host.Outcome State Fault Refusal := finish s (doBringUpTimeout p.val s)

/-- LANE_FAILURE (R161). A lane without a correct codeword or signal for 1 ms fails. -/
def execLaneFailure (p : Port) (m : PhyLane) (s : State) : Host.Outcome State Fault Refusal :=
  finish s (doLaneFailure p.val m.val s)

/-- STAND_IN_TRAINED (R171). The standing-in spare finishes training and carries traffic. -/
def execStandInTrained (p : Port) (s : State) : Host.Outcome State Fault Refusal := finish s (doStandIn p.val s)

/-- CALIBRATION_PERIOD (R166). The calibration period expires and a lane calibration starts. -/
def execCalibrationPeriod (p : Port) (s : State) : Host.Outcome State Fault Refusal := finish s (doCalPeriod p.val s)

/-- CALIBRATION_QUEUED_START (R166). A queued calibration request starts after the running one ends. -/
def execCalibrationQueuedStart (p : Port) (s : State) : Host.Outcome State Fault Refusal := finish s (doCalQueued p.val s)

/-- SPARE_TRAINED (R167). The spare receiver finishes adapting and CAL_READY is sent. -/
def execSpareTrained (p : Port) (s : State) : Host.Outcome State Fault Refusal := finish s (doSpareTrained p.val s)

/-- CALIBRATION_SWAP_TICK (R167). At the tick boundary after CAL_READY the transmitter sends LANE_SWAP. -/
def execCalibrationSwapTick (p : Port) (s : State) : Host.Outcome State Fault Refusal := finish s (doCalSwap p.val s)

/-- CALIBRATION_SWEEP_DONE (R170). Verification ends and the lane becomes the spare, returns or is retired. -/
def execCalibrationSweepDone (p : Port) (ctle : List Nat) (dfe : List (List Nat)) (phase : List Nat) (errors : Nat) (s : State) : Host.Outcome State Fault Refusal :=
  finish s (doSweepDone p.val ctle dfe phase errors s)

/-- PACKET_FORWARD (R183). A packet not for this node is routed and forwarded cut-through. -/
def execPacketForward (p : Rx) (s : State) : Host.Outcome State Fault Refusal := finish s (doForward p s)

/-- ESCALATION_INTERVAL (R195). Each 1,000 ms interval sets a port's escalation level from its violation count. -/
def execEscalationInterval (s : State) : Host.Outcome State Fault Refusal := finish s (doEscalation s)

/-- BAR_REQ_RECEIVED (R187). A node records a barrier and sends ARRIVE once arrived. -/
def execBarReqReceived (p : Rx) (s : State) : Host.Outcome State Fault Refusal := finish s (doBarReq p s)

/-- BAR_ARRIVE_RECEIVED (R187). A node adds to or holds an ARRIVE, or the head compares COUNT. -/
def execBarArriveReceived (p : Rx) (s : State) : Host.Outcome State Fault Refusal := finish s (doBarArrive p s)

/-- EVT_RECEIVED (R306). A head takes an EVT and delivers it to clients. -/
def execEvtReceived (p : Rx) (s : State) : Host.Outcome State Fault Refusal := finish s (doEvt p s)

/-- TEST_PACKET_RECEIVED (R177). A TEST packet is sunk or echoed to its source. -/
def execTestPacketReceived (p : Rx) (s : State) : Host.Outcome State Fault Refusal := finish s (doTest p s)

/-- WALK_RECEIVED (R179). A node takes an ID, records head and routes, reports and walks on. -/
def execWalkReceived (p : Rx) (s : State) : Host.Outcome State Fault Refusal := finish s (doWalk p s)

/-- RETURN_RECEIVED (R179). A RETURN gives NEXT, ranges and flags for a walked port. -/
def execReturnReceived (p : Rx) (s : State) : Host.Outcome State Fault Refusal := finish s (doReturn p s)

/-- WALK_RETURN_TIMEOUT (R179). No RETURN within 10 ms and the port reaches nothing. -/
def execWalkReturnTimeout (port : Port) (s : State) : Host.Outcome State Fault Refusal := finish s (doWalkTimeout port.val s)

/-- REPORT_RECEIVED (R180). The walking head records a node's ID, role, field and hops. -/
def execReportReceived (p : Rx) (s : State) : Host.Outcome State Fault Refusal := finish s (doReport p s)

/-- LEARN_WALK_START (R182). A head runs a LEARN walk within 1 ms of a link change or EVT LINK. -/
def execLearnWalkStart (s : State) : Host.Outcome State Fault Refusal := finish s (doLearnWalk s)

/-- KEYX_RECEIVED (R190). A KEYX is checked and link keys derived. -/
def execKeyxReceived (p : Rx) (s : State) : Host.Outcome State Fault Refusal := finish s (doKeyx p s)

/-- KEYACK_RECEIVED (R190). A KEYACK confirms the new link key. -/
def execKeyackReceived (p : Rx) (s : State) : Host.Outcome State Fault Refusal := finish s (doKeyack p s)

/-- KEY_AGREEMENT_RETRY (R190). A failed key agreement is retried after 1 s. -/
def execKeyAgreementRetry (port : Port) (s : State) : Host.Outcome State Fault Refusal := finish s (doKeyRetry port.val s)

/-- KEY_ROLLOVER (R192). The nonce counter reaches 2^40 and a rollover starts. -/
def execKeyRollover (port : Port) (s : State) : Host.Outcome State Fault Refusal := finish s (doKeyRollover port.val s)

/-- NEW_KEY_SWITCH (R192). The transmitter changes to the new key at the tick boundary after KEYACK. -/
def execNewKeySwitch (port : Port) (s : State) : Host.Outcome State Fault Refusal := finish s (doNewKeySwitch port.val s)

/-- BARRIER_TIMEOUT (R187). RPL_TMO expires on a barrier, so a node holding an ARRIVE sends it on and the head answers
DOM_BARRIER with TIMEOUT. -/
def execBarrierTimeout (s : State) : Host.Outcome State Fault Refusal := finish s (doBarTimeout s)

end Sys2Proof.Machine
end

