-- ==== Sys2Proof/Machine/OpcodeRows.lean ====
section
/-! DEFINITION. Meanings of rows of spec/opcode_table.json: the opcodes of the command set (R286 to R306). -/

namespace Sys2Proof.Machine

/-- NOP (R299). Immediate command that does nothing and replies OK. -/
def execNop (c : Cmd) (s : State) : Host.Outcome State Fault Refusal := finish s (doCommand opNOP c s)

/-- ECHO (R299). Immediate command that returns its parameter words unchanged. -/
def execEcho (c : Cmd) (s : State) : Host.Outcome State Fault Refusal := finish s (doCommand opECHO c s)

/-- GET_INFO (R293). Returns identity, strap, firmware, node, state and calibration words, or the identity key when w0
bit 0 is set. -/
def execGetInfo (c : Cmd) (s : State) : Host.Outcome State Fault Refusal := finish s (doCommand opGET_INFO c s)

/-- CLIENT_OPEN (R290). Client 0 opens a client with a class, an AUTH_REQ flag and rights. -/
def execClientOpen (c : Cmd) (s : State) : Host.Outcome State Fault Refusal := finish s (doCommand opCLIENT_OPEN c s)

/-- CLIENT_CLOSE (R290). At its tick, deletes the client's windows, discards its pending commands, erases its key and
drops its watches. -/
def execClientClose (c : Cmd) (s : State) : Host.Outcome State Fault Refusal := finish s (doCommand opCLIENT_CLOSE c s)

/-- CLIENT_GRANT (R91). Changes the class and rights of an open client at a tick. -/
def execClientGrant (c : Cmd) (s : State) : Host.Outcome State Fault Refusal := finish s (doCommand opCLIENT_GRANT c s)

/-- KEY_INSTALL (R293). Installs a client, domain, station or client-0 key, wrapped, unwrapped or sealed according to
its kind. -/
def execKeyInstall (c : Cmd) (s : State) : Host.Outcome State Fault Refusal := finish s (doCommand opKEY_INSTALL c s)

/-- SRC_DEFINE (R78). Defines a source's configuration, raster, rate, matrices, flow filters or host buffers. -/
def execSrcDefine (c : Cmd) (s : State) : Host.Outcome State Fault Refusal := finish s (doCommand opSRC_DEFINE c s)

/-- SRC_ENABLE (R77). Enables or disables a source at a tick, subject to the ingest and write budgets. -/
def execSrcEnable (c : Cmd) (s : State) : Host.Outcome State Fault Refusal := finish s (doCommand opSRC_ENABLE c s)

/-- SRC_STATUS (R79). Returns a source's status, frame count, signature and counters. -/
def execSrcStatus (c : Cmd) (s : State) : Host.Outcome State Fault Refusal := finish s (doCommand opSRC_STATUS c s)

/-- SRC_WATCH (R306). Adds or removes a client's subscription to a source's LOST, FREEZE and BLACK events. -/
def execSrcWatch (c : Cmd) (s : State) : Host.Outcome State Fault Refusal := finish s (doCommand opSRC_WATCH c s)

/-- WIN_CREATE (R85). Creates a window from descriptor words at a tick after validation and admission. -/
def execWinCreate (c : Cmd) (s : State) : Host.Outcome State Fault Refusal := finish s (doCommand opWIN_CREATE c s)

/-- WIN_MODIFY (R86). Changes the masked descriptor words of an existing window at a tick. -/
def execWinModify (c : Cmd) (s : State) : Host.Outcome State Fault Refusal := finish s (doCommand opWIN_MODIFY c s)

/-- WIN_DELETE (R86). Deletes a window at a tick. -/
def execWinDelete (c : Cmd) (s : State) : Host.Outcome State Fault Refusal := finish s (doCommand opWIN_DELETE c s)

/-- WIN_BATCH (R305). Applies up to 256 create, modify and delete entries together at one tick, or refuses the whole
batch. -/
def execWinBatch (c : Cmd) (s : State) : Host.Outcome State Fault Refusal := finish s (doCommand opWIN_BATCH c s)

/-- PLANE_ORDER (R90). Sets the stack order of planes 0 to 6 at a tick. -/
def execPlaneOrder (c : Cmd) (s : State) : Host.Outcome State Fault Refusal := finish s (doCommand opPLANE_ORDER c s)

/-- DOM_ENUMERATE (R179). Runs an ASSIGN or LEARN walk on the selected ports and reports ranges, loops and met heads.
-/
def execDomEnumerate (c : Cmd) (s : State) : Host.Outcome State Fault Refusal := finish s (doCommand opDOM_ENUMERATE c s)

/-- TILE_PLACE (R104). Places, changes or removes a tile descriptor at a tick. -/
def execTilePlace (c : Cmd) (s : State) : Host.Outcome State Fault Refusal := finish s (doCommand opTILE_PLACE c s)

/-- TILE_QUERY (R180). Returns a tile descriptor and the node's enumeration report. -/
def execTileQuery (c : Cmd) (s : State) : Host.Outcome State Fault Refusal := finish s (doCommand opTILE_QUERY c s)

/-- DOM_BARRIER (R187). Broadcasts BAR REQ and replies with the count of nodes that arrived. -/
def execDomBarrier (c : Cmd) (s : State) : Host.Outcome State Fault Refusal := finish s (doCommand opDOM_BARRIER c s)

/-- DOM_SNAPSHOT (R187). Broadcasts SNAP so every node freezes selected counters at TSNAP. -/
def execDomSnapshot (c : Cmd) (s : State) : Host.Outcome State Fault Refusal := finish s (doCommand opDOM_SNAPSHOT c s)

/-- DOM_RESET (R187). Broadcasts a domain reset instant to every node. -/
def execDomReset (c : Cmd) (s : State) : Host.Outcome State Fault Refusal := finish s (doCommand opDOM_RESET c s)

/-- NODE_PEEK (R295). Reads up to 1,024 register words of a node. -/
def execNodePeek (c : Cmd) (s : State) : Host.Outcome State Fault Refusal := finish s (doCommand opNODE_PEEK c s)

/-- NODE_POKE (R423). Writes up to 1,024 register words of a node in address order without interleaving. -/
def execNodePoke (c : Cmd) (s : State) : Host.Outcome State Fault Refusal := finish s (doCommand opNODE_POKE c s)

/-- COR_LOAD (R231). Writes calibration record bytes into the inactive copy of the calibration slot. -/
def execCorLoad (c : Cmd) (s : State) : Host.Outcome State Fault Refusal := finish s (doCommand opCOR_LOAD c s)

/-- COR_COMMIT (R232). Checks the inactive calibration copy and makes it active at its apply tick, optionally
resetting the ledger. -/
def execCorCommit (c : Cmd) (s : State) : Host.Outcome State Fault Refusal := finish s (doCommand opCOR_COMMIT c s)

/-- LAMP_TEST (R230). Sets or clears the MASK flag of listed lamps, or reads their flags. -/
def execLampTest (c : Cmd) (s : State) : Host.Outcome State Fault Refusal := finish s (doCommand opLAMP_TEST c s)

/-- WALL_GAIN (R223). Sets the three wall gains of a tile at a tick. -/
def execWallGain (c : Cmd) (s : State) : Host.Outcome State Fault Refusal := finish s (doCommand opWALL_GAIN c s)

/-- AGEING_CTL (R239). Sets ageing MODE, PERIOD, wall ceilings or requests a gain computation. -/
def execAgeingCtl (c : Cmd) (s : State) : Host.Outcome State Fault Refusal := finish s (doCommand opAGEING_CTL c s)

/-- HOUSE_TIME (R213). Writes IMM, HT_NS and HT_SEC of house time on each node. -/
def execHouseTime (c : Cmd) (s : State) : Host.Outcome State Fault Refusal := finish s (doCommand opHOUSE_TIME c s)

/-- TICK_CONFIG (R199). Sets the tick period and anchor, adopted by every node at the apply tick. -/
def execTickConfig (c : Cmd) (s : State) : Host.Outcome State Fault Refusal := finish s (doCommand opTICK_CONFIG c s)

/-- LEAD_SET (R128). Sets the lead and ADV, distributed to every node and applied at a chosen tick. -/
def execLeadSet (c : Cmd) (s : State) : Host.Outcome State Fault Refusal := finish s (doCommand opLEAD_SET c s)

/-- RED_PAIR (R264). Names the two heads of a pair and the head active first. -/
def execRedPair (c : Cmd) (s : State) : Host.Outcome State Fault Refusal := finish s (doCommand opRED_PAIR c s)

/-- RED_SWITCH (R270). Plans a switchover of the active head at an apply tick. -/
def execRedSwitch (c : Cmd) (s : State) : Host.Outcome State Fault Refusal := finish s (doCommand opRED_SWITCH c s)

/-- RED_RESYNC (R278). Starts resynchronisation of the partner head. -/
def execRedResync (c : Cmd) (s : State) : Host.Outcome State Fault Refusal := finish s (doCommand opRED_RESYNC c s)

/-- RED_TILE (R425). Head-originated command setting a tile's pairing and followed head. -/
def execRedTile (c : Cmd) (s : State) : Host.Outcome State Fault Refusal := finish s (doCommand opRED_TILE c s)

/-- PRIVET_LOAD (R280). Loads part of a Privet item, taking effect at the tick of its FINAL part. -/
def execPrivetLoad (c : Cmd) (s : State) : Host.Outcome State Fault Refusal := finish s (doCommand opPRIVET_LOAD c s)

/-- PRIVET_SHOW (R283). Shows the Privet items of a mask from its apply tick. -/
def execPrivetShow (c : Cmd) (s : State) : Host.Outcome State Fault Refusal := finish s (doCommand opPRIVET_SHOW c s)

/-- PRIVET_HIDE (R283). Hides the Privet items of a mask from its apply tick. -/
def execPrivetHide (c : Cmd) (s : State) : Host.Outcome State Fault Refusal := finish s (doCommand opPRIVET_HIDE c s)

/-- JRN_CONFIG (R321). Configures the journal target, record types, ring and NVMe devices. -/
def execJrnConfig (c : Cmd) (s : State) : Host.Outcome State Fault Refusal := finish s (doCommand opJRN_CONFIG c s)

/-- JRN_START (R327). Starts the journal at a tick, beginning with a SNAP record. -/
def execJrnStart (c : Cmd) (s : State) : Host.Outcome State Fault Refusal := finish s (doCommand opJRN_START c s)

/-- JRN_STOP (R329). Stops the journal, or ends a running replay, at a tick. -/
def execJrnStop (c : Cmd) (s : State) : Host.Outcome State Fault Refusal := finish s (doCommand opJRN_STOP c s)

/-- JRN_REPLAY (R329). Re-runs a range of journal ticks and reports the first mismatch. -/
def execJrnReplay (c : Cmd) (s : State) : Host.Outcome State Fault Refusal := finish s (doCommand opJRN_REPLAY c s)

/-- UPD_BEGIN (R374). Opens, resumes or closes an update session and erases the target slot. -/
def execUpdBegin (c : Cmd) (s : State) : Host.Outcome State Fault Refusal := finish s (doCommand opUPD_BEGIN c s)

/-- UPD_BLOCK (R375). Head checks an image block, writes it to its target slot and queues it for distribution. -/
def execUpdBlock (c : Cmd) (s : State) : Host.Outcome State Fault Refusal := finish s (doCommand opUPD_BLOCK c s)

/-- UPD_VERIFY (R377). Makes each node read back and check its target slot. -/
def execUpdVerify (c : Cmd) (s : State) : Host.Outcome State Fault Refusal := finish s (doCommand opUPD_VERIFY c s)

/-- UPD_ACTIVATE (R378). Arms a trial of the verified image at a DTIME. -/
def execUpdActivate (c : Cmd) (s : State) : Host.Outcome State Fault Refusal := finish s (doCommand opUPD_ACTIVATE c s)

/-- UPD_CONFIRM (R379). Confirms a running trial and makes the target slot active. -/
def execUpdConfirm (c : Cmd) (s : State) : Host.Outcome State Fault Refusal := finish s (doCommand opUPD_CONFIRM c s)

/-- PMU_CONFIG (R392). Loads a counter's event and filter and starts, stops or clears it. -/
def execPmuConfig (c : Cmd) (s : State) : Host.Outcome State Fault Refusal := finish s (doCommand opPMU_CONFIG c s)

/-- PMU_READ (R392). Returns the 32 performance counters. -/
def execPmuRead (c : Cmd) (s : State) : Host.Outcome State Fault Refusal := finish s (doCommand opPMU_READ c s)

/-- BLOT_READ (R397). Returns blots from the SRAM or MRAM ring. -/
def execBlotRead (c : Cmd) (s : State) : Host.Outcome State Fault Refusal := finish s (doCommand opBLOT_READ c s)

/-- SELFTEST (R338). Runs link lane, SRAM bank, sink trim or pixel lane tests and reports pass and fail masks. -/
def execSelftest (c : Cmd) (s : State) : Host.Outcome State Fault Refusal := finish s (doCommand opSELFTEST c s)

/-- LINK_EYE (R174). Runs an eye scan over a grid of phase and voltage offsets. -/
def execLinkEye (c : Cmd) (s : State) : Host.Outcome State Fault Refusal := finish s (doCommand opLINK_EYE c s)

/-- CUSTOMER_OPCODE (R354). Runs a customer opcode in the user partition. -/
def execCustomerOpcode (opcode : BitVec 12) (c : Cmd) (s : State) : Host.Outcome State Fault Refusal :=
  finish s (doCommand (0x7000 + opcode.toNat) c s)

end Sys2Proof.Machine
end

