-- ==== Sys2Proof/Machine/PairRows.lean ====
section
/-! DEFINITION. Meanings of rows of spec/opcode_table.json: the pair of heads and Privet. -/

namespace Sys2Proof.Machine

/-- MIRROR_CMD_RECEIVED (R268). The standby records and applies a mirrored command at its apply tick. -/
def execMirrorCmdReceived (p : Rx) (s : State) : Host.Outcome State Fault Refusal := finish s (doMirrorCmd p s)

/-- MIRROR_TABLE_RECEIVED (R278). The standby takes resynchronisation table data. -/
def execMirrorTableReceived (p : Rx) (s : State) : Host.Outcome State Fault Refusal := finish s (doMirrorTable p s)

/-- SNAPEND_RECEIVED (R278). The standby checks the snapshot and schedules it for tick G. -/
def execSnapendReceived (p : Rx) (s : State) : Host.Outcome State Fault Refusal := finish s (doSnapend p s)

/-- RESYNC_APPLY (R278). At tick G the standby applies the tables and clears OOS. -/
def execResyncApply (s : State) : Host.Outcome State Fault Refusal := finish s (doResyncApply s)

/-- HEARTBEAT_TIMER (R269). Each head sends HEARTBEAT every 1 ms. -/
def execHeartbeatTimer (s : State) : Host.Outcome State Fault Refusal := finish s (doHeartbeatTimer s)

/-- HEARTBEAT_RECEIVED (R269). A HEARTBEAT may change the active role by epoch. -/
def execHeartbeatReceived (p : Rx) (s : State) : Host.Outcome State Fault Refusal := finish s (doHeartbeat p s)

/-- HEARTBEAT_TIMEOUT (R269). No HEARTBEAT for HB_TMO and the standby becomes active. -/
def execHeartbeatTimeout (s : State) : Host.Outcome State Fault Refusal := finish s (doHeartbeatTimeout s)

/-- MIRROR_ACK_RECEIVED (R268). The active head records the acknowledged MSEQ. -/
def execMirrorAckReceived (p : Rx) (s : State) : Host.Outcome State Fault Refusal := finish s (doMirrorAck p s)

/-- RESYNC_REQ_RECEIVED (R278). The active head starts resynchronising its partner. -/
def execResyncReqReceived (p : Rx) (s : State) : Host.Outcome State Fault Refusal := finish s (doResyncReq p s)

/-- RELINQUISH_RECEIVED (R269). The standby schedules becoming active at the named tick. -/
def execRelinquishReceived (p : Rx) (s : State) : Host.Outcome State Fault Refusal := finish s (doRelinquish p s)

/-- ROLE_TAKEOVER_TICK (R269). At the relinquished tick the standby becomes active. -/
def execRoleTakeoverTick (s : State) : Host.Outcome State Fault Refusal := finish s (doTakeover s)

/-- PRIVET_CMD_RECEIVED (R281). A tile verifies a client-0 Privet command. -/
def execPrivetCmdReceived (p : Rx) (s : State) : Host.Outcome State Fault Refusal := finish s (doPrivetCmd p s)

/-- PRIVET_DATA_RECEIVED (R281). A tile takes Privet item content. -/
def execPrivetDataReceived (p : Rx) (s : State) : Host.Outcome State Fault Refusal := finish s (doPrivetData p s)

/-- PRIVET_END_RECEIVED (R281). A tile keeps a loaded item when its digest matches. -/
def execPrivetEndReceived (p : Rx) (s : State) : Host.Outcome State Fault Refusal := finish s (doPrivetEnd p s)

end Sys2Proof.Machine
end

