-- ==== Sys2Proof/Machine/PowerRows.lean ====
section
/-! DEFINITION. Meanings of rows of spec/opcode_table.json: power requests, resets, rails, wake, boot and the thermal model. -/

namespace Sys2Proof.Machine

/-- PWR_REQ_OFF (R45). A write of PWR_REQ.REQ requesting OFF, run with the ledger flush. -/
def execPwrReqOff (path : Path) (s : State) : Host.Outcome State Fault Refusal :=
  finish s (s.viaPath path doReqOff)

/-- PWR_REQ_READY (R46). A write of PWR_REQ.REQ requesting READY. -/
def execPwrReqReady (path : Path) (s : State) : Host.Outcome State Fault Refusal :=
  finish s (s.viaPath path doReqReady)

/-- PWR_REQ_ACTIVE (R46). A write of PWR_REQ.REQ requesting ACTIVE. -/
def execPwrReqActive (path : Path) (s : State) : Host.Outcome State Fault Refusal :=
  finish s (s.viaPath path doReqActive)

/-- PWR_REQ_DIM (R44). A write of PWR_REQ.REQ requesting DIM, refused outside the tile role. -/
def execPwrReqDim (path : Path) (s : State) : Host.Outcome State Fault Refusal :=
  finish s (s.viaPath path doReqDim)

/-- PWR_REQ_PARK (R46). A write of PWR_REQ.REQ requesting PARK. -/
def execPwrReqPark (path : Path) (s : State) : Host.Outcome State Fault Refusal :=
  finish s (s.viaPath path doReqPark)

/-- PWR_REQ_INVALID (R45). A write of PWR_REQ.REQ naming BOOT, SHUTDOWN or a reserved state is refused with ERR. -/
def execPwrReqInvalid (path : Path) (req : BitVec 4) (s : State) : Host.Outcome State Fault Refusal :=
  finish s (s.viaPath path (doReqInvalid req.toNat))

/-- QUEUED_REQUEST_START (R47). A queued power request starts at the tick boundary after the transition in progress
ends. -/
def execQueuedRequestStart (s : State) : Host.Outcome State Fault Refusal := finish s (doQueuedStart s)

/-- WARM_RESET (R42). A write of the key 0xB007 to PWR_RST resets everything outside the always-on domain through
BOOT. -/
def execWarmReset (key : BitVec 16) (s : State) : Host.Outcome State Fault Refusal := finish s (doWarmReset key s)

/-- POWER_ON_RESET (R426). POR_N low or VAON collapse resets the whole part including the always-on domain. -/
def execPowerOnReset (porLowUs : Nat) (vaonBelow1V : Bool) (s : State) : Host.Outcome State Fault Refusal :=
  finish s (doPowerOnReset porLowUs vaonBelow1V s)

/-- BROWN_OUT (R426). VAON below 1.6 V for more than 1 µs resets the part, keeping the thermal latch. -/
def execBrownOut (durationNs : Nat) (vaonBelow1V : Bool) (s : State) : Host.Outcome State Fault Refusal :=
  finish s (doBrownOut durationNs vaonBelow1V s)

/-- RAIL_FAILURE (R48). A required rail fails; the node darkens the drive within 1 µs and resets to BOOT. -/
def execRailFailure (rail : Fin 8) (s : State) : Host.Outcome State Fault Refusal := finish s (doRailFailure rail s)

/-- RAILS_GOOD (R42). Every required rail is good again and the node passes through BOOT. -/
def execRailsGood (rails : Rails) (s : State) : Host.Outcome State Fault Refusal := finish s (doRailsGood rails s)

/-- RAIL_TIMEOUT (R52). Rails are not good within 100 ms of a wake and the node returns to OFF. -/
def execRailTimeout (s : State) : Host.Outcome State Fault Refusal := finish s (doRailTimeout s)

/-- WAKE (R51). WAKE high takes the node from OFF into BOOT. -/
def execWake (stays : Bool) (s : State) : Host.Outcome State Fault Refusal := finish s (doWake stays s)

/-- LINK_ACTIVITY_WAKE (R51). Signal detect on an enabled port's L0 receiver takes the node from OFF into BOOT. -/
def execLinkActivityWake (p : Port) (s : State) : Host.Outcome State Fault Refusal := finish s (doLinkWake p.val s)

/-- SRAM_CLEAR_DONE (R336). The BOOT clear ends and SRAM becomes readable. -/
def execSramClearDone (s : State) : Host.Outcome State Fault Refusal := finish s (doSramClear s)

/-- STRAP_SAMPLING (R37). Samples the straps every 1 µs from 10 µs after BOOT entry until three samples agree. -/
def execStrapSampling (samples : List Straps) (s : State) : Host.Outcome State Fault Refusal := finish s (doStraps samples s)

/-- FIRMWARE_START (R373). The ROM chooses a valid slot and firmware starts, completing BOOT toward READY. -/
def execFirmwareStart (facts : StartFacts) (s : State) : Host.Outcome State Fault Refusal :=
  finish s (doFirmwareStart facts.irefCode.toNat facts.settings s)

/-- EMERGENCY_OFF (R48). POWER_OFF_N low darkens the drive within 1 µs and enters OFF. -/
def execEmergencyOff (s : State) : Host.Outcome State Fault Refusal := finish s (doEmergencyOff s)

/-- THERMAL_SHUTDOWN (R388). The shutdown trigger darkens the drive, writes the epoch and FATAL blot, and latches
SHUTDOWN. -/
def execThermalShutdown (s : State) : Host.Outcome State Fault Refusal := finish s (doShutdown s)

/-- SAFE_N_LOW (R284). SAFE_N low for 2 µs shows SAFE items, at a head as a late change and at a tile with an ACTIVE
request. -/
def execSafeNLow (s : State) : Host.Outcome State Fault Refusal := finish s (doSafeLow s)

/-- SAFE_N_HIGH (R284). SAFE_N high for 2 µs removes items that SAFE_N alone was showing. -/
def execSafeNHigh (s : State) : Host.Outcome State Fault Refusal := finish s (doSafeHigh s)

/-- TEST_RESET (R32). JTAG_TRST_N low holds the test access port in reset. -/
def execTestReset (s : State) : Host.Outcome State Fault Refusal := finish s (doTestReset s)

/-- DOMAIN_RESET_INSTANT (R42). At the reset instant the node darkens the drive, flushes to MRAM and resets as a warm
reset. -/
def execDomainResetInstant (s : State) : Host.Outcome State Fault Refusal := finish s (doDomainReset s)

/-- RAIL_SOFT_START_DONE (R253). The LED rail reaches regulation after soft-start. -/
def execRailSoftStartDone (s : State) : Host.Outcome State Fault Refusal := finish s (doSoftStart s)

/-- VLED_DISCHARGED (R253). The LED rail finishes ramping down. -/
def execVledDischarged (s : State) : Host.Outcome State Fault Refusal := finish s (doDischarged s)

/-- OFF_FLUSH_DONE (R235). The ledger and settings flush on the way into OFF ends. -/
def execOffFlushDone (s : State) : Host.Outcome State Fault Refusal := finish s (doOffFlush s)

/-- THERMAL_MODEL_UPDATE (R383). Every 1 ms the thermal model and sensor votes update. -/
def execThermalModelUpdate (sample : ThermalSample) (s : State) : Host.Outcome State Fault Refusal :=
  finish s (doThermal sample s)

/-- THROTTLE_STEP (R386). Each STEP_S in Throttle lowers the dim gain or gates another pixel lane. -/
def execThrottleStep (s : State) : Host.Outcome State Fault Refusal := finish s (doThrottleStep s)

/-- DEEP_PARK_EXIT_DONE (R159). Lanes leave deep park and a waiting transition can complete. -/
def execDeepParkExitDone (s : State) : Host.Outcome State Fault Refusal := finish s (doDeepParkExit s)

/-- RESET_RELEASE (R426). A power-on reset or brown-out is released when VAON rises through 1.7 V with POR_N high, or
POR_N is released; PWR_RST_CAUSE records it and the node starts in OFF. -/
def execResetRelease (s : State) : Host.Outcome State Fault Refusal := finish s (doResetRelease s)

/-- EMERGENCY_OFF_RELEASE (R51). POWER_OFF_N returning high while WAKE is already high takes the node from OFF into
BOOT. -/
def execEmergencyOffRelease (s : State) : Host.Outcome State Fault Refusal := finish s (doEmergencyRelease s)

end Sys2Proof.Machine
end

