-- ==== Sys2Proof/Machine/RegisterRows.lean ====
section
/-! DEFINITION. Meanings of rows of spec/opcode_table.json: the register accesses that have a row of their own, and every other register write. -/

namespace Sys2Proof.Machine

/-- SRC_GMODE_WRITE (R53). A write of a source group's GMODE, refused while an enabled source uses the group. -/
def execSrcGmodeWrite (group : Fin 2) (v : Value) (s : State) : Host.Outcome State Fault Refusal :=
  finish s (doGmodeWrite group.val v s)

/-- GMODE_TAKE_EFFECT (R53). A new group mode takes effect and the group's lanes retrain. -/
def execGmodeTakeEffect (group : Fin 2) (s : State) : Host.Outcome State Fault Refusal := finish s (doGmodeTake group.val s)

/-- SRC_HREADY_WRITE (R66). A host doorbell naming a buffer with a complete frame starts, holds or is ignored. -/
def execSrcHreadyWrite (n : SrcId) (v : Value) (s : State) : Host.Outcome State Fault Refusal :=
  finish s (doHready n.val v s)

/-- HELD_DOORBELL_FETCH (R66). A held host-source doorbell starts its fetch after the fetch in progress ends. -/
def execHeldDoorbellFetch (n : SrcId) (s : State) : Host.Outcome State Fault Refusal := finish s (doHeldBell n.val s)

/-- SRC_LUT_SWAP (R74). SRC_LUT_CTL.SWAP makes a TF table or SLUT shadow active at the next tick, or refuses a SLUT
swap. -/
def execSrcLutSwap (v : Value) (s : State) : Host.Outcome State Fault Refusal := finish s (doLutSwap v s)

/-- SRC_LUT_DATA_ACCESS (R71). An access of SRC_LUT_DATA reads or writes a shadow entry and advances INDEX. -/
def execSrcLutDataAccess (w : Option Value) (s : State) : Host.Outcome State Fault Refusal := finish s (doLutData w s)

/-- CMP_PLANE_ORDER_WRITE (R90). A register write of the plane order, ignored unless a permutation. -/
def execCmpPlaneOrderWrite (v : Value) (s : State) : Host.Outcome State Fault Refusal := finish s (doPlaneOrderWrite v s)

/-- CMP_FILT_SWAP (R98). CMP_FILT_CTL.SWAP makes a filter set shadow active at the next tick. -/
def execCmpFiltSwap (v : Value) (s : State) : Host.Outcome State Fault Refusal := finish s (doFiltSwap v s)

/-- CMP_FILT_DATA_ACCESS (R98). An access of CMP_FILT_DATA reads or writes a shadow coefficient and advances INDEX. -/
def execCmpFiltDataAccess (w : Option Value) (s : State) : Host.Outcome State Fault Refusal := finish s (doFiltData w s)

/-- CMP_WLUT_SWAP (R109). CMP_WLUT_CTL.SWAP makes a wire table shadow active at the next tick if non-decreasing. -/
def execCmpWlutSwap (v : Value) (s : State) : Host.Outcome State Fault Refusal := finish s (doWlutSwap v s)

/-- CMP_WLUT_DATA_ACCESS (R108). An access of CMP_WLUT_DATA reads or writes a shadow wire-table entry and advances
INDEX. -/
def execCmpWlutDataAccess (w : Option Value) (s : State) : Host.Outcome State Fault Refusal := finish s (doWlutData w s)

/-- CMP_INK_INVAL (R117). CMP_INK_CTL.INVAL clears every Inkwell tag at the next tick. -/
def execCmpInkInval (v : Value) (s : State) : Host.Outcome State Fault Refusal := finish s (doInkInval v s)

/-- CMP_RUNAHEAD_WRITE (R128). A write of ADV, ignored with RA_ERR when it breaks the lead rule. -/
def execCmpRunaheadWrite (v : Value) (s : State) : Host.Outcome State Fault Refusal := finish s (doRunahead v s)

/-- SWAP_ARM (R166). LNK_LANE_CFG.SWAP_ARM requests a calibration of a working receive lane. -/
def execSwapArm (p : Port) (v : Value) (s : State) : Host.Outcome State Fault Refusal :=
  finish s (doRegisterWrite (Reg.LNK_LANE_CFG p.val) v (.quill false) s)

/-- LNK_ESC_RELEASE (R195). LNK_ESC_CTL.RELEASE returns an Isolated port to Counting. -/
def execLnkEscRelease (p : Port) (v : Value) (s : State) : Host.Outcome State Fault Refusal :=
  finish s (doRegisterWrite (Reg.LNK_ESC_CTL p.val) v (.quill false) s)

/-- LNK_PRBS_START (R173). A write of LNK_PHY_PRBS starts a generator or checker, refused on a traffic lane. -/
def execLnkPrbsStart (p : Port) (m : PhyLane) (v : Value) (s : State) : Host.Outcome State Fault Refusal :=
  finish s (doRegisterWrite (Reg.LNK_PHY_PRBS p.val m.val) v (.quill false) s)

/-- EYE_SCAN_START (R174). LNK_PHY_EYE_CTL.START runs one eye measurement. -/
def execEyeScanStart (p : Port) (m : PhyLane) (v : Value) (disagreements : Nat) (s : State) : Host.Outcome State Fault Refusal :=
  finish s (doEye p.val m.val v disagreements s)

/-- TIME_DTIME_READ (R214). A read of TIME_DTIME latches FN into TIME_FN. -/
def execTimeDtimeRead (s : State) : Host.Outcome State Fault Refusal := finish s (doDtimeRead s)

/-- TIME_HT_NS_READ (R212). A read of TIME_HT_NS latches HT_SEC. -/
def execTimeHtNsRead (s : State) : Host.Outcome State Fault Refusal := finish s (doHtNsRead s)

/-- TIME_HT_NS_WRITE (R213). A write of TIME_HT_NS sets house nanoseconds at once and clears a pending second. -/
def execTimeHtNsWrite (v : Value) (s : State) : Host.Outcome State Fault Refusal :=
  finish s (doRegisterWrite Reg.TIME_HT_NS v (.quill false) s)

/-- TIME_HT_SEC_WRITE (R213). A write of TIME_HT_SEC takes effect at the next rollover or at once with IMM. -/
def execTimeHtSecWrite (v : Value) (s : State) : Host.Outcome State Fault Refusal :=
  finish s (doRegisterWrite Reg.TIME_HT_SEC v (.quill false) s)

/-- COR_AGE_NOW (R238). COR_AGE_CTL.NOW requests an ageing gain computation. -/
def execCorAgeNow (v : Value) (s : State) : Host.Outcome State Fault Refusal :=
  finish s (doRegisterWrite Reg.COR_AGE_CTL v (.quill false) s)

/-- ROW_LATCH_RELEASE (R251). A write of 1 to a DRV_ROW_LATCH bit releases a latched row. -/
def execRowLatchRelease (w : Fin 3) (v : Value) (s : State) : Host.Outcome State Fault Refusal :=
  finish s (doRegisterWrite (Reg.DRV_ROW_LATCH w.val) v (.quill false) s)

/-- MEM_BIST_START (R338). MEM_BIST_CTL.START requests an in-service self-test of a logical bank. -/
def execMemBistStart (v : Value) (path : Path) (s : State) : Host.Outcome State Fault Refusal :=
  finish s (doRegisterWrite Reg.MEM_BIST_CTL v path s)

/-- NVM_READ (R362). NVM_CMD read fills NVM_RBUF with a logical MRAM page. -/
def execNvmRead (page : BitVec 12) (path : Path) (s : State) : Host.Outcome State Fault Refusal :=
  finish s (s.viaPath path (doNvmRead page.toNat path))

/-- NVM_WRITE (R363). NVM_CMD write starts a copy-on-write page write from NVM_WBUF. -/
def execNvmWrite (page : BitVec 12) (path : Path) (failingPages : Nat) (s : State) : Host.Outcome State Fault Refusal :=
  finish s (s.viaPath path (doNvmWrite page.toNat path failingPages))

/-- NVM_WRITE_DONE (R362). An MRAM page write completes and BUSY clears. -/
def execNvmWriteDone (s : State) : Host.Outcome State Fault Refusal := finish s (doNvmDone s)

/-- ICU_SETPEND (R357). Sets a source's pending bit as if its input fired. -/
def execIcuSetpend (source : BitVec 8) (path : Path) (s : State) : Host.Outcome State Fault Refusal :=
  finish s (s.viaPath path (doSetpend source.toNat path))

/-- ICU_CLRPEND (R357). Clears a source's pending bit. -/
def execIcuClrpend (source : BitVec 8) (path : Path) (s : State) : Host.Outcome State Fault Refusal :=
  finish s (s.viaPath path (doClrpend source.toNat path))

/-- ICU_CLAIM1_READ (R356). The host's read claims the presented source for processor 1 and pushes its priority. -/
def execIcuClaim1Read (s : State) : Host.Outcome State Fault Refusal := finish s (doClaim1 s)

/-- ICU_EOI (R358). A completion write pops the priority stack or records an ICU fault. -/
def execIcuEoi (p : Fin 2) (level : BitVec 4) (s : State) : Host.Outcome State Fault Refusal :=
  finish s (doEoi p.val level.toNat s)

/-- UPD_REC_BLOCK (R381). A write of UPD_REC_CTL makes the recovery loader check and program the mailbox block. -/
def execUpdRecBlock (v : Value) (s : State) : Host.Outcome State Fault Refusal :=
  finish s (doRegisterWrite Reg.UPD_REC_CTL v (.quill false) s)

/-- PMU_TIMED_ARM (R394). PMU_TIMED_CTL.ARM schedules a start, stop or clear at a DTIME. -/
def execPmuTimedArm (v : Value) (s : State) : Host.Outcome State Fault Refusal :=
  finish s (doRegisterWrite Reg.PMU_TIMED_CTL v (.quill false) s)

/-- PMU_CNT_LO_READ (R393). A read of PMU_CNT_LO latches the counter's high part. -/
def execPmuCntLoRead (n : Fin 32) (s : State) : Host.Outcome State Fault Refusal := finish s (doCntLoRead n.val s)

/-- PMU_COUNTER_CLEAR (R393). PMU_CNT_CFG.CLEAR clears a counter. -/
def execPmuCounterClear (n : Fin 32) (v : Value) (s : State) : Host.Outcome State Fault Refusal :=
  finish s (doRegisterWrite (Reg.PMU_CNT_CFG n.val) v (.quill false) s)

/-- JRN_CI_HI_WRITE (R323). A write of JRN_CI_HI makes the host consumer index take effect. -/
def execJrnCiHiWrite (v : Value) (s : State) : Host.Outcome State Fault Refusal :=
  finish s (doRegisterWrite Reg.JRN_CI_HI v (.quill false) s)

/-- SRW_NORMAL_WORLD_WRITE (R370). A normal-world write to a register with SRW bits leaves them unchanged and is
counted. -/
def execSrwNormalWorldWrite (offset : BitVec 22) (v : Value) (path : Path) (s : State) : Host.Outcome State Fault Refusal :=
  finish s (doSrwWrite offset.toNat v path s)

/-- REGISTER_WRITE (R418). A write to any register without a row of its own, with effect per its access code. -/
def execRegisterWrite (offset : BitVec 22) (v : Value) (path : Path) (s : State) : Host.Outcome State Fault Refusal :=
  finish s (doRegisterWrite offset.toNat v path s)

end Sys2Proof.Machine
end

