-- ==== Sys2Proof/Machine/SourceRows.lean ====
section
/-! DEFINITION. Meanings of rows of spec/opcode_table.json: the sources. -/

namespace Sys2Proof.Machine

/-- SDI_LINE_RECEIVED (R57). An SDI line is CRC-checked, converted and stored. -/
def execSdiLineReceived (l : SdiLine) (s : State) : Host.Outcome State Fault Refusal := finish s (doSdiLine l s)

/-- ST2110_PACKET_RECEIVED (R64). An ST 2110 packet is filtered, merged, checked and stored or dropped. -/
def execSt2110PacketReceived (f : EthFrame) (s : State) : Host.Outcome State Fault Refusal := finish s (doSt2110 f s)

/-- SOURCE_FRAME_COMPLETE (R79). A source frame completes, is flagged, counted and signed. -/
def execSourceFrameComplete (n : SrcId) (info : FrameInfo) (s : State) : Host.Outcome State Fault Refusal :=
  finish s (doFrameComplete n.val info s)

/-- SOURCE_LOST_TIMEOUT (R80). No frame completes for LOST_TMO periods and the source is LOST. -/
def execSourceLostTimeout (n : SrcId) (s : State) : Host.Outcome State Fault Refusal := finish s (doLostTimeout n.val s)

/-- HOST_FRAME_FETCHED (R66). The last byte of a host-source frame has been fetched. -/
def execHostFrameFetched (n : SrcId) (rows : List (List RawPixel)) (mem : HostMem) (s : State) : Host.Outcome State Fault Refusal :=
  finish s (doHostFrame n.val rows mem s)

end Sys2Proof.Machine
end

