-- ==== Sys2Proof/Machine/TimeRows.lean ====
section
/-! DEFINITION. Meanings of rows of spec/opcode_table.json: domain time, its references, and the tick. -/

namespace Sys2Proof.Machine

/-- SYNC_PPS_EDGE (R211). A PPS edge sets HT_NS to 0 and disciplines the master's tick phase. -/
def execSyncPpsEdge (wait : Nat) (s : State) : Host.Outcome State Fault Refusal := finish s (doPpsEdge wait s)

/-- SYNC_H_EDGE (R209). A SYNC_H edge places the master's tick start, slewing or re-phasing. -/
def execSyncHEdge (wait : Nat) (frac : Byte) (s : State) : Host.Outcome State Fault Refusal := finish s (doHEdge wait frac.toNat s)

/-- REFERENCE_LOST (R210). Three missing or misplaced edges make the reference lost and the master holds frequency. -/
def execReferenceLost (s : State) : Host.Outcome State Fault Refusal := finish s (doReferenceLost s)

/-- TICK_START (R23). At each tick start the node increments FN, rebases the schedule and applies changes due at the
tick. -/
def execTickStart (s : State) : Host.Outcome State Fault Refusal := finish s (doTickStart s)

/-- DTIME_WRAP (R214). DTIME wraps and TIME_INT.WRAP is set. -/
def execDtimeWrap (s : State) : Host.Outcome State Fault Refusal := finish s (doDtimeWrap s)

/-- HOUSE_SECOND_ROLLOVER (R213). HT_NS rolls over and HT_SEC advances or takes a pending value. -/
def execHouseSecondRollover (s : State) : Host.Outcome State Fault Refusal := finish s (doHouseRollover s)

/-- TIME_SYNC_RECEIVED (R203). A SYNC gives a time sample and may change master or parent. -/
def execTimeSyncReceived (p : Rx) (stamp : Word) (stampFr : Byte) (s : State) : Host.Outcome State Fault Refusal :=
  finish s (doTimeSync p stamp stampFr s)

/-- TIME_DREQ_RECEIVED (R201). A DREQ is answered with DRESP. -/
def execTimeDreqReceived (p : Rx) (stamp : Word) (stampFr : Byte) (s : State) : Host.Outcome State Fault Refusal :=
  finish s (doTimeDreq p stamp stampFr s)

/-- TIME_DRESP_RECEIVED (R201). A DRESP updates the averaged link delay. -/
def execTimeDrespReceived (p : Rx) (stamp : Word) (stampFr : Byte) (s : State) : Host.Outcome State Fault Refusal :=
  finish s (doTimeDresp p stamp stampFr s)

/-- SYNC_BEACON (R200). Every 1 ms a node with a master sends SYNC on each up port. -/
def execSyncBeacon (s : State) : Host.Outcome State Fault Refusal := finish s (doSyncBeacon s)

/-- DREQ_TIMER (R201). Every 1 ms a node sends DREQ on each port. -/
def execDreqTimer (s : State) : Host.Outcome State Fault Refusal := finish s (doDreqTimer s)

/-- MASTER_TIMEOUT (R205). No SYNC for MASTER_TMO; the node holds over or a candidate becomes master. -/
def execMasterTimeout (s : State) : Host.Outcome State Fault Refusal := finish s (doMasterTimeout s)

end Sys2Proof.Machine
end

