-- ==== Sys2Proof/Machine/UnitRows.lean ====
section
/-! DEFINITION. Meanings of rows of spec/opcode_table.json: monitors, updates, Quill, memory and the DRAM controller. -/

namespace Sys2Proof.Machine

/-- BANK_CLEAR_DONE (R337). The clear of a powered-up bank ends and the owner's reads proceed. -/
def execBankClearDone (bank : Fin 16) (s : State) : Host.Outcome State Fault Refusal := finish s (doBankClear bank.val s)

/-- SNAP_RECEIVED (R395). A SNAP is queued until TSNAP or reported late. -/
def execSnapReceived (p : Rx) (s : State) : Host.Outcome State Fault Refusal := finish s (doSnap p s)

/-- SNAPSHOT_INSTANT (R395). At TSNAP the selected counters are copied into PMU_SNAPBUF. -/
def execSnapshotInstant (s : State) : Host.Outcome State Fault Refusal := finish s (doSnapInstant s)

/-- UPD_RECEIVED (R376). A node checks a UPD block, stages it and passes it on. -/
def execUpdReceived (p : Rx) (s : State) : Host.Outcome State Fault Refusal := finish s (doUpd p s)

/-- UPD_BLOCK_PROGRAMMED (R376). A staged block is programmed into the target slot and NEXT advances. -/
def execUpdBlockProgrammed (s : State) : Host.Outcome State Fault Refusal := finish s (doProgrammed s)

/-- UPD_SEND_GAP (R375). After GAP the head originates the next queued UPD on a port. -/
def execUpdSendGap (port : Port) (s : State) : Host.Outcome State Fault Refusal := finish s (doSendGap port.val s)

/-- UPD_ERASE_DONE (R374). Target-slot erasure ends and the node replies to UPD_BEGIN. -/
def execUpdEraseDone (s : State) : Host.Outcome State Fault Refusal := finish s (doEraseDone s)

/-- UPD_VERIFY_DONE (R377). A node finishes checking its target slot and replies. -/
def execUpdVerifyDone (s : State) : Host.Outcome State Fault Refusal := finish s (doVerifyDone s)

/-- UPD_GATHER_TIMEOUT (R374). UPD_CFG.TMO ends and the head sends CMD_DONE. -/
def execUpdGatherTimeout (s : State) : Host.Outcome State Fault Refusal := finish s (doUpdGatherTimeout s)

/-- ACTIVATION_INSTANT (R378). At the first tick start after ACT_DTIME Quill restarts on the target slot. -/
def execActivationInstant (s : State) : Host.Outcome State Fault Refusal := finish s (doActivation s)

/-- TRIAL_WATCHDOG_EXPIRY (R380). An unconfirmed trial expires and the node reverts. -/
def execTrialWatchdogExpiry (s : State) : Host.Outcome State Fault Refusal := finish s (doTrialExpiry s)

/-- RECOVERY_IMAGE_DONE (R381). The recovery loader verifies slot A, sets ACTIVE and warm resets. -/
def execRecoveryImageDone (s : State) : Host.Outcome State Fault Refusal := finish s (doRecoveryDone s)

/-- QUILL_LOCKSTEP_MISMATCH (R351). The lockstep cores disagree, stop and start a checkpoint restart. -/
def execQuillLockstepMismatch (cycles : Word) (s : State) : Host.Outcome State Fault Refusal :=
  finish s (doLockstep cycles s)

/-- QUILL_RESTART_DONE (R352). Quill reloads, restores its checkpoint and resumes. -/
def execQuillRestartDone (slot0Ok : Bool) (slot1Ok : Bool) (facts : RestartFacts) (s : State) :
    Host.Outcome State Fault Refusal :=
  finish s (doRestartDone slot0Ok slot1Ok facts.helperCrcOk facts.settings s)

/-- INTERRUPT_CLAIM (R356). The ICU presents the best qualifying source and Quill claims it. -/
def execInterruptClaim (s : State) : Host.Outcome State Fault Refusal := finish s (doInterruptClaim s)

/-- QUILL_WAKE (R360). A pending Quill source wakes Quill from sleep. -/
def execQuillWake (masked : Bool) (s : State) : Host.Outcome State Fault Refusal := finish s (doQuillWake masked s)

/-- FAULT_HANDLING_END (R401). Handling ends, entering the hold state if FATAL or nested. -/
def execFaultHandlingEnd (s : State) : Host.Outcome State Fault Refusal := finish s (doFaultEnd s)

/-- BIST_COPY_DONE (R338). The copy of a bank to the spare completes. -/
def execBistCopyDone (errors : List SramError) (s : State) : Host.Outcome State Fault Refusal :=
  finish s (doBistCopy errors s)

/-- BANK_MAP_SWITCH (R338). At the tick boundary after the copy the bank map points at the spare. -/
def execBankMapSwitch (s : State) : Host.Outcome State Fault Refusal := finish s (doBankSwitch s)

/-- BIST_DONE (R340). BIST ends and the bank becomes the spare or is retired. -/
def execBistDone (passed : Bool) (s : State) : Host.Outcome State Fault Refusal := finish s (doBistDone passed s)

/-- COPPICE_RETRY (R390). A request refused for a busy unit is made again when the unit's work ends. -/
def execCoppiceRetry (kind : Fin 9) (s : State) : Host.Outcome State Fault Refusal := finish s (doCoppiceRetry kind.val s)

/-- DMC_TRAINING_DONE (R341). DRAM training ends, passed or failed. -/
def execDmcTrainingDone (failed : BitVec 2) (s : State) : Host.Outcome State Fault Refusal := finish s (doTraining failed s)

/-- DRAM_REFRESH (R344). Same-bank refresh keeps each bank within the refresh interval. -/
def execDramRefresh (sub : Fin 4) (refresh : BankRefresh) (s : State) : Host.Outcome State Fault Refusal :=
  finish s (doRefresh sub.val refresh.bank.val refresh.hot refresh.drift s)

/-- DRAM_SELF_REFRESH_ENTRY (R345). An idle channel enters self-refresh after DMC_SR_IDLE clocks. -/
def execDramSelfRefreshEntry (channel : Fin 2) (s : State) : Host.Outcome State Fault Refusal :=
  finish s (doSelfRefresh channel.val s)

/-- DRAM_SCRUB (R349). Scrubbing reads every location once per period. -/
def execDramScrub (address : BitVec 36) (symbolErrors : Nat) (s : State) : Host.Outcome State Fault Refusal :=
  finish s (doScrub address.toNat symbolErrors s)

/-- DRAM_ROW_REPAIR (R350). A row with too many corrected bursts is repaired. -/
def execDramRowRepair (address : BitVec 36) (resourceLeft : Bool) (s : State) : Host.Outcome State Fault Refusal :=
  finish s (doRowRepair address.toNat resourceLeft s)

/-- PMU_TIMED_ACTION (R394). At the armed DTIME the action applies to the masked counters. -/
def execPmuTimedAction (s : State) : Host.Outcome State Fault Refusal := finish s (doTimedAction s)

end Sys2Proof.Machine
end

