-- ==== Sys2Proof/Machine/Dispatch.lean ====
section
/-! DEFINITION. Which meaning each command has: one arm per constructor of `Instr`. -/

namespace Sys2Proof.Machine

-- each arm is one direct call of the meaning of its row
def exec (i : Instr) (s : State) : Host.Outcome State Fault Refusal :=
  match i with
  | .nop c => Sys2Proof.Machine.execNop c s
  | .echo c => Sys2Proof.Machine.execEcho c s
  | .getInfo c => Sys2Proof.Machine.execGetInfo c s
  | .clientOpen c => Sys2Proof.Machine.execClientOpen c s
  | .clientClose c => Sys2Proof.Machine.execClientClose c s
  | .clientGrant c => Sys2Proof.Machine.execClientGrant c s
  | .keyInstall c => Sys2Proof.Machine.execKeyInstall c s
  | .srcDefine c => Sys2Proof.Machine.execSrcDefine c s
  | .srcEnable c => Sys2Proof.Machine.execSrcEnable c s
  | .srcStatus c => Sys2Proof.Machine.execSrcStatus c s
  | .srcWatch c => Sys2Proof.Machine.execSrcWatch c s
  | .winCreate c => Sys2Proof.Machine.execWinCreate c s
  | .winModify c => Sys2Proof.Machine.execWinModify c s
  | .winDelete c => Sys2Proof.Machine.execWinDelete c s
  | .winBatch c => Sys2Proof.Machine.execWinBatch c s
  | .planeOrder c => Sys2Proof.Machine.execPlaneOrder c s
  | .domEnumerate c => Sys2Proof.Machine.execDomEnumerate c s
  | .tilePlace c => Sys2Proof.Machine.execTilePlace c s
  | .tileQuery c => Sys2Proof.Machine.execTileQuery c s
  | .domBarrier c => Sys2Proof.Machine.execDomBarrier c s
  | .domSnapshot c => Sys2Proof.Machine.execDomSnapshot c s
  | .domReset c => Sys2Proof.Machine.execDomReset c s
  | .nodePeek c => Sys2Proof.Machine.execNodePeek c s
  | .nodePoke c => Sys2Proof.Machine.execNodePoke c s
  | .corLoad c => Sys2Proof.Machine.execCorLoad c s
  | .corCommit c => Sys2Proof.Machine.execCorCommit c s
  | .lampTest c => Sys2Proof.Machine.execLampTest c s
  | .wallGain c => Sys2Proof.Machine.execWallGain c s
  | .ageingCtl c => Sys2Proof.Machine.execAgeingCtl c s
  | .houseTime c => Sys2Proof.Machine.execHouseTime c s
  | .tickConfig c => Sys2Proof.Machine.execTickConfig c s
  | .leadSet c => Sys2Proof.Machine.execLeadSet c s
  | .redPair c => Sys2Proof.Machine.execRedPair c s
  | .redSwitch c => Sys2Proof.Machine.execRedSwitch c s
  | .redResync c => Sys2Proof.Machine.execRedResync c s
  | .redTile c => Sys2Proof.Machine.execRedTile c s
  | .privetLoad c => Sys2Proof.Machine.execPrivetLoad c s
  | .privetShow c => Sys2Proof.Machine.execPrivetShow c s
  | .privetHide c => Sys2Proof.Machine.execPrivetHide c s
  | .jrnConfig c => Sys2Proof.Machine.execJrnConfig c s
  | .jrnStart c => Sys2Proof.Machine.execJrnStart c s
  | .jrnStop c => Sys2Proof.Machine.execJrnStop c s
  | .jrnReplay c => Sys2Proof.Machine.execJrnReplay c s
  | .updBegin c => Sys2Proof.Machine.execUpdBegin c s
  | .updBlock c => Sys2Proof.Machine.execUpdBlock c s
  | .updVerify c => Sys2Proof.Machine.execUpdVerify c s
  | .updActivate c => Sys2Proof.Machine.execUpdActivate c s
  | .updConfirm c => Sys2Proof.Machine.execUpdConfirm c s
  | .pmuConfig c => Sys2Proof.Machine.execPmuConfig c s
  | .pmuRead c => Sys2Proof.Machine.execPmuRead c s
  | .blotRead c => Sys2Proof.Machine.execBlotRead c s
  | .selftest c => Sys2Proof.Machine.execSelftest c s
  | .linkEye c => Sys2Proof.Machine.execLinkEye c s
  | .customerOpcode opcode c => Sys2Proof.Machine.execCustomerOpcode opcode c s
  | .ringCommandTaken client words mem => Sys2Proof.Machine.execRingCommandTaken client words mem s
  | .localCommand words => Sys2Proof.Machine.execLocalCommand words s
  | .cmdPacketReceived p => Sys2Proof.Machine.execCmdPacketReceived p s
  | .rplReceived p => Sys2Proof.Machine.execRplReceived p s
  | .commandTimeout client tag => Sys2Proof.Machine.execCommandTimeout client tag s
  | .broadcastGatherTimeout client tag => Sys2Proof.Machine.execBroadcastGatherTimeout client tag s
  | .stagedReplyWrite client mem => Sys2Proof.Machine.execStagedReplyWrite client mem s
  | .pwrReqOff path => Sys2Proof.Machine.execPwrReqOff path s
  | .pwrReqReady path => Sys2Proof.Machine.execPwrReqReady path s
  | .pwrReqActive path => Sys2Proof.Machine.execPwrReqActive path s
  | .pwrReqDim path => Sys2Proof.Machine.execPwrReqDim path s
  | .pwrReqPark path => Sys2Proof.Machine.execPwrReqPark path s
  | .pwrReqInvalid path req => Sys2Proof.Machine.execPwrReqInvalid path req s
  | .queuedRequestStart => Sys2Proof.Machine.execQueuedRequestStart s
  | .warmReset key => Sys2Proof.Machine.execWarmReset key s
  | .srcGmodeWrite group v => Sys2Proof.Machine.execSrcGmodeWrite group v s
  | .gmodeTakeEffect group => Sys2Proof.Machine.execGmodeTakeEffect group s
  | .srcHreadyWrite n v => Sys2Proof.Machine.execSrcHreadyWrite n v s
  | .heldDoorbellFetch n => Sys2Proof.Machine.execHeldDoorbellFetch n s
  | .srcLutSwap v => Sys2Proof.Machine.execSrcLutSwap v s
  | .srcLutDataAccess w => Sys2Proof.Machine.execSrcLutDataAccess w s
  | .cmpPlaneOrderWrite v => Sys2Proof.Machine.execCmpPlaneOrderWrite v s
  | .cmpFiltSwap v => Sys2Proof.Machine.execCmpFiltSwap v s
  | .cmpFiltDataAccess w => Sys2Proof.Machine.execCmpFiltDataAccess w s
  | .cmpWlutSwap v => Sys2Proof.Machine.execCmpWlutSwap v s
  | .cmpWlutDataAccess w => Sys2Proof.Machine.execCmpWlutDataAccess w s
  | .cmpInkInval v => Sys2Proof.Machine.execCmpInkInval v s
  | .cmpRunaheadWrite v => Sys2Proof.Machine.execCmpRunaheadWrite v s
  | .swapArm p v => Sys2Proof.Machine.execSwapArm p v s
  | .lnkEscRelease p v => Sys2Proof.Machine.execLnkEscRelease p v s
  | .lnkPrbsStart p m v => Sys2Proof.Machine.execLnkPrbsStart p m v s
  | .eyeScanStart p m v disagreements => Sys2Proof.Machine.execEyeScanStart p m v disagreements s
  | .timeDtimeRead => Sys2Proof.Machine.execTimeDtimeRead s
  | .timeHtNsRead => Sys2Proof.Machine.execTimeHtNsRead s
  | .timeHtNsWrite v => Sys2Proof.Machine.execTimeHtNsWrite v s
  | .timeHtSecWrite v => Sys2Proof.Machine.execTimeHtSecWrite v s
  | .corAgeNow v => Sys2Proof.Machine.execCorAgeNow v s
  | .rowLatchRelease w v => Sys2Proof.Machine.execRowLatchRelease w v s
  | .memBistStart v path => Sys2Proof.Machine.execMemBistStart v path s
  | .nvmRead page path => Sys2Proof.Machine.execNvmRead page path s
  | .nvmWrite page path failingPages => Sys2Proof.Machine.execNvmWrite page path failingPages s
  | .nvmWriteDone => Sys2Proof.Machine.execNvmWriteDone s
  | .icuSetpend source path => Sys2Proof.Machine.execIcuSetpend source path s
  | .icuClrpend source path => Sys2Proof.Machine.execIcuClrpend source path s
  | .icuClaim1Read => Sys2Proof.Machine.execIcuClaim1Read s
  | .icuEoi p level => Sys2Proof.Machine.execIcuEoi p level s
  | .xltInvalidate v => Sys2Proof.Machine.execXltInvalidate v s
  | .channelResume ch v => Sys2Proof.Machine.execChannelResume ch v s
  | .ringEnable v => Sys2Proof.Machine.execRingEnable v s
  | .ringReset v => Sys2Proof.Machine.execRingReset v s
  | .doorbellWrite client dword0 dword1 => Sys2Proof.Machine.execDoorbellWrite client dword0 dword1 s
  | .mailboxWrite index v => Sys2Proof.Machine.execMailboxWrite index v s
  | .updRecBlock v => Sys2Proof.Machine.execUpdRecBlock v s
  | .pmuTimedArm v => Sys2Proof.Machine.execPmuTimedArm v s
  | .pmuCntLoRead n => Sys2Proof.Machine.execPmuCntLoRead n s
  | .pmuCounterClear n v => Sys2Proof.Machine.execPmuCounterClear n v s
  | .jrnCiHiWrite v => Sys2Proof.Machine.execJrnCiHiWrite v s
  | .barBadSizeAccess write => Sys2Proof.Machine.execBarBadSizeAccess write s
  | .srwNormalWorldWrite offset v path => Sys2Proof.Machine.execSrwNormalWorldWrite offset v path s
  | .registerWrite offset v path => Sys2Proof.Machine.execRegisterWrite offset v path s
  | .powerOnReset porLowUs vaonBelow1V => Sys2Proof.Machine.execPowerOnReset porLowUs vaonBelow1V s
  | .brownOut durationNs vaonBelow1V => Sys2Proof.Machine.execBrownOut durationNs vaonBelow1V s
  | .railFailure rail => Sys2Proof.Machine.execRailFailure rail s
  | .railsGood rails => Sys2Proof.Machine.execRailsGood rails s
  | .railTimeout => Sys2Proof.Machine.execRailTimeout s
  | .wake stays => Sys2Proof.Machine.execWake stays s
  | .linkActivityWake p => Sys2Proof.Machine.execLinkActivityWake p s
  | .sramClearDone => Sys2Proof.Machine.execSramClearDone s
  | .strapSampling samples => Sys2Proof.Machine.execStrapSampling samples s
  | .firmwareStart facts => Sys2Proof.Machine.execFirmwareStart facts s
  | .emergencyOff => Sys2Proof.Machine.execEmergencyOff s
  | .thermalShutdown => Sys2Proof.Machine.execThermalShutdown s
  | .safeNLow => Sys2Proof.Machine.execSafeNLow s
  | .safeNHigh => Sys2Proof.Machine.execSafeNHigh s
  | .pcieReset => Sys2Proof.Machine.execPcieReset s
  | .functionLevelReset => Sys2Proof.Machine.execFunctionLevelReset s
  | .busMasterEnableChange enabled => Sys2Proof.Machine.execBusMasterEnableChange enabled s
  | .testReset => Sys2Proof.Machine.execTestReset s
  | .domainResetInstant => Sys2Proof.Machine.execDomainResetInstant s
  | .syncPpsEdge wait => Sys2Proof.Machine.execSyncPpsEdge wait s
  | .syncHEdge wait frac => Sys2Proof.Machine.execSyncHEdge wait frac s
  | .referenceLost => Sys2Proof.Machine.execReferenceLost s
  | .tickStart => Sys2Proof.Machine.execTickStart s
  | .bankClearDone bank => Sys2Proof.Machine.execBankClearDone bank s
  | .composeStart => Sys2Proof.Machine.execComposeStart s
  | .journalRoomReturn => Sys2Proof.Machine.execJournalRoomReturn s
  | .patchComposed tile patch lane spareDiffers ends => Sys2Proof.Machine.execPatchComposed tile patch lane spareDiffers ends s
  | .pushDeadline port unfinished => Sys2Proof.Machine.execPushDeadline port unfinished s
  | .patchReceived p => Sys2Proof.Machine.execPatchReceived p s
  | .sealReceived p => Sys2Proof.Machine.execSealReceived p s
  | .voidReceived p => Sys2Proof.Machine.execVoidReceived p s
  | .commitDecision => Sys2Proof.Machine.execCommitDecision s
  | .showFrame => Sys2Proof.Machine.execShowFrame s
  | .pipelineRun => Sys2Proof.Machine.execPipelineRun s
  | .pipelineRunEnd => Sys2Proof.Machine.execPipelineRunEnd s
  | .subframeStart sub checks => Sys2Proof.Machine.execSubframeStart sub checks s
  | .rowSlot sub row pipelineStalled => Sys2Proof.Machine.execRowSlot sub row pipelineStalled s
  | .deadTime use => Sys2Proof.Machine.execDeadTime use s
  | .rowOvercurrentTrip row => Sys2Proof.Machine.execRowOvercurrentTrip row s
  | .scanPeriodEnd checks => Sys2Proof.Machine.execScanPeriodEnd checks s
  | .trimSweepStart => Sys2Proof.Machine.execTrimSweepStart s
  | .trimSweepEnd => Sys2Proof.Machine.execTrimSweepEnd s
  | .phaseShareWindow averages => Sys2Proof.Machine.execPhaseShareWindow averages s
  | .adcConversion raw => Sys2Proof.Machine.execAdcConversion raw s
  | .railSoftStartDone => Sys2Proof.Machine.execRailSoftStartDone s
  | .vledDischarged => Sys2Proof.Machine.execVledDischarged s
  | .offFlushDone => Sys2Proof.Machine.execOffFlushDone s
  | .ledgerFlush => Sys2Proof.Machine.execLedgerFlush s
  | .ageingPeriod => Sys2Proof.Machine.execAgeingPeriod s
  | .ageingGainDone => Sys2Proof.Machine.execAgeingGainDone s
  | .dtimeWrap => Sys2Proof.Machine.execDtimeWrap s
  | .houseSecondRollover => Sys2Proof.Machine.execHouseSecondRollover s
  | .thermalModelUpdate sample => Sys2Proof.Machine.execThermalModelUpdate sample s
  | .throttleStep => Sys2Proof.Machine.execThrottleStep s
  | .sdiLineReceived l => Sys2Proof.Machine.execSdiLineReceived l s
  | .st2110PacketReceived f => Sys2Proof.Machine.execSt2110PacketReceived f s
  | .sourceFrameComplete n info => Sys2Proof.Machine.execSourceFrameComplete n info s
  | .sourceLostTimeout n => Sys2Proof.Machine.execSourceLostTimeout n s
  | .hostFrameFetched n rows mem => Sys2Proof.Machine.execHostFrameFetched n rows mem s
  | .codewordReceived p m cw => Sys2Proof.Machine.execCodewordReceived p m cw s
  | .nackResendTimeout p k => Sys2Proof.Machine.execNackResendTimeout p k s
  | .resync p k reason => Sys2Proof.Machine.execResync p k reason s
  | .laneSwap p m k fn => Sys2Proof.Machine.execLaneSwap p m k fn s
  | .idleEnter p => Sys2Proof.Machine.execIdleEnter p s
  | .calReq p lane abandon => Sys2Proof.Machine.execCalReq p lane abandon s
  | .calReady p lane => Sys2Proof.Machine.execCalReady p lane s
  | .hello p version trained rxMap capLow capHigh stamp => Sys2Proof.Machine.execHello p version trained rxMap capLow capHigh stamp s
  | .fastIdleEntry p => Sys2Proof.Machine.execFastIdleEntry p s
  | .fastIdleExit p => Sys2Proof.Machine.execFastIdleExit p s
  | .fastIdleWake p burstSeen codewordOk => Sys2Proof.Machine.execFastIdleWake p burstSeen codewordOk s
  | .signalDetect p trains => Sys2Proof.Machine.execSignalDetect p trains s
  | .bringUpTimeout p => Sys2Proof.Machine.execBringUpTimeout p s
  | .laneFailure p m => Sys2Proof.Machine.execLaneFailure p m s
  | .standInTrained p => Sys2Proof.Machine.execStandInTrained p s
  | .calibrationPeriod p => Sys2Proof.Machine.execCalibrationPeriod p s
  | .calibrationQueuedStart p => Sys2Proof.Machine.execCalibrationQueuedStart p s
  | .spareTrained p => Sys2Proof.Machine.execSpareTrained p s
  | .calibrationSwapTick p => Sys2Proof.Machine.execCalibrationSwapTick p s
  | .calibrationSweepDone p ctle dfe phase errors => Sys2Proof.Machine.execCalibrationSweepDone p ctle dfe phase errors s
  | .deepParkExitDone => Sys2Proof.Machine.execDeepParkExitDone s
  | .packetForward p => Sys2Proof.Machine.execPacketForward p s
  | .escalationInterval => Sys2Proof.Machine.execEscalationInterval s
  | .timeSyncReceived p stamp stampFr => Sys2Proof.Machine.execTimeSyncReceived p stamp stampFr s
  | .timeDreqReceived p stamp stampFr => Sys2Proof.Machine.execTimeDreqReceived p stamp stampFr s
  | .timeDrespReceived p stamp stampFr => Sys2Proof.Machine.execTimeDrespReceived p stamp stampFr s
  | .syncBeacon => Sys2Proof.Machine.execSyncBeacon s
  | .dreqTimer => Sys2Proof.Machine.execDreqTimer s
  | .masterTimeout => Sys2Proof.Machine.execMasterTimeout s
  | .barReqReceived p => Sys2Proof.Machine.execBarReqReceived p s
  | .barArriveReceived p => Sys2Proof.Machine.execBarArriveReceived p s
  | .snapReceived p => Sys2Proof.Machine.execSnapReceived p s
  | .snapshotInstant => Sys2Proof.Machine.execSnapshotInstant s
  | .evtReceived p => Sys2Proof.Machine.execEvtReceived p s
  | .testPacketReceived p => Sys2Proof.Machine.execTestPacketReceived p s
  | .walkReceived p => Sys2Proof.Machine.execWalkReceived p s
  | .returnReceived p => Sys2Proof.Machine.execReturnReceived p s
  | .walkReturnTimeout port => Sys2Proof.Machine.execWalkReturnTimeout port s
  | .reportReceived p => Sys2Proof.Machine.execReportReceived p s
  | .learnWalkStart => Sys2Proof.Machine.execLearnWalkStart s
  | .keyxReceived p => Sys2Proof.Machine.execKeyxReceived p s
  | .keyackReceived p => Sys2Proof.Machine.execKeyackReceived p s
  | .keyAgreementRetry port => Sys2Proof.Machine.execKeyAgreementRetry port s
  | .keyRollover port => Sys2Proof.Machine.execKeyRollover port s
  | .newKeySwitch port => Sys2Proof.Machine.execNewKeySwitch port s
  | .mirrorCmdReceived p => Sys2Proof.Machine.execMirrorCmdReceived p s
  | .mirrorTableReceived p => Sys2Proof.Machine.execMirrorTableReceived p s
  | .snapendReceived p => Sys2Proof.Machine.execSnapendReceived p s
  | .resyncApply => Sys2Proof.Machine.execResyncApply s
  | .heartbeatTimer => Sys2Proof.Machine.execHeartbeatTimer s
  | .heartbeatReceived p => Sys2Proof.Machine.execHeartbeatReceived p s
  | .heartbeatTimeout => Sys2Proof.Machine.execHeartbeatTimeout s
  | .mirrorAckReceived p => Sys2Proof.Machine.execMirrorAckReceived p s
  | .resyncReqReceived p => Sys2Proof.Machine.execResyncReqReceived p s
  | .relinquishReceived p => Sys2Proof.Machine.execRelinquishReceived p s
  | .roleTakeoverTick => Sys2Proof.Machine.execRoleTakeoverTick s
  | .privetCmdReceived p => Sys2Proof.Machine.execPrivetCmdReceived p s
  | .privetDataReceived p => Sys2Proof.Machine.execPrivetDataReceived p s
  | .privetEndReceived p => Sys2Proof.Machine.execPrivetEndReceived p s
  | .updReceived p => Sys2Proof.Machine.execUpdReceived p s
  | .updBlockProgrammed => Sys2Proof.Machine.execUpdBlockProgrammed s
  | .updSendGap port => Sys2Proof.Machine.execUpdSendGap port s
  | .updEraseDone => Sys2Proof.Machine.execUpdEraseDone s
  | .updVerifyDone => Sys2Proof.Machine.execUpdVerifyDone s
  | .updGatherTimeout => Sys2Proof.Machine.execUpdGatherTimeout s
  | .activationInstant => Sys2Proof.Machine.execActivationInstant s
  | .trialWatchdogExpiry => Sys2Proof.Machine.execTrialWatchdogExpiry s
  | .recoveryImageDone => Sys2Proof.Machine.execRecoveryImageDone s
  | .quillLockstepMismatch cycles => Sys2Proof.Machine.execQuillLockstepMismatch cycles s
  | .quillRestartDone slot0Ok slot1Ok facts => Sys2Proof.Machine.execQuillRestartDone slot0Ok slot1Ok facts s
  | .userCommandTimeout => Sys2Proof.Machine.execUserCommandTimeout s
  | .interruptClaim => Sys2Proof.Machine.execInterruptClaim s
  | .quillWake masked => Sys2Proof.Machine.execQuillWake masked s
  | .faultHandlingEnd => Sys2Proof.Machine.execFaultHandlingEnd s
  | .bistCopyDone errors => Sys2Proof.Machine.execBistCopyDone errors s
  | .bankMapSwitch => Sys2Proof.Machine.execBankMapSwitch s
  | .bistDone passed => Sys2Proof.Machine.execBistDone passed s
  | .coppiceRetry kind => Sys2Proof.Machine.execCoppiceRetry kind s
  | .dmcTrainingDone failed => Sys2Proof.Machine.execDmcTrainingDone failed s
  | .dramRefresh sub refresh => Sys2Proof.Machine.execDramRefresh sub refresh s
  | .dramSelfRefreshEntry channel => Sys2Proof.Machine.execDramSelfRefreshEntry channel s
  | .dramScrub address symbolErrors => Sys2Proof.Machine.execDramScrub address symbolErrors s
  | .dramRowRepair address resourceLeft => Sys2Proof.Machine.execDramRowRepair address resourceLeft s
  | .jrnSnapTimer => Sys2Proof.Machine.execJrnSnapTimer s
  | .nvmeCompletion device status => Sys2Proof.Machine.execNvmeCompletion device status s
  | .pmuTimedAction => Sys2Proof.Machine.execPmuTimedAction s
  | .resetRelease => Sys2Proof.Machine.execResetRelease s
  | .emergencyOffRelease => Sys2Proof.Machine.execEmergencyOffRelease s
  | .ringHoldoffEnd client => Sys2Proof.Machine.execRingHoldoffEnd client s
  | .xltInvalidateDone => Sys2Proof.Machine.execXltInvalidateDone s
  | .barrierTimeout => Sys2Proof.Machine.execBarrierTimeout s

end Sys2Proof.Machine
end

