-- ==== Sys2Proof/Safety.lean ====
section
/-! DEFINITION. The terms in which claims about the node are made: a run that stops nowhere, the canonical form of the
sparse stores, the command an opcode row carries, a command that has passed the checks of R289, and a packet that has
passed those of R175 to R189. -/

namespace Sys2Proof.Machine

/-- A step that answers a next state. Every step of this machine does: no command of the table lacks an effect. -/
def Goes (s : State) : Prop := ∃ t, step s = .next t

/-- A run of `n` steps that stops nowhere. -/
def RunsSafe (s : State) (n : Nat) : Prop := ∃ t, Host.Core.run Sys2Proof.core n s = .next t

/-- The register space is in its canonical form: offsets strictly rising, none listed at its reset value. -/
def State.regsWf (s : State) : Bool := SMap.wf resetReg s.regs

/-- The opcode and the command of a row that is an opcode of the command set. -/
def commandOf (i : Instr) : Option (Nat × Cmd) :=
  match i with
  | .nop c => some (opNOP, c)
  | .echo c => some (opECHO, c)
  | .getInfo c => some (opGET_INFO, c)
  | .clientOpen c => some (opCLIENT_OPEN, c)
  | .clientClose c => some (opCLIENT_CLOSE, c)
  | .clientGrant c => some (opCLIENT_GRANT, c)
  | .keyInstall c => some (opKEY_INSTALL, c)
  | .srcDefine c => some (opSRC_DEFINE, c)
  | .srcEnable c => some (opSRC_ENABLE, c)
  | .srcStatus c => some (opSRC_STATUS, c)
  | .srcWatch c => some (opSRC_WATCH, c)
  | .winCreate c => some (opWIN_CREATE, c)
  | .winModify c => some (opWIN_MODIFY, c)
  | .winDelete c => some (opWIN_DELETE, c)
  | .winBatch c => some (opWIN_BATCH, c)
  | .planeOrder c => some (opPLANE_ORDER, c)
  | .domEnumerate c => some (opDOM_ENUMERATE, c)
  | .tilePlace c => some (opTILE_PLACE, c)
  | .tileQuery c => some (opTILE_QUERY, c)
  | .domBarrier c => some (opDOM_BARRIER, c)
  | .domSnapshot c => some (opDOM_SNAPSHOT, c)
  | .domReset c => some (opDOM_RESET, c)
  | .nodePeek c => some (opNODE_PEEK, c)
  | .nodePoke c => some (opNODE_POKE, c)
  | .corLoad c => some (opCOR_LOAD, c)
  | .corCommit c => some (opCOR_COMMIT, c)
  | .lampTest c => some (opLAMP_TEST, c)
  | .wallGain c => some (opWALL_GAIN, c)
  | .ageingCtl c => some (opAGEING_CTL, c)
  | .houseTime c => some (opHOUSE_TIME, c)
  | .tickConfig c => some (opTICK_CONFIG, c)
  | .leadSet c => some (opLEAD_SET, c)
  | .redPair c => some (opRED_PAIR, c)
  | .redSwitch c => some (opRED_SWITCH, c)
  | .redResync c => some (opRED_RESYNC, c)
  | .redTile c => some (opRED_TILE, c)
  | .privetLoad c => some (opPRIVET_LOAD, c)
  | .privetShow c => some (opPRIVET_SHOW, c)
  | .privetHide c => some (opPRIVET_HIDE, c)
  | .jrnConfig c => some (opJRN_CONFIG, c)
  | .jrnStart c => some (opJRN_START, c)
  | .jrnStop c => some (opJRN_STOP, c)
  | .jrnReplay c => some (opJRN_REPLAY, c)
  | .updBegin c => some (opUPD_BEGIN, c)
  | .updBlock c => some (opUPD_BLOCK, c)
  | .updVerify c => some (opUPD_VERIFY, c)
  | .updActivate c => some (opUPD_ACTIVATE, c)
  | .updConfirm c => some (opUPD_CONFIRM, c)
  | .pmuConfig c => some (opPMU_CONFIG, c)
  | .pmuRead c => some (opPMU_READ, c)
  | .blotRead c => some (opBLOT_READ, c)
  | .selftest c => some (opSELFTEST, c)
  | .linkEye c => some (opLINK_EYE, c)
  | .customerOpcode opcode c => some (0x7000 + opcode.toNat, c)
  | _ => none

/-- A command has passed the first six checks of R289 at this node: it is taken, no mode answers BUSY, its form, its
target, its client and its authentication are right. `t` is the node with the client's sequence recorded. -/
structure Passes (s : State) (op : Nat) (o : OpRow) (c : Cmd) (t : State) : Prop where
  takes  : s.takes c = true
  busy   : s.busyNow op c = false
  place  : ¬(op = opTILE_PLACE ∧ s.role = .tile ∧ c.route ≠ .localPort)
  form   : s.formStatus op c = stOK
  row    : opRow op = some o
  owner  : s.ownerOk op o c = true
  auth   : s.authOk op o c = (true, t)
  secure : t.secureOnly op c (t.toSelf c || decide (c.target = 0xFFFF)) = false

/-- The node `t`, at which a command has passed the first six checks of R289, carries it out at once: the command is for
this node, immediate or at a DTIME, and its parameters and the state of the node allow it (steps 7, 8 and 10). -/
structure ActsNow (s : State) (op : Nat) (o : OpRow) (c : Cmd) (t : State) : Prop where
  passes  : Passes s op o c t
  here    : t.toSelf c = true
  now     : o.acts ≠ .tick
  instant : (match c.route with | .broash _ _ => false | _ => t.instantBad op c) = false
  fits    : t.nowCheck op c = stOK

/-- A command as it is carried out: one taken here has the words filled in that the head chooses (R199, R299). -/
def State.madeReady (t : State) (op : Nat) (c : Cmd) : Cmd :=
  match c.route with
  | .broash _ _ => c
  | _ => t.filled op c t.clk.fn

/-- The node once it has accepted an immediate command (R266, R289, R327): counted, mirrored to a partner when a ring gave
it, and noted for the journal. A ring's UPD_BEGIN and UPD_VERIFY are then answered PENDING (R374), and a ring's DOM_RESET has
gone out to every node (R187). -/
def State.acceptedNow (t : State) (op : Nat) (o : OpRow) (c : Cmd) : State :=
  let u := t.tallyOf 0x040 4 c.client.toNat
  let d := u.madeReady op c
  let u := (u.mirrorRing op d u.clk.fn).noteNow op o d
  let u := if updLong op && decide (c.route = .ring) then u.reply c stPENDING false u.clk.fn [] else u
  if op = opDOM_RESET ∧ c.route = .ring then u.sendCmd 0xFFFF op d else u

/-- The head `t`, at which a T command has passed the first six checks of R289, accepts it for tick `g`: the command came
from a ring and is for this head, it names a tick it may name, and the checks from 7 on find nothing against it. -/
structure AcceptsTick (s : State) (op : Nat) (o : OpRow) (c : Cmd) (t : State) (g : Word) (late moved : Bool) : Prop where
  passes : Passes s op o c t
  ring   : c.route = .ring
  here   : t.toSelf c = true
  tick   : o.acts = .tick
  near   : t.tooFar c = false
  chosen : t.headTick op c = (g, late, moved)
  params : paramBad op c.params = false
  fits   : ((t.withoutRivals op c g).tickStatus op c g).1 = stOK
  room   : t.queueFull c = false
  alone  : t.rivals op c g = []
  budget : (t.resourceOf op c g).1 = 0

/-- The head once it has counted an accepted T command; a moved one is counted as such too (R131). -/
def State.countedTick (t : State) (c : Cmd) (moved : Bool) : State :=
  let u := t.tallyOf 0x040 4 c.client.toNat
  if moved then (u.count Fld.CMP_LATECMD_COUNT).tallyOf 0x044 4 c.client.toNat else u

/-- A node with a command more waiting for its tick or frame (R300). -/
def State.waitsFor (t : State) (a : Accepted) : State :=
  { t with cmds := { t.cmds with accepted := t.cmds.accepted ++ [a] } }

/-- The node `t` accepts a T command from its LOCAL port or a CMD for frame `g` (R132). -/
structure AcceptsFrame (s : State) (op : Nat) (o : OpRow) (c : Cmd) (t : State) (g : Word) (late : Bool) : Prop where
  passes : Passes s op o c t
  route  : c.route ≠ .ring
  here   : t.toSelf c = true
  tick   : o.acts = .tick
  near   : t.tooFar c = false
  chosen : t.nodeTick c = (g, late)
  params : paramBad op c.params = false
  fits   : t.role = .tile → t.tileStatus op c = stOK

/-- A packet that reaches its own meaning: its header and its CRC pass, its tag or its payload is accepted, and this node
consumes it (R175 to R189). Answers its body and the node that then acts on it: counters and windows updated, and the
copy that goes on to others sent. -/
def State.taken (s : State) (x : Rx) : Option (List Word × State) :=
  match s.letIn x with
  | (true, false, s) =>
    if tagged x.type.toNat then
      match s.tagCheck x with
      | .ok =>
        let s := (s.takeOrig x).passOn x x.body false
        if s.consumes x then some (x.body, s) else none
      | _ => none
    else if x.type.toNat = tyPATCH then
      match s.openPatch x with
      | .ok b =>
        let s := (s.dropOldKey x).passOn x b false
        if s.consumes x then some (b, s) else none
      | .error _ => none
    else
      let s := s.passOn x x.body false
      if s.consumes x then some (x.body, s) else none
  | _ => none

/-- A MIRROR of kind `kind` from the partner with a new MSEQ (R268): its body, the words of its content and the head that
then acts on it. -/
def State.mirrored (s : State) (x : Rx) (kind : Nat) : Option (List Word × State) :=
  match s.taken x with
  | some (b, s) =>
    if s.paired ∧ x.src = s.partner ∧ wbits (nth b 0) 31 24 = kind ∧ x.type.toNat = tyMIRROR then
      match s.mirrorIn (nth b 1).toNat with
      | (true, s) => some ((b.take (b.length - 6)).drop 2, s)
      | _ => none
    else none
  | none => none

end Sys2Proof.Machine
end

