-- ==== Sys2Proof/Certificates/Slice0/Obligations.lean ====
section
/-! DEFINITION. The statements about the node that the provers prove: the queue and the reset, the commands of the command
set, the registers, the packets, and what the events of every unit do. -/

open Sys2Proof Sys2Proof.Machine

/-- A step is `exec` of the command at the front of the queue, on the state with the rest of the queue. What an empty queue does is the model's choice (assumption 1). -/
def Obligations.StepRunsFrontCommand : Prop :=
  (∀ (c : Instr) (rest : List Instr) (s : State), s.pending = c :: rest → step s = exec c { s with pending := rest }) ∧
  (∀ s : State, s.pending = [] → s.powered = true → step s = .next (s.elapse 1)) ∧
  (∀ s : State, s.pending = [] → s.powered = false → step s = .next s)

/-- No command stops the node, and none touches the commands that wait. -/
def Obligations.EveryCommandCompletes : Prop :=
  (∀ (i : Instr) (s : State), ∃ u, exec i s = .next (after s u) ∧ (after s u).pending = s.pending) ∧
  (∀ s : State, Goes s)

/-- The queue is first in, first out, and no run stops. -/
def Obligations.QueueIsServedInOrder : Prop :=
  (∀ (l r : List Instr) (s : State), s.pending = l ++ r →
    ∃ t, Host.Core.run Sys2Proof.core l.length s = .next t ∧ t.pending = r) ∧
  (∀ (c : Instr) (l r : List Instr) (s t : State), s.pending = c :: (l ++ r) → exec c { s with pending := l ++ r } = .next t →
    Host.Core.run Sys2Proof.core (l.length + 1) s = Host.Core.run Sys2Proof.core l.length t)

/-- The frame of `after`, which every statement below about a command's next state uses. Beside what the rules say it rests on choices of the model: log entries 36, 52. -/
def Obligations.CalmNodeSettlesAlone : Prop :=
  (∀ s u : State, u.quiet = true → u.lanesSettle.pci = false → after s u = { u.lanesSettle with pending := s.pending }) ∧
  (∀ s u : State, u.quiet = true → u.lanesSettle.pci = true →
    let v := u.lanesSettle
    (v.icuPresented 1 = v.icu.presented1 → after s u = { v with pending := s.pending }) ∧
    (∃ (sent : Bool) (pba : List Nat) (out : List Out), after s u = { v with
      icu := { v.icu with presented1 := v.icuPresented 1, sent1 := sent }
      host := { v.host with pba := pba }
      out := out
      pending := s.pending })) ∧
  (∀ u : State, (∀ p, p < 4 → u.laneSends p 0 = false ∧ u.laneSends p 1 = false ∧ u.get (Fld.LNK_CAL_STAT_STEP p) ≠ 2) →
    u.lanesSettle = u)

/-- Fields of the register space are independent of one another. -/
def Obligations.RegisterFieldWrites : Prop :=
  (∀ (s : State) (f : Fld) (v : Nat), f.lo ≤ f.hi → f.hi < 32 → (s.put f v).get f = v % 2 ^ f.width) ∧
  (∀ (s : State) (f g : Fld) (v : Nat), f.lo ≤ f.hi → f.hi < 32 → g.lo ≤ g.hi → g.hi < 32 →
    g.off ≠ f.off ∨ g.hi < f.lo ∨ f.hi < g.lo → (s.put f v).get g = s.get g) ∧
  (∀ (s : State) (f : Fld) (v x : Nat), x ≠ f.off → (s.put f v).word x = s.word x) ∧
  (∀ (s : State) (f : Fld) (v : Nat), s.put f v = { s with regs := (s.put f v).regs })

/-- Equal register contents are equal data (a property of the model's own form of the register space). -/
def Obligations.RegisterSpaceStaysCanonical : Prop :=
  State.reset.regsWf = true ∧
  (∀ (s : State) (x : Nat) (v : Word), s.regsWf = true → (s.setWord x v).regsWf = true) ∧
  (∀ (s : State) (f : Fld) (v n : Nat), s.regsWf = true →
    (s.put f v).regsWf = true ∧ (s.raise f).regsWf = true ∧ (s.count f n).regsWf = true) ∧
  (∀ (s t : State), s.regsWf = true → t.regsWf = true → (∀ x, s.word x = t.word x) → s.regs = t.regs)

/-- The reset values are those of the register maps; NVM_POOL is assumption 60. -/
def Obligations.ResetStateIsAsSpecified : Prop :=
  State.reset.pending = [] ∧ State.reset.pwr.state = .off ∧ State.reset.pwr.trans = none ∧ State.reset.drive.dark = true ∧
  State.reset.clk.dtime = 0 ∧ State.reset.clk.fn = 0 ∧
  (∀ x, x ≠ Reg.PWR_RST_CAUSE → x ≠ Reg.NVM_POOL → State.reset.word x = resetReg x) ∧
  State.reset.word Reg.PWR_RST_CAUSE = 1 ∧ State.reset.get Fld.NVM_POOL_FREE = 128 ∧
  State.reset.get Fld.SYS_BLOT_CFG_RATE = 64 ∧ State.reset.get Fld.SYS_BLOT_CFG_EVTMIN = 1 ∧
  State.reset.get Fld.THM_CFG_WARN = 100 ∧ State.reset.get Fld.THM_CFG_THROT = 108 ∧ State.reset.get Fld.THM_CFG_HYST = 5 ∧
  State.reset.get Fld.THM_THROT_CFG_START = 0x6000 ∧ State.reset.get Fld.UPD_CFG_TMO = 90 ∧
  State.reset.get Fld.UPD_CFG_WDOG = 10 ∧ State.reset.get Fld.UPD_CFG_GAP = 4000 ∧
  State.reset.get Fld.PMU_INT_EN_EN = 5 ∧ State.reset.get Fld.CPC_CFG_BANK_CORR = 16

/-- The table's rows have no bits (assumption 2). -/
def Obligations.NoWordSpellsACommand : Prop :=
  (∀ nbits w : Nat, decodeTableWord nbits w = none) ∧
  (∀ (s : State) (nbits w : Nat), s.withFetchWord nbits w = s)

/-- Laying a command out in words and reading the words agree: no bit of a command packet is dropped. -/
def Obligations.CommandWordsRoundTrip : Prop :=
  ∀ (op : Nat) (c : Cmd) (more : List Word), op < 2 ^ 16 → c.params.length < 2 ^ 12 →
    parseCmd c.route (cmdWords op c ++ more) = (op, c) ∧
    (cmdWords op c).length = cmdLength c ∧ announced (cmdWords op c ++ more) = cmdLength c

/-- R196, for every pair of counts. -/
def Obligations.CountsCompareCyclically : Prop :=
  (∀ a b : Word, (a = b ↔ (a - b).toNat = 0) ∧
    (later a b = true ↔ 1 ≤ (a - b).toNat ∧ (a - b).toNat ≤ 2 ^ 31 - 1) ∧
    (earlier a b = true ↔ 2 ^ 31 ≤ (a - b).toNat ∧ (a - b).toNat ≤ 2 ^ 32 - 1)) ∧
  (∀ a b : Word, (a = b ∧ later a b = false ∧ earlier a b = false) ∨ (a ≠ b ∧ later a b = true ∧ earlier a b = false) ∨
    (a ≠ b ∧ later a b = false ∧ earlier a b = true)) ∧
  (∀ a b : Word, later a b = true → earlier b a = true) ∧
  (∀ a : Word, earlier (a + BitVec.ofNat 32 (2 ^ 31)) a = true)

/-- DTIME, the node's timer and house time count the same nanoseconds. -/
def Obligations.TimePassesAsCounted : Prop :=
  (∀ (s : State) (n : Nat), (s.elapse n).clk.dtime = s.clk.dtime + wd n ∧ (s.elapse n).clk.upNs = s.clk.upNs + n ∧
    (s.elapse n).clk.fn = s.clk.fn ∧ (s.elapse n).clk.htNs = (s.clk.htNs + n) % 1000000000) ∧
  (∀ (s : State) (n : Nat), s.clk.htPend = none → s.houseNs + n < 2 ^ 32 * 1000000000 → (s.elapse n).houseNs = s.houseNs + n) ∧
  (∀ (s : State) (n : Nat) (v : Word), s.clk.htPend = some v → 1000000000 ≤ s.clk.htNs + n → s.clk.htNs + n < 2000000000 →
    (s.elapse n).clk.htSec = v ∧ (s.elapse n).clk.htPend = none) ∧
  (∀ (s : State) (n : Nat), s.clk.htNs + n < 1000000000 →
    (s.elapse n).clk.htSec = s.clk.htSec ∧ (s.elapse n).clk.htPend = s.clk.htPend)

/-- Overflow of the counters of the performance monitor. -/
def Obligations.CounterWrapsPast48Bits : Prop :=
  ∀ (s : State) (n a : Nat), n < 32 → s.pmu.cnt.length = 32 →
    (s.pmuAdd n a).pmu.cnt.getD n 0 = (s.pmu.cnt.getD n 0 + a) % 2 ^ 48 ∧
    (∀ m, m ≠ n → (s.pmuAdd n a).pmu.cnt.getD m 0 = s.pmu.cnt.getD m 0) ∧
    (2 ^ 48 ≤ s.pmu.cnt.getD n 0 + a → (s.pmuAdd n a).get ⟨Reg.PMU_OVF, n, n⟩ = 1 ∧ (s.pmuAdd n a).get Fld.PMU_INT_OVF = 1) ∧
    (s.pmu.cnt.getD n 0 + a < 2 ^ 48 → (s.pmuAdd n a).regs = s.regs)

/-- R355: the three conditions, and the order among several sources. -/
def Obligations.IcuPresentsTheBestSource : Prop :=
  (∀ (s : State) (p n : Nat), s.icuQualifies p n = true ↔
    s.icuPend n = true ∧ s.bit (Fld.ICU_SRC_EN n) = true ∧ s.get (Fld.ICU_SRC_TGT n) = p ∧
    s.get (Fld.ICU_THR_THR p) < s.get (Fld.ICU_SRC_PRIO n) ∧ (s.icuStack p).headD 0 < s.get (Fld.ICU_SRC_PRIO n)) ∧
  (∀ (s : State) (p : Nat), s.icuPresented p = none ↔ ∀ n, n < 256 → s.icuQualifies p n = false) ∧
  (∀ (s : State) (p n : Nat), s.icuPresented p = some n → n < 256 ∧ s.icuQualifies p n = true ∧
    ∀ m, m < 256 → s.icuQualifies p m = true →
      s.get (Fld.ICU_SRC_PRIO m) < s.get (Fld.ICU_SRC_PRIO n) ∨
      (s.get (Fld.ICU_SRC_PRIO m) = s.get (Fld.ICU_SRC_PRIO n) ∧ n ≤ m))

/-- The stacks stay rising, so 15 entries are enough (R358). -/
def Obligations.PriorityStackRises : Prop :=
  let rising (l : List Nat) : Prop := l.Pairwise (fun a b => b < a) ∧ ∀ a ∈ l, 1 ≤ a ∧ a ≤ 15
  (rising (State.reset.icuStack 0) ∧ rising (State.reset.icuStack 1)) ∧
  (∀ (s : State) (n : Nat) (p : Fin 2), rising (s.icuStack 0) → rising (s.icuStack 1) → s.icuPresented p = some n →
    rising ((s.icuClaim p n).icuStack 0) ∧ rising ((s.icuClaim p n).icuStack 1)) ∧
  (∀ (s : State) (p : Fin 2) (lv : Nat), rising (s.icuStack 0) → rising (s.icuStack 1) →
    rising ((s.icuEoi p lv).icuStack 0) ∧ rising ((s.icuEoi p lv).icuStack 1)) ∧
  (∀ l : List Nat, rising l → l.length ≤ 15)

/-- What the commands that only report answer. Beside what the rules say it rests on a choice of the model: log entry 58. -/
def Obligations.InformationCommandsReply : Prop :=
  (∀ (s t : State) (o : OpRow) (c : Cmd), ActsNow s opNOP o c t →
    let a := t.acceptedNow opNOP o c
    exec (.nop c) s = .next (after s (a.answer opNOP c stOK false a.clk.fn []))) ∧
  (∀ (s t : State) (o : OpRow) (c : Cmd), ActsNow s opECHO o c t →
    let a := t.acceptedNow opECHO o c
    exec (.echo c) s = .next (after s (a.answer opECHO c stOK false a.clk.fn c.params))) ∧
  (∀ (s t : State) (o : OpRow) (c : Cmd), ActsNow s opGET_INFO o c t →
    let a := t.acceptedNow opGET_INFO o c
    exec (.getInfo c) s = .next (after s (a.answer opGET_INFO c stOK false a.clk.fn (a.info c.params)))) ∧
  (∀ (s t : State) (o : OpRow) (c : Cmd), ActsNow s opNODE_PEEK o c t →
    let a := t.acceptedNow opNODE_PEEK o c
    let r := a.readSpan (.poke (cmdIssuer c)) (nth c.params 0).toNat (nth c.params 1).toNat
    exec (.nodePeek c) s = .next (after s (r.2.answer opNODE_PEEK c stOK false r.2.clk.fn r.1))) ∧
  (∀ (s t : State) (o : OpRow) (c : Cmd), ActsNow s opPMU_READ o c t →
    let a := t.acceptedNow opPMU_READ o c
    exec (.pmuRead c) s = .next (after s (a.answer opPMU_READ c stOK false a.clk.fn a.pmuWords))) ∧
  (∀ (s t : State) (o : OpRow) (c : Cmd), ActsNow s opBLOT_READ o c t →
    let u := t.acceptedNow opBLOT_READ o c
    let a := if wbits (nth c.params 0) 0 0 = 0 then u.readBank 13 else u
    exec (.blotRead c) s = .next (after s (a.answer opBLOT_READ c stOK false a.clk.fn (a.blotWords c.params))))

/-- What the commands that change the node at once do. Beside what the rules say it rests on choices of the model: log entries 25, 45, 46, 71. -/
def Obligations.NodeSettingCommandsAct : Prop :=
  (∀ (s t : State) (o : OpRow) (c : Cmd), ActsNow s opNODE_POKE o c t →
    let a := (t.acceptedNow opNODE_POKE o c).writeSpan (.poke (cmdIssuer c)) (nth c.params 0).toNat (c.params.drop 2)
    exec (.nodePoke c) s = .next (after s (a.answer opNODE_POKE c stOK false a.clk.fn []))) ∧
  (∀ (s t : State) (o : OpRow) (c : Cmd), ActsNow s opCOR_LOAD o c t →
    let a := (t.acceptedNow opCOR_LOAD o c).applyCorLoad c.params
    exec (.corLoad c) s = .next (after s (a.answer opCOR_LOAD c stOK false a.clk.fn []))) ∧
  (∀ (s t : State) (o : OpRow) (c : Cmd), ActsNow s opHOUSE_TIME o c t →
    let a := (t.acceptedNow opHOUSE_TIME o c).applyHouse c.params
    exec (.houseTime c) s = .next (after s (a.answer opHOUSE_TIME c stOK false a.clk.fn []))) ∧
  (∀ (s t : State) (o : OpRow) (c : Cmd), ActsNow s opPMU_CONFIG o c t →
    let a := (t.acceptedNow opPMU_CONFIG o c).applyPmu c.params
    exec (.pmuConfig c) s = .next (after s (a.answer opPMU_CONFIG c stOK false a.clk.fn []))) ∧
  (∀ (s t : State) (o : OpRow) (c : Cmd), ActsNow s opKEY_INSTALL o c t →
    let a := (t.acceptedNow opKEY_INSTALL o c).applyKey c.params
    exec (.keyInstall c) s = .next (after s (a.answer opKEY_INSTALL c stOK false a.clk.fn []))) ∧
  (∀ (s t : State) (o : OpRow) (c : Cmd), ActsNow s opDOM_RESET o c t →
    let d := (t.tallyOf 0x040 4 c.client.toNat).madeReady opDOM_RESET c
    let u := t.acceptedNow opDOM_RESET o c
    let a := { u with pwr := { u.pwr with domReset := some (nth d.params 0) } }
    exec (.domReset c) s = .next (after s (a.answer opDOM_RESET d stOK false a.clk.fn [nth d.params 0])))

/-- What the update commands do at a node. Beside what the rules say it rests on choices of the model: log entries 70, 81. -/
def Obligations.UpdateCommandsAct : Prop :=
  (∀ (s t : State) (o : OpRow) (c : Cmd), ActsNow s opUPD_BEGIN o c t →
    exec (.updBegin c) s = .next (after s ((t.acceptedNow opUPD_BEGIN o c).applyBegin c))) ∧
  (∀ (s t : State) (o : OpRow) (c : Cmd), ActsNow s opUPD_VERIFY o c t →
    let a := t.acceptedNow opUPD_VERIFY o c
    exec (.updVerify c) s = .next (after s { a with upd := { a.upd with
      record := { a.upd.record with verified := false }, verifying := some c } })) ∧
  (∀ (s t : State) (o : OpRow) (c : Cmd), ActsNow s opUPD_BLOCK o c t →
    exec (.updBlock c) s = .next (after s ((t.acceptedNow opUPD_BLOCK o c).applyBlock c))) ∧
  (∀ (s t : State) (o : OpRow) (c : Cmd), ActsNow s opUPD_ACTIVATE o c t →
    let u := t.acceptedNow opUPD_ACTIVATE o c
    let a := { u with upd := { u.upd with record := { u.upd.record with
      pending := true, actAt := nth c.params 1, trials := 1 } } }
    exec (.updActivate c) s = .next (after s (a.answer opUPD_ACTIVATE c stOK false a.clk.fn []))) ∧
  (∀ (s t : State) (o : OpRow) (c : Cmd), ActsNow s opUPD_CONFIRM o c t →
    let u := t.acceptedNow opUPD_CONFIRM o c
    let a := u.applyConfirm
    exec (.updConfirm c) s = .next (after s (a.answer opUPD_CONFIRM c stOK false a.clk.fn [])) ∧
    a.upd.record.active = 1 - u.upd.record.active ∧ a.upd.record.pending = false ∧ a.upd.record.trials = 0 ∧
    a.upd.record.isOpen = false ∧
    a.upd.record.minSvn = max u.upd.record.minSvn (hSvn (u.flashBlock (1 - u.upd.record.active) 0)))

/-- What the test commands and the customer commands do; the values found are free (assumption 5). Beside what the rules say it rests on choices of the model: log entries 76, 79. -/
def Obligations.TestCommandsRun : Prop :=
  (∀ (s t : State) (o : OpRow) (c : Cmd), ActsNow s opSELFTEST o c t →
    exec (.selftest c) s = .next (after s (((t.acceptedNow opSELFTEST o c).answerPending opSELFTEST c).startSelftest
      ⟨opSELFTEST, c.client, c.tag, c.route⟩ (nth c.params 0)))) ∧
  (∀ (s t : State) (o : OpRow) (c : Cmd), ActsNow s opLINK_EYE o c t →
    let r := ((t.acceptedNow opLINK_EYE o c).answerPending opLINK_EYE c).runEye c.params
    exec (.linkEye c) s = .next (after s (r.2.cmdDone ⟨opLINK_EYE, c.client, c.tag, c.route⟩ stOK r.1)) ∧
    r.1.length = ((eyeGrid c.params).getD []).length) ∧
  (∀ (s t : State) (o : OpRow) (k : BitVec 12) (c : Cmd), ActsNow s (0x7000 + k.toNat) o c t →
    exec (.customerOpcode k c) s = .next (after s ((t.acceptedNow (0x7000 + k.toNat) o c).runUser (0x7000 + k.toNat) c)))

/-- What the immediate commands on head objects do. Beside what the rules say it rests on choices of the model: log entries 88, 106. -/
def Obligations.HeadObjectCommandsAct : Prop :=
  (∀ (s t : State) (o : OpRow) (c : Cmd), ActsNow s opCLIENT_OPEN o c t →
    let a := (t.acceptedNow opCLIENT_OPEN o c).setClient (clientArg c.params) (clientOf c.params)
    exec (.clientOpen c) s = .next (after s (a.answer opCLIENT_OPEN c stOK false a.clk.fn []))) ∧
  (∀ (s t : State) (o : OpRow) (c : Cmd), ActsNow s opSRC_DEFINE o c t →
    let a := (t.acceptedNow opSRC_DEFINE o c).applyDefine c.client c.params
    exec (.srcDefine c) s = .next (after s (a.answer opSRC_DEFINE c stOK false a.clk.fn []))) ∧
  (∀ (s t : State) (o : OpRow) (c : Cmd), ActsNow s opSRC_STATUS o c t →
    let a := t.acceptedNow opSRC_STATUS o c
    let n := wbits (nth c.params 0) 5 0
    exec (.srcStatus c) s = .next (after s (a.answer opSRC_STATUS c stOK false a.clk.fn
      [a.peekReg false (Reg.SRC_STAT n), a.peekReg false (Reg.SRC_FCNT n), a.peekReg false (Reg.SRC_SIG n),
       a.peekReg false (Reg.SRC_RANGECNT n), a.peekReg false (Reg.SRC_SYNCCNT n), a.peekReg false (Reg.SRC_ERRCNT n),
       a.peekReg false (Reg.SRC_RTPOFS n)]))) ∧
  (∀ (s t : State) (o : OpRow) (c : Cmd), ActsNow s opSRC_WATCH o c t →
    let a := (t.acceptedNow opSRC_WATCH o c).applyWatch c.client (nth c.params 0)
    exec (.srcWatch c) s = .next (after s (a.answer opSRC_WATCH c stOK false a.clk.fn []))) ∧
  (∀ (s t : State) (o : OpRow) (c : Cmd), ActsNow s opTILE_QUERY o c t →
    let a := t.acceptedNow opTILE_QUERY o c
    exec (.tileQuery c) s = .next (after s (a.answer opTILE_QUERY c stOK false a.clk.fn ((a.queryOf (nth c.params 0)).getD [])))) ∧
  (∀ (s t : State) (o : OpRow) (c : Cmd), ActsNow s opJRN_CONFIG o c t →
    let a := (t.acceptedNow opJRN_CONFIG o c).jrnConfigure c.params
    exec (.jrnConfig c) s = .next (after s (a.answer opJRN_CONFIG c stOK false a.clk.fn [])))

/-- What the commands do that set a head or its domain to work. Beside what the rules say it rests on choices of the model: log entries 22, 25, 49. -/
def Obligations.DomainCommandsStartTheirWork : Prop :=
  (∀ (s t : State) (o : OpRow) (c : Cmd), ActsNow s opDOM_ENUMERATE o c t →
    exec (.domEnumerate c) s = .next (after s ((t.acceptedNow opDOM_ENUMERATE o c).enumerate
      (decide (wbits (nth c.params 0) 16 16 = 0)) ((List.range 4).filter (fun i => decide (wbits (nth c.params 0) i i = 1)))
      (c.params.drop 1) c))) ∧
  (∀ (s t : State) (o : OpRow) (c : Cmd), ActsNow s opDOM_BARRIER o c t →
    exec (.domBarrier c) s = .next (after s ((t.acceptedNow opDOM_BARRIER o c).startBarrier c))) ∧
  (∀ (s t : State) (o : OpRow) (c : Cmd), ActsNow s opDOM_SNAPSHOT o c t →
    let d := (t.tallyOf 0x040 4 c.client.toNat).madeReady opDOM_SNAPSHOT c
    exec (.domSnapshot c) s = .next (after s ((t.acceptedNow opDOM_SNAPSHOT o c).applySnapshot d))) ∧
  (∀ (s t : State) (o : OpRow) (c : Cmd), ActsNow s opRED_PAIR o c t →
    exec (.redPair c) s = .next (after s ((t.acceptedNow opRED_PAIR o c).applyPair c))) ∧
  (∀ (s t : State) (o : OpRow) (c : Cmd), ActsNow s opRED_RESYNC o c t →
    let a := (t.acceptedNow opRED_RESYNC o c).answerPending opRED_RESYNC c
    exec (.redResync c) s = .next (after s ({ a with cmds := { a.cmds with
      done := a.cmds.done ++ [(⟨opRED_RESYNC, c.client, c.tag, c.route⟩ : PendingDone)] } }.startResync))) ∧
  (∀ (s t : State) (o : OpRow) (c : Cmd), ActsNow s opJRN_REPLAY o c t →
    exec (.jrnReplay c) s = .next (after s (((t.acceptedNow opJRN_REPLAY o c).answerPending opJRN_REPLAY c).startReplay c false)))

/-- How a head accepts the T commands on its own objects. Beside what the rules say it rests on choices of the model: log entries 44, 64. -/
def Obligations.HeadAcceptsTickCommands : Prop :=
  (∀ (i : Instr) (op : Nat) (s t : State) (o : OpRow) (c : Cmd) (g : Word) (late moved : Bool),
    i = .clientClose c ∨ i = .clientGrant c ∨ i = .srcEnable c ∨ i = .winCreate c ∨ i = .winModify c ∨ i = .winDelete c ∨
      i = .winBatch c ∨ i = .planeOrder c ∨ i = .jrnStart c ∨ i = .jrnStop c →
    commandOf i = some (op, c) → c.target ≠ 0xFFFF → AcceptsTick s op o c t g late moved →
    let u := (t.countedTick c moved).mirror op c g
    (u.pastCompose g = false → exec i s = .next (after s (u.waitsFor ⟨op, c, g, late, false⟩))) ∧
    (u.pastCompose g = true →
      exec i s = .next (after s ((u.applyLate op c g).answer op c stOK late g []))))

/-- What the accepted commands do at their tick. Beside what the rules say it rests on choices of the model: log entries 64, 72. -/
def Obligations.AcceptedCommandsTakeEffect : Prop :=
  (∀ (s : State) (f : Word) (n : Nat), s.cmds.accepted = [] → s.applyHead f n = s) ∧
  (∀ (s : State) (a : Accepted) (f : Word) (rest : List Accepted) (n : Nat), s.cmds.accepted = a :: rest → later a.tick f = false →
    s.applyHead f (n + 1) = (({ s with cmds := { s.cmds with accepted := rest } }).applyAccepted a f).applyHead f n) ∧
  (∀ (s : State) (a : Accepted) (f : Word), (s.objStatus a.opcode a.cmd).1 = stOK → a.mirror = false →
    s.applyAccepted a f = (((s.applyObj a.opcode a.cmd f).noteCmd a.opcode a.cmd).answer a.opcode a.cmd stOK a.late f [])) ∧
  (∀ (s : State) (c : Cmd) (g : Word),
    s.applyObj opPLANE_ORDER c g = { s with comp := { s.comp with orderCmd := some (wbits (nth c.params 0) 20 0) } } ∧
    s.applyObj opCLIENT_GRANT c g = s.setClient (clientArg c.params) (clientOf c.params) ∧
    s.applyObj opCLIENT_CLOSE c g = s.applyClose (clientArg c.params) ∧
    s.applyObj opJRN_START c g = s.jrnStart ∧
    s.applyObj opSRC_ENABLE c g = s.applyEnable (nth c.params 0) ∧
    s.applyObj opTILE_PLACE c g = s.applyPlace c.params g ∧
    s.applyObj opPRIVET_SHOW c g = s.applyShow true (itemsOf (nth c.params 0) (nth c.params 1)) ∧
    s.applyObj opPRIVET_HIDE c g = s.applyShow false (itemsOf (nth c.params 0) (nth c.params 1)) ∧
    (s.jrn.replay = none → s.applyObj opJRN_STOP c g = s.put Fld.JRN_STAT_RUN 0) ∧
    (∀ r, s.jrn.replay = some r → s.applyObj opJRN_STOP c g = s.endReplay r stDISCARDED [])) ∧
  (∀ (s : State) (op : Nat) (c : Cmd) (g : Word), op ∈ [opWIN_CREATE, opWIN_MODIFY, opWIN_DELETE, opWIN_BATCH] →
    s.applyObj op c g = forEach (winEntries op c.params) (fun e s => s.applyEntry (cmdIssuer c) g e) s)

/-- How a head accepts the T commands that other nodes carry out as well. -/
def Obligations.HeadSendsTickCommandsOn : Prop :=
  (∀ (i : Instr) (op : Nat) (s t : State) (o : OpRow) (c : Cmd) (g : Word) (late moved : Bool),
    i = .tilePlace c ∨ i = .privetLoad c ∨ i = .privetShow c ∨ i = .privetHide c ∨ i = .redSwitch c ∨ i = .leadSet c ∨
      i = .tickConfig c →
    commandOf i = some (op, c) → c.target ≠ 0xFFFF → AcceptsTick s op o c t g late moved →
    let u := t.countedTick c moved
    let f := u.filled op c g
    let v := (u.mirror op f g).tickSends op f g
    (v.pastCompose g = false → exec i s = .next (after s (v.waitsFor ⟨op, f, g, late, false⟩))) ∧
    (v.pastCompose g = true → exec i s = .next (after s ((v.applyLate op f g).answer op c stOK late g [])))) ∧
  (∀ (s : State) (c : Cmd) (g : Word), s.clk.isMaster = true →
    s.tickSends opTICK_CONFIG c g = (s.onArrival opTICK_CONFIG c g).sendCmd 0xFFFF opTICK_CONFIG
      { c with atTick := true, applyTick := g }) ∧
  (∀ (s : State) (c : Cmd) (g : Word),
    s.tickSends opPRIVET_SHOW c g = s.forwardPrivet opPRIVET_SHOW c g ∧
    s.tickSends opPRIVET_HIDE c g = s.forwardPrivet opPRIVET_HIDE c g ∧
    s.tickSends opPRIVET_LOAD c g = (s.takePart c.params).forwardPrivet opPRIVET_LOAD c g ∧
    s.tickSends opTILE_PLACE c g = s.forwardPlace c g ∧
    s.tickSends opRED_SWITCH c g = s.startSwitch g ∧
    s.tickSends opLEAD_SET c g = ((s.onArrival opLEAD_SET c g).leadWaits c.params g).sendCmd 0xFFFF opLEAD_SET
      { c with atTick := true, applyTick := g })

/-- How a tile accepts and carries out the T commands that act on it. Beside what the rules say it rests on choices of the model: log entries 66, 75. -/
def Obligations.TileCommandsTakeEffectAtTheirFrame : Prop :=
  (∀ (i : Instr) (op : Nat) (s t : State) (o : OpRow) (c : Cmd) (g : Word) (late : Bool),
    i = .corCommit c ∨ i = .lampTest c ∨ i = .wallGain c ∨ i = .ageingCtl c ∨ i = .redTile c →
    commandOf i = some (op, c) → t.role = .tile → AcceptsFrame s op o c t g late →
    exec i s = .next (after s (((t.tallyOf 0x040 4 c.client.toNat).onArrival op c g).waitsFor ⟨op, c, g, late, false⟩))) ∧
  (∀ (s : State) (c : Cmd) (g : Word), s.onArrival opCOR_COMMIT c g = s ∧ s.onArrival opLAMP_TEST c g = s ∧
    s.onArrival opWALL_GAIN c g = s ∧ s.onArrival opAGEING_CTL c g = s) ∧
  (∀ (s : State) (c : Cmd) (g : Word),
    ((∀ i, i < 3 → s.tookFrom (g + 1) s.clk.fn (Reg.COR_WALL_GAIN i) = false) →
      s.applyAtNode opWALL_GAIN c g = ([], ((s.put (Fld.COR_WALL_GAIN_GAIN 0) (wbits (nth c.params 0) 15 0)).put
        (Fld.COR_WALL_GAIN_GAIN 1) (wbits (nth c.params 0) 31 16)).put (Fld.COR_WALL_GAIN_GAIN 2) (wbits (nth c.params 1) 15 0))) ∧
    s.applyAtNode opAGEING_CTL c g = ([], s.applyAgeing c.params g) ∧
    s.applyAtNode opCOR_COMMIT c g = ([], (s.commitCal (decide (wbits (nth c.params 0) 0 0 = 1)) g).trimAfresh) ∧
    (wbits (nth c.params 0) 1 0 = 0 → s.applyAtNode opLAMP_TEST c g = ([], s.maskLamps true (lampArgs c.params))) ∧
    (wbits (nth c.params 0) 1 0 = 1 → s.applyAtNode opLAMP_TEST c g = ([], s.maskLamps false (lampArgs c.params))) ∧
    (2 ≤ wbits (nth c.params 0) 1 0 → s.applyAtNode opLAMP_TEST c g = (s.flagWords (lampArgs c.params), s)) ∧
    s.applyAtNode opRED_TILE c g = ([], { s.put Fld.RED_TILE_STAT_FOLLOW (wbits (nth c.params 1) 0 0) with
      saved := { s.saved with follow := decide (wbits (nth c.params 1) 0 0 = 1) } }))

/-- The order of the checks (R289); the checks from 7 on belong to the accepting commands. Beside what the rules say it rests on a choice of the model: log entry 39. -/
def Obligations.ChecksOfACommandComeInOrder : Prop :=
  (∀ (i : Instr) (op : Nat) (s : State) (c : Cmd), commandOf i = some (op, c) → s.takes c = false → exec i s = .next (after s s)) ∧
  (∀ (i : Instr) (op : Nat) (s : State) (c : Cmd), commandOf i = some (op, c) → s.takes c = true → s.busyNow op c = true →
    exec i s = .next (after s (s.refuse c stBUSY 0 []))) ∧
  (∀ (i : Instr) (op : Nat) (s : State) (c : Cmd), commandOf i = some (op, c) → s.takes c = true → s.busyNow op c = false →
    ¬(op = opTILE_PLACE ∧ s.role = .tile ∧ c.route ≠ .localPort) →
    (4089 < cmdLength c → exec i s = .next (after s (s.refuse c stBAD_LENGTH 0 []))) ∧
    (cmdLength c ≤ 4089 → op / 4096 = 7 → s.toSelf c = true → s.bit Fld.SYS_QUILL_STAT_USER = false →
      exec i s = .next (after s (s.refuse c stBAD_OPCODE 0 []))) ∧
    (∀ o, cmdLength c ≤ 4089 → opRow op = some o → (op = opRED_TILE → ∃ src all, c.route = .broash src all) →
      (op / 4096 = 7 → s.toSelf c = true → s.bit Fld.SYS_QUILL_STAT_USER = true) →
      ((plenOk op c.params && s.bareKeyOk op c) = false → exec i s = .next (after s (s.refuse c stBAD_LENGTH 0 []))) ∧
      (plenOk op c.params = true → s.bareKeyOk op c = true →
        (s.targetOk op o c = false → exec i s = .next (after s (s.refuse c stBAD_TARGET 0 []))) ∧
        (s.targetOk op o c = true →
          (s.ownerOk op o c = false → exec i s = .next (after s (s.refuse c stNOT_OWNER 0 []))) ∧
          (s.ownerOk op o c = true →
            ((s.authOk op o c).1 = false → exec i s = .next (after s ((s.authOk op o c).2.refuse c stAUTH_FAIL 0 []))) ∧
            ((s.authOk op o c).1 = true →
              (s.authOk op o c).2.secureOnly op c ((s.authOk op o c).2.toSelf c || decide (c.target = 0xFFFF)) = true →
              exec i s = .next (after s ((s.authOk op o c).2.turnAway c stSECURE_ONLY 0 [])))))))) ∧
  (∀ (s : State) (ws : List Word), s.takes (parseCmd .localPort ws).2 = true →
    s.busyNow (parseCmd .localPort ws).1 (parseCmd .localPort ws).2 = false → cmdLength (parseCmd .localPort ws).2 ≤ 4089 →
    opRow (parseCmd .localPort ws).1 = none →
    exec (.localCommand ws) s = .next (after s (s.refuse (parseCmd .localPort ws).2 stBAD_OPCODE 0 []))) ∧
  (∀ (s : State) (c : Cmd), c.route = .localPort → s.takes c = true → s.busyNow opRED_TILE c = false → cmdLength c ≤ 4089 →
    exec (.redTile c) s = .next (after s (s.refuse c stBAD_OPCODE 0 [])))

/-- The ways a command comes to the node, and how forwarded commands end. Beside what the rules say it rests on choices of the model: log entries 39, 91. -/
def Obligations.CommandsArriveAndAreClosed : Prop :=
  (∀ (s t : State) (n : ClientId) (ws : List Word) (m : HostMem), s.ringTakes n = true →
    let r := (s.showMem m).ring n
    let len := announced ws
    len ≤ 4089 → len ≤ 2 ^ ctxLog r.cfg 0 → len ≤ (r.cmdPi - r.cmdCi).toNat → (s.showMem m).ringFetch n len = (none, t) →
    exec (.ringCommandTaken n ws m) s = .next (after s (t.ringTake n ws)) ∧
    ((parseCmd .ring ws).2.client = n → t.ringTake n ws =
      (t.setRing n { t.ring n with cmdCi := (t.ring n).cmdCi + wd len }).takeCommand (parseCmd .ring ws).1 (parseCmd .ring ws).2)) ∧
  (∀ (s : State) (ws : List Word),
    exec (.localCommand ws) s = .next (after s (s.takeCommand (parseCmd .localPort ws).1 (parseCmd .localPort ws).2))) ∧
  (∀ (s t : State) (x : Rx) (b : List Word), x.type.toNat = tyCMD → s.taken x = some (b, t) →
    let q := parseCmd (.broash x.src (decide (x.dest = 0xFFFF))) (x.body.take (x.body.length - 6))
    exec (.cmdPacketReceived x) s = .next (after s (t.takeCommand q.1 q.2))) ∧
  (∀ (s t : State) (x : Rx) (b : List Word) (f : Forwarded), x.type.toNat = tyRPL → s.taken x = some (b, t) → t.role = .head →
    t.cmds.forwarded = [f] → f.client.toNat = wbits (nth b 1) 31 20 → f.tag.toNat = wbits (nth b 1) 15 0 →
    f.target.toNat = wbits (nth b 2) 31 16 → updLong f.opcode = false → wbits (nth b 0) 31 16 ≠ stPENDING →
    exec (.rplReceived x) s = .next (after s (({ t with cmds := { t.cmds with forwarded := [] } }).headReply f.client f.tag
      (wbits (nth b 0) 31 16) true (decide (wbits (nth b 0) 14 14 = 1)) f.target (BitVec.ofNat 16 (wbits (nth b 2) 15 0)) (nth b 3)
      f.noReply ((b.drop 4).take (wbits (nth b 0) 11 0))))) ∧
  (∀ (s : State) (f : Forwarded), s.cmds.forwarded = [f] → updLong f.opcode = false →
    exec (.commandTimeout f.client f.tag) s = .next (after s (({ s with cmds := { s.cmds with forwarded := [] } }).headReply
      f.client f.tag stTIMEOUT false false s.nodeId s.epoch 0 f.noReply []))) ∧
  (∀ (s : State) (g : Gather), s.cmds.gathers = [g] → updLong g.opcode = false →
    exec (.broadcastGatherTimeout g.client g.tag) s = .next (after s (s.closeGather g))) ∧
  (∀ (s : State) (n : ClientId) (m : HostMem), s.pci = true →
    exec (.stagedReplyWrite n m) s = .next (after s ((s.showMem m).flushStaged)))

/-- How requests for power states are filed (R45, R47) and refused (R45, R49, R341); assumptions 97 and 135. Beside what the rules say it rests on a choice of the model: log entry 32. -/
def Obligations.PowerRequestsAreFiled : Prop :=
  (∀ (s : State) (path : Path), s.pathOpen path = false →
    exec (.pwrReqOff path) s = .next (after s s) ∧ exec (.pwrReqReady path) s = .next (after s s) ∧
    exec (.pwrReqActive path) s = .next (after s s) ∧ exec (.pwrReqDim path) s = .next (after s s) ∧
    exec (.pwrReqPark path) s = .next (after s s) ∧ ∀ v, exec (.pwrReqInvalid path v) s = .next (after s s)) ∧
  (∀ (i : Instr) (p : PState) (s : State) (path : Path), (i = .pwrReqOff path ∧ p = .off) ∨ (i = .pwrReqReady path ∧ p = .ready) ∨
      (i = .pwrReqActive path ∧ p = .active ∧ (s.role ≠ .head ∨ s.get Fld.DMC_STAT_TRAINFAIL = 0)) ∨
      (i = .pwrReqDim path ∧ p = .dim ∧ s.role = .tile) ∨
      (i = .pwrReqPark path ∧ p = .park ∧ (s.role ≠ .head ∨ s.get Fld.DMC_STAT_TRAINFAIL = 0)) →
    s.pathOpen path = true → s.pwrOpen = true → s.safeHold = false →
    let u := s.portUsed path
    (¬(s.pwr.trans = none ∧ s.pwr.state = p) →
      exec i s = .next (after s { u.put Fld.PWR_REQ_REQ p.code with pwr := { u.pwr with queued := some (.state p) } })) ∧
    (s.pwr.trans = none → s.pwr.state = p → exec i s = .next (after s (u.put Fld.PWR_REQ_REQ p.code)))) ∧
  (∀ (i : Instr) (p : PState) (s : State) (path : Path),
    ((i = .pwrReqOff path ∧ p = .off ∨ i = .pwrReqReady path ∧ p = .ready ∨ i = .pwrReqActive path ∧ p = .active ∨
        i = .pwrReqDim path ∧ p = .dim ∨ i = .pwrReqPark path ∧ p = .park) ∧ s.safeHold = true) ∨
      (i = .pwrReqDim path ∧ p = .dim ∧ s.role ≠ .tile) ∨
      ((i = .pwrReqActive path ∧ p = .active ∨ i = .pwrReqPark path ∧ p = .park) ∧ s.role = .head ∧ s.get Fld.DMC_STAT_TRAINFAIL ≠ 0) →
    s.pathOpen path = true → s.pwrOpen = true →
    exec i s = .next (after s (((s.portUsed path).put Fld.PWR_REQ_REQ p.code).raise Fld.PWR_REQ_ERR))) ∧
  (∀ (s : State) (path : Path) (v : BitVec 4), s.pathOpen path = true → s.pwrOpen = true → v = 1 ∨ 6 ≤ v.toNat →
    exec (.pwrReqInvalid path v) s = .next (after s (((s.portUsed path).put Fld.PWR_REQ_REQ v.toNat).raise Fld.PWR_REQ_ERR))) ∧
  (∀ s : State, s.pwrOpen = true → s.safeHold = false →
    exec (.warmReset 0xB007) s = .next (after s { s with pwr := { s.pwr with queued := some .warm } })) ∧
  (∀ (s : State) (k : BitVec 16), k ≠ 0xB007 → exec (.warmReset k) s = .next (after s s))

/-- The rows that start and end transitions of the power state. Beside what the rules say it rests on a choice of the model: log entry 32. -/
def Obligations.TransitionsEndAsTheirWorkEnds : Prop :=
  (∀ (s : State) (r : PReq), s.pwr.trans = none → s.pwr.queued = some r → s.powered = true →
    exec .queuedRequestStart s = .next (after s ((s.advanceTo (s.startOf (s.clk.fn + 1))).startReq r (s.clk.fn + 1)))) ∧
  (∀ (s : State) (tr : Trans), s.role = .tile → s.drive.railUp = false → s.pwr.trans = some tr →
    tr.req = .state .active ∨ tr.req = .state .dim →
    exec .railSoftStartDone s = .next (after s { s.raise Fld.DRV_RAIL_STAT_REG with
      drive := { s.drive with railUp := true }
      pwr := { s.pwr with trans := some { tr with workDone := true } } })) ∧
  (∀ (s : State) (tr : Trans), s.role = .tile → s.drive.dark = true → s.pwr.trans = some tr →
    tr.req = .state .ready ∨ tr.req = .state .park →
    exec .vledDischarged s = .next (after s { s.put Fld.DRV_RAIL_STAT_PH_ACTIVE 0 with
      pwr := { s.pwr with trans := some { tr with workDone := true } } })) ∧
  (∀ (s : State) (tr : Trans), s.lit = false → s.pwr.trans = some tr → tr.req = .state .off →
    exec .offFlushDone s = .next (after s s.flushToMram.workIsDone)) ∧
  (∀ (s : State) (tr : Trans), s.lit = false → s.pwr.trans = some tr → tr.req = .warm →
    exec .offFlushDone s = .next (after s ((s.flushToMram.enterBoot false).raise Fld.PWR_RST_CAUSE_WARM))) ∧
  (∀ (s : State) (tr : Trans), s.role = .branch → s.pwr.state = .park → s.pwr.trans = some tr →
    exec .deepParkExitDone s = .next (after s (s.deepPark false).workIsDone))

/-- The rows of resets and rails. Beside what the rules say it rests on choices of the model: log entries 30, 61. -/
def Obligations.ResetsAndRailsAct : Prop :=
  (∀ (s : State) (n : Nat), 10 ≤ n → exec (.powerOnReset n false) s = .next (after s (s.assertReset 1 false))) ∧
  (∀ (s : State) (n : Nat), exec (.powerOnReset n true) s = .next (after s (s.assertReset 1 true).vaonFell)) ∧
  (∀ s : State, exec (.powerOnReset 0 false) s = .next (after s s)) ∧
  (∀ (s : State) (n : Nat), 1000 < n → s.pwr.held ≠ 1 → exec (.brownOut n false) s = .next (after s (s.assertReset 2 false).vaonFell)) ∧
  (∀ (s : State) (n : Nat), 1000 < n → s.pwr.held = 1 → exec (.brownOut n false) s = .next (after s s.vaonFell)) ∧
  (∀ (s : State) (n : Nat), 1000 < n → exec (.brownOut n true) s = .next (after s (s.assertReset 1 true).vaonFell)) ∧
  (∀ (s : State) (n : Nat) (low : Bool), n ≤ 1000 → exec (.brownOut n low) s = .next (after s s)) ∧
  (∀ s : State, s.pwr.held ≠ 0 →
    let early := s.pwr.railsGood.getLsbD 0 = false ∧ s.othersUp ≠ 0
    exec .resetRelease s = .next (after s (({ s with pwr := { s.pwr with held := 0, railsGood := s.pwr.railsGood ||| 1 } }.setWord
      Reg.PWR_RST_CAUSE (if s.pwr.held = 1 then 1 else 2)).put Fld.PWR_RST_CAUSE_SEQ (if early then 1 else s.get Fld.PWR_RST_CAUSE_SEQ)).wakeCheck)) ∧
  (∀ (s : State) (r : Fin 8), r.val ≠ 0 → s.railsRequired.getLsbD r.val = true → s.powered = true → s.pwr.held = 0 →
    let a := { s with pwr := { s.pwr with railsGood := s.pwr.railsGood &&& ~~~(BitVec.ofNat 8 (2 ^ r.val)) } }.driveOff
    exec (.railFailure r) s = .next (after s ((a.enterBoot (decide (s.pwr.state = .boot ∧ s.pwr.fromWake = true))).raise
      Fld.PWR_RST_CAUSE_RAILFAIL))) ∧
  (∀ (s : State) (r : Fin 8), s.railsRequired.getLsbD r.val = false ∨ s.powered = false →
    exec (.railFailure r) s = .next (after s { s with pwr := { s.pwr with
      railsGood := s.pwr.railsGood &&& ~~~(BitVec.ofNat 8 (2 ^ r.val)) } })) ∧
  (∀ (s : State) (good risen : BitVec 8), good.getLsbD 0 = true → s.pwr.bootWait = true → good &&& s.railsRequired = s.railsRequired →
    exec (.railsGood ⟨good, risen⟩) s = .next (after s { s with pwr := { s.pwr with
      railsGood := good, railsRisen := risen, bootWait := false } })) ∧
  (∀ (s : State) (good risen : BitVec 8), good.getLsbD 0 = true →
    s.pwr.bootWait = false ∨ good &&& s.railsRequired ≠ s.railsRequired →
    exec (.railsGood ⟨good, risen⟩) s = .next (after s { s with pwr := { s.pwr with railsGood := good, railsRisen := risen } })) ∧
  (∀ (s : State) (good risen : BitVec 8), good.getLsbD 0 = false → (good ||| risen) &&& 0xFE ≠ 0 →
    s.pwr.bootWait = false ∨ good &&& s.railsRequired ≠ s.railsRequired →
    exec (.railsGood ⟨good, risen⟩) s = .next (after s ({ s with pwr := { s.pwr with railsGood := good, railsRisen := risen } }.raise
      Fld.PWR_RST_CAUSE_SEQ))) ∧
  (∀ s : State, s.pwr.state = .boot → s.pwr.fromWake = true → s.pwr.bootWait = true →
    exec .railTimeout s = .next (after s (s.raise Fld.PWR_RST_CAUSE_RAILTO).enterOff)) ∧
  (∀ (s : State) (t : Word), s.pwr.domReset = some t → s.powered = true →
    exec .domainResetInstant s = .next (after s ((((s.advanceTo t).driveOff.flushToMram).enterBoot false).raise Fld.PWR_RST_CAUSE_DOMRST)))

/-- What stands after a reset. Beside what the rules say it rests on choices of the model: log entries 4, 137. -/
def Obligations.ResetsKeepWhatTheyMust : Prop :=
  (∀ (s : State) (w : Bool), s.nvm.writing = none → s.blots.mramWait = [] →
    (s.enterBoot w).pwr.state = .boot ∧ (s.enterBoot w).pwr.trans = some ⟨.state .ready, false, 0⟩ ∧
    (s.enterBoot w).pwr.queued = (if s.role = .tile ∧ s.sampled = true ∧ s.pwr.safeN = false then some (.state .active) else none) ∧
    (s.enterBoot w).clk.dtime = 0 ∧ (s.enterBoot w).clk.fn = 0 ∧ (s.enterBoot w).heads.frames = [] ∧ (s.enterBoot w).ingest.srcs = [] ∧
    (s.enterBoot w).role = s.role ∧ (s.enterBoot w).keys.domain = s.keys.domain ∧ (s.enterBoot w).keys.client0 = s.keys.client0 ∧
    (s.enterBoot w).nvm.pages = s.nvm.pages ∧ (s.enterBoot w).upd.record = s.upd.record ∧ (s.enterBoot w).upd.flash = s.upd.flash ∧
    (s.enterBoot w).saved.faultEpoch = s.saved.faultEpoch + 1 ∧ (s.enterBoot w).pending = s.pending) ∧
  (∀ (s : State) (x : Nat), s.nvm.writing = none → s.blots.mramWait = [] →
    x = Reg.PWR_WAKE_CFG ∨ x = Reg.PWR_RST_CAUSE ∨ x = Reg.SYS_BLOT_SEQ ∨ x = Reg.SYS_STRAP →
    (s.cleared .boot).word x = s.word x) ∧
  (∀ (s : State) (k : Nat) (clear : Bool), s.nvm.writing = none → s.blots.mramWait = [] →
    (s.assertReset k clear).pwr.state = (if s.pwr.thermalLatch = true ∧ clear = false then .shutdown else .off) ∧
    (s.assertReset k clear).pwr.held = k ∧ (s.assertReset k clear).upd.record = s.upd.record ∧
    (s.assertReset k clear).nvm.pages = s.nvm.pages ∧ (s.assertReset k clear).keys.domain = s.keys.domain ∧
    ∀ x, x ≠ Reg.NVM_POOL → x ≠ Reg.NVM_RECOV → (s.assertReset k clear).word x = resetReg x)

/-- The rows of the wake and safety pins; assumptions 135 and 136. Beside what the rules say it rests on a choice of the model: log entry 134. -/
def Obligations.WakeAndSafetyPinsAct : Prop :=
  (∀ (s : State) (stays : Bool), s.pwr.state = .off → s.pwr.powerOffN = true → s.pwr.held = 0 →
    let t := { s with pwr := { s.pwr with wakePin := true, wakeSeen := s.pwr.wakeSeen || s.target == some (PReq.state .off) } }
    let u := ((t.enterBoot true).put Fld.PWR_RST_CAUSE_WAKE_PIN 1).put Fld.PWR_RST_CAUSE_WAKE_LINK 0
    exec (.wake stays) s = .next (after s { u with pwr := { u.pwr with wakePin := stays } })) ∧
  (∀ (s : State) (stays : Bool), s.pwr.state ≠ .off ∨ s.pwr.powerOffN = false ∨ s.pwr.held ≠ 0 →
    exec (.wake stays) s = .next (after s { s with pwr := { s.pwr with
      wakePin := stays
      wakeSeen := s.pwr.wakeSeen || s.target == some (PReq.state .off) } })) ∧
  (∀ (s : State) (p : Port), s.pwr.state ≠ .off ∨ s.pwr.powerOffN = false ∨ s.pwr.held ≠ 0 ∨
      bitsOf (s.get Fld.PWR_WAKE_CFG_LINK_EN) p.val 1 = 0 →
    exec (.linkActivityWake p) s = .next (after s s)) ∧
  (∀ (s : State) (p : Port), s.pwr.state = .off → s.pwr.powerOffN = true → s.pwr.held = 0 →
    bitsOf (s.get Fld.PWR_WAKE_CFG_LINK_EN) p.val 1 = 1 →
    exec (.linkActivityWake p) s = .next (after s (((s.enterBoot true).put Fld.PWR_RST_CAUSE_WAKE_LINK 1).put Fld.PWR_RST_CAUSE_WAKE_PIN 0))) ∧
  (∀ s : State, s.powered = true → s.pwr.held = 0 →
    exec .emergencyOff s = .next (after s (({ s with pwr := { s.pwr with powerOffN := false, wakeSeen := false } }.raise
      Fld.PWR_RST_CAUSE_EOFF).driveOff.enterOff))) ∧
  (∀ s : State, s.pwr.held ≠ 0 →
    exec .emergencyOff s = .next (after s { s with pwr := { s.pwr with powerOffN := false, wakeSeen := false } })) ∧
  (∀ s : State, s.powered = false → s.pwr.held = 0 →
    exec .emergencyOff s = .next (after s ({ s with pwr := { s.pwr with powerOffN := false, wakeSeen := false } }.raise
      Fld.PWR_RST_CAUSE_EOFF))) ∧
  (∀ s : State, s.pwr.state ≠ .off ∨ s.pwr.held ≠ 0 ∨ s.pwr.wakePin = false ∧ s.pwr.wakeSeen = false →
    exec .emergencyOffRelease s = .next (after s { s with pwr := { s.pwr with powerOffN := true } })) ∧
  (∀ s : State, s.powered = false → exec .thermalShutdown s = .next (after s s)) ∧
  (∀ s : State, s.pwr.state = .off → s.pwr.wakePin = true ∨ s.pwr.wakeSeen = true → s.pwr.held = 0 →
    exec .emergencyOffRelease s = .next (after s ((({ s with pwr := { s.pwr with powerOffN := true } }.enterBoot true).put
      Fld.PWR_RST_CAUSE_WAKE_PIN 1).put Fld.PWR_RST_CAUSE_WAKE_LINK 0))) ∧
  (∀ s : State, s.powered = true →
    let u := s.driveOff.logBlot blkTHM 4 clsFATAL (s.get Fld.THM_STAT_TJ)
    exec .thermalShutdown s = .next (after s (({ u with pwr := { u.pwr with thermalLatch := true } }.raise
      Fld.PWR_RST_CAUSE_THERMAL).cleared .shutdown).floatDrive)) ∧
  (∀ s : State, s.role = .tile → s.powered = true → s.roleKnown = true →
    let u := { s with pwr := { s.pwr with safeN := false }, priv := { s.priv with safe := true } }
    (s.bit Fld.RED_TILE_STAT_SAFE = false →
      exec .safeNLow s = .next (after s ((u.raise Fld.RED_TILE_STAT_SAFE).raise Fld.RED_TILE_INT_SAFE).safeRequest)) ∧
    (s.bit Fld.RED_TILE_STAT_SAFE = true → exec .safeNLow s = .next (after s u.safeRequest))) ∧
  (∀ s : State, s.role = .tile → s.powered = true → s.roleKnown = true → s.pwr.safeN = false → s.pwr.trans = none →
    s.safeRequest = { s with pwr := { s.pwr with queued := if s.pwr.state = .active then none else some (.state .active) } }) ∧
  (∀ s : State, s.role = .head → s.powered = true → s.roleKnown = true →
    let u := { s with pwr := { s.pwr with safeN := false }, priv := { s.priv with safe := true, safeEnd := none } }
    exec .safeNLow s = .next (after s (if s.running then u.showLate else u))) ∧
  (∀ s : State, s.role = .branch ∨ s.role = .recovery ∨ s.powered = false ∨ s.roleKnown = false →
    (s.role = .head → s.running = false) →
    exec .safeNLow s = .next (after s { s with pwr := { s.pwr with safeN := false } })) ∧
  (∀ s : State, s.role = .head → exec .safeNHigh s = .next (after s { s with
      pwr := { s.pwr with safeN := true }
      priv := { s.priv with safeEnd := if s.priv.safe then some (s.clk.fn + 1) else none } })) ∧
  (∀ (s : State) (g n : Word), s.priv.safeEnd = some g →
    s.safeFor n = (s.priv.safe && earlier n g) ∧
    (later g n = false → s.safeTick n = { s with priv := { s.priv with safe := false, safeEnd := none } }) ∧
    (later g n = true → s.safeTick n = s)) ∧
  (∀ s : State, s.role = .branch ∨ s.role = .recovery → exec .safeNHigh s = .next (after s { s with
      pwr := { s.pwr with safeN := true }
      priv := { s.priv with safe := false } })) ∧
  (∀ s : State, s.role = .tile →
    let u := { s with pwr := { s.pwr with safeN := true }, priv := { s.priv with safe := false } }
    (s.bit Fld.RED_TILE_STAT_SAFE = true →
      exec .safeNHigh s = .next (after s ((u.raise Fld.RED_TILE_INT_SAFE).put Fld.RED_TILE_STAT_SAFE 0))) ∧
    (s.bit Fld.RED_TILE_STAT_SAFE = false → exec .safeNHigh s = .next (after s (u.put Fld.RED_TILE_STAT_SAFE 0)))) ∧
  (∀ s : State, exec .testReset s = .next (after s { s with pwr := { s.pwr with
      tapReset := true
      scanPins := [] } }))

/-- The rows that complete BOOT. Beside what the rules say it rests on a choice of the model: log entry 115. -/
def Obligations.BootCompletes : Prop :=
  (∀ s : State, s.pwr.state = .boot → s.bit Fld.MEM_STAT_CLEARED = false → s.pwr.bootWait = false →
    let u := forEach (List.range 16) (fun n s => s.setWord (Reg.MEM_ECC n) 0) ((s.raise Fld.MEM_STAT_CLEARED).setWord Reg.MEM_COLL 0)
    exec .sramClearDone s = .next (after s { u with mem := { u.mem with
      upsets := []
      poison := []
      clearing := [] } })) ∧
  (∀ (s : State) (l : List Straps) (n : Nat) (v : Straps), s.pwr.state = .boot → s.pwr.strapped = false →
    strapsAgree l 0 = some (n, v) →
    exec (.strapSampling l) s = .next (after s (s.takeStraps v.role.toNat v.boot.toNat n false))) ∧
  (∀ (s : State) (l : List Straps), s.pwr.state = .boot → s.pwr.strapped = false →
    strapsAgree l 0 = none → 100 ≤ l.length → exec (.strapSampling l) s = .next (after s (s.takeStraps 3 0 100 true))) ∧
  (∀ (a b : Straps), strapsAgree [a, a, a] 0 = some (3, a) ∧ (a ≠ b → strapsAgree [b, a, a, a] 0 = some (4, a))) ∧
  (∀ (s : State) (code : BitVec 12) (l : List Setting), s.pwr.state = .boot → s.bit Fld.MEM_STAT_CLEARED = true → s.pwr.strapped = true →
    s.pwr.bootWait = false → s.quill.debug = false → s.pwr.fwStarted = false → s.role ≠ .recovery →
    let u := match s.slotVersions.chooseSlot with
      | (some slot, t) => t.firmwareUp slot code.toNat l
      | (none, t) => t.recoveryUp
    exec (.firmwareStart ⟨code, l⟩) s = .next (after s { u with pwr := { u.pwr with fwStarted := true } }.workIsDone)) ∧
  (∀ (s : State) (code : BitVec 12) (l : List Setting), s.pwr.state = .boot → s.bit Fld.MEM_STAT_CLEARED = true → s.pwr.strapped = true →
    s.pwr.bootWait = false → s.quill.debug = false → s.pwr.fwStarted = false → s.role = .recovery →
    exec (.firmwareStart ⟨code, l⟩) s = .next (after s (let u := s.slotVersions.recoveryUp; { u with pwr := { u.pwr with fwStarted := true } }.workIsDone)))

/-- The register rows of the ingest unit. -/
def Obligations.SourceRegistersAct : Prop :=
  (∀ (s : State) (g : Fin 2) (v : Word), s.role = .head → s.powered = true →
    let t := (if wbits v 8 8 = 1 then s.put (Fld.SRC_GRP_CFG_ERR g.val) 0 else s).put (Fld.SRC_GRP_CFG_FEC g.val) (wbits v 4 4)
    exec (.srcGmodeWrite g v) s = .next (after s (
      if t.groupBusy g.val = true then t.raise (Fld.SRC_GRP_CFG_ERR g.val)
      else t.put (Fld.SRC_GRP_CFG_GMODE g.val) (wbits v 1 0)))) ∧
  (∀ (s : State) (g : Fin 2), s.role = .head → s.powered = true →
    s.ingest.gmode.getD g.val 3 ≠ s.get (Fld.SRC_GRP_CFG_GMODE g.val) →
    exec (.gmodeTakeEffect g) s = .next (after s (forEach (List.range 4)
      (fun i u => (((u.put (Fld.SRC_LANE_STAT_LOCK (4 * g.val + i)) 0).put (Fld.SRC_LANE_STAT_RATE (4 * g.val + i)) 0).put
        (Fld.SRC_LANE_STAT_M1001 (4 * g.val + i)) 0).put (Fld.SRC_LANE_STAT_PID (4 * g.val + i)) 0)
      { s with ingest := { s.ingest with gmode := setAt s.ingest.gmode g.val (s.get (Fld.SRC_GRP_CFG_GMODE g.val)) } }))) ∧
  (∀ (s : State) (n : SrcId) (v : Word), s.ingestRuns = true → s.get (Fld.SRC_CFG_KIND n.val) = 4 →
    s.bit (Fld.SRC_CFG_ENABLED n.val) = true → wbits v 1 0 < (s.src n.val).bufs.length →
    ((s.src n.val).fetching = none → (s.src n.val).heldBell = none →
      exec (.srcHreadyWrite n v) s = .next (after s (s.setSrc n.val { s.src n.val with fetching := some (wbits v 1 0) }))) ∧
    (∀ b, (s.src n.val).fetching = some b → (s.src n.val).heldBell = none →
      exec (.srcHreadyWrite n v) s = .next (after s (s.setSrc n.val { s.src n.val with heldBell := some (wbits v 1 0) }))) ∧
    (∀ h, (s.src n.val).heldBell = some h →
      exec (.srcHreadyWrite n v) s = .next (after s ((s.count (Fld.SRC_SYNCCNT_DROP n.val)).setSrc n.val
        { s.src n.val with heldBell := some (wbits v 1 0) })))) ∧
  (∀ (s : State) (n : SrcId) (v : Word), s.ingestRuns = true →
    s.get (Fld.SRC_CFG_KIND n.val) ≠ 4 ∨ s.bit (Fld.SRC_CFG_ENABLED n.val) = false ∨ (s.src n.val).bufs.length ≤ wbits v 1 0 →
    exec (.srcHreadyWrite n v) s = .next (after s (s.raise (Fld.SRC_STAT_HRDY_ERR n.val)))) ∧
  (∀ (s : State) (n : SrcId) (b : Nat), s.ingestRuns = true → (s.src n.val).fetching = none → (s.src n.val).heldBell = some b →
    exec (.heldDoorbellFetch n) s = .next (after s (s.setSrc n.val { s.src n.val with
      fetching := some b
      heldBell := none }))) ∧
  (∀ (s : State) (v : Word), s.role = .head → s.powered = true →
    let t := ((if wbits v 17 17 = 1 then s.put Fld.SRC_LUT_CTL_ERR 0 else s).put Fld.SRC_LUT_CTL_TABLE (wbits v 15 12)).put
      Fld.SRC_LUT_CTL_INDEX (wbits v 11 0)
    (wbits v 16 16 = 1 → wbits v 15 12 ≤ 8 → wbits v 15 12 ∉ t.ingest.swaps →
      exec (.srcLutSwap v) s = .next (after s ({ t with ingest := { t.ingest with
        swaps := wbits v 15 12 :: t.ingest.swaps } }.raise Fld.SRC_LUT_CTL_SWAP))) ∧
    (wbits v 16 16 = 0 → exec (.srcLutSwap v) s = .next (after s t))) ∧
  (∀ (s : State) (v : Word), s.role = .head → s.powered = true →
    exec (.srcLutDataAccess (some v)) s = .next (after s (s.writeLutData v)) ∧
    exec (.srcLutDataAccess none) s = .next (after s (s.readLutData.2.emit (.readValue Reg.SRC_LUT_DATA s.readLutData.1))))

/-- The register rows of the composer. Beside what the rules say it rests on choices of the model: log entries 64, 108. -/
def Obligations.ComposerRegistersAct : Prop :=
  (∀ (s : State) (v : Word), s.headRegs = true →
    (isOrder v = true → exec (.cmpPlaneOrderWrite v) s = .next (after s (s.pend Reg.CMP_PLANE_ORDER 0x001FFFFF v))) ∧
    (isOrder v = false → exec (.cmpPlaneOrderWrite v) s = .next (after s (s.raise Fld.CMP_STAT_ORDER_ERR)))) ∧
  (∀ (s : State) (v : Word), s.headRegs = true →
    let t := (s.put Fld.CMP_FILT_CTL_SET (wbits v 19 16)).put Fld.CMP_FILT_CTL_INDEX (wbits v 10 0)
    (wbits v 20 20 = 0 → exec (.cmpFiltSwap v) s = .next (after s t)) ∧
    (wbits v 20 20 = 1 → 1 ≤ wbits v 10 0 → wbits v 10 0 ≤ 1151 →
      exec (.cmpFiltSwap v) s = .next (after s (t.raise Fld.CMP_STAT_FILT_ERR))) ∧
    (wbits v 20 20 = 1 → wbits v 10 0 = 0 ∨ 1151 < wbits v 10 0 → wbits v 19 16 ∉ s.comp.filtSwaps →
      exec (.cmpFiltSwap v) s = .next (after s ({ t with comp := { t.comp with
        filtSwaps := t.comp.filtSwaps ++ [wbits v 19 16] } }.raise Fld.CMP_FILT_CTL_SWAP)))) ∧
  (∀ (s : State) (v : Word), s.headRegs = true →
    exec (.cmpFiltDataAccess (some v)) s = .next (after s (s.writeFiltData v)) ∧
    exec (.cmpFiltDataAccess none) s = .next (after s (s.readFiltData.2.emit (.readValue Reg.CMP_FILT_DATA s.readFiltData.1))) ∧
    exec (.cmpWlutDataAccess (some v)) s = .next (after s (s.writeWlutData v)) ∧
    exec (.cmpWlutDataAccess none) s = .next (after s (s.readWlutData.2.emit (.readValue Reg.CMP_WLUT_DATA s.readWlutData.1)))) ∧
  (∀ (s : State) (v : Word), s.headRegs = true → wbits v 17 17 = 0 →
    let t := (s.put ⟨Reg.CMP_WLUT_CTL, 12, 12⟩ (wbits v 12 12)).put ⟨Reg.CMP_WLUT_CTL, 11, 0⟩ (wbits v 11 0)
    (wbits v 16 16 = 0 → exec (.cmpWlutSwap v) s = .next (after s t)) ∧
    (wbits v 16 16 = 1 → wbits v 12 12 ∉ s.comp.wlutSwaps →
      exec (.cmpWlutSwap v) s = .next (after s ({ t with comp := { t.comp with
        wlutSwaps := t.comp.wlutSwaps ++ [wbits v 12 12] } }.raise ⟨Reg.CMP_WLUT_CTL, 16, 16⟩)))) ∧
  (∀ (s : State) (v : Word), s.headRegs = true →
    let t := if s.comp.windows = [] then s.put Fld.CMP_INK_CTL_EN (wbits v 31 31) else s
    let u := if s.bit Fld.CMP_INK_CTL_EN then t else t.put Fld.CMP_INK_CTL_BASE (wbits v 15 0)
    (wbits v 30 30 = 1 →
      exec (.cmpInkInval v) s = .next (after s ({ u with comp := { u.comp with inval := true } }.raise Fld.CMP_INK_CTL_INVAL))) ∧
    (wbits v 30 30 = 0 → exec (.cmpInkInval v) s = .next (after s u))) ∧
  (∀ (s : State) (v : Word), s.headRegs = true →
    (wbits v 15 0 * 1000 ≤ s.tickInt → 2 * (s.get Fld.TIME_LEAD_NS + wbits v 15 0 * 1000) ≤ 3 * s.tickInt →
      exec (.cmpRunaheadWrite v) s = .next (after s (s.pend Reg.CMP_RUNAHEAD 0xFFFF v))) ∧
    (s.tickInt < wbits v 15 0 * 1000 ∨ 3 * s.tickInt < 2 * (s.get Fld.TIME_LEAD_NS + wbits v 15 0 * 1000) →
      exec (.cmpRunaheadWrite v) s = .next (after s (s.raise Fld.CMP_CMT_STAT_RA_ERR))))

/-- The register rows of the links. Beside what the rules say it rests on choices of the model: log entries 76, 116, 126. -/
def Obligations.LinkRegistersAct : Prop :=
  (∀ (s : State) (p : Port) (v : Word), s.powered = true →
    let t := ((s.put (Fld.LNK_LANE_CFG_FI_EN p.val) (wbits v 30 30)).put (Fld.LNK_LANE_CFG_FI_DELAY p.val) (wbits v 19 8)).put
      (Fld.LNK_LANE_CFG_DOWN_N p.val) (wbits v 7 0)
    let u := if wbits v 29 29 = t.get (Fld.LNK_LANE_CFG_TEST p.val) then t
      else (t.put (Fld.LNK_LANE_CFG_TEST p.val) (wbits v 29 29)).linkDown p.val (if wbits v 29 29 = 1 then 3 else 0)
    (wbits v 31 31 = 1 → exec (.swapArm p v) s = .next (after s ((u.raise (Fld.LNK_LANE_CFG_SWAP_ARM p.val)).requestCal p.val none).2)) ∧
    (wbits v 31 31 = 0 → exec (.swapArm p v) s = .next (after s u))) ∧
  (∀ (s : State) (p : Port) (v : Word), s.powered = true →
    let t := s.put (Fld.LNK_ESC_CTL_COOL p.val) (wbits v 7 0)
    (wbits v 31 31 = 1 → t.get (Fld.LNK_NET_STAT_LEVEL p.val) = 3 →
      exec (.lnkEscRelease p v) s = .next (after s ((t.setEscal p.val ⟨0, 0, 0⟩).setLevel p.val 0))) ∧
    (wbits v 31 31 = 0 ∨ t.get (Fld.LNK_NET_STAT_LEVEL p.val) ≠ 3 → exec (.lnkEscRelease p v) s = .next (after s t))) ∧
  (∀ (s : State) (p : Port) (m : PhyLane) (v : Word), s.powered = true →
    let u := if wbits v 31 31 = 1 then s.put (Fld.LNK_PHY_PRBS_ERR p.val m.val) 0 else s
    (wbits v 5 4 ≠ 0 → (wbits v 0 0 = 1 ∧ u.laneBusy p.val m.val true = true) ∨ (wbits v 1 1 = 1 ∧ u.laneBusy p.val m.val false = true) →
      exec (.lnkPrbsStart p m v) s = .next (after s (u.raise (Fld.LNK_PHY_PRBS_ERR p.val m.val)))) ∧
    (wbits v 5 4 = 0 ∨ ((wbits v 1 1 = 0 ∨ u.laneBusy p.val m.val false = false) ∧ (wbits v 0 0 = 0 ∨ u.laneBusy p.val m.val true = false)) →
      exec (.lnkPrbsStart p m v) s = .next (after s (((((u.put (Fld.LNK_PHY_PRBS_PAT p.val m.val) (wbits v 5 4)).put
        (Fld.LNK_PHY_PRBS_RXEN p.val m.val) (wbits v 1 1)).put (Fld.LNK_PHY_PRBS_TXEN p.val m.val) (wbits v 0 0)).prbsCount p.val
        m.val).showTest p.val m.val)))) ∧
  (∀ (s : State) (p : Port) (m : PhyLane) (v : Word) (n : Nat), s.powered = true →
    let t := ((s.put (Fld.LNK_PHY_EYE_CTL_VOFS p.val m.val) (wbits v 23 16)).put (Fld.LNK_PHY_EYE_CTL_POFS p.val m.val)
      (wbits v 14 8)).put (Fld.LNK_PHY_EYE_CTL_DWELL p.val m.val) (wbits v 5 0)
    exec (.eyeScanStart p m v n) s = .next (after s (if wbits v 31 31 = 1 then
      t.setWord (Reg.LNK_PHY_EYE_RES p.val m.val) (wd (min (min n (2 ^ eyeDwell (wbits v 5 0))) 0xFFFFFFFF)) else t))) ∧
  (∀ d : Nat, (10 ≤ d → d ≤ 36 → eyeDwell d = d) ∧ (d < 10 ∨ 36 < d → eyeDwell d = 20))

/-- The rows of the time registers and of their rollovers. -/
def Obligations.TimeRegistersAct : Prop :=
  (∀ s : State, s.powered = true →
    exec .timeDtimeRead s = .next (after s ((s.setWord Reg.TIME_FN s.clk.fn).emit (.readValue Reg.TIME_DTIME s.clk.dtime)))) ∧
  (∀ s : State, s.powered = true →
    exec .timeHtNsRead s = .next (after s ({ s with clk := { s.clk with htLatch := some s.clk.htSec } }.emit
      (.readValue Reg.TIME_HT_NS (wd s.clk.htNs))))) ∧
  (∀ (s : State) (v : Word), s.powered = true →
    (wbits v 29 0 < 1000000000 →
      exec (.timeHtNsWrite v) s = .next (after s ({ s with clk := { s.clk with
        htNs := wbits v 29 0
        htPend := none } }.putBit Fld.TIME_HT_CTL_PEND false))) ∧
    (1000000000 ≤ wbits v 29 0 → exec (.timeHtNsWrite v) s = .next (after s (s.raise Fld.TIME_HT_CTL_ERR)))) ∧
  (∀ (s : State) (v : Word), s.powered = true →
    let t := s.raise Fld.TIME_HT_CTL_SET
    (t.bit Fld.TIME_HT_CTL_IMM = true →
      exec (.timeHtSecWrite v) s = .next (after s ({ t with clk := { t.clk with
        htSec := v
        htPend := none } }.putBit Fld.TIME_HT_CTL_PEND false))) ∧
    (t.bit Fld.TIME_HT_CTL_IMM = false →
      exec (.timeHtSecWrite v) s = .next (after s ({ t with clk := { t.clk with htPend := some v } }.raise Fld.TIME_HT_CTL_PEND)))) ∧
  (∀ s : State, s.powered = true →
    exec .dtimeWrap s = .next (after s (s.elapse (2 ^ 32 - s.clk.dtime.toNat))) ∧
    (s.elapse (2 ^ 32 - s.clk.dtime.toNat)).clk.dtime = 0 ∧
    (s.elapse (2 ^ 32 - s.clk.dtime.toNat)).bit Fld.TIME_INT_WRAP = true) ∧
  (∀ s : State, s.powered = true → s.clk.htNs < 1000000000 →
    exec .houseSecondRollover s = .next (after s (s.elapse (1000000000 - s.clk.htNs))) ∧
    (s.clk.htNs ≠ 0 → (s.elapse (1000000000 - s.clk.htNs)).clk.htNs = 0))

/-- The register rows of a tile, of the memories and of MRAM. Beside what the rules say it rests on a choice of the model: log entry 84. -/
def Obligations.TileAndMemoryRegistersAct : Prop :=
  (∀ (s : State) (v : Word), s.role = .tile → s.powered = true →
    let t := (s.put Fld.COR_AGE_CTL_PERIOD (wbits v 15 8)).pend Reg.COR_AGE_CTL 3 v
    (wbits v 31 31 = 1 → t.ageMode ≤ 1 → exec (.corAgeNow v) s = .next (after s ((t.raise Fld.COR_AGE_CTL_NOW).ageRequest))) ∧
    (wbits v 31 31 = 0 ∨ 1 < t.ageMode → exec (.corAgeNow v) s = .next (after s t))) ∧
  (∀ (s : State) (w : Fin 3) (v : Word), s.role = .tile → s.powered = true →
    exec (.rowLatchRelease w v) s = .next (after s (forEach (List.range 32) (fun n t =>
      if wbits v n n = 1 ∧ t.latchedRow (32 * w.val + n) = true then
        let u := t.put ⟨Reg.DRV_ROW_LATCH w.val, n, n⟩ 0
        (State.changeFlags { u with drive := { u.drive with
          tripRun := SMap.set (fun _ => 0) u.drive.tripRun (32 * w.val + n) 0
          tripped := u.drive.tripped.filter (fun q => decide (q ≠ 32 * w.val + n)) } } (u.rowLamps (32 * w.val + n)) 0 1).raise
          Fld.DRV_INT_LAMP
      else t) s))) ∧
  (∀ (s : State) (v : Word) (path : Path) (p : BitVec 12) (k : Nat), s.pathOpen path = false →
    exec (.memBistStart v path) s = .next (after s s) ∧ exec (.nvmRead p path) s = .next (after s s) ∧
    exec (.nvmWrite p path k) s = .next (after s s)) ∧
  (∀ (s : State) (v : Word) (path : Path), s.pathOpen path = true → s.running = true → s.powered = true →
    roleUses s.role Reg.MEM_BIST_CTL = true →
    let t := (s.portUsed path).put Fld.MEM_BIST_CTL_BANK (wbits v 3 0)
    (wbits v 31 31 = 1 → exec (.memBistStart v path) s = .next (after s (t.startTest (wbits v 3 0) (pathSecure path)).2)) ∧
    (wbits v 31 31 = 1 → t.mem.test.isSome = true →
      exec (.memBistStart v path) s = .next (after s (t.raise Fld.MEM_BIST_STAT_REFUSED))) ∧
    (wbits v 31 31 = 0 → exec (.memBistStart v path) s = .next (after s t))) ∧
  (∀ (s : State) (p : BitVec 12) (path : Path), s.pathOpen path = true → s.powered = true → 255 < p.toNat ∨ pathSecure path = true →
    let w := s.portUsed path
    (s.nvm.writing = none →
      exec (.nvmRead p path) s = .next (after s (
        let t := forEach (List.range 64) (fun i u => u.setWord (Reg.NVM_RBUF i) (nth (s.nvmPage p.toNat) i)) w
        { t with nvm := { t.nvm with rbufPage := some p.toNat } }))) ∧
    (s.bit Fld.NVM_STAT_BUSY = true → ∀ n, exec (.nvmWrite p path n) s = .next (after s (w.raise Fld.NVM_STAT_REJ))) ∧
    (s.bit Fld.NVM_STAT_BUSY = false → p.toNat < 256 ∨ 938 < p.toNat → 8 ≤ s.get Fld.NVM_POOL_FREE →
      exec (.nvmWrite p path 0) s = .next (after s { (w.put Fld.NVM_POOL_FREE (s.get Fld.NVM_POOL_FREE - 1)).raise Fld.NVM_STAT_BUSY with nvm := { w.nvm with
        writing := some (p.toNat, (List.range 64).map (fun i => s.word (Reg.NVM_WBUF i))) } }))) ∧
  (∀ (s : State) (p : BitVec 12) (path : Path) (n : Nat), s.pathOpen path = true → s.powered = true → p.toNat ≤ 255 →
    pathSecure path = false →
    exec (.nvmRead p path) s = .next (after s (((s.portUsed path).raise Fld.NVM_STAT_SECERR).secViol path p.toNat)) ∧
    exec (.nvmWrite p path n) s = .next (after s (((s.portUsed path).raise Fld.NVM_STAT_SECERR).secViol path p.toNat))) ∧
  (∀ (s : State) (p : Nat) (ws : List Word), s.nvm.writing = some (p, ws) →
    let u := (s.setNvmPage p ws).pageFreed.put Fld.NVM_STAT_BUSY 0
    exec .nvmWriteDone s = .next (after s (({ u with nvm := { u.nvm with writing := none } }.tally 0x185).flushBlots)))

/-- The rows of the interrupt controller. -/
def Obligations.InterruptControllerActs : Prop :=
  (∀ (s : State) (n : BitVec 8) (path : Path), s.pathOpen path = false →
    exec (.icuSetpend n path) s = .next (after s s) ∧ exec (.icuClrpend n path) s = .next (after s s)) ∧
  (∀ (s : State) (n : BitVec 8) (path : Path), s.pathOpen path = true → s.powered = true →
    s.icuSecure n.toNat = false ∨ pathSecure path = true →
    exec (.icuSetpend n path) s = .next (after s ((s.portUsed path).put (Fld.ICU_SRC_PEND n.toNat) 1)) ∧
    exec (.icuClrpend n path) s = .next (after s ((s.portUsed path).put (Fld.ICU_SRC_PEND n.toNat) 0))) ∧
  (∀ (s : State) (n : BitVec 8) (path : Path), s.pathOpen path = true → s.powered = true → s.icuSecure n.toNat = true →
    pathSecure path = false →
    exec (.icuSetpend n path) s = .next (after s ((s.portUsed path).secViol path Reg.ICU_SETPEND)) ∧
    exec (.icuClrpend n path) s = .next (after s ((s.portUsed path).secViol path Reg.ICU_CLRPEND))) ∧
  (∀ (s : State) (n : Nat), s.powered = true → s.icuPresented 1 = some n →
    let u := (s.spuriousCheck n).icuClaim 1 n
    exec .icuClaim1Read s = .next (after s ({ u with icu := { u.icu with
      presented1 := none
      sent1 := false } }.emit (.readValue Reg.ICU_CLAIM1 (wd n)))) ∧
    u.get (Fld.ICU_SRC_PEND n) = 0 ∧ u.icu.stack1 = s.get (Fld.ICU_SRC_PRIO n) :: s.icu.stack1) ∧
  (∀ s : State, s.powered = true → s.icuPresented 1 = none → s.icu.sent1 = false →
    exec .icuClaim1Read s = .next (after s ({ s with icu := { s.icu with
      presented1 := none
      sent1 := false } }.emit (.readValue Reg.ICU_CLAIM1 0x100)))) ∧
  (∀ (s : State) (n : Nat), s.quillTakes = true → s.icuPresented 0 = some n →
    let u := s.icuClaim 0 n
    exec .interruptClaim s = .next (after s ((State.elapse { u with icu := { u.icu with
      vector := some (wd (u.get Fld.ICU_VBASE_BASE * 4096 + 16 * n)) } } 30).spuriousCheck n))) ∧
  (∀ (s : State) (n : Fin 256) (m : Bool), s.quill.up = true → s.bit (Fld.ICU_SRC_EN n.val) = true →
    s.get (Fld.ICU_SRC_TGT n.val) = 0 → s.icuPend n.val = true →
    exec (.quillWake m) s = .next (after s (doInterruptClaim { s with icu := { s.icu with quillMask := m } })))

/-- R358, for both processors. -/
def Obligations.CompletionsPopOrFault : Prop :=
  (∀ (s : State) (p : Fin 2) (lv : BitVec 4) (rest : List Nat), s.powered = true → s.icuStack p.val = lv.toNat :: rest →
    exec (.icuEoi p lv) s = .next (after s { s with icu := { s.icu with
      stack0 := if p.val = 0 then rest else s.icu.stack0
      stack1 := if p.val = 0 then s.icu.stack1 else rest } })) ∧
  (∀ (s : State) (p : Fin 2) (lv : BitVec 4), s.powered = true → (s.icuStack p.val).head? ≠ some lv.toNat →
    ∃ u : State, exec (.icuEoi p lv) s = .next (after s (u.logBlot blkICU 1 clsDEGRADED (u.word Reg.ICU_FAULT).toNat)) ∧
      u.icu = s.icu ∧ u.get Fld.ICU_FAULT_FAULT = 1 ∧ u.get Fld.ICU_FAULT_PROC = p.val ∧ u.get Fld.ICU_FAULT_WRITTEN = lv.toNat ∧
      u.get Fld.ICU_FAULT_EMPTY = (if s.icuStack p.val = [] then 1 else 0) ∧
      (∀ top rest, s.icuStack p.val = top :: rest → top < 16 → u.get Fld.ICU_FAULT_TOP = top) ∧ u.bit (Fld.ICU_SRC_PEND 27) = true) ∧
  (∀ l : List Nat, l.Pairwise (fun a b => b < a) → (∀ a ∈ l, 1 ≤ a ∧ a ≤ 15) → l.length ≤ 15)

/-- The rows of the host interface. Beside what the rules say it rests on choices of the model: log entries 53, 55. -/
def Obligations.HostInterfaceActs : Prop :=
  (∀ (s : State) (n : ClientId) (d0 d1 : Option Word), s.pci = true →
    ((s.ring n).en = false → exec (.doorbellWrite n d0 d1) s = .next (after s (s.count Fld.PCI_ERR_DBDROP))) ∧
    ((s.ring n).en = true →
      let r := (s.ring n).rung d0 d1
      (r.overrun = false ∨ r.stopped = true → exec (.doorbellWrite n d0 d1) s = .next (after s (s.setRing n r))) ∧
      (r.overrun = true → r.stopped = false →
        exec (.doorbellWrite n d0 d1) s = .next (after s (s.setRing n { r with
          stopped := true
          reason := 2 }))))) ∧
  (∀ (r : Ring) (v w : Word), (r.rung (some v) (some w)).cmdPi = v ∧ (r.rung (some v) (some w)).rplCi = wbits w 15 0 ∧
    (r.rung (some v) (some w)).evtCi = wbits w 31 16 ∧ r.rung none none = r ∧ r.rung (some v) none = { r with cmdPi := v } ∧
    (r.rung none (some w)).cmdPi = r.cmdPi) ∧
  (∀ (s : State) (v : Word), s.pci = true → wbits v 29 29 = 0 →
    let n : ClientId := BitVec.ofNat 12 (s.get Fld.PCI_RING_SEL_CLIENT)
    let r := s.ring n
    (wbits v 31 31 = 1 → wbits v 30 30 = 0 → r.en = false → ctxOk (s.ringCtx n) = true →
      exec (.ringEnable v) s = .next (after s (s.setRing n { Ring.off with
        en := true
        err := r.err
        cfg := s.ringCtx n
        evdrop := r.evdrop }))) ∧
    (wbits v 31 31 = 1 → wbits v 30 30 = 0 → r.en = false → ctxOk (s.ringCtx n) = false →
      exec (.ringEnable v) s = .next (after s (s.setRing n { r with err := true }))) ∧
    (wbits v 30 30 = 1 →
      let u := (s.setRing n { Ring.off with
        err := r.err
        evdrop := r.evdrop }).muteRings (fun m => decide (m = n))
      let w := forEach (u.cmds.staged.filter (fun x => decide (x.ring = n))) (fun x t => t.dropStaged x) u
      exec (.ringReset v) s = .next (after s { w with cmds := { w.cmds with
        staged := w.cmds.staged.filter (fun x => decide (x.ring ≠ n)) } }))) ∧
  (∀ (s : State) (i : Fin 1024) (v : Word), s.pci = true →
    let u := { s with host := { s.host with toHead := SMap.set (fun _ => 0) s.host.toHead i.val v } }
    exec (.mailboxWrite i v) s = .next (after s (if i.val = 0 then u.raise (Fld.ICU_SRC_PEND 26) else u))) ∧
  (∀ s : State, s.pci = true →
    exec (.barBadSizeAccess true) s = .next (after s (s.count Fld.PCI_ERR_BADSIZE)) ∧
    exec (.barBadSizeAccess false) s = .next (after s (s.emit (.readValue 0 0xFFFFFFFF)))) ∧
  (∀ (s : State) (n : ClientId), (s.ring n).holdoff = true →
    ((s.ring n).msgDue = true →
      exec (.ringHoldoffEnd n) s = .next (after s ((s.setRing n { s.ring n with msgDue := false }).sendMsix (ctxVec (s.ring n).cfg)))) ∧
    ((s.ring n).msgDue = false →
      exec (.ringHoldoffEnd n) s = .next (after s (s.setRing n { s.ring n with holdoff := false })))) ∧
  (∀ (s : State) (v : Word), s.pci = true →
    (wbits v 0 0 = 1 → exec (.xltInvalidate v) s = .next (after s ({ s with host := { s.host with inval := true } }.raise Fld.PCI_XLT_INV_INV))) ∧
    (wbits v 0 0 = 0 → exec (.xltInvalidate v) s = .next (after s s))) ∧
  (∀ s : State, s.pci = true → s.host.inval = true →
    exec .xltInvalidateDone s = .next (after s ({ s with host := { s.host with
      inval := false
      cache := [] } }.put Fld.PCI_XLT_INV_INV 0))) ∧
  (∀ (s : State) (c : Fin 5) (v : Word), s.pci = true → wbits v 31 31 = 1 → s.bit (Fld.PCI_CH_STAT_STOP c.val) = true →
    (c.val = 1 ∨ c.val = 3 ∨ c.val = 4 → exec (.channelResume c v) s = .next (after s (s.channelRestart c.val))) ∧
    (c.val = 0 → exec (.channelResume c v) s = .next (after s s)) ∧
    (c.val = 2 → exec (.channelResume c v) s = .next (after s ((s.put (Fld.PCI_CH_STAT_STOP 2) 0).runJournal))))

/-- Resets of the function and bus mastering. Beside what the rules say it rests on choices of the model: log entries 52, 54. -/
def Obligations.HostLinkChangesAct : Prop :=
  (∀ s : State, s.pci = true → s.bit Fld.PCI_LINK_STAT_UP = true →
    exec (.busMasterEnableChange true) s = .next (after s (s.putBit Fld.PCI_LINK_STAT_BME true).releasePba) ∧
    exec (.busMasterEnableChange false) s = .next (after s (s.putBit Fld.PCI_LINK_STAT_BME false))) ∧
  (∀ s : State, s.pci = true → exec .pcieReset s = .next (after s s.pciReset) ∧ exec .functionLevelReset s = .next (after s s.pciReset)) ∧
  (∀ s : State, s.pciReset.host = { HostIf.reset with mem := s.host.mem } ∧ s.pciReset.cmds.staged = [] ∧ s.pciReset.role = s.role ∧
    s.pciReset.keys = s.keys ∧ s.pciReset.clk = s.clk ∧
    (∀ x, 0x250000 ≤ x → x < 0x260000 → s.pciReset.word x = resetReg x) ∧
    (∀ x, x < 0x250000 ∨ 0x260000 ≤ x → s.pciReset.word x = s.word x)) ∧
  (∀ (s : State) (i : Instr) (n : ClientId) (d0 d1 : Option Word) (k : Fin 1024) (v : Word) (b : Bool), s.pci = false →
    i = .pcieReset ∨ i = .functionLevelReset ∨ i = .busMasterEnableChange b ∨ i = .doorbellWrite n d0 d1 ∨ i = .mailboxWrite k v ∨
      i = .ringEnable v ∨ i = .ringReset v ∨ i = .xltInvalidate v ∨ i = .barBadSizeAccess b →
    exec i s = .next (after s s))

/-- The rows of the performance monitor. Beside what the rules say it rests on a choice of the model: log entry 94. -/
def Obligations.PerformanceMonitorActs : Prop :=
  (∀ (s : State) (v : Word), s.powered = true → s.role ≠ .recovery → wbits v 30 30 = 0 → wbits v 31 31 = 1 →
    let t := s.put Fld.PMU_TIMED_CTL_ACTION (wbits v 1 0)
    (later (t.word Reg.PMU_TIMED_AT) s.clk.dtime = true →
      exec (.pmuTimedArm v) s = .next (after s (t.raise Fld.PMU_TIMED_CTL_ARM))) ∧
    (later (t.word Reg.PMU_TIMED_AT) s.clk.dtime = false →
      exec (.pmuTimedArm v) s = .next (after s (((t.pmuAct (t.get Fld.PMU_TIMED_CTL_ACTION) (t.get Fld.PMU_TIMED_MASK_MASK)).put
        Fld.PMU_TIMED_CTL_ARM 0).raise Fld.PMU_TIMED_CTL_LATE)))) ∧
  (∀ s : State, s.powered = true → s.actingRole ≠ .recovery → s.bit Fld.PMU_TIMED_CTL_ARM = true →
    let t := s.advanceTo (s.word Reg.PMU_TIMED_AT)
    exec .pmuTimedAction s = .next (after s ((t.pmuAct (t.get Fld.PMU_TIMED_CTL_ACTION) (t.get Fld.PMU_TIMED_MASK_MASK)).put
      Fld.PMU_TIMED_CTL_ARM 0))) ∧
  (∀ (s : State) (n : Fin 32), s.powered = true → s.role ≠ .recovery →
    exec (.pmuCntLoRead n) s = .next (after s (State.emit { s with pmu := { s.pmu with
      latch := setAt s.pmu.latch n.val (s.pmu.cnt.getD n.val 0 / 2 ^ 32) } }
      (.readValue (Reg.PMU_CNT_LO n.val) (wd (s.pmu.cnt.getD n.val 0)))))) ∧
  (∀ (s : State) (n : Fin 32) (v : Word), s.powered = true → s.role ≠ .recovery →
    let t := s.setWord (Reg.PMU_CNT_CFG n.val) (v &&& 0xFFFFC1FF)
    exec (.pmuCounterClear n v) s = .next (after s (if wbits v 13 13 = 1 then t.setCount n.val 0 else t))) ∧
  (∀ (s t : State) (x : Rx) (b : List Word), s.taken x = some (b, t) → t.knowsHead x.src = true → x.type.toNat = tySNAP →
    exec (.snapReceived x) s = .next (after s (t.queueSnap (wbits (nth b 0) 31 16) (wbits (nth b 0) 15 0) (nth b 1) x.src))) ∧
  (∀ (s : State) (id scope : Nat) (a : Word) (src : NodeId), s.actingRole ≠ .recovery →
    (s.passed a = false → s.pmu.queue.length < 4 →
      (s.queueSnap id scope a src).pmu.queue.length = s.pmu.queue.length + 1 ∧
      (s.queueSnap id scope a src).get Fld.PMU_SNAP_STAT_PENDING = s.pmu.queue.length + 1) ∧
    (s.passed a = true ∨ 4 ≤ s.pmu.queue.length → s.queueSnap id scope a src = s.snapLate id src)) ∧
  (∀ (s : State) (id scope : Nat) (a : Word) (src : NodeId), s.actingRole = .recovery →
    s.queueSnap id scope a src = s ∧ exec .snapshotInstant s = .next (after s s) ∧ exec .pmuTimedAction s = .next (after s s)) ∧
  (∀ (s : State) (id scope : Nat) (a : Word) (src : NodeId) (rest : List (Nat × Nat × Word × NodeId)), s.running = true →
    s.actingRole ≠ .recovery → s.pmu.queue = (id, scope, a, src) :: rest →
    let t := s.advanceTo a
    let u := { t with pmu := { t.pmu with queue := rest } }.put Fld.PMU_SNAP_STAT_PENDING rest.length
    (u.bit Fld.SEC_GATE_PMU_CG = false →
      exec .snapshotInstant s = .next (after s ((((u.snapCopy scope).put Fld.PMU_SNAP_STAT_SNAP_ID id).setWord Reg.PMU_SNAP_T a).raise
        Fld.PMU_INT_SNAP))) ∧
    (u.bit Fld.SEC_GATE_PMU_CG = true → exec .snapshotInstant s = .next (after s (u.snapLate id src))))

/-- The journal's own rows; assumption 159. -/
def Obligations.JournalEventsAct : Prop :=
  (∀ (s : State) (v : Word), s.role = .head → s.powered = true →
    let u := s.setWord Reg.JRN_CI_HI v
    exec (.jrnCiHiWrite v) s = .next (after s (State.put { u with jrn := { u.jrn with
      ci := v.toNat * 2 ^ 32 + u.get Fld.JRN_CI_LO_RSEQ } } Fld.JRN_STAT_FULL 0))) ∧
  (∀ (s : State) (a : Word) (l : List Word), s.jrn.lost = a :: l → s.jrnRuns = true → s.stageFits jtGAP 1 = true →
    let e := tickSpan a l
    let u := { s with jrn := { s.jrn with
      lost := []
      gaps := s.jrn.gaps ++ [e] } }
    exec .journalRoomReturn s = .next (after s (u.stageRecs jtGAP e.2 [⟨jtGAP, e.2, s.clk.dtime, [e.1, e.2]⟩]))) ∧
  (∀ (a : Word) (l : List Word), (tickSpan a l).1 ∈ a :: l ∧ (tickSpan a l).2 ∈ a :: l) ∧
  (∀ s : State, s.jrn.lost = [] ∨ s.jrnRuns = false → exec .journalRoomReturn s = .next (after s s)) ∧
  (∀ s : State, s.jrnRuns = true → exec .jrnSnapTimer s = .next (after s { s with jrn := { s.jrn with snapDue := true } })) ∧
  (∀ (s : State) (d : Fin 4) (st : BitVec 16), s.headRegs = true →
    (s.jrn.fly.any (fun (w : NvmeWrite) => decide (w.dev = d.val)) = true →
      let u := { s with jrn := { s.jrn with ops := .read d.val st.toNat :: s.jrn.ops } }
      exec (.nvmeCompletion d st) s = .next (after s (if s.channelOn 2 then u.runJournal else u))) ∧
    (s.jrn.fly.any (fun (w : NvmeWrite) => decide (w.dev = d.val)) = false →
      exec (.nvmeCompletion d st) s = .next (after s s))) ∧
  (∀ (s t : State) (d st : Nat), s.busRead 3 (dev64 (s.jrn.devs.getD d []) 2 + 16 * s.jrn.cqHeads.getD d 0) 16 = (none, t) →
    let dev := s.jrn.devs.getD d []
    let h := (s.jrn.cqHeads.getD d 0 + 1) % max 1 (wbits (nth dev 8) 15 0)
    s.readCompletion d st = (none, ({ t with jrn := { t.jrn with
      cqHeads := setAt t.jrn.cqHeads d h
      ops := .bell (dev64 dev 6) h :: t.jrn.ops } }).nvmeDone d st)) ∧
  (∀ (s : State) (d st : Nat) (w : NvmeWrite), s.jrn.fly.find? (fun (w : NvmeWrite) => decide (w.dev = d)) = some w →
    let u := { s with jrn := { s.jrn with fly := s.jrn.fly.erase w } }
    (st = 0 → s.nvmeDone d st = u) ∧
    (st ≠ 0 → w.retried = false →
      s.nvmeDone d st = { u with jrn := { u.jrn with ops := u.jrn.ops ++ [.submit { w with retried := true }] } }) ∧
    (st ≠ 0 → w.retried = true → s.nvmeDone d st = u.jrnError d st ∧ (u.jrnError d st).jrn.staged = [])) ∧
  (∀ (s : State) (d st : Nat), d < 16 → ∃ u : State, s.jrnError d st = u.logBlot 18 1 clsDEGRADED d st ∧
    u.bit Fld.JRN_STAT_RUN = false ∧ u.bit Fld.JRN_STAT_NVME_ERR = true ∧ u.bit Fld.JRN_INT_STOP = true)

/-- What the access codes of the register maps mean (R418, R419). Beside what the rules say it rests on choices of the model: log entries 59, 85. -/
def Obligations.RegisterWritesFollowAccessCodes : Prop :=
  (∀ (s : State) (x : BitVec 22) (v : Word) (path : Path), s.pathOpen path = false →
    exec (.registerWrite x v path) s = .next (after s s) ∧ exec (.srwNormalWorldWrite x v path) s = .next (after s s)) ∧
  (∀ (s : State) (x : BitVec 22) (v : Word) (path : Path), s.pathOpen path = true →
    s.powered = false ∨ x.toNat % 4 ≠ 0 ∨ roleUses s.role x.toNat = false →
    exec (.registerWrite x v path) s = .next (after s (s.portUsed path)) ∧
    exec (.srwNormalWorldWrite x v path) s = .next (after s (s.portUsed path))) ∧
  (∀ (q : State) (x : BitVec 22) (v : Word) (path : Path), q.pathOpen path = true → let s := q.portUsed path; s.powered = true → x.toNat % 4 = 0 → roleUses s.role x.toNat = true →
    (if x.toNat < 0x100000 then s.writeLow path x.toNat v
      else if x.toNat < 0x140000 then s.writeLnk ((x.toNat - 0x100000) / 0x10000) (x.toNat % 0x10000) v
      else if x.toNat < 0x1C0000 ∨ 0x200000 ≤ x.toNat ∧ x.toNat < 0x210000 then s.writeHead path x.toNat v
      else if x.toNat < 0x200000 then s.writeTile path x.toNat v
      else if 0x250000 ≤ x.toNat ∧ x.toNat < 0x260000 then s.writePci x.toNat v
      else s.writeRest x.toNat v) = none →
    let u := forEach (regFields x.toNat) (fun f t => t.writeField x.toNat v (pathSecure path) f) s
    let bad := pathSecure path = false ∧ s.srwDiffers x.toNat v (regFields x.toNat) = true
    (¬bad → exec (.registerWrite x v path) q = .next (after q u) ∧ exec (.srwNormalWorldWrite x v path) q = .next (after q u)) ∧
    (bad → exec (.registerWrite x v path) q = .next (after q (u.secViol path x.toNat)) ∧
      exec (.srwNormalWorldWrite x v path) q = .next (after q (u.secViol path x.toNat)))) ∧
  (∀ (q : State) (x : BitVec 22) (v : Word) (path : Path), q.pathOpen path = true → let s := q.portUsed path; s.powered = true → x.toNat % 4 = 0 → roleUses s.role x.toNat = true →
    ownWrite x.toNat = false →
    let u := forEach (regFields x.toNat) (fun f t => t.writeField x.toNat v (pathSecure path) f) s
    (pathSecure path = true → exec (.registerWrite x v path) q = .next (after q u)) ∧
    (pathSecure path = false → s.srwDiffers x.toNat v (regFields x.toNat) = false →
      exec (.registerWrite x v path) q = .next (after q u)) ∧
    (pathSecure path = false → s.srwDiffers x.toNat v (regFields x.toNat) = true →
      exec (.srwNormalWorldWrite x v path) q = .next (after q (u.secViol path x.toNat)))) ∧
  (∀ (s : State) (x : BitVec 22) (v : Word) (path : Path), ∃ t : State,
    exec (.registerWrite x v path) s = .next (after s t) ∧ exec (.srwNormalWorldWrite x v path) s = .next (after s t)) ∧
  (∀ (s : State) (x : Nat) (v : Word) (secure : Bool) (f : RegField), f.lo ≤ f.hi → f.hi < 32 →
    let fld : Fld := ⟨x, f.hi, f.lo⟩
    (f.acc = .rw → (s.writeField x v secure f).get fld = f.bits v) ∧
    (f.acc = .ro ∨ f.acc = .wo → s.writeField x v secure f = s) ∧
    (f.acc = .w1c → ∀ i, i < fld.width → ((s.writeField x v secure f).get fld).testBit i = ((s.get fld).testBit i && !((f.bits v).testBit i))) ∧
    (f.acc = .w1s → ∀ i, i < fld.width → ((s.writeField x v secure f).get fld).testBit i = ((s.get fld).testBit i || (f.bits v).testBit i)) ∧
    (f.acc = .srw → (s.writeField x v secure f).get fld = if secure then f.bits v else s.get fld) ∧
    (f.acc = .rwt → (s.writeField x v secure f).regs = s.regs))

/-- The rows of domain time; assumptions 3, 14 and 98. Beside what the rules say it rests on choices of the model: log entries 12, 13, 33, 34, 93, 98. -/
def Obligations.TimeEventsAct : Prop :=
  (∀ (s t : State) (x : Rx) (b : List Word) (st : Word) (fr : Byte), s.taken x = some (b, t) →
    (wbits (nth b 0) 15 12 = 0 →
      exec (.timeSyncReceived x st fr) s = .next (after s ((t.tally 0x1C0).takeTimeSync x b st fr.toNat))) ∧
    (wbits (nth b 0) 15 12 = 1 → x.replay = true → exec (.timeDreqReceived x st fr) s = .next (after s t)) ∧
    (wbits (nth b 0) 15 12 = 1 → x.replay = false →
      let r := t.freeNat 8
      exec (.timeDreqReceived x st fr) s = .next (after s (r.2.sendLocal x.port.val tyTIME
        [wd (t.get Fld.TIME_STAT_MASTER * 2 ^ 16 + 2 * 2 ^ 12 + t.get Fld.TIME_STAT_HOPS), t.clk.fn, t.clk.dtime, st,
         wd (r.1 * 2 ^ 24 + fr.toNat * 2 ^ 16)]))) ∧
    (x.replay = true ∨ t.clk.dreqAt.any (fun a => decide (a.1 = x.port.val)) = false ∨ wbits (nth b 0) 15 12 ≠ 2 →
      exec (.timeDrespReceived x st fr) s = .next (after s t)) ∧
    (x.replay = false → t.clk.dreqAt.any (fun a => decide (a.1 = x.port.val)) = true → wbits (nth b 0) 15 12 = 2 →
      ∃ u : State, exec (.timeDrespReceived x st fr) s = .next (after s u) ∧
        u.clk.dreqAt = t.clk.dreqAt.filter (fun a => decide (a.1 ≠ x.port.val)))) ∧
  (∀ (s : State) (x : Rx) (b : List Word) (st : Word) (fr : Nat), 2048 ≤ wbits (nth b 0) 11 0 → x.replay = false → s.takeTimeSync x b st fr = s) ∧
  (∀ s : State, s.running = false ∨ (s.clk.isMaster = false ∧ (s.clk.hasMaster = false ∨ s.get Fld.TIME_STAT_STATE = tsHOLDOVER)) →
    exec .syncBeacon s = .next (after s s)) ∧
  (∀ s : State, s.running = true → s.clk.isMaster = true ∨ (s.clk.hasMaster = true ∧ s.get Fld.TIME_STAT_STATE ≠ tsHOLDOVER) →
    exec .syncBeacon s = .next (after s (forEach (List.range 4) (fun p s =>
      if s.portLocal p then
        let r := s.freeNat 8
        r.2.sendLocal p tyTIME [wd (s.get Fld.TIME_STAT_MASTER * 2 ^ 16 + (if s.clk.isMaster then 0 else s.get Fld.TIME_STAT_HOPS)),
          s.clk.fn, s.clk.dtime, 0, wd (r.1 * 2 ^ 24)]
      else s) s))) ∧
  (∀ s : State, s.running = true →
    exec .dreqTimer s = .next (after s (forEach (List.range 4) (fun p s =>
      if s.portLocal p then
        let r := s.freeNat 8
        let u := { r.2 with clk := { r.2.clk with dreqAt := assoc r.2.clk.dreqAt p ((r.2.clk.dtime.toNat * 256 + r.1 : Nat) : Int) } }
        u.sendLocal p tyTIME [wd (s.get Fld.TIME_STAT_MASTER * 2 ^ 16 + 1 * 2 ^ 12 + s.get Fld.TIME_STAT_HOPS),
          s.clk.fn, s.clk.dtime, 0, wd (r.1 * 2 ^ 24)]
      else s) s))) ∧
  (∀ s : State, s.running = true →
    let a := s.untilSilent
    (s.clk.isMaster = false → a.candidate = true → exec .masterTimeout s = .next (after s a.becomeMaster)) ∧
    (s.clk.isMaster = false → a.candidate = false → a.clk.hasMaster = true →
      exec .masterTimeout s = .next (after s (a.timeState tsHOLDOVER))) ∧
    (s.clk.isMaster = false → a.candidate = false → a.clk.hasMaster = false → exec .masterTimeout s = .next (after s a)) ∧
    (s.clk.isMaster = true → exec .masterTimeout s = .next (after s s))) ∧
  (∀ (s : State) (t : Nat), s.clk.lastSync = some t →
    s.untilSilent.clk.upNs = max s.clk.upNs (t + s.masterTmo) ∧ s.untilSilent.clk.lastSync = some t) ∧
  (∀ (s : State) (n : Nat) (f : Byte), s.role = .head → s.running = true →
    let a := (s.elapse n).slewed
    (s.refSrc = 1 → a.refEdge.bit Fld.TIME_REF_STAT_VALID = false →
      exec (.syncPpsEdge n) s = .next (after s a.refEdge)) ∧
    (s.refSrc ≠ 1 → exec (.syncPpsEdge n) s = .next (after s a)) ∧
    (s.refSrc = 1 → a.refEdge.bit Fld.TIME_REF_STAT_VALID = true →
      ∃ u : State, exec (.syncPpsEdge n) s = .next (after s u) ∧ u.clk.htNs = 0) ∧
    (s.refSrc = 2 → a.refEdge.bit Fld.TIME_REF_STAT_VALID = true → a.refEdge.clk.isMaster = true →
      let u := a.refEdge.raise Fld.TIME_REF_STAT_PHASE
      exec (.syncHEdge n f) s = .next (after s (u.alignPhase (u.edgePast f.toNat)))) ∧
    (s.refSrc = 2 → a.refEdge.bit Fld.TIME_REF_STAT_VALID = false ∨ a.refEdge.clk.isMaster = false → exec (.syncHEdge n f) s = .next (after s a.refEdge)) ∧
    (s.refSrc ≠ 2 → exec (.syncHEdge n f) s = .next (after s a))) ∧
  (∀ s : State, s.refEdge.clk.edge = some s.clk.upNs ∧ (s.clk.edge = none → s.refEdge = { s with clk := { s.clk with edge := some s.clk.upNs } })) ∧
  (∀ (s : State) (t k : Nat), s.clk.edge = some t → 1 ≤ k → 2000 < s.edgePeriod → k * s.edgePeriod ≤ s.clk.upNs - t + 1000 →
    s.clk.upNs - t ≤ k * s.edgePeriod + 1000 →
    s.refEdge = ({ s with clk := { s.clk with edge := some s.clk.upNs } }.refMiss (k - 1)).refHit) ∧
  (∀ (s : State) (t k : Nat), s.clk.edge = some t → 1 ≤ k → 1 ≤ s.edgePeriod →
    k * s.edgePeriod ≤ s.clk.upNs - t + s.edgePeriod / 2 → s.clk.upNs - t + s.edgePeriod / 2 < (k + 1) * s.edgePeriod →
    s.clk.upNs - t + 1000 < k * s.edgePeriod ∨ k * s.edgePeriod + 1000 < s.clk.upNs - t →
    s.refEdge = { s with clk := { s.clk with edge := some s.clk.upNs } }.refMiss k) ∧
  (∀ (s : State) (r : Nat), 0 < r → r < s.periodThirds →
    s.alignPhase 0 = s ∧ (s.rephasing = true → s.alignPhase r = s) ∧
    (s.rephasing = false → 2 * r ≤ s.periodThirds →
      (r ≤ 3000 * max 1 (s.get Fld.TIME_CFG_STEP) → s.alignPhase r = s.slewBy ((r : Int) / 3)) ∧
      (3000 * max 1 (s.get Fld.TIME_CFG_STEP) + 3 ≤ r → s.alignPhase r = s.rephase ((s.periodThirds - r) / 3))) ∧
    (s.rephasing = false → s.periodThirds < 2 * r →
      (s.periodThirds - r ≤ 3000 * max 1 (s.get Fld.TIME_CFG_STEP) →
        s.alignPhase r = s.slewBy (((r : Int) - s.periodThirds) / 3) ∨ s.alignPhase r = s.rephase ((s.periodThirds - r) / 3)) ∧
      (3000 * max 1 (s.get Fld.TIME_CFG_STEP) + 3 ≤ s.periodThirds - r → s.alignPhase r = s.rephase ((s.periodThirds - r) / 3)))) ∧
  (∀ s : State, s.role = .head → s.running = true → s.bit Fld.TIME_REF_STAT_VALID = true →
    exec .referenceLost s = .next (after s (((({ s with clk := { s.clk with
      refGood := 0
      refBad := 3 } }.put Fld.TIME_REF_STAT_VALID 0).put Fld.TIME_REF_STAT_FREQ 0).put Fld.TIME_REF_STAT_PHASE 0).raise Fld.TIME_INT_REF)))

/-- R25: what a tick boundary does, in its order. Beside what the rules say it rests on a choice of the model: log entry 93. -/
def Obligations.TickStartsTheNextFrame : Prop :=
  (∀ s : State, s.powered = true →
    let n := s.clk.fn + 1
    let a := s.adoptSched n
    let t := ((((a.advanceTo (a.startOf n)).stepTick.beginTick n (s.startOf s.clk.fn)).tally 0x1C3).leadSwitch n)
    let u := (((t.rwtTick n).frameTick (t.waits Reg.SCN_CFG) ((List.range 3).any (fun c => t.waits (Reg.COR_CEIL_WALL c)))).unitTick).nodeTickWork n
    exec .tickStart s = .next (after s (if u.role = .tile then u.notePars else u))) ∧
  (∀ s : State, s.powered = false → exec .tickStart s = .next (after s s)) ∧
  (∀ (s : State) (d : Word), (s.advanceTo d).clk.fn = s.clk.fn)

/-- The frame rows of a head. Beside what the rules say it rests on choices of the model: log entries 64, 151. -/
def Obligations.HeadFrameEventsAct : Prop :=
  (∀ s : State, s.role = .head → s.running = true →
    let f := s.nextCompose
    let t := forEach (List.range 64) (fun n u => u.stepFallback f n) ((s.advanceTo (s.compose f)).closeTicks)
    let r := ((t.applyHead f t.cmds.accepted.length).applyLuts.takeChanges f).freeNat 64
    let u : State := { r.2 with comp := { r.2.comp with seed := BitVec.ofNat 64 r.1 } }
    let begins := u.composes && !u.replaying && !u.jrn.restore && !u.bit Fld.SYS_FAULT_STAT_HANDLING
    (begins = true → (u.beginFrame f).comp.orderCmd = none ∨ (u.beginFrame f).clk.fn ≠ f →
      exec .composeStart s = .next (after s (((u.beginFrame f).journalFrame f).dramAccess))) ∧
    (begins = false → u.comp.orderCmd = none ∨ u.clk.fn ≠ f →
      exec .composeStart s = .next (after s ((State.journalFrame { u with heads := { u.heads with lastC := some f } } f).dramAccess))) ∧
    (∀ v, begins = false → u.comp.orderCmd = some v → u.clk.fn = f →
      let a : State := { u with heads := { u.heads with lastC := some f } }
      let b := a.setWord Reg.CMP_PLANE_ORDER (wd v)
      exec .composeStart s = .next (after s ((State.journalFrame { b with comp := { b.comp with orderCmd := none } } f).dramAccess)))) ∧
  (∀ s : State, s.role ≠ .head ∨ s.running = false → exec .composeStart s = .next (after s s)) ∧
  (∀ (s : State) (t : Fin 8192) (i : Fin 60) (lane : Fin 4) (differs : Bool) (agrees : Option Bool) (e : PatchErrors), s.composes = true →
    (s.frameWith t.val i.val = none → exec (.patchComposed t i lane differs ⟨agrees, e⟩) s = .next (after s s)) ∧
    (∀ h d, s.frameWith t.val i.val = some h →
      let r := s.settleChase h
      let u := r.2.setFrame r.1
      SMap.find r.1.cfg.tiles t.val = some d →
      (u.patchReady r.1.cfg d i.val = true → u.readyAhead r.1.fn t.val i.val < max 1 u.lanes →
        exec (.patchComposed t i lane differs ⟨agrees, e⟩) s = .next (after s (((u.readBanks [lane.val, 4, 5, 12]).finishPatch r.1 t.val d i.val 240 false e).spareCheck
          t.val i.val lane.val differs agrees))) ∧
      (u.patchReady r.1.cfg d i.val = false ∨ max 1 u.lanes ≤ u.readyAhead r.1.fn t.val i.val →
        exec (.patchComposed t i lane differs ⟨agrees, e⟩) s = .next (after s u)))) ∧
  (∀ (s : State) (p : Port) (h : HeadFrame) (l : List (Fin 8192 × Fin 60 × Fin 240)), s.composes = true →
    s.heads.frames.find? (fun h => !(p.val ∈ h.dead)) = some h →
    let a := s.advanceTo (s.pushBy p.val h.fn)
    let r := a.settleChase h
    let u := forEach (r.1.tiles.map (·.1)) (fun t w => w.deadlineTile r.1.fn p.val t
      (l.map (fun (e : Fin 8192 × Fin 60 × Fin 240) => (e.1.val, e.2.1.val, e.2.2.val)))) (r.2.setFrame r.1)
    ∀ g, u.heads.frames.find? (fun g => decide (g.fn = r.1.fn)) = some g →
      let v := forEach (r.1.tiles.map (·.1)) (fun t w => w.sealedBy r.1.fn p.val t)
        (if g.push then (u.lapseLane g p.val 0).lapseLane g p.val 1 else u)
      ∀ h', v.heads.frames.find? (fun g => decide (g.fn = r.1.fn)) = some h' →
        exec (.pushDeadline p l) s = .next (after s (v.setFrame { h' with dead := p.val :: h'.dead }))) ∧
  (∀ (s : State) (p : Port) (l : List (Fin 8192 × Fin 60 × Fin 240)), s.composes = true →
    s.heads.frames.find? (fun h => !(p.val ∈ h.dead)) = none → exec (.pushDeadline p l) s = .next (after s s)) ∧
  (∀ (s : State) (p : Port) (l : List (Fin 8192 × Fin 60 × Fin 240)) (t : Fin 8192) (i : Fin 60) (lane : Fin 4) (d : Bool) (a : Option Bool)
    (e : PatchErrors), s.composes = false →
    exec (.pushDeadline p l) s = .next (after s s) ∧ exec (.patchComposed t i lane d ⟨a, e⟩) s = .next (after s s))

/-- The frame rows of a tile. Beside what the rules say it rests on choices of the model: log entries 65, 122. -/
def Obligations.TileFrameEventsAct : Prop :=
  (∀ (s t : State) (x : Rx) (b : List Word), s.taken x = some (b, t) → t.tileRuns = true →
    (x.type.toNat = tyPATCH → exec (.patchReceived x) s = .next (after s (t.takePatch x.port.val x.src b))) ∧
    (x.type.toNat = tySEAL → exec (.sealReceived x) s = .next (after s (t.takeSeal x.src b))) ∧
    (x.type.toNat = tyVOID → exec (.voidReceived x) s = .next (after s (t.takeVoid x.src b)))) ∧
  (∀ (s t : State) (x : Rx) (b : List Word), s.taken x = some (b, t) → t.tileRuns = false →
    exec (.patchReceived x) s = .next (after s t) ∧ exec (.sealReceived x) s = .next (after s t) ∧
    exec (.voidReceived x) s = .next (after s t)) ∧
  (∀ s : State, s.tileRuns = true →
    let g := s.nextDecision
    let a := s.advanceTo (s.tdec g)
    exec .commitDecision s = .next (after s ((((a.applyDueAt g).privetDue g).takeDecision g).scnEvent 0))) ∧
  (∀ (s : State), s.tileRuns = true → s.tile.waiting = none → exec .showFrame s = .next (after s s)) ∧
  (∀ (s : State) (d : Decision), s.tileRuns = true → s.tile.waiting = some d →
    let a := (s.advanceTo (s.tshow d.fn)).put Fld.SCN_CMT_STAT_LAST d.last
    let r := if d.last = 0 ∨ d.reason = rsNONE then a else a.put Fld.SCN_CMT_STAT_REASON d.reason
    let u : State := { r with tile := { r.tile with
      waiting := none
      played := d.fn } }
    (d.built = none → exec .showFrame s = .next (after s u.slotRegs)) ∧
    (∀ m h i, d.built = some (m, h) →
      let v := ((u.put Fld.SCN_CMT_STAT_HEADID h).raise Fld.SCN_CMT_STAT_SHOWN_VALID).setWord Reg.SCN_SHOWN_FN d.fn
      let free := v.tile.slots.map (fun q => if q.st = 3 then Slot.free else q)
      v.slotOf d.fn = some i ∨ (v.slotOf d.fn = none ∧
        (List.range 3).find? (fun j => match free[j]? with | some q => decide (q.st = 0) | none => false) = some i) →
      exec .showFrame s = .next (after s (State.slotRegs { v with tile := { v.tile with
        slots := setAt free i ⟨3, d.fn, d.kept⟩
        shown := m
        shownFn := some d.fn } })))) ∧
  (∀ s : State, s.tileRuns = false → exec .commitDecision s = .next (after s s) ∧ exec .showFrame s = .next (after s s))

/-- The rows of the lamp pipeline and of ageing. Beside what the rules say it rests on choices of the model: log entries 68, 128. -/
def Obligations.LampPipelineActs : Prop :=
  (∀ (s : State) (f : Word), s.scans = true → s.tile.decided = some f →
    ∃ u : State, exec .pipelineRun s = .next (after s u) ∧ u.lamp.running = some f ∧
      (s.mem.upsets = [] → s.mem.clearing = [] → ((s.advanceTo (s.tdec f + wd 2000)).parsFor f).mode = 2 →
        u.lamp.ledger = s.lamp.ledger)) ∧
  (∀ s : State, s.scans = true → s.tile.decided = none → exec .pipelineRun s = .next (after s s)) ∧
  (∀ (s : State) (f : Word), s.role = .tile → s.running = true → s.lamp.running = some f →
    let same := s.lamp.lastSig = some s.lamp.sigRun
    let n := if s.tile.thisOk = false ∨ s.tile.lastOk = false then s.lamp.freeze else if same then s.lamp.freeze + 1 else 0
    let t := s.setWord Reg.SCN_SHOWN_SIG (wd s.lamp.sigRun)
    let u : State := { t with lamp := { t.lamp with
      running := none
      duty := s.lamp.dutyRun
      lastSig := some s.lamp.sigRun
      freeze := n } }
    (t.get Fld.SCN_FRZ_CFG_N = 0 ∨ n ≠ t.get Fld.SCN_FRZ_CFG_N ∨ n ≤ s.lamp.freeze → exec .pipelineRunEnd s = .next (after s u)) ∧
    (t.get Fld.SCN_FRZ_CFG_N ≠ 0 → n = t.get Fld.SCN_FRZ_CFG_N → s.lamp.freeze < n →
      let v := u.put ⟨Reg.SCN_INT, 4, 4⟩ 1
      exec .pipelineRunEnd s = .next (after s (forEach v.headIds (fun h w => w.sendEvt h 0x0301 [f, wd s.lamp.sigRun]) v)))) ∧
  (∀ s : State, s.role = .tile → s.running = true →
    exec .ledgerFlush s = .next (after s { s with lamp := { s.lamp with flushDue := true } }) ∧
    (s.ageMode = 0 → s.lamp.ageSnap = none →
      exec .ageingPeriod s = .next (after s { s with lamp := { s.lamp with
        ageWait := true
        ownWait := s.lamp.ownWait || !s.lamp.ageWait } })) ∧
    (s.ageMode = 0 → s.lamp.ageSnap.isSome = true →
      exec .ageingPeriod s = .next (after s { s with lamp := { s.lamp with
        ageMore := true
        ownMore := s.lamp.ownMore || !s.lamp.ageMore } })) ∧
    (s.ageMode ≠ 0 → exec .ageingPeriod s = .next (after s s))) ∧
  (∀ (s : State) (m : SMap Nat), s.role = .tile → s.powered = true → s.lamp.ageSnap = some m →
    exec .ageingGainDone s = .next (after s ({ s with lamp := { s.lamp with
      shadow := some (s.gainSet m)
      ageSnap := none
      ageMore := false
      ownMore := false
      ageWait := s.lamp.ageMore
      ownWait := s.lamp.ownMore } }.put Fld.COR_STAT_AGE_BUSY 0))) ∧
  (∀ s : State, s.role ≠ .tile →
    exec .pipelineRunEnd s = .next (after s s) ∧ exec .ledgerFlush s = .next (after s s) ∧ exec .ageingPeriod s = .next (after s s) ∧
    exec .ageingGainDone s = .next (after s s))

/-- The rows of the scan, the sinks, the rail and the sense ADC. Beside what the rules say it rests on choices of the model: log entries 40, 74. -/
def Obligations.DriveEventsAct : Prop :=
  (∀ (s : State) (k : Fin 64) (l : List SinkCheck), s.lit = true →
    let a : State := if k.val = 0 then { s with drive := { s.drive with scanFn := s.tile.played } } else s
    let p := a.scanPars
    let c := a.scanAt p (subOffset p k.val)
    (2 ^ p.slog ≤ k.val ∨ (0 < k.val ∧ earlier c a.periodCut = false) → exec (.subframeStart k l) s = .next (after s a)) ∧
    (k.val < 2 ^ p.slog → k.val = 0 ∨ earlier c a.periodCut = true →
      let t := (a.advanceTo c).raise Fld.SCN_STAT_RUN
      let u := (if k.val = 0 then t else t.noteChecks l).swapPhase
      exec (.subframeStart k l) s = .next (after s (if u.drive.railUp then u.outerLoop l else u)))) ∧
  (∀ (s : State) (k : Fin 64) (r : Fin 45) (stalled : Bool), s.lit = true →
    let p := s.scanPars
    let c := s.scanAt p (subOffset p k.val + r.val * p.grow + p.gdead)
    (2 ^ p.slog ≤ k.val ∨ p.rowPairs ≤ r.val ∨ earlier c s.periodCut = false → exec (.rowSlot k r stalled) s = .next (after s s)) ∧
    (k.val < 2 ^ p.slog → r.val < p.rowPairs → earlier c s.periodCut = true →
      let a := s.advanceTo c
      let a : State := { a with drive := { a.drive with slotNow := some r.val } }
      let b := if a.get Fld.SCN_LINE_MATCH_SUB = k.val ∧ a.get Fld.SCN_LINE_MATCH_ROW = r.val then a.scnEvent 1 else a
      let d := if stalled then ((b.count Fld.SCN_UNDCNT_COUNT).scnEvent 3).tally 0x105 else b
      let u := (d.emit (.rowSlot k.val r.val (d.slotCounts p k.val r.val stalled))).emit
        (.rowSlot k.val (45 + r.val) (d.slotCounts p k.val (45 + r.val) stalled))
      exec (.rowSlot k r stalled) s = .next (after s (if r.val + 1 = p.rowPairs ∧ k.val + 1 = 2 ^ p.slog then
        (u.advanceTo (u.scanAt p (subOffset p k.val + (r.val + 1) * p.grow))).scnEvent 2 else u)))) ∧
  (∀ (s : State) (l : List SinkCheck), s.lit = true →
    let t := (s.advanceTo s.periodCut).noteChecks l
    let runs := (List.range 90).foldl (fun m r => SMap.set (fun _ => 0) m r
      (if r ∈ t.drive.tripped ∧ t.latchedRow r = false then SMap.get (fun _ => 0) t.drive.tripRun r + 1 else 0)) t.drive.tripRun
    let u := State.put { t with drive := { t.drive with
      results := []
      tripped := []
      tripRun := runs
      slotNow := none
      period := t.drive.period + 1 } } Fld.SCN_STAT_RUN 0
    let due := u.bit Fld.DRV_FAULT_CFG_PINTEST_EN && !u.drive.pinRun && !u.noTest && decide (64 ≤ u.drive.period - u.drive.pinLast)
    exec (.scanPeriodEnd l) s = .next (after s (if due then u.pinStart else u))) ∧
  (∀ (s : State) (r : Fin 90), s.lit = true →
    ((s.rowOf r.val).isSome = false ∨ s.latchedRow r.val = true ∨ r.val ∈ s.drive.tripped →
      exec (.rowOvercurrentTrip r) s = .next (after s s)) ∧
    ((s.rowOf r.val).isSome = true → s.latchedRow r.val = false → r.val ∉ s.drive.tripped →
      let t := ((s.count Fld.DRV_ROWOC_CNT_COUNT).raise Fld.DRV_INT_ROWOC).tally 0x107
      let u : State := State.emit { t with drive := { t.drive with tripped := r.val :: t.drive.tripped } } (.rowOff r.val)
      ((SMap.get (fun _ => 0) u.drive.tripRun r.val : Nat) < 3 → exec (.rowOvercurrentTrip r) s = .next (after s u)) ∧
      (3 ≤ (SMap.get (fun _ => 0) u.drive.tripRun r.val : Nat) →
        let v := u.put ⟨Reg.DRV_ROW_LATCH (r.val / 32), r.val % 32, r.val % 32⟩ 1
        exec (.rowOvercurrentTrip r) s = .next (after s ((((v.changeFlags (v.rowLamps r.val) 1 0).raise Fld.DRV_INT_LAMP).raise
          Fld.DRV_INT_ROWLATCH).logBlot blkDRV 2 clsDEGRADED r.val))))) ∧
  (∀ s : State, s.scans = true →
    let rest (t : State) : State := { t with drive := { t.drive with slotNow := none } }
    (∀ t, s.drive.trim = some t → exec (.deadTime .idle) s = .next (after s (rest { s with drive := { s.drive with
      trim := some { t with votes := [] } } }))) ∧
    (s.drive.trim = none →
      exec (.deadTime .idle) s = .next (after s (rest s)) ∧
      (∀ c : SinkCheck, s.mayProbe c.lamp.val = true → s.lit = true → c.lamp.val ∈ s.slotLamps → s.pinDue = false →
        exec (.deadTime (.probe c)) s = .next (after s (rest (s.conductProbe c)))) ∧
      (∀ c : SinkCheck, s.mayProbe c.lamp.val = false ∨ c.lamp.val ∉ s.slotLamps ∨ s.pinDue = true →
        exec (.deadTime (.probe c)) s = .next (after s (rest s))) ∧
      (s.pinDue = true ∨ s.probeDue = true → ∀ l, exec (.deadTime (.trim l)) s = .next (after s (rest s)))) ∧
    (s.pinDue = false → s.probeDue = false → ∀ l, exec (.deadTime (.trim l)) s = .next (after s (rest (s.trimVote l)))) ∧
    (s.drive.trim.isSome = true → exec .trimSweepStart s = .next (after s s)) ∧
    (s.drive.trim = none → exec .trimSweepStart s = .next (after s s.trimStart))) ∧
  (∀ (s : State) (t : Trim), s.drive.trim = some t →
    (t.sink < 960 → exec .trimSweepEnd s = .next (after s s)) ∧
    (960 ≤ t.sink → exec .trimSweepEnd s = .next (after s ({ s with drive := { s.drive with
      trim := none
      trimDone := some t.results } }.put Fld.DRV_TCAL_STAT_BUSY 0)))) ∧
  (∀ (s : State) (l : List Nat), s.lit = true → s.drive.railUp = true →
    exec (.phaseShareWindow l) s = .next (after s (forEach s.workPhases (fun p u => u.phaseVerdict p
      (shareBad (l.getD p 0) ((s.workPhases.map (fun q => l.getD q 0)).sum) s.workPhases.length || decide (p ∈ s.drive.phiOvr)))
      { s with drive := { s.drive with phiOvr := [] } }))) ∧
  (∀ (s : State) (raw : Int), s.role = .tile → s.powered = true →
    let i := if s.adcEnabled s.drive.adcNext then s.drive.adcNext else s.adcAfter s.drive.adcNext
    (s.drive.adcSettle = true →
      let u := s.count Fld.DRV_ADC_STAT_SETTLE
      exec (.adcConversion raw) s = .next (after s { u with drive := { u.drive with
        adcSettle := false
        adcNext := i } })) ∧
    (s.drive.adcSettle = false →
      let code := (clampI raw 0 4095).toNat
      (0 ≤ raw → raw < 4096 →
        let u := (s.put (Fld.DRV_ADC_RES_CODE i) code).putBit (Fld.DRV_ADC_RES_OVR i) false
        exec (.adcConversion raw) s = .next (after s { u with drive := { u.drive with
          adcNext := u.adcAfter i
          adcSettle := false
          tempRes := if 9 ≤ i ∧ i ≤ 12 then SMap.put u.drive.tempRes i ((code :: SMap.get (fun _ => []) u.drive.tempRes i).take 3)
            else u.drive.tempRes
          vdrv := if i = 8 then (code :: u.drive.vdrv).take 3 else u.drive.vdrv } })) ∧
      (raw < 0 ∨ 4096 ≤ raw →
        let u := (((s.put (Fld.DRV_ADC_RES_CODE i) code).putBit (Fld.DRV_ADC_RES_OVR i) true).count Fld.DRV_ADC_STAT_OVR).raise
          Fld.DRV_INT_ADCOVR
        exec (.adcConversion raw) s = .next (after s { u with drive := { u.drive with
          adcNext := u.adcAfter i
          adcSettle := true
          phiOvr := if 3 ≤ i ∧ i ≤ 6 then (i - 3) :: u.drive.phiOvr else u.drive.phiOvr
          tempRes := if 9 ≤ i ∧ i ≤ 12 then SMap.put u.drive.tempRes i ((4095 :: SMap.get (fun _ => []) u.drive.tempRes i).take 3)
            else u.drive.tempRes
          vdrv := if i = 8 then (0 :: u.drive.vdrv).take 3 else u.drive.vdrv } }))))

/-- The rows of the thermal model. Beside what the rules say it rests on choices of the model: log entries 63, 90. -/
def Obligations.ThermalEventsAct : Prop :=
  (∀ (s : State) (x : ThermalSample), s.powered = true →
    let a := forEach s.sensors (fun i t => t.put (Fld.THM_SENS_T i) (unsigned 16 (s.sensorRead x i))) s
    let b := if a.thm.started then a else a.startModel
    let c := forEach (List.range 6) (fun j t => t.modelNode x j) b
    let d := forEach c.sensors (fun i t => t.voteSensor i) c
    let e := (forEach d.sensors (fun i t => t.dropSensor i) d).modelOnly
    let u := e.put Fld.THM_STAT_TJ (unsigned 16 (e.junction * 8).floor)
    (u.tooHot = true → exec (.thermalModelUpdate x) s = .next (after s (doShutdown u))) ∧
    (u.tooHot = false →
      let v := u.setLevelC (u.levelFor e.junction) (unsigned 16 (e.junction * 8).floor)
      exec (.thermalModelUpdate x) s = .next (after s { v with thm := { v.thm with
        hotMs := if (v.throtC : Rat) ≤ e.junction then v.thm.hotMs + 1 else 0 } }))) ∧
  (∀ s : State, s.powered = true → s.get Fld.THM_STAT_LEVEL = 2 → 1000 * max 1 (s.get Fld.THM_THROT_CFG_STEP_S) ≤ s.thm.hotMs →
    exec .throttleStep s = .next (after s (State.throttleMore { s with thm := { s.thm with
      hotMs := s.thm.hotMs - 1000 * max 1 (s.get Fld.THM_THROT_CFG_STEP_S) } }))) ∧
  (∀ s : State, s.get Fld.THM_STAT_LEVEL ≠ 2 ∨ s.thm.hotMs < 1000 * max 1 (s.get Fld.THM_THROT_CFG_STEP_S) →
    exec .throttleStep s = .next (after s s))

/-- The rows of the sources. Beside what the rules say it rests on choices of the model: log entries 15, 101 to 104, 139 to 142. -/
def Obligations.SourceEventsAct : Prop :=
  (∀ (s : State) (n : Nat) (f2 : Bool) (p : SdiPart), s.ingestRuns = true →
    let u := s.reportLane p
    (2 ≤ s.laneMode p.lane.val → exec (.sdiLineReceived ⟨n, f2, [p]⟩) s = .next (after s s)) ∧
    (s.laneMode p.lane.val ≤ 1 → p.rate = 0 → exec (.sdiLineReceived ⟨n, f2, [p]⟩) s = .next (after s u)) ∧
    (s.laneMode p.lane.val = 0 → p.rate ≠ 0 →
      exec (.sdiLineReceived ⟨n, f2, [p]⟩) s = .next (after s (forEach (u.inputOf 1 p.lane.val)
        (fun k v => v.sdiLine k n f2 p.luma p.cb p.cr p.crcOk) u))) ∧
    (s.laneMode p.lane.val = 1 → p.rate ≠ 0 →
      exec (.sdiLineReceived ⟨n, f2, [p]⟩) s = .next (after s (forEach (u.inputOf 2 (p.lane.val / 4)) (fun k v => v.quadLines k n [p]) u))) ∧
    u.get (Fld.SRC_LANE_STAT_RATE p.lane.val) = p.rate.toNat ∧
    (u.get (Fld.SRC_LANE_STAT_LOCK p.lane.val) = if p.rate = 0 then 0 else 1)) ∧
  (∀ (s : State) (g : Fin 2) (n : Nat) (a b c d : SdiPart), s.ingestRuns = true → s.ingest.gmode.getD g.val 3 = 1 →
    (∀ p ∈ [a, b, c, d], p.lane.val / 4 = g.val ∧ p.rate ≠ 0) →
    let u := forEach [a, b, c, d] (fun p v => v.reportLane p) s
    exec (.sdiLineReceived ⟨n, false, [a, b, c, d]⟩) s =
      .next (after s (forEach (u.inputOf 2 g.val) (fun k v => v.quadLines k n [a, b, c, d]) u))) ∧
  (∀ (s : State) (k n : Nat) (l : List SdiPart) (i : Nat), i ∈ [1, 2, 3, 4] → quadPart l i = none →
    s.quadLines k n l = ((s.openFrame k none).2.lostLine k (2 * n)).lostLine k (2 * n + 1)) ∧
  (∀ (s : State) (f : EthFrame), s.ingestRuns = true → s.ingest.gmode.getD f.eth.val 3 = 2 →
    let t := forEach (List.range 4) (fun i u => u.raise (Fld.SRC_LANE_STAT_LOCK (4 * f.eth.val + i))) s
    (∀ i, f.fcsOk = true → f.ipv4 = true → f.fragment = false → f.vlanTags ≤ 1 → t.matchFlow f = some i →
      f.ipSumOk = true → f.udpSum = 0 ∨ f.udpSumOk = true → f.rtpVer = 2 → f.payloadType.toNat = t.get (Fld.SRC_FLOW_MAP_PT i) →
      t.get (Fld.SRC_FLOW_MAP_KIND i) ≠ 1 →
      let n := t.get (Fld.SRC_FLOW_MAP_SOURCE i)
      (∀ r ∈ f.srds, r.line < t.fieldH n ∧ r.offset < t.rasterW n ∧ r.octets % (pgroup (t.get (Fld.SRC_CFG_FORMAT n))).1 = 0) →
      ((t.src n).seqs.find? (fun e => decide (e.1 = f.seq.toNat)) = none → f.full = false →
        olderThanBuffer i f.seq.toNat (t.src n).seqs = false →
        exec (.st2110PacketReceived f) s = .next (after s ((((t.setSrc n { t.src n with
          seqs := keepSeq f.seq.toNat i t.clk.upNs (t.src n).seqs }).tally 0x0C4).drainFlow n).takePacket n f.eth.val f))) ∧
      ((t.src n).seqs.find? (fun e => decide (e.1 = f.seq.toNat)) = none →
        f.full = true ∨ olderThanBuffer i f.seq.toNat (t.src n).seqs = true →
        exec (.st2110PacketReceived f) s = .next (after s (t.ethErr f.eth.val 7))) ∧
      (∀ e, (t.src n).seqs.find? (fun e => decide (e.1 = f.seq.toNat)) = some e →
        (t.clk.upNs ≤ e.2.2 + 10000000 → exec (.st2110PacketReceived f) s = .next (after s (t.ethErr f.eth.val 6))) ∧
        (e.2.2 + 10000000 < t.clk.upNs → exec (.st2110PacketReceived f) s = .next (after s (t.ethErr f.eth.val 7))))) ∧
    (f.fcsOk = false → exec (.st2110PacketReceived f) s = .next (after s (t.ethErr f.eth.val 0))) ∧
    (f.fcsOk = true → f.ipv4 = false ∨ f.fragment = true ∨ 1 < f.vlanTags ∨ t.matchFlow f = none →
      exec (.st2110PacketReceived f) s = .next (after s (t.ethErr f.eth.val 1)))) ∧
  (∀ (s : State) (n : SrcId) (info : FrameInfo), s.ingestRuns = true → s.bit (Fld.SRC_CFG_ENABLED n.val) = true →
    (∀ a : State, a = forEach (s.sdiLanes n.val) (fun i u =>
        if u.laneMode i ≤ 1 then u.putBit (Fld.SRC_LANE_STAT_PID i) info.pid.isSome else u) s →
      a.bit (Fld.SRC_CFG_ENABLED n.val) = true → a.get (Fld.SRC_CFG_KIND n.val) = 1 ∨ a.get (Fld.SRC_CFG_KIND n.val) = 2 →
      exec (.sourceFrameComplete n info) s = .next (after s (a.completeFrame n.val (a.formatWrong n.val info)))) ∧
    exec (.sourceLostTimeout n) s = .next (after s (s.setLost n.val true))) ∧
  (∀ (s : State) (n : SrcId) (rows : List (List RawPixel)) (m : HostMem) (b : Nat), s.pci = true →
    let t := s.showMem m
    (t.ingestRuns && t.channelOn 1) = true → (t.src n.val).fetching = some b →
    let buf := (t.src n.val).bufs.getD b (0, 0)
    let r := t.fetchLines (t.rasterH n.val) buf.1 buf.2 (t.rasterW n.val * (if t.get (Fld.SRC_CFG_FORMAT n.val) = 6 then 8 else 4))
    (r.1 = none → exec (.hostFrameFetched n rows m) s = .next (after s (r.2.hostFrame n.val
      ((rows.take (r.2.rasterH n.val)).map (fun l => l.take (r.2.rasterW n.val)))))) ∧
    (∀ f, r.1 = some f → exec (.hostFrameFetched n rows m) s = .next (after s ((r.2.fetchFail n.val).channelFault 1 f)))) ∧
  (∀ (s : State) (l : SdiLine) (f : EthFrame) (n : SrcId) (info : FrameInfo), s.ingestRuns = false →
    exec (.sdiLineReceived l) s = .next (after s s) ∧ exec (.st2110PacketReceived f) s = .next (after s s) ∧
    exec (.sourceFrameComplete n info) s = .next (after s s) ∧ exec (.sourceLostTimeout n) s = .next (after s s))

/-- The rows of the lanes that carry codewords. Beside what the rules say it rests on choices of the model: log entries 76, 114, 117, 147, 149. -/
def Obligations.LaneEventsAct : Prop :=
  (∀ (s : State) (p : Port) (tr : BitVec 3), s.portsOn = true → s.get (Fld.LNK_PORT_STAT_STATE p.val) = 0 →
    let ok := (List.range 3).filter (fun m => tr.getLsbD m && !((s.port p.val).phy m).retired)
    let mask := ok.foldl (fun a m => a + 2 ^ m) 0
    let t := forEach [0, 1, 2] (fun m u =>
      if ((u.port p.val).phy m).retired then u
      else
        let v := ((u.setPhyOf p.val m { (u.port p.val).phy m with
          goodRun := 0
          badRun := 0 }).put (Fld.LNK_PHY_STAT_STATE p.val m) 1).put (Fld.LNK_PHY_STAT_ALIGN p.val m) 0
        if m ∈ ok then (v.raise (Fld.LNK_PHY_STAT_LOCK p.val m)).adapt p.val m
        else if (v.put (Fld.LNK_PHY_STAT_LOCK p.val m) 0).retiredBefore p.val m then
          (v.put (Fld.LNK_PHY_STAT_LOCK p.val m) 0).retirePhy p.val m 3
        else v.put (Fld.LNK_PHY_STAT_LOCK p.val m) 0)
      ((s.setPort p.val { s.port p.val with met := false }).put (Fld.LNK_PORT_STAT_STATE p.val) 1)
    exec (.signalDetect p tr) s = .next (after s ((t.put (Fld.LNK_LANE_MAP_RX p.val) (mapOf mask)).sendHello p.val mask))) ∧
  (∀ (s : State) (p : Port) (tr : BitVec 3) (rx : BitVec 6) (lo hi : Byte) (st : Word), s.portsOn = true →
    let n := lo.toNat + 256 * hi.toNat
    (s.get (Fld.LNK_PORT_STAT_STATE p.val) = 2 →
      let a := s.takeStamp p.val n st
      let t := a.put (Fld.LNK_LANE_MAP_TX p.val) rx.toNat
      let u := if t.txMap p.val 0 = a.txMap p.val 0 then t else t.clearDelay p.val
      exec (.hello p 1 tr rx lo hi st) s = .next (after s ((u.txLaneChange p.val 0 (a.txMap p.val 0)).txLaneChange p.val 1 (a.txMap p.val 1)))) ∧
    (s.get (Fld.LNK_PORT_STAT_STATE p.val) = 1 →
      let w := forEach [0, 1, 2] (fun m u => if u.bit (Fld.LNK_PHY_STAT_LOCK p.val m) then u.raise (Fld.LNK_PHY_STAT_ALIGN p.val m) else u) s
      let t := (w.takeStamp p.val n st).put (Fld.LNK_LANE_MAP_TX p.val) rx.toNat
      exec (.hello p 1 tr rx lo hi st) s = .next (after s (State.tryLinkUp (t.setPort p.val { t.port p.val with met := decide (tr ≠ 0) }) p.val))) ∧
    (∀ v : Byte, v ≠ 1 → exec (.hello p v tr rx lo hi st) s = .next (after s s))) ∧
  (∀ (s : State) (p : Nat),
    (s.get (Fld.LNK_PORT_STAT_STATE p) = 1 → (s.port p).met = true → s.rxMap p 0 ≠ 3 → s.txMap p 0 ≠ 3 →
      (∀ k ∈ [0, 1], s.rxMap p k = 3 ∨ s.bit (Fld.LNK_PHY_STAT_ALIGN p (s.rxMap p k)) = true) → s.tryLinkUp p = s.linkUpNow p) ∧
    (s.get (Fld.LNK_PORT_STAT_STATE p) ≠ 1 ∨ (s.port p).met = false ∨ s.rxMap p 0 = 3 ∨ s.txMap p 0 = 3 ∨
      s.bit (Fld.LNK_PHY_STAT_ALIGN p (s.rxMap p 0)) = false → s.tryLinkUp p = s)) ∧
  (∀ (s : State) (p m : Nat) (d : CwDec), s.linkUp p = false →
    s.contradicts p m d = (decide (cwField d 82 81 ≠ 2) || decide (cwField d 80 79 ≤ 1))) ∧
  (∀ (s : State) (p cap : Nat) (st : Word),
    let b := s.setPort p { s.port p with peerCap := cap }
    let r := min (s.clk.dtime - st).toNat 65535
    ((s.port p).helloStamp = some st →
      s.takeStamp p cap st = ((b.setPort p { b.port p with helloStamp := none }).put (Fld.LNK_RETRY_RTT_NS p) r).putBit
        (Fld.LNK_RETRY_UNAVAIL p) (decide (40000 < r))) ∧
    ((s.port p).helloStamp ≠ some st → s.takeStamp p cap st = b.helloWith p (b.trainedLanes p) st)) ∧
  (∀ (s : State) (p : Port), s.portsOn = true → s.get (Fld.LNK_PORT_STAT_STATE p.val) = 1 →
    exec (.bringUpTimeout p) s = .next (after s ((s.count (Fld.LNK_PORT_STAT_TRAINFAIL p.val)).put (Fld.LNK_PORT_STAT_STATE p.val) 0))) ∧
  (∀ (s : State) (p : Port) (m : PhyLane) (c : Codeword), s.portsOn = true →
    s.get (Fld.LNK_PORT_STAT_STATE p.val) = 1 ∨ s.get (Fld.LNK_PORT_STAT_STATE p.val) = 2 → ((s.port p.val).phy m.val).retired = false →
    let a := s.tallyOf 0x000 1 p.val
    (cwDecode c = none → exec (.codewordReceived p m c) s = .next (after s (a.badCodeword p.val m.val))) ∧
    (∀ d, cwDecode c = some d → a.contradicts p.val m.val d = true →
      exec (.codewordReceived p m c) s = .next (after s (a.badCodeword p.val m.val))) ∧
    (∀ d, cwDecode c = some d → a.contradicts p.val m.val d = false →
      let h := ((a.goodCodeword p.val m.val d.fixed).takeHeader p.val d).nackNow p.val m.val
      let k := cwField d 82 81
      let r := (h.port p.val).rx k
      (2 ≤ cwField d 80 79 ∨ 2 ≤ k → exec (.codewordReceived p m c) s = .next (after s ((h.takeOther p.val d).tryLinkUp p.val))) ∧
      (cwField d 80 79 < 2 → k < 2 → r.expect = BitVec.ofNat 16 (cwField d 98 83) →
        exec (.codewordReceived p m c) s = .next (after s ((((h.setRxOf p.val k { r with early := [] }).takeCw p.val m.val k d).takeEarly
          p.val k r.early).tryLinkUp p.val))))) ∧
  (∀ (s : State) (p : Port) (m : PhyLane) (k : LogLane) (fn : Word) (why : BitVec 8), s.running = true → s.linkUp p.val = true →
    (((s.port p.val).rx k.val).nacked = true → ((s.port p.val).rx k.val).nackDue = false →
      exec (.nackResendTimeout p k) s = .next (after s (s.sendNack p.val k.val (((s.port p.val).rx k.val).expect - 1)))) ∧
    (exec (.resync p k why) s = .next (after s (s.takeResync p.val k.val why.toNat))) ∧
    (s.rxMap p.val k.val = m.val → s.rxMap p.val 2 ≠ 3 → (s.port p.val).calib = none → k.val ≠ 0 →
      let t := ((((s.setRxMap p.val k.val (s.rxMap p.val 2)).setRxMap p.val 2 m.val).put
        (Fld.LNK_PHY_STAT_STATE p.val (s.rxMap p.val 2)) 2).raise (Fld.LNK_PHY_STAT_LOCK p.val (s.rxMap p.val 2))).setWord
        (Reg.LNK_PHY_STAT p.val m.val) 0
      exec (.laneSwap p m k fn) s = .next (after s ((t.setPort p.val { t.port p.val with
        move := some ⟨k.val, m.val, s.rxMap p.val 2, true⟩
        sweepAt := t.clk.upNs }).noteLanes p.val))) ∧
    (s.rxMap p.val k.val ≠ m.val → (s.port p.val).move = none → exec (.laneSwap p m k fn) s = .next (after s s)) ∧
    (s.rxMap p.val 1 ≠ 3 →
      exec (.idleEnter p) s = .next (after s ((s.setPort p.val { s.port p.val with rxIdle1 := true }).put
        (Fld.LNK_PHY_STAT_STATE p.val (s.rxMap p.val 1)) 3))) ∧
    (s.bit (Fld.LNK_LANE_CFG_FI_EN p.val) = true → s.txMap p.val 1 ≠ 3 → (s.port p.val).tx1.buf = [] →
      (s.port p.val).tx1.queue = [] → (s.port p.val).tx1.part = none → (s.port p.val).tx1.ready = false → s.bit (Fld.LNK_PORT_STAT_L1_IDLE p.val) = false →
      exec (.fastIdleEntry p) s = .next (after s ((((s.sendCtl p.val 1 3 []).nextCw p.val 1).raise
        (Fld.LNK_PORT_STAT_L1_IDLE p.val)).tallyOf 0x009 1 p.val))) ∧
    ((s.port p.val).tx1.queue ≠ [] ∨ (s.port p.val).tx1.ready = true →
      exec (.fastIdleExit p) s = .next (after s (s.wakeLane1 p.val))) ∧
    ((s.port p.val).tx1.queue = [] → (s.port p.val).tx1.ready = false → exec (.fastIdleExit p) s = .next (after s s)) ∧
    ((s.port p.val).rxIdle1 = true →
      exec (.fastIdleWake p true true) s = .next (after s (
        let t := (s.setPort p.val { s.port p.val with rxIdle1 := false }).put (Fld.LNK_PHY_STAT_STATE p.val (s.rxMap p.val 1)) 2
        forEach ((List.range 4).filter (fun q => decide (q ≠ p.val))) (fun q u => u.wakeLane1 q) t)) ∧
      exec (.fastIdleWake p true false) s = .next (after s (s.count (Fld.LNK_DROPCNT_FALSEWAKE p.val))) ∧
      exec (.fastIdleWake p false true) s = .next (after s (s.count (Fld.LNK_DROPCNT_FALSEWAKE p.val)))))

/-- The rows of lane repair and calibration. Beside what the rules say it rests on choices of the model: log entries 29, 41, 118. -/
def Obligations.LaneRepairActs : Prop :=
  (∀ (s : State) (p : Port) (m : PhyLane) (k : Nat), s.running = true → s.linkUp p.val = true → s.rxLogical p.val m.val = some k →
    let t := ((s.setWord (Reg.LNK_PHY_STAT p.val m.val) (wd (6 * 16))).raise (Fld.LNK_INT_LANE_DOWN p.val)).setRxMap p.val k 3
    (t.port p.val).calib = none →
    (t.rxMap p.val 2 ≠ 3 → (t.port p.val).standIn = none →
      let u := t.put (Fld.LNK_PHY_STAT_STATE p.val (t.rxMap p.val 2)) 1
      exec (.laneFailure p m) s = .next (after s (((u.setPort p.val { u.port p.val with standIn := some m.val }).noteLanes p.val).tellMap p.val))) ∧
    (t.rxMap p.val 2 = 3 → t.workingLanes p.val = 0 → exec (.laneFailure p m) s = .next (after s (t.linkDown p.val 0))) ∧
    (t.rxMap p.val 2 = 3 → t.workingLanes p.val ≠ 0 →
      exec (.laneFailure p m) s = .next (after s ((t.noteLanes p.val).tellMap p.val))) ∧
    (t.rxMap p.val 2 ≠ 3 → (t.port p.val).standIn.isSome = true →
      exec (.laneFailure p m) s = .next (after s ((t.noteLanes p.val).tellMap p.val)))) ∧
  (∀ (s : State) (p : Port) (m : PhyLane), s.rxLogical p.val m.val = none → (s.port p.val).calib = none →
    (s.rxMap p.val 2 ≠ m.val ∨ (s.port p.val).standIn = none → exec (.laneFailure p m) s = .next (after s s)) ∧
    (s.running = true → s.linkUp p.val = true → s.rxMap p.val 2 = m.val → (s.port p.val).standIn.isSome = true →
      let t := ((s.setWord (Reg.LNK_PHY_STAT p.val m.val) (wd (6 * 16))).raise (Fld.LNK_INT_LANE_DOWN p.val)).setRxMap p.val 2 3
      let u := t.setPort p.val { t.port p.val with standIn := none }
      (u.workingLanes p.val = 0 → exec (.laneFailure p m) s = .next (after s (u.linkDown p.val 0))) ∧
      (u.workingLanes p.val ≠ 0 → exec (.laneFailure p m) s = .next (after s ((u.noteLanes p.val).tellMap p.val))))) ∧
  (∀ (s : State) (p : Port) (m : Nat), s.running = true → s.linkUp p.val = true → (s.port p.val).standIn = some m →
    s.rxMap p.val 2 ≠ 3 →
    let sp := s.rxMap p.val 2
    let k := if s.rxMap p.val 0 = 3 then 0 else 1
    let t := (((s.setRxMap p.val k sp).setRxMap p.val 2 3).put (Fld.LNK_PHY_STAT_STATE p.val sp) 2).raise (Fld.LNK_PHY_STAT_LOCK p.val sp)
    let u := (t.setPort p.val { t.port p.val with standIn := none }).adapt p.val sp
    exec (.standInTrained p) s = .next (after s (((if k = 0 then u.clearDelay p.val else u).retirePhy p.val m sp).tellMap p.val))) ∧
  (∀ (s : State) (p : Port) (m : PhyLane) (b : Bool), s.running = true → s.linkUp p.val = true →
    exec (.calReq p m b) s = .next (after s (s.setPort p.val { s.port p.val with
      remoteCal := if b then none else some m.val
      remoteAt := none
      remoteReady := false }))) ∧
  (∀ (s : State) (p : Port) (m : PhyLane), s.running = true →
    ((s.port p.val).remoteCal.isSome = true →
      exec (.calReady p m) s = .next (after s (s.setPort p.val { s.port p.val with remoteReady := true }))) ∧
    ((s.port p.val).remoteCal = none → exec (.calReady p m) s = .next (after s s))) ∧
  (∀ (s : State) (p : Port) (m k : Nat), s.running = true → (s.port p.val).remoteReady = true → (s.port p.val).remoteCal = some m →
    s.txLogical p.val m = some k →
    let a := if k = 1 then s.wakeLane1 p.val else s
    let f := a.clk.fn.toNat
    let args := [k, f % 256, f / 256 % 256, f / 65536 % 256, f / 16777216]
    let t := ((((a.setTxOf p.val k { (a.port p.val).tx k with mark := some ⟨m, ctlBytes 2 args⟩ }).emit (.control p.val k ⟨2, args⟩)).setTxMap
      p.val k (a.txMap p.val 2)).setTxMap p.val 2 m)
    let back := (t.port p.val).remoteAt.isSome
    let u := t.setPort p.val { t.port p.val with
      remoteCal := if back then none else some (a.txMap p.val 2)
      remoteAt := if back then none else some t.clk.upNs
      remoteReady := false }
    exec (.calibrationSwapTick p) s = .next (after s (if k = 0 then u.clearDelay p.val else u))) ∧
  (∀ (s : State) (p : Port), s.running = true →
    (s.get (Fld.LNK_CAL_CFG_PERIOD p.val) ≠ 0 → exec (.calibrationPeriod p) s = .next (after s (s.requestCal p.val none).2)) ∧
    (s.get (Fld.LNK_CAL_CFG_PERIOD p.val) = 0 → exec (.calibrationPeriod p) s = .next (after s s)) ∧
    (s.bit (Fld.LNK_CAL_STAT_QUEUED p.val) = true → (s.port p.val).calib = none →
      exec (.calibrationQueuedStart p) s = .next (after s (((s.setPort p.val { s.port p.val with queuedCal := none }).put
        (Fld.LNK_CAL_STAT_QUEUED p.val) 0).requestCal p.val (s.port p.val).queuedCal).2)) ∧
    ((s.port p.val).calib = none → exec (.spareTrained p) s = .next (after s s)) ∧
    (∀ c, (s.port p.val).calib = some c → s.get (Fld.LNK_CAL_STAT_STEP p.val) = 1 → c.started = false →
      exec (.spareTrained p) s = .next (after s ((((s.setPort p.val { s.port p.val with
        calib := some { c with started := true } }).adapt p.val c.onto).raise (Fld.LNK_PHY_STAT_LOCK p.val c.onto)).announceMove
        p.val c.lane c.onto c.lane)))) ∧
  (∀ (l : List Nat) (i : Nat), fewest l (List.range l.length) = some i → i < l.length ∧ ∀ j, j < l.length → l.getD i 0 ≤ l.getD j 0) ∧
  (∀ (s : State) (p : Port) (c : Calib) (ctle ph : List Nat) (dfe : List (List Nat)) (x y n : Nat), s.running = true →
    (s.port p.val).calib = some c → 2 ≤ s.get (Fld.LNK_CAL_STAT_STEP p.val) →
    fewest ctle (List.range ctle.length) = some x → fewest ph (List.range ph.length) = some y →
    let e := s.put (Fld.LNK_PHY_EQ0_CTLE p.val c.lane) x
    let a := (e.put (Fld.LNK_PHY_EQ1_DFE p.val c.lane) (sweptTaps (e.get (Fld.LNK_PHY_EQ1_DFE p.val c.lane)) dfe)).put
      (Fld.LNK_PHY_EQ0_PHASE p.val c.lane) y
    let done := (a.port p.val).selftest
    let b := ((((a.setPort p.val { a.port p.val with selftest := if done.head? = some c.lane then done.tail else done }).put
      (Fld.LNK_CAL_STAT_STEP p.val) 0).countWrap (Fld.LNK_CAL_STAT_COUNT p.val)).raise (Fld.LNK_INT_CAL_DONE p.val))
    (n ≤ b.get (Fld.LNK_CAL_CFG_RETIRE_THR p.val) →
      let u := ((b.setRxMap p.val 2 c.lane).setWord (Reg.LNK_PHY_STAT p.val c.lane) 0).noteLanes p.val
      (u.bit (Fld.LNK_CAL_CFG_RETURN p.val) = false → exec (.calibrationSweepDone p ctle dfe ph n) s = .next (after s (u.endCal p.val))) ∧
      (u.bit (Fld.LNK_CAL_CFG_RETURN p.val) = true → exec (.calibrationSweepDone p ctle dfe ph n) s = .next (after s
        (State.announceMove (u.setPort p.val { u.port p.val with calib := some { c with back := true } }) p.val c.onto c.lane c.lane)))) ∧
    (b.get (Fld.LNK_CAL_CFG_RETIRE_THR p.val) < n →
      let u := (b.setPort p.val { b.port p.val with calib := none }).selftestFail 0
      exec (.calibrationSweepDone p ctle dfe ph n) s = .next (after s (((u.retirePhy p.val c.lane c.onto).tellMap p.val).endCal p.val))))

/-- The rows of the network. Beside what the rules say it rests on choices of the model: log entries 22 to 28. -/
def Obligations.NetworkPacketsAct : Prop :=
  (∀ (s u : State) (x : Rx), s.letIn x = (true, false, u) → tagged x.type.toNat = false → x.type.toNat ≠ tyPATCH →
    u.bit Fld.LNK_NODE_ID_VALID = true → x.dest ≠ 0 → x.dest ≠ 0xFFFF → x.dest ≠ u.nodeId →
    (∀ p, u.outPort x.dest (some x.port.val) = some p →
      exec (.packetForward x) s = .next (after s (u.sendOn p x.lane.val x.type.toNat x.dest x.src x.body false))) ∧
    (u.outPort x.dest (some x.port.val) = none →
      exec (.packetForward x) s = .next (after s (u.unroute x.port.val)))) ∧
  (∀ (s t : State) (x : Rx) (b : List Word), s.taken x = some (b, t) →
    exec (.packetForward x) s = .next (after s t) ∧
    (wbits (nth b 0) 15 8 ≠ 1 → exec (.testPacketReceived x) s = .next (after s t)) ∧
    (wbits (nth b 0) 15 8 = 1 → x.src ≠ 0 →
      exec (.testPacketReceived x) s = .next (after s (t.sendTo tyTEST x.src
        (setAt b 0 (wd (wbits (nth b 0) 31 16 * 2 ^ 16 + wbits (nth b 0) 7 0)))))) ∧
    ((t.headIndex x.src) = none → exec (.barReqReceived x) s = .next (after s t)) ∧
    ((t.headIndex x.src).isSome = true →
      let u : State := { t with net := { t.net with
        barReqs := ⟨wbits (nth b 0) 31 16, x.src, t.openCmds⟩ ::
          t.net.barReqs.filter (fun (q : BarReq) => decide (q.head ≠ x.src))
        merge := t.net.merge.filter (fun (m : BarMerge) => decide (m.head ≠ x.src)) } }
      (u.downPorts x.src = [] → exec (.barReqReceived x) s = .next (after s (u.barArrive ⟨wbits (nth b 0) 31 16, x.src, 0, none⟩))) ∧
      (u.downPorts x.src ≠ [] → exec (.barReqReceived x) s = .next (after s u))) ∧
    (t.role = .head →
      exec (.walkReceived x) s = .next (after s ((t.put (Fld.LNK_NET_STAT_BLOCKED x.port.val) 0).sendLocal x.port.val tyENUM
        (returnBody (if wbits (nth b 0) 23 16 = 0 then 0 else 1) (wbits (nth b 0) 15 0) (wbits (nth b 1) 31 16) false false
          (some t.nodeId) 1 0))) ∧
      (∀ w, t.net.walk = some w → w.port = x.port.val → w.walkId = wbits (nth b 0) 15 0 →
        exec (.returnReceived x) s = .next (after s (t.headWalkBack w (some b) x.src))) ∧
      (t.net.walk = none → exec (.returnReceived x) s = .next (after s t)) ∧
      (t.clk.isMaster = false →
        let r : NodeRec := ⟨wbits (nth b 1) 15 14, wbits (nth b 1) 13 10, wbits (nth b 1) 9 7, wbits (nth b 1) 6 5,
          wbits (nth b 2) 31 20, wbits (nth b 2) 19 16, nth b 3, nth b 4⟩
        exec (.reportReceived x) s = .next (after s { t with net := { t.net with
          record := SMap.put t.net.record (wbits (nth b 1) 31 16) r } }))) ∧
    (t.role ≠ .head →
      exec (.reportReceived x) s = .next (after s t) ∧ exec (.evtReceived x) s = .next (after s t) ∧
      ((wbits (nth b 0) 15 0, (BitVec.ofNat 16 (wbits (nth b 2) 31 16) : NodeId)) ∈ t.net.seen →
        exec (.walkReceived x) s = .next (after s (((t.put (Fld.LNK_NET_STAT_BLOCKED x.port.val) 0).sendLocal x.port.val tyENUM
          (returnBody (if wbits (nth b 0) 23 16 = 0 then 0 else 1) (wbits (nth b 0) 15 0) (wbits (nth b 1) 31 16) false true none 1 0)).raise
          (Fld.LNK_NET_STAT_BLOCKED x.port.val)))) ∧
      (∀ w, t.walkAt x.port.val (some (wbits (nth b 0) 15 0)) = some w →
        exec (.returnReceived x) s = .next (after s (t.walkBack w (some b))))) ∧
    (t.role = .head → x.type.toNat = tyEVT → wbits (nth b 0) 31 16 = 0x0002 →
      let u := (t.eseqCheck x.src (wbits (nth b 0) 15 0)).headEvent 0x0002 x.src (wbits (nth b 0) 15 0) (nth b 1) (nth b 2) (b.drop 3)
      exec (.evtReceived x) s = .next (after s { u with net := { u.net with learnDue := true } }))) ∧
  (∀ s : State, s.openCmds = s.cmds.accepted.map (fun (a : Accepted) => a.cmd) ++ (s.cmds.userBusy.map (·.1)).toList ++
    s.upd.erasing.toList ++ s.upd.verifying.toList) ∧
  (∀ (s t : State) (x : Rx) (i k : Nat) (c : Cmd), s.letIn x = (true, false, t) → t.bit Fld.LNK_NODE_ID_VALID = true → x.dest = t.nodeId →
    t.net.barMine = some (i, k, c) → i = wbits (nth x.body 0) 31 16 →
    exec (.barArriveReceived x) s = .next (after s (State.barEnd { t with net := { t.net with
      barMine := some (i, k + (nth x.body 1).toNat, c) } }))) ∧
  (∀ (s : State) (i n : Nat) (c : Cmd), s.net.barMine = some (i, n, c) →
    let u := State.answer { s with net := { s.net with barMine := none } } opDOM_BARRIER c stTIMEOUT false s.clk.fn [wd n, wd s.net.record.length]
    u.net.barriers = [] → u.net.merge = [] → exec .barrierTimeout s = .next (after s u)) ∧
  (∀ s : State, s.net.barMine = none → s.net.barriers = [] → s.net.merge = [] → exec .barrierTimeout s = .next (after s s)) ∧
  (∀ (s : State) (b : Barrier), s.net.barMine = none → s.net.barriers = [b] → b.count ≠ 0 → s.net.merge = [] →
    let u := State.barGo { s with net := { s.net with barriers := [] } } b
    u.net.merge = [] → exec .barrierTimeout s = .next (after s { u with net := { u.net with merge := [] } })) ∧
  (∀ (s : State) (p : Port), s.running = true →
    (∀ w, s.role = .head → s.net.walk = some w → w.port = p.val →
      exec (.walkReturnTimeout p) s = .next (after s (s.headWalkBack w none 0))) ∧
    (∀ w, s.role ≠ .head → s.walkAt p.val none = some w →
      exec (.walkReturnTimeout p) s = .next (after s (s.walkBack w none))) ∧
    (s.role ≠ .head → s.walkAt p.val none = none → exec (.walkReturnTimeout p) s = .next (after s s)) ∧
    (s.role = .head → s.net.walk = none → exec (.walkReturnTimeout p) s = .next (after s s))) ∧
  (∀ s : State, s.running = true →
    (s.role = .head → exec .learnWalkStart s = .next (after s s.learnWalk)) ∧
    (s.role ≠ .head → exec .learnWalkStart s = .next (after s s)) ∧
    exec .escalationInterval s = .next (after s (forEach (List.range 4) (fun p u => u.escalate p)
      { s with blots := { s.blots with evtSent := 0 } })))

/-- The rows of link keys. Beside what the rules say it rests on a choice of the model: log entry 6. -/
def Obligations.LinkKeysAct : Prop :=
  (∀ (s t : State) (x : Rx) (b : List Word), s.taken x = some (b, t) →
    (t.keys.domain = none → exec (.keyxReceived x) s = .next (after s t)) ∧
    (∀ k, t.keys.domain = some k → hmac k (hdrWords tyENUM x.dest x.src 30 ++ b.take 26) ≠ tagOf (b.drop 26) →
      exec (.keyxReceived x) s = .next (after s (t.keyFail x.port.val))) ∧
    (∀ k e n, t.keys.domain = some k → hmac k (hdrWords tyENUM x.dest x.src 30 ++ b.take 26) = tagOf (b.drop 26) →
      (t.keysOf x.port.val).priv = some (e, n) → e = (nth b 1).toNat →
      let p := x.port.val
      let pt := (b.drop 2).take 24
      let mine := ephemeral n
      let u := t.setKeys p { t.keysOf p with
        peerPoint := pt
        newKeys := some (e, linkKey n pt e mine, linkKey n pt e pt) }
      let g := gmac (linkKey n pt e mine) 0 (wireStream (mine ++ pt))
      exec (.keyxReceived x) s = .next (after s (u.sendLocal p tyENUM [wd (5 * 2 ^ 24), wd e, wd (g.toNat / 2 ^ 96),
        wd (g.toNat / 2 ^ 64), wd (g.toNat / 2 ^ 32), wd g.toNat]))) ∧
    ((t.keysOf x.port.val).newKeys = none → exec (.keyackReceived x) s = .next (after s t)) ∧
    (∀ e snd rcv e' n, (t.keysOf x.port.val).newKeys = some (e, snd, rcv) → (t.keysOf x.port.val).priv = some (e', n) →
      let fails := (nth b 1).toNat ≠ e ∨ gmac rcv 0 (wireStream ((t.keysOf x.port.val).peerPoint ++ ephemeral n)) ≠ tagOf (b.drop 2)
      (fails → exec (.keyackReceived x) s = .next (after s (t.keyFail x.port.val))) ∧
      (¬fails → (t.keysOf x.port.val).agreed = true →
        exec (.keyackReceived x) s = .next (after s (t.setKeys x.port.val { t.keysOf x.port.val with acked := true }))) ∧
      (¬fails → (t.keysOf x.port.val).agreed = false →
        exec (.keyackReceived x) s = .next (after s (t.keysTake x.port.val))))) ∧
  (∀ (s : State) (p : Port), s.running = true →
    (s.linkUp p.val = true → (s.keysOf p.val).failed = true ∨ (s.keysOf p.val).priv.isSome = true →
      exec (.keyAgreementRetry p) s = .next (after s (s.sendKeyx p.val
        (if (s.keysOf p.val).agreed then (s.keysOf p.val).sendEpoch + 1 else 0)))) ∧
    ((s.keysOf p.val).agreed = true → (s.keysOf p.val).priv = none → 2 ^ 40 ≤ s.keyUse p.val → s.keyUse p.val < 2 ^ 62 →
      (s.keysOf p.val).sendEpoch + 1 < 2 ^ 32 →
      exec (.keyRollover p) s = .next (after s (s.sendKeyx p.val ((s.keysOf p.val).sendEpoch + 1)))) ∧
    ((s.keysOf p.val).agreed = true → 2 ^ 62 ≤ s.keyUse p.val → (s.keysOf p.val).stopped = false →
      exec (.keyRollover p) s = .next (after s (s.keyStop p.val))) ∧
    (s.keyUse p.val < 2 ^ 40 → exec (.keyRollover p) s = .next (after s s)) ∧
    ((s.keysOf p.val).acked = true → exec (.newKeySwitch p) s = .next (after s (s.keysTake p.val))) ∧
    ((s.keysOf p.val).acked = false → exec (.newKeySwitch p) s = .next (after s s)))

/-- The rows of head pairing. Beside what the rules say it rests on choices of the model: log entries 49, 73, 78, 123, 153. -/
def Obligations.PairEventsAct : Prop :=
  (∀ (s t : State) (x : Rx) (b : List Word), s.mirrored x mkCMD = some (b, t) →
    (t.standby = false → exec (.mirrorCmdReceived x) s = .next (after s t)) ∧
    (t.standby = true →
      let r := parseCmd .ring (b.drop 1)
      let a := t.put Fld.RED_EPOCH_EPOCH (wbits (nth x.body 0) 15 0)
      let u := match r.2.trailer with | some w => a.raiseCseq r.2.client w.cseq.toNat | none => a
      let e : Word × Nat × List Word := (nth b 0, (nth x.body 1).toNat, b.drop 1)
      (u.resyncing = false → exec (.mirrorCmdReceived x) s = .next (after s (State.takeHeld { u with red := { u.red with
        mirrored := []
        heldCmds := u.red.heldCmds ++ [e] } }))) ∧
      (u.resyncing = true → exec (.mirrorCmdReceived x) s = .next (after s (State.takeHeld { u with red := { u.red with
        mirrored := u.red.mirrored ++ [e]
        heldCmds := u.red.heldCmds ++ [e] } }))))) ∧
  (∀ (s : State) (g : Word) (m : Nat) (l : List Word), s.red.heldCmds = [(g, m, l)] →
    (later (wd m) (wd s.red.recv) = true → s.takeHeld = s) ∧
    (later (wd m) (wd s.red.recv) = false →
      s.takeHeld = State.takeMirrored { s with red := { s.red with heldCmds := [] } } g (parseCmd .ring l).1 (parseCmd .ring l).2)) ∧
  (∀ (s : State) (n : ClientId) (v : Nat), s.raiseCseq n v = s.takeCseq n (max (s.lastCseq n) v)) ∧
  (∀ (s t : State) (x : Rx) (b : List Word), s.mirrored x mkTABLE = some (b, t) →
    (t.standby = false → exec (.mirrorTableReceived x) s = .next (after s t)) ∧
    (∀ a : State, t.standby = true → a = (if t.bit Fld.RED_STAT_OOS then t else t.setOos.sendResyncReq) →
      (a.red.snapEnd = none →
        let u := a.raise Fld.RED_STAT_RESYNC
        exec (.mirrorTableReceived x) s = .next (after s { u with red := { u.red with
          tables := u.red.tables ++ [((nth b 0).toNat, unit16 (b.drop 1))] } })) ∧
      (a.red.snapEnd.isSome = true →
        let u := State.raise { a with red := { a.red with
          tables := []
          snapEnd := none } } Fld.RED_STAT_RESYNC
        exec (.mirrorTableReceived x) s = .next (after s { u with red := { u.red with
          tables := u.red.tables ++ [((nth b 0).toNat, unit16 (b.drop 1))] } })))) ∧
  (∀ (s t : State) (x : Rx) (b : List Word), s.mirrored x mkSNAPEND = some (b, t) → t.standby = true →
    ((nth b 4).toNat = unitsCrc t.red.tables ∧ t.keysUnwrap t.red.tables = true →
      let u := (t.mirrorTo (nth x.body 1).toNat).put Fld.RED_EPOCH_EPOCH (wbits (nth x.body 0) 15 0)
      exec (.snapendReceived x) s = .next (after s (State.takeHeld { u with red := { u.red with
        snapEnd := some (nth b 0, (nth b 1).toNat, nth b 2, nth b 3, nth b 4) } }))) ∧
    (¬((nth b 4).toNat = unitsCrc t.red.tables ∧ t.keysUnwrap t.red.tables = true) →
      exec (.snapendReceived x) s = .next (after s (State.sendResyncReq (State.put { t with red := { t.red with
        tables := []
        snapEnd := none } } Fld.RED_STAT_RESYNC 0))))) ∧
  (∀ (s t : State) (x : Rx) (b : List Word), s.mirrored x mkHEARTBEAT = some (b, t) →
    let u := State.raise { t with red := { t.red with
      lastBeat := some t.clk.dtime
      beat := some (nth b 1) } } Fld.RED_STAT_PARTNER_SEEN
    (u.standby = false → wbits (nth b 1) 0 0 = 0 → exec (.heartbeatReceived x) s = .next (after s u)) ∧
    (u.standby = false → wbits (nth b 1) 0 0 = 1 → u.get Fld.RED_EPOCH_EPOCH < wbits (nth x.body 0) 15 0 →
      exec (.heartbeatReceived x) s = .next (after s { u with red := { u.red with yield := true } })) ∧
    (u.standby = true → wbits (nth b 1) 0 0 = 1 → exec (.heartbeatReceived x) s = .next (after s u)) ∧
    (∀ g, u.standby = true → wbits (nth b 1) 0 0 = 0 → t.red.beat = some g → wbits g 0 0 = 1 →
      exec (.heartbeatReceived x) s = .next (after s u.becomeActive))) ∧
  (∀ (s t : State) (x : Rx) (b : List Word), s.mirrored x mkACK = some (b, t) → t.standby = false →
    exec (.mirrorAckReceived x) s = .next (after s { t with red := { t.red with ackGot := (nth b 0).toNat } })) ∧
  (∀ (s t : State) (x : Rx) (b : List Word), s.mirrored x mkRELINQUISH = some (b, t) →
    (t.standby = true → exec (.relinquishReceived x) s = .next (after s { t with red := { t.red with takeover := some (nth b 0) } })) ∧
    (t.standby = false → exec (.relinquishReceived x) s = .next (after s t))) ∧
  (∀ (s t : State) (x : Rx) (b : List Word), s.mirrored x mkRESYNC_REQ = some (b, t) →
    exec (.resyncReqReceived x) s = .next (after s t.startResync)) ∧
  (∀ s : State, s.running = true → s.paired = true →
    (s.red.reqDue = false → (s.sendMirror mkHEARTBEAT [s.clk.fn, s.beatFlags]).standby = false →
      exec .heartbeatTimer s = .next (after s (s.sendMirror mkHEARTBEAT [s.clk.fn, s.beatFlags]))) ∧
    (s.red.lastBeat = none →
      exec .heartbeatTimeout s = .next (after s ((s.put Fld.RED_STAT_PARTNER_SEEN 0).raise Fld.RED_INT_PARTNER_LOST).becomeActive)) ∧
    (∀ t, s.red.lastBeat = some t →
      exec .heartbeatTimeout s = .next (after s (((s.advanceTo (t + wd s.hbTmo)).put Fld.RED_STAT_PARTNER_SEEN 0).raise
        Fld.RED_INT_PARTNER_LOST).becomeActive))) ∧
  (∀ (s : State) (g : Word), s.running = true → s.red.takeover = some g →
    (earlier s.clk.fn g = false → exec .roleTakeoverTick s = .next (after s s.becomeActive)) ∧
    (earlier s.clk.fn g = true → exec .roleTakeoverTick s = .next (after s s))) ∧
  (∀ (s : State) (g hi lo crc : Word) (last : Nat), s.red.snapEnd = some (g, last, hi, lo, crc) → s.standby = true →
    later g s.nextCompose = false → s.afterSnap g last = [] →
    s.red.tables.filter (fun e => decide (e.1 / 2 ^ 24 = 3)) = [] →
    let gone := (s.cmds.accepted.filter (fun a => !(later a.tick g) && tableOp a.opcode)).filterMap
      (fun (a : Accepted) => finalItem a.opcode a.cmd.params)
    let u : State := { s with
      comp := { s.comp with
        windows := unitWins s.red.tables
        tiles := unitTiles s.red.tables
        inval := true
        last := none
        seed := hi ++ lo }
      priv := { s.priv with
        items := unitItems s.red.tables
        shown := unitShown s.red.tables
        loads := gone.foldl dropLoad s.priv.loads }
      cmds := { s.cmds with
        clients := []
        accepted := s.cmds.accepted.filter (fun a => later a.tick g || !(tableOp a.opcode)) }
      keys := { s.keys with clients := [] }
      heads := { s.heads with
        hist := []
        active := false }
      red := { s.red with
        tables := []
        snapEnd := none
        mirrored := [] } }
    exec .resyncApply s = .next (after s ((((u.put Fld.RED_STAT_OOS 0).put Fld.RED_STAT_RESYNC 0).raise Fld.RED_INT_RESYNC_DONE).savePair))) ∧
  (∀ s : State, s.red.snapEnd = none → exec .resyncApply s = .next (after s s))

/-- The rows of Privet at a tile and of firmware update. Beside what the rules say it rests on choices of the model: log entries 77, 81, 154, 155. -/
def Obligations.PrivetAndUpdateEventsAct : Prop :=
  (∀ (s t : State) (x : Rx) (b : List Word), s.taken x = some (b, t) → t.role = .tile →
    (wbits (nth b 0) 31 24 = 1 → t.keys.client0 = none →
      exec (.privetCmdReceived x) s = .next (after s (t.privetBad x.port.val))) ∧
    (∀ k (w : Trailer), wbits (nth b 0) 31 24 = 1 → t.keys.client0 = some k →
      let r := parseCmd .localPort ((b.take (b.length - 6)).drop 2)
      r.2.trailer = some w → r.2.client = 0 →
      (clientTagOk k r.1 r.2 = false ∨ w.cseq.toNat ≤ t.lastCseq 0 →
        exec (.privetCmdReceived x) s = .next (after s (t.privetBad x.port.val))) ∧
      (clientTagOk k r.1 r.2 = true → t.lastCseq 0 < w.cseq.toNat →
        let a := t.takeCseq 0 w.cseq.toNat
        (r.1 = opPRIVET_LOAD → nth r.2.params 2 = 0 →
          exec (.privetCmdReceived x) s = .next (after s { a with priv := { a.priv with
            load := some ⟨wbits (nth r.2.params 0) 5 0, (nth r.2.params 1).toNat, (r.2.params.drop 3).take 12, []⟩ } })) ∧
        (r.1 = opPRIVET_SHOW ∨ r.1 = opPRIVET_HIDE →
          exec (.privetCmdReceived x) s = .next (after s { a with priv := { a.priv with
            due := a.priv.due ++ [(a.privetFrame (nth b 1), decide (r.1 = opPRIVET_SHOW), itemsOf (nth r.2.params 0) (nth r.2.params 1))] } })))) ∧
    (∀ l, wbits (nth b 0) 31 24 = 2 → t.priv.load = some l → l.item = wbits (nth b 0) 21 16 →
      let d := (b.take (b.length - 6)).drop 2
      exec (.privetDataReceived x) s = .next (after s { t with priv := { t.priv with
        load := some { l with data := l.data ++ [((nth d 0).toNat, d.drop 1)] } } })) ∧
    (wbits (nth b 0) 31 24 = 3 → t.priv.load = none →
      exec (.privetEndReceived x) s = .next (after s (t.privetBad x.port.val))) ∧
    (∀ l, wbits (nth b 0) 31 24 = 3 → t.priv.load = some l →
      let u : State := { t with priv := { t.priv with load := none } }
      (l.content = none → exec (.privetEndReceived x) s = .next (after s (u.privetBad x.port.val))) ∧
      (∀ got, l.content = some got → got.length = l.length → l.length = (nth b 2).toNat → digestIs l.digest got = true →
        exec (.privetEndReceived x) s = .next (after s { u with priv := { u.priv with
          loads := u.priv.loads ++ [(u.privetFrame (nth b 1), l.item, got)] } })))) ∧
  (∀ (s t : State) (x : Rx) (b : List Word), s.taken x = some (b, t) →
    exec (.updReceived x) s = .next (after s (t.takeUpd x b)) ∧
    (t.role ≠ .tile → exec (.privetCmdReceived x) s = .next (after s t) ∧ exec (.privetDataReceived x) s = .next (after s t) ∧
      exec (.privetEndReceived x) s = .next (after s t))) ∧
  (∀ (s : State) (item : Nat) (c : PrivetItem), s.mem.upsets = [] → s.mem.clearing = [] → SMap.find s.priv.items item = some c →
    (SMap.find s.priv.tags item ≠ some (Config.privetTag item c) → s.verifyItem item = s.privetTagBad item) ∧
    (SMap.find s.priv.tags item = some (Config.privetTag item c) → s.mem.poison = [] → s.verifyItem item = s)) ∧
  (∀ (s : State) (item : Nat), s.privetTagBad item = ((State.raise { s with priv := { s.priv with
    items := SMap.erase s.priv.items item
    tags := SMap.erase s.priv.tags item } } Fld.RED_TILE_INT_PRIVET_BAD).logBlot blkRED 3 clsDEGRADED item)) ∧
  (∀ (s : State) (j : Nat) (w : List Word) (rest : List (Nat × List Word)), s.upd.staging = (j, w) :: rest →
    exec .updBlockProgrammed s = .next (after s (State.setRecord { s with upd := { s.upd with
      staging := rest
      done := j :: s.upd.done
      flash := SMap.put s.upd.flash (4096 * s.targetSlot + j) w } }
      { s.upd.record with next := nextBlock (j :: s.upd.done) 4097 s.upd.record.next }))) ∧
  (∀ s : State, s.upd.staging = [] → exec .updBlockProgrammed s = .next (after s s)) ∧
  (∀ (s : State) (p : Port), exec (.updSendGap p) s = .next (after s (State.sendUpd { s with upd := { s.upd with
    gap := s.upd.gap.filter (fun x => decide (x ≠ p.val)) } } p.val))) ∧
  (∀ (s : State) (c : Cmd), s.upd.erasing = some c →
    exec .updEraseDone s = .next (after s (State.answer { s with upd := { s.upd with erasing := none } } opUPD_BEGIN c stOK false s.clk.fn []))) ∧
  (∀ (s : State) (c : Cmd), s.upd.verifying = some c →
    let st := s.verifyStatus (wbits (nth c.params 0) 15 0)
    let u := State.raise { s with upd := { s.upd with verifying := none } } Fld.UPD_INT_VERIFY
    (st = stOK → exec .updVerifyDone s = .next (after s ((u.setRecord { u.upd.record with verified := true }).answer opUPD_VERIFY c st false u.clk.fn []))) ∧
    (st ≠ stOK → exec .updVerifyDone s = .next (after s (u.answer opUPD_VERIFY c st false u.clk.fn [])))) ∧
  (∀ (s : State) (g : Gather), s.cmds.gathers.find? (fun g => updLong g.opcode) = some g →
    exec .updGatherTimeout s = .next (after s (s.closeGather g))) ∧
  (∀ (s : State) (f : Forwarded), s.cmds.gathers.find? (fun g => updLong g.opcode) = none →
    s.cmds.forwarded.find? (fun f => updLong f.opcode) = some f →
    exec .updGatherTimeout s = .next (after s (State.cmdDone { s with cmds := { s.cmds with forwarded := s.cmds.forwarded.erase f } }
      ⟨f.opcode, f.client, f.tag, .ring⟩ stTIMEOUT []))) ∧
  (∀ s : State, (s.activateDue = true →
      exec .activationInstant s = .next (after s (s.restartOn (1 - s.upd.record.active)).trialStart)) ∧
    (s.activateDue = false → exec .activationInstant s = .next (after s s))) ∧
  (∀ s : State, (s.upd.trial = false → exec .trialWatchdogExpiry s = .next (after s s)) ∧
    (s.upd.trial = true → s.upd.wdogEnd ≤ s.clk.upNs →
      let r := s.upd.record
      let u := (((s.setRecord { r with
        pending := false
        trials := 0 }).logBlot blkUPD 3 clsDEGRADED r.session).raise Fld.UPD_INT_REVERT).cpcLog 7 (1 - r.active) (1 - r.active) r.active 0 true
      exec .trialWatchdogExpiry s = .next (after s { u with
        upd := { u.upd with trial := false }
        quill := { u.quill with revert := true } }))) ∧
  (∀ (s : State) (v : Word), s.powered = true → s.quill.recovery = true → s.running = true → s.upd.staging = [] →
    let b := (List.range 1024).map (fun i => SMap.get (fun _ => 0) s.host.toHead i)
    (s.blockOk (wbits v 11 0) b = true →
      exec (.updRecBlock v) s = .next (after s ((s.stageBlock (wbits v 11 0) b).put Fld.UPD_REC_STAT_ERR 0))) ∧
    (s.blockOk (wbits v 11 0) b = false → exec (.updRecBlock v) s = .next (after s (s.raise Fld.UPD_REC_STAT_ERR)))) ∧
  (∀ s : State, s.quill.recovery = true → s.running = true →
    exec .recoveryImageDone s = .next (after s (if s.validSlot 0 then ((s.setRecord { s.upd.record with
      active := 0
      pending := false }).flushToMram.enterBoot false).raise Fld.PWR_RST_CAUSE_WARM else s))) ∧
  (∀ s : State, s.quill.recovery = false → exec .recoveryImageDone s = .next (after s s))

/-- The rows of the memories. Beside what the rules say it rests on choices of the model: log entries 58, 62, 80, 95, 105, 113, 138. -/
def Obligations.MemoryEventsAct : Prop :=
  (∀ (s : State) (n : Fin 16), exec (.bankClearDone n) s = .next (after s { s with mem := { s.mem with
    clearing := s.mem.clearing.filter (fun q => decide (q.1 ≠ n.val)) } })) ∧
  (∀ (old v w : BitVec 64), sramCycle old (.write v) (.write w) = ⟨none, none, v, true⟩ ∧
    sramCycle old (.write v) .read = ⟨none, some old, v, false⟩ ∧ sramCycle old .read (.write w) = ⟨some old, none, w, false⟩ ∧
    sramCycle old .read .read = ⟨some old, some old, old, false⟩) ∧
  (∀ (s : State) (n : Nat), s.mem.clearing.find? (fun e => decide (e.1 = n)) = none →
    (s.mem.upsets = [] → s.readBank n = s) ∧
    (∀ e, s.mem.upsets = [(n, e)] → s.readBank n = State.sramError { s with mem := { s.mem with upsets := [] } } n e)) ∧
  (∀ (s : State) (n : Nat) (e : Nat × Word), s.mem.clearing.find? (fun e => decide (e.1 = n)) = some e → s.mem.upsets = [] →
    let a := s.advanceTo e.2
    s.readBank n = { a with mem := { a.mem with clearing := s.mem.clearing.filter (fun q => decide (q.1 ≠ n)) } }) ∧
  (∀ (s : State) (n : Nat), s.mem.test = some n →
    (s.get Fld.MEM_BIST_STAT_STEP = 1 ∨ s.get Fld.MEM_BIST_STAT_STEP = 2 →
      let v := s.readBank n
      exec (.bistCopyDone []) s = .next (after s (v.put Fld.MEM_BIST_STAT_STEP 3)) ∧
      (∀ (w : BitVec 17) (x : BitVec 64) (o : Option (BitVec 64)),
        let k := (v.physBank n, w)
        let a : State := { v with mem := { v.mem with poison := if k ∈ v.mem.poison then v.mem.poison else k :: v.mem.poison } }
        exec (.bistCopyDone [⟨w, x, true, o⟩]) s = .next (after s
          ((((a.count (Fld.MEM_ECC_UNCORR n)).raise Fld.MEM_INT_UNCORR).logBlot blkMEM 1 clsFAULT n w.toNat).put
            Fld.MEM_BIST_STAT_STEP 3))) ∧
      (∀ (w : BitVec 17) (x y : BitVec 64),
        let a (t : State) : State :=
          let u := (t.count (Fld.MEM_ECC_CORR n)).tally 0x140
          { u with mem := { u.mem with corrected := SMap.put u.mem.corrected n (u.clk.upNs :: u.bankGain n) } }
        exec (.bistCopyDone [⟨w, x, false, none⟩]) s = .next (after s (((a v).bankWear n).put Fld.MEM_BIST_STAT_STEP 3)) ∧
        exec (.bistCopyDone [⟨w, x, false, some y⟩]) s = .next (after s (((a (((((v.count Fld.MEM_COLL_COUNT).put
          Fld.MEM_COLL_ADDR_BANK n).put Fld.MEM_COLL_ADDR_WORD w.toNat).raise Fld.MEM_INT_COLL).tally 0x141)).bankWear n).put
          Fld.MEM_BIST_STAT_STEP 3)))) ∧
    (s.get Fld.MEM_BIST_STAT_STEP = 3 →
      let a : State := { s with mem := { s.mem with poison := s.mem.poison.map (fun (e : Nat × BitVec 17) =>
        if e.1 = s.physBank n then (s.get Fld.MEM_SPARE_PHYS, e.2) else e) } }
      exec .bankMapSwitch s = .next (after s ((((a.setPhysBank n (s.get Fld.MEM_SPARE_PHYS)).put Fld.MEM_SPARE_PHYS (s.physBank n)).put
        Fld.MEM_BIST_STAT_STEP 4).saveBanks (some (s.physBank n))))) ∧
    (s.get Fld.MEM_BIST_STAT_STEP = 4 → s.mem.queue = [] →
      let bank := if s.mem.moved then s.get Fld.MEM_SPARE_PHYS else s.physBank n
      let other := if s.mem.moved then s.physBank n else s.get Fld.MEM_SPARE_PHYS
      let a := (((s.put Fld.MEM_BIST_STAT_STEP 0).put Fld.MEM_STAT_BIST_BUSY 0).countWrap Fld.MEM_BIST_STAT_COUNT)
      let u (passed : Bool) : State :=
        let w := (a.putBit Fld.MEM_BIST_STAT_FAIL (!passed)).raise Fld.MEM_INT_BIST_DONE
        { w with mem := { w.mem with
          test := none
          moved := false } }
      exec (.bistDone true) s = .next (after s (((u true).put Fld.MEM_SPARE_VALID 1).saveBanks
        (some (((u true).put Fld.MEM_SPARE_VALID 1).get Fld.MEM_SPARE_PHYS)))) ∧
      exec (.bistDone false) s = .next (after s ((((((((((u false).setPhysBank n other).put Fld.MEM_SPARE_VALID 0).put Fld.MEM_SPARE_PHYS bank).saveBanks
        none).raise Fld.MEM_STAT_NOSPARE).raise Fld.MEM_INT_RETIRED).logBlot blkMEM 2 clsDEGRADED bank).cpcLog 2 n bank other 0 true).selftestFail 1)))) ∧
  (∀ (s : State) (b : Bool), s.mem.test = none →
    (∀ es, exec (.bistCopyDone es) s = .next (after s s)) ∧ exec .bankMapSwitch s = .next (after s s) ∧ exec (.bistDone b) s = .next (after s s)) ∧
  (∀ (s : State) (n : Nat), s.get Fld.CPC_CFG_BANK_CORR = 0 → s.bankWear n = s) ∧
  (∀ (s : State) (n : Nat), s.get Fld.CPC_CFG_BANK_CORR ≠ 0 → s.get Fld.CPC_CFG_BANK_CORR < (s.bankGain n).length →
    s.actingRole ≠ .recovery → s.cpcWait = [] → s.bit Fld.MEM_STAT_NOSPARE = false → s.mem.test.isSome = true →
    s.bankWear n = { s with
      mem := { s.mem with corrected := SMap.erase s.mem.corrected n }
      cpcWait := [(2, n)] }) ∧
  (∀ (s : State) (n : Nat), s.actingRole ≠ .recovery → s.cpcWait = [(2, n)] →
    (s.mem.test = none → exec (.coppiceRetry 2) s = .next (after s { (s.startTest n true).2 with cpcWait := [] })) ∧
    (s.mem.test.isSome = true → exec (.coppiceRetry 2) s = .next (after s s))) ∧
  (∀ (s : State) (k : Fin 9), s.cpcWait = [] → exec (.coppiceRetry k) s = .next (after s s)) ∧
  (∀ (s : State) (failed : BitVec 2), s.dmcOn = true → s.get Fld.DMC_STAT_TRAINED = 0 → s.get Fld.DMC_STAT_TRAINFAIL = 0 → s.pwr.state ≠ .off →
    let a : State := { s with mem := { s.mem with
      mts := if 3200 ≤ s.get Fld.DMC_CFG_MTS ∧ s.get Fld.DMC_CFG_MTS ≤ 6400 then s.get Fld.DMC_CFG_MTS else 6400
      retrain := []
      delays := s.mem.delays.filter (fun e => !(decide (e.1 / 2 ∈ [0, 1]))) } }
    let u := (forEach [0, 1] (fun c t => (t.putBit ⟨Reg.DMC_STAT, c, c⟩ (!(failed.getLsbD c))).putBit ⟨Reg.DMC_STAT, 2 + c, 2 + c⟩
      (failed.getLsbD c)) a).raise Fld.DMC_INT_TRAIN
    (failed = 0 → exec (.dmcTrainingDone failed) s = .next (after s u)) ∧
    (failed.getLsbD 0 = true → exec (.dmcTrainingDone failed) s = .next (after s (u.logBlot blkDMC 1 clsFATAL 0)))) ∧
  (∀ (s : State) (k : Fin 4) (ba : Fin 16) (hot : Bool) (drift : Int), s.dmcOn = true → bitsOf (s.get Fld.DMC_STAT_TRAINED) (k.val / 2) 1 = 1 →
    let r := s.refreshBank k.val ba.val hot
    let d : Int := SMap.get (fun _ => (0 : Int)) r.mem.delays k.val
    let e := if d < drift then d + 1 else if drift < d then d - 1 else d
    (e = d ∨ e.natAbs < Config.trackRange →
      exec (.dramRefresh k ⟨ba, hot, drift⟩) s = .next (after s { r with mem := { r.mem with delays := SMap.set (fun _ => (0 : Int)) r.mem.delays k.val e } })) ∧
    (e - d).natAbs ≤ 1) ∧
  (∀ (s : State) (c : Fin 2), s.dmcOn = true → s.get Fld.DMC_SR_IDLE_CLOCKS ≠ 0 → bitsOf (s.get Fld.DMC_STAT_TRAINED) c.val 1 = 1 →
    exec (.dramSelfRefreshEntry c) s = .next (after s (s.put ⟨Reg.DMC_STAT, 4 + c.val, 4 + c.val⟩ 1))) ∧
  (∀ (s : State) (x : BitVec 36) (n : Nat), s.dmcOn = true → s.get Fld.DMC_SCRUB_HOURS ≠ 0 → s.get Fld.DMC_STAT_TRAINED = 3 → s.pwr.state ≠ .park →
    x.toNat < s.dramBytes →
    let t := (s.dramIssue [⟨x.toNat / 64, none⟩]).2
    let a := t.dramAt x.toNat
    exec (.dramScrub x 0) s = .next (after s t) ∧
    (1 ≤ n → n ≤ 8 →
      let u := (t.count (Fld.DMC_ECC_CNT_CORR (2 * a.chan + a.sub))).tally 0x146
      exec (.dramScrub x n) s = .next (after s { u with mem := { u.mem with
        rows := SMap.put u.mem.rows a.rowKey (u.clk.upNs :: u.rowCount a.rowKey) } })) ∧
    (8 < n →
      let u := t.poisoned x.toNat
      exec (.dramScrub x n) s = .next (after s (u.logBlot blkDMC 2 clsFAULT (u.word Reg.DMC_ERR).toNat)))) ∧
  (∀ (s : State) (x : Nat), s.poisoned x =
    ((s.count (Fld.DMC_ECC_CNT_UNCORR (2 * (s.dramAt x).chan + (s.dramAt x).sub))).dmcErr 1 x).raise Fld.DMC_INT_UNCORR) ∧
  (∀ (s : State) (x : BitVec 36), s.dmcOn = true → s.get Fld.DMC_PPR_THR ≠ 0 →
    let a := s.dramAt x.toNat
    let n := (s.rowCount a.rowKey).length
    let u : State := { s with mem := { s.mem with rows := SMap.erase s.mem.rows a.rowKey } }
    (n < s.get Fld.DMC_PPR_THR → ∀ b, exec (.dramRowRepair x b) s = .next (after s s)) ∧
    (s.get Fld.DMC_PPR_THR ≤ n → a.group ∉ s.mem.noRepair →
      exec (.dramRowRepair x true) s = .next (after s ((u.count Fld.DMC_PPR_DONE).cpcLog 4 a.bg (a.row % 256) 0xFF n false)) ∧
      exec (.dramRowRepair x false) s = .next (after s (((State.raise { u with mem := { u.mem with
        noRepair := a.group :: u.mem.noRepair } } Fld.DMC_INT_PPR_FULL).logBlot blkDMC 5 clsDEGRADED a.bg).cpcWear))))

/-- The rows of Quill and of fault handling. Beside what the rules say it rests on a choice of the model: log entry 37. -/
def Obligations.QuillAndFaultEventsAct : Prop :=
  (∀ (s : State) (n : Word), s.quill.up = true →
    let u := s.logBlot blkQUILL 1 clsFAULT n.toNat
    exec (.quillLockstepMismatch n) s = .next (after s { u with quill := { u.quill with
      up := false
      restart := some (u.quill.restart.getD 1) } })) ∧
  (∀ (s : State) (n : Word) (a b c : Bool) (l : List Setting), s.quill.up = false → s.quill.restart = none →
    exec (.quillLockstepMismatch n) s = .next (after s s) ∧ exec (.quillRestartDone a b ⟨c, l⟩) s = .next (after s s)) ∧
  (∀ (s : State) (k : Nat) (a b c : Bool) (l : List Setting), s.quill.restart = some k →
    let u := (s.restartDone k a b c).loadSettings l
    let v := u.putBit Fld.SYS_QUILL_STAT_USER (u.hasUser u.quill.slot)
    let w := if k = 2 then v.raise Fld.UPD_INT_ACTIVATED else v
    exec (.quillRestartDone a b ⟨c, l⟩) s = .next (after s (
      if s.imageStarts s.quill.slot = false then s.restartFails
      else if v.upd.trial = true ∧ v.quill.slot ≠ v.upd.record.active then w.trialStart
      else v))) ∧
  (∀ (s : State) (c : Cmd) (op : Nat), s.cmds.userBusy = some (c, op) →
    let t := State.userEnd { s with cmds := { s.cmds with userBusy := none } } stTIMEOUT op
    exec .userCommandTimeout s = .next (after s (t.answer op c stTIMEOUT false t.clk.fn []))) ∧
  (∀ s : State, s.cmds.userBusy = none → exec .userCommandTimeout s = .next (after s s)) ∧
  (∀ s : State, s.bit Fld.SYS_FAULT_STAT_HANDLING = true →
    let u : State := { s.put Fld.SYS_FAULT_STAT_HANDLING 0 with blots := { s.blots with
      fatal := false
      nestedHit := false } }
    (s.blots.fatal = true ∨ s.blots.nestedHit = true → exec .faultHandlingEnd s = .next (after s u.enterHold)) ∧
    (s.blots.fatal = false → s.blots.nestedHit = false → exec .faultHandlingEnd s = .next (after s u))) ∧
  (∀ s : State, s.bit Fld.SYS_FAULT_STAT_HANDLING = false → exec .faultHandlingEnd s = .next (after s s))
end

