-- ==== Sys2Proof/Laws/Access.lean ====
section
/-! SUPPORT. What reaches the node and its memories: an access over a path, and reads of SRAM banks that hold no wrong word. -/

namespace Sys2Proof.Machine

/-- An access over a path that the role ignores does nothing (R33). -/
theorem viaPath_closed {s : State} {path : Path} (f : State → State) (h : s.pathOpen path = false) : s.viaPath path f = s := by
  simp [State.viaPath, h]

/-- An access over a path that the role uses acts, the port it came by being in use (R32, R33). -/
theorem viaPath_open {s : State} {path : Path} (f : State → State) (h : s.pathOpen path = true) :
    s.viaPath path f = f (s.portUsed path) := by
  simp [State.viaPath, h]

@[simp] theorem portUsed_regs (s : State) (path : Path) : (s.portUsed path).regs = s.regs := by cases path <;> rfl
@[simp] theorem portUsed_role (s : State) (path : Path) : (s.portUsed path).role = s.role := by cases path <;> rfl
@[simp] theorem portUsed_clk (s : State) (path : Path) : (s.portUsed path).clk = s.clk := by cases path <;> rfl
@[simp] theorem portUsed_mem (s : State) (path : Path) : (s.portUsed path).mem = s.mem := by cases path <;> rfl
@[simp] theorem portUsed_nvm (s : State) (path : Path) : (s.portUsed path).nvm = s.nvm := by cases path <;> rfl
@[simp] theorem portUsed_pending (s : State) (path : Path) : (s.portUsed path).pending = s.pending := by cases path <;> rfl

/-- Reads of banks that hold no wrong word, while none is being cleared, leave the node as it is (R333, R335). -/
theorem readBanks_calm (s : State) (l : List Nat) (hu : s.mem.upsets = []) (hc : s.mem.clearing = []) : s.readBanks l = s := by
  have one : ∀ n, s.readBank n = s := by
    intro n
    obtain ⟨r, wq, hq, sm, rg, rw, pw, ic, bl, ck, sv, ky, lk, nt, cm, hd, ig, cp, tl, pv, rd, lp, dr, th, pm, ho, jr, me, q, nv, up, cw, ou, fr, pe⟩ := s
    cases me
    simp only at hu hc
    subst hu hc
    rfl
  unfold State.readBanks
  induction l with
  | nil => rfl
  | cons a t ih => simpa [forEach, one a] using ih

end Sys2Proof.Machine
end

