-- ==== Sys2Proof/Laws/Commands.lean ====
section
/-! SUPPORT. What taking a command does, said once for each way it can go (R289, R296): a command that has passed the first
six checks is routed; one carried out at once acts on the accepted node; a T command accepted at a head or at another node
waits for its tick. Claims about single commands cite these and unfold no check. -/

namespace Sys2Proof.Machine

/-- Every row that is an opcode of the command set takes its command, and does nothing else. -/
theorem exec_command {i : Instr} {op : Nat} {c : Cmd} (s : State) (h : commandOf i = some (op, c)) :
    exec i s = .next (after s (s.takeCommand op c)) := by
  cases i <;> simp only [commandOf, Option.some.injEq, Prod.mk.injEq, reduceCtorEq] at h <;>
    (obtain ⟨rfl, rfl⟩ := h; rfl)

/-- A command that has passed the first six checks goes where R296 sends it. -/
theorem takeCommand_passes {s t : State} {op : Nat} {o : OpRow} {c : Cmd} (h : Passes s op o c t) :
    s.takeCommand op c = t.route op o c := by
  unfold State.takeCommand
  simp only [h.takes, h.busy, h.place, h.form, h.row, h.owner, h.auth, h.secure, if_false, Bool.not_true, ne_eq,
    not_true_eq_false, Bool.false_eq_true]

/-- A command carried out at once: what it does to the node that has accepted it. -/
theorem takeCommand_actsNow {s t : State} {op : Nat} {o : OpRow} {c : Cmd} (h : ActsNow s op o c t) :
    s.takeCommand op c = (t.acceptedNow op o c).actNow op ((t.tallyOf 0x040 4 c.client.toNat).madeReady op c) := by
  rw [takeCommand_passes h.passes]
  have hi : ¬((match c.route with | .broash _ _ => false | _ => t.instantBad op c) = true) := by
    have hn := h.instant
    revert hn
    cases c.route <;> simp
  unfold State.route State.takeNow
  simp only [h.here, h.now, h.fits, if_true, if_false, false_and, ne_eq, not_true_eq_false]
  exact if_neg hi

/-- Only three opcodes have words that the head fills in (R187, R199, R395). -/
theorem madeReady_eq (t : State) (op : Nat) (c : Cmd) (h1 : op ≠ opDOM_RESET) (h2 : op ≠ opDOM_SNAPSHOT)
    (h3 : op ≠ opTICK_CONFIG) : t.madeReady op c = c := by
  unfold State.madeReady State.filled
  cases c.route <;> simp [h1, h2, h3]

theorem dropBeaten_nil (s : State) : s.dropBeaten [] = s := by
  rfl

/-- A T command accepted at a head, with no rival accepted for its tick. -/
theorem takeCommand_acceptsTick {s t : State} {op : Nat} {o : OpRow} {c : Cmd} {g : Word} {late moved : Bool}
    (h : AcceptsTick s op o c t g late moved) : s.takeCommand op c = t.acceptTick op o c g late moved := by
  rw [takeCommand_passes h.passes]
  have hf := h.fits
  unfold State.route State.takeTick
  simp only [h.here, h.tick, h.near, h.ring, h.chosen, h.params, h.room, h.alone, if_true, if_false, and_false,
    Bool.false_eq_true, decide_true, hf]
  have hb : ¬(stOK = stBAD_PARAM ∨ stOK = stNOT_OWNER) := by decide
  simp only [hb, if_false, ne_eq, not_true_eq_false, List.any_nil, Bool.false_eq_true, dropBeaten_nil, h.budget, if_true]

/-- What a T command accepted for tick `g` from the LOCAL port or a CMD leaves at a tile. -/
theorem takeCommand_acceptsFrame {s t : State} {op : Nat} {o : OpRow} {c : Cmd} {g : Word} {late : Bool}
    (h : AcceptsFrame s op o c t g late) (hr : t.role = .tile)
    (hl : op ≠ opLEAD_SET) :
    s.takeCommand op c = ((t.tallyOf 0x040 4 c.client.toNat).onArrival op c g).waitsFor ⟨op, c, g, late, false⟩ := by
  rw [takeCommand_passes h.passes]
  have hf := h.fits hr
  have hb : ¬(stOK = stBAD_PARAM) := by decide
  unfold State.route State.takeNodeTick
  simp only [h.here, h.tick, h.near, h.route, h.chosen, h.params, hr, hf, hb, hl, false_and, if_true, if_false, and_false, Bool.false_and,
    Bool.false_eq_true, decide_false, ne_eq, not_true_eq_false, reduceCtorEq]
  rfl

/-- What a tick boundary does to the checkpoints (R352): one slot takes the FN of the tick and the other keeps its own, or
nothing changes. -/
theorem State.checkpoint_cases (s : State) : s.checkpoint = s ∨
    s.checkpoint = { s with quill := { s.quill with ckpt0 := some s.clk.fn, ckptNext := 1 } } ∨
    s.checkpoint = { s with quill := { s.quill with ckpt1 := some s.clk.fn, ckptNext := 0 } } := by
  unfold State.checkpoint
  split
  · exact .inl rfl
  · by_cases h : s.quill.ckptNext = 0
    · exact .inr (.inl (by simp [h]))
    · exact .inr (.inr (by simp [h]))

end Sys2Proof.Machine
end

