-- ==== Sys2Proof/Laws/Receive.lean ====
section
/-! SUPPORT. What a packet that is taken does: its own meaning, on the body and the node that `State.taken` and
`State.mirrored` name. -/

namespace Sys2Proof.Machine

/-- A taken packet does what its own meaning says, and draws no tag failure. -/
theorem receive_taken (s : State) (x : Rx) (b : List Word) (t : State) (act : List Word → State → State)
    (onTag : TagCheck → State → State) (h : s.taken x = some (b, t)) : s.receive x act onTag = act b t := by
  unfold State.taken at h
  unfold State.receive
  rcases hl : s.letIn x with ⟨ok, spoil, u⟩
  rw [hl] at h
  cases ok <;> cases spoil <;> simp at h
  simp only [Bool.false_eq_true, Bool.not_true, if_false]
  split
  · rename_i ht
    simp only [ht, if_true] at h
    rcases hc : u.tagCheck x with _ | _ | _ | _ <;> simp [hc] at h ⊢
    obtain ⟨hc', hb, hs⟩ := h
    subst hb hs
    simp [hc']
  · rename_i ht
    simp only [ht] at h
    split
    · rename_i hp
      simp only [hp, if_true] at h
      rcases ho : u.openPatch x with k | d <;> simp [ho] at h ⊢
      obtain ⟨hc', hb, hs⟩ := h
      subst hb hs
      simp [hc']
    · rename_i hp
      simp only [hp, if_false] at h
      simp at h
      obtain ⟨hc', hb, hs⟩ := h
      subst hb hs
      simp [hc']

/-- A new MIRROR of the partner does what its kind says. -/
theorem onMirror_mirrored (s : State) (x : Rx) (kind : Nat) (b : List Word) (t : State) (act : List Word → State → State)
    (h : s.mirrored x kind = some (b, t)) : s.onMirror x kind act = act b t := by
  unfold State.mirrored at h
  rcases ht : s.taken x with _ | ⟨d, u⟩
  · simp [ht] at h
  · simp only [ht] at h
    split at h
    · rename_i hk
      obtain ⟨h1, h2, h3, h4⟩ := hk
      rcases hm : u.mirrorIn (nth d 1).toNat with ⟨new, v⟩
      rw [hm] at h
      cases new <;> simp at h
      obtain ⟨hb, hs⟩ := h
      subst hb hs
      simp [State.onMirror, receive_taken s x d u _ _ ht, h1, h2, h3, h4, hm]
    · simp at h

end Sys2Proof.Machine
end

