-- ==== Sys2Proof/Laws/Registers.lean ====
section
/-! SUPPORT. Where a write of a register with an effect of its own goes: one lemma per register that a row of the table
names. -/

namespace Sys2Proof.Machine

/-- Every role uses the blocks of the ports. -/
theorem roleUses_lnk (r : Role) (x : Nat) (h : 0x100000 ≤ x) (h' : x < 0x140000) : roleUses r x = true := by
  have h1 : 0x10 ≤ x / 0x10000 := by omega
  have h2 : x / 0x10000 < 0x14 := by omega
  have h3 : x / 0x10000 = 0x10 ∨ x / 0x10000 = 0x11 ∨ x / 0x10000 = 0x12 ∨ x / 0x10000 = 0x13 := by omega
  rcases h3 with h3 | h3 | h3 | h3 <;> cases r <;> simp [roleUses, h3, recoveryBlocks]

theorem write_lane_cfg (s : State) (p : Port) (v : Word) (path : Path) (h : s.powered = true) :
    s.writeReg path (Reg.LNK_LANE_CFG p.val) v = doSwapArm p.val v s := by
  have hr : roleUses s.role (Reg.LNK_LANE_CFG p.val) = true := by
    apply roleUses_lnk <;> simp only [Reg.LNK_LANE_CFG] <;> omega
  unfold State.writeReg
  rw [hr, h]
  fin_cases p <;> simp [Reg.LNK_LANE_CFG, State.writeLnk]

theorem write_esc_ctl (s : State) (p : Port) (v : Word) (path : Path) (h : s.powered = true) :
    s.writeReg path (Reg.LNK_ESC_CTL p.val) v = escRelease p.val v s := by
  have hr : roleUses s.role (Reg.LNK_ESC_CTL p.val) = true := by
    apply roleUses_lnk <;> simp only [Reg.LNK_ESC_CTL] <;> omega
  unfold State.writeReg
  rw [hr, h]
  fin_cases p <;> simp [Reg.LNK_ESC_CTL, State.writeLnk]

theorem write_prbs (s : State) (p : Port) (m : PhyLane) (v : Word) (path : Path) (h : s.powered = true) :
    s.writeReg path (Reg.LNK_PHY_PRBS p.val m.val) v = doPrbs p.val m.val v s := by
  have hr : roleUses s.role (Reg.LNK_PHY_PRBS p.val m.val) = true := by
    apply roleUses_lnk <;> simp only [Reg.LNK_PHY_PRBS] <;> omega
  unfold State.writeReg
  rw [hr, h]
  fin_cases p <;> fin_cases m <;> simp [Reg.LNK_PHY_PRBS, State.writeLnk]

theorem write_ht_ns (s : State) (v : Word) (path : Path) (h : s.powered = true) :
    s.writeReg path Reg.TIME_HT_NS v = s.writeHtNs v := by
  have hr : roleUses s.role Reg.TIME_HT_NS = true := by cases s.role <;> decide
  unfold State.writeReg
  rw [hr, h]
  simp [Reg.TIME_HT_NS, State.writeLow, Reg.PWR_REQ, Reg.PWR_RST, Reg.PWR_DIM, Reg.ICU_SRC, Reg.ICU_SETPEND, Reg.ICU_CLRPEND,
    Reg.ICU_EOI]

theorem write_ht_sec (s : State) (v : Word) (path : Path) (h : s.powered = true) :
    s.writeReg path Reg.TIME_HT_SEC v = s.writeHtSec v := by
  have hr : roleUses s.role Reg.TIME_HT_SEC = true := by cases s.role <;> decide
  unfold State.writeReg
  rw [hr, h]
  simp [Reg.TIME_HT_SEC, State.writeLow, Reg.PWR_REQ, Reg.PWR_RST, Reg.PWR_DIM, Reg.ICU_SRC, Reg.ICU_SETPEND, Reg.ICU_CLRPEND,
    Reg.ICU_EOI, Reg.TIME_HT_NS]

theorem write_bist_ctl (s : State) (v : Word) (path : Path) (h : s.powered = true) :
    s.writeReg path Reg.MEM_BIST_CTL v = if roleUses s.role Reg.MEM_BIST_CTL then doBistStart v path s else s := by
  unfold State.writeReg
  rw [h]
  cases roleUses s.role Reg.MEM_BIST_CTL <;>
  simp [Reg.MEM_BIST_CTL, State.writeLow, Reg.PWR_REQ, Reg.PWR_RST, Reg.PWR_DIM, Reg.ICU_SRC, Reg.ICU_SETPEND, Reg.ICU_CLRPEND,
    Reg.ICU_EOI, Reg.TIME_HT_NS, Reg.TIME_HT_SEC, Reg.TIME_MASTER_CFG, Reg.TIME_REF_CFG, Reg.NVM_CMD]

theorem write_age_ctl (s : State) (v : Word) (path : Path) (h : s.powered = true) (hr : s.role = .tile) :
    s.writeReg path Reg.COR_AGE_CTL v = doAgeNow v s := by
  have hu : roleUses s.role Reg.COR_AGE_CTL = true := by rw [hr]; decide
  unfold State.writeReg
  rw [hu, h]
  simp [Reg.COR_AGE_CTL, State.writeTile, Reg.SCN_CFG, Reg.DRV_GATE]

theorem write_row_latch (s : State) (w : Fin 3) (v : Word) (path : Path) (h : s.powered = true) (hr : s.role = .tile) :
    s.writeReg path (Reg.DRV_ROW_LATCH w.val) v = doRowRelease w.val v s := by
  have hu : roleUses s.role (Reg.DRV_ROW_LATCH w.val) = true := by rw [hr]; revert w; decide
  unfold State.writeReg
  rw [hu, h]
  fin_cases w <;> simp [Reg.DRV_ROW_LATCH, State.writeTile, Reg.SCN_CFG, Reg.DRV_GATE, Reg.COR_AGE_CTL, Reg.DRV_ADC_SEQ, List.range, List.range.loop]

theorem write_rec_ctl (s : State) (v : Word) (path : Path) (h : s.powered = true) :
    s.writeReg path Reg.UPD_REC_CTL v = doRecBlock v s := by
  have hr : roleUses s.role Reg.UPD_REC_CTL = true := by cases s.role <;> decide
  unfold State.writeReg
  rw [hr, h]
  simp [Reg.UPD_REC_CTL, State.writeRest]

theorem write_timed_ctl (s : State) (v : Word) (path : Path) (h : s.powered = true) (hn : s.role ≠ .recovery) :
    s.writeReg path Reg.PMU_TIMED_CTL v = doTimedArm v s := by
  have hr : roleUses s.role Reg.PMU_TIMED_CTL = true := by revert hn; cases s.role <;> decide
  unfold State.writeReg
  rw [hr, h]
  simp [Reg.PMU_TIMED_CTL, State.writeRest, Reg.UPD_REC_CTL]

theorem write_cnt_cfg (s : State) (n : Fin 32) (v : Word) (path : Path) (h : s.powered = true) (hn : s.role ≠ .recovery) :
    s.writeReg path (Reg.PMU_CNT_CFG n.val) v = doCounterClear n.val v s := by
  have hr : roleUses s.role (Reg.PMU_CNT_CFG n.val) = true := by
    revert hn
    cases s.role <;> revert n <;> decide
  unfold State.writeReg
  rw [hr, h]
  fin_cases n <;>
  simp [Reg.PMU_CNT_CFG, State.writeRest, Reg.UPD_REC_CTL, Reg.PMU_TIMED_CTL, List.range, List.range.loop]

theorem write_ci_hi (s : State) (v : Word) (path : Path) (h : s.powered = true) (hr : s.role = .head) :
    s.writeReg path Reg.JRN_CI_HI v = doCiHi v s := by
  have hu : roleUses s.role Reg.JRN_CI_HI = true := by rw [hr]; decide
  unfold State.writeReg
  rw [hu, h]
  simp +decide [Reg.JRN_CI_HI, State.writeHead]

end Sys2Proof.Machine
end

