-- ==== Sys2Proof/Laws/SMap.lean ====
section
/-! SUPPORT. The laws of the sparse maps: a read after a write, and that every operation keeps the canonical form. -/

namespace Sys2Proof.Machine

variable {α : Type}

theorem SMap.get_erase_self (d : Nat → α) (m : SMap α) (k : Nat) : SMap.get d (SMap.erase m k) k = d k := by
  induction m with
  | nil => rfl
  | cons p t ih =>
    obtain ⟨j, w⟩ := p
    by_cases h : j = k <;> simp [SMap.erase, SMap.get, h, ih]

theorem SMap.get_erase_other (d : Nat → α) (m : SMap α) (k i : Nat) (h : i ≠ k) :
    SMap.get d (SMap.erase m k) i = SMap.get d m i := by
  induction m with
  | nil => rfl
  | cons p t ih =>
    obtain ⟨j, w⟩ := p
    by_cases hj : j = k
    · simp [SMap.erase, SMap.get, hj, ih, h.symm]
    · by_cases hi : j = i <;> simp [SMap.erase, SMap.get, hj, hi, h, ih]

theorem SMap.get_insert_other (d : Nat → α) (m : SMap α) (k i : Nat) (v : α) (h : i ≠ k) :
    SMap.get d (SMap.insert m k v) i = SMap.get d m i := by
  induction m with
  | nil => simp [SMap.insert, SMap.get, h.symm]
  | cons p t ih =>
    obtain ⟨j, w⟩ := p
    by_cases hj : k < j
    · simp [SMap.insert, SMap.get, hj, h.symm]
    · simp [SMap.insert, SMap.get, hj, ih]

theorem SMap.get_insert_self (d : Nat → α) (m : SMap α) (k : Nat) (v : α)
    (h : SMap.find m k = none) : SMap.get d (SMap.insert m k v) k = v := by
  induction m with
  | nil => simp [SMap.insert, SMap.get]
  | cons p t ih =>
    obtain ⟨j, w⟩ := p
    by_cases hk : j = k
    · simp [SMap.find, hk] at h
    · have ht : SMap.find t k = none := by simpa [SMap.find, hk] using h
      by_cases hj : k < j
      · simp [SMap.insert, SMap.get, hj]
      · simp [SMap.insert, SMap.get, hj, hk, ih ht]

theorem SMap.find_erase_self (m : SMap α) (k : Nat) : SMap.find (SMap.erase m k) k = none := by
  induction m with
  | nil => rfl
  | cons p t ih =>
    obtain ⟨j, w⟩ := p
    by_cases h : j = k <;> simp [SMap.erase, SMap.find, h, ih]

/-- A read after a write to the same key gives the value written. -/
@[simp] theorem SMap.get_set_self [DecidableEq α] (d : Nat → α) (m : SMap α) (k : Nat) (v : α) :
    SMap.get d (SMap.set d m k v) k = v := by
  by_cases h : v = d k
  · simp [SMap.set, h, SMap.get_erase_self]
  · simp [SMap.set, h, SMap.get_insert_self d _ k v (SMap.find_erase_self m k)]

/-- A write leaves every other key alone. -/
theorem SMap.get_set_other [DecidableEq α] (d : Nat → α) (m : SMap α) (k i : Nat) (v : α) (h : i ≠ k) :
    SMap.get d (SMap.set d m k v) i = SMap.get d m i := by
  by_cases hv : v = d k
  · simp [SMap.set, hv, SMap.get_erase_other d m k i h]
  · simp [SMap.set, hv, SMap.get_insert_other d _ k i v h, SMap.get_erase_other d m k i h]

theorem SMap.find_put_self (m : SMap α) (k : Nat) (v : α) : SMap.find (SMap.put m k v) k = some v := by
  have key : ∀ l : SMap α, SMap.find l k = none → SMap.find (SMap.insert l k v) k = some v := by
    intro l
    induction l with
    | nil => intro _; simp [SMap.insert, SMap.find]
    | cons p t ih =>
      obtain ⟨j, w⟩ := p
      intro h
      by_cases hk : j = k
      · simp [SMap.find, hk] at h
      · have ht : SMap.find t k = none := by simpa [SMap.find, hk] using h
        by_cases hj : k < j
        · simp [SMap.insert, SMap.find, hj]
        · simp [SMap.insert, SMap.find, hj, hk, ih ht]
  exact key _ (SMap.find_erase_self m k)

theorem SMap.find_put_other (m : SMap α) (k i : Nat) (v : α) (h : i ≠ k) :
    SMap.find (SMap.put m k v) i = SMap.find m i := by
  have e : ∀ l : SMap α, SMap.find (SMap.erase l k) i = SMap.find l i := by
    intro l
    induction l with
    | nil => rfl
    | cons p t ih =>
      obtain ⟨j, w⟩ := p
      by_cases hj : j = k
      · simp [SMap.erase, SMap.find, hj, ih, h.symm]
      · by_cases hi : j = i <;> simp [SMap.erase, SMap.find, hj, hi, h, ih]
  have n : ∀ l : SMap α, SMap.find (SMap.insert l k v) i = SMap.find l i := by
    intro l
    induction l with
    | nil => simp [SMap.insert, SMap.find, h.symm]
    | cons p t ih =>
      obtain ⟨j, w⟩ := p
      by_cases hj : k < j
      · simp [SMap.insert, SMap.find, hj, h.symm]
      · simp [SMap.insert, SMap.find, hj, ih]
  simp [SMap.put, n, e]

theorem SMap.above_erase (m : SMap α) (j k : Nat) (h : SMap.above j m = true) :
    SMap.above j (SMap.erase m k) = true := by
  induction m with
  | nil => rfl
  | cons p t ih =>
    obtain ⟨i, w⟩ := p
    simp only [SMap.above, Bool.and_eq_true, decide_eq_true_eq] at h
    by_cases hk : i = k <;> simp [SMap.erase, SMap.above, hk, ih h.2]
    omega

theorem SMap.above_insert (m : SMap α) (j k : Nat) (v : α) (hk : j < k) (h : SMap.above j m = true) :
    SMap.above j (SMap.insert m k v) = true := by
  induction m with
  | nil => simp [SMap.insert, SMap.above, hk]
  | cons p t ih =>
    obtain ⟨i, w⟩ := p
    simp only [SMap.above, Bool.and_eq_true, decide_eq_true_eq] at h
    by_cases hi : k < i <;> simp [SMap.insert, SMap.above, hi, hk, h, ih h.2]

theorem SMap.sorted_erase (m : SMap α) (k : Nat) (h : SMap.sorted m = true) :
    SMap.sorted (SMap.erase m k) = true := by
  induction m with
  | nil => rfl
  | cons p t ih =>
    obtain ⟨i, w⟩ := p
    simp only [SMap.sorted, Bool.and_eq_true] at h
    by_cases hk : i = k <;> simp [SMap.erase, SMap.sorted, hk, ih h.2]
    exact SMap.above_erase t i k h.1

theorem SMap.above_trans (m : SMap α) (i k : Nat) (hk : k < i) (h : SMap.above i m = true) :
    SMap.above k m = true := by
  induction m with
  | nil => rfl
  | cons p t ih =>
    obtain ⟨j, w⟩ := p
    simp only [SMap.above, Bool.and_eq_true, decide_eq_true_eq] at h ⊢
    exact ⟨by omega, ih h.2⟩

theorem SMap.sorted_insert (m : SMap α) (k : Nat) (v : α) (hn : SMap.find m k = none)
    (h : SMap.sorted m = true) : SMap.sorted (SMap.insert m k v) = true := by
  induction m with
  | nil => rfl
  | cons p t ih =>
    obtain ⟨i, w⟩ := p
    simp only [SMap.sorted, Bool.and_eq_true] at h
    by_cases hk : i = k
    · simp [SMap.find, hk] at hn
    · have ht : SMap.find t k = none := by simpa [SMap.find, hk] using hn
      by_cases hi : k < i
      · simp [SMap.insert, SMap.sorted, SMap.above, hi, h, SMap.above_trans t i k hi h.1]
      · have : i < k := by omega
        simp [SMap.insert, SMap.sorted, hi, ih ht h.2, SMap.above_insert t i k v this h.1]

theorem SMap.reduced_erase [DecidableEq α] (d : Nat → α) (m : SMap α) (k : Nat) (h : SMap.reduced d m = true) :
    SMap.reduced d (SMap.erase m k) = true := by
  induction m with
  | nil => rfl
  | cons p t ih =>
    obtain ⟨i, w⟩ := p
    simp only [SMap.reduced, Bool.and_eq_true] at h
    by_cases hk : i = k
    · simp [SMap.erase, hk, ih h.2]
    · simp only [SMap.erase, hk, if_false, SMap.reduced, Bool.and_eq_true]
      exact ⟨h.1, ih h.2⟩

theorem SMap.reduced_insert [DecidableEq α] (d : Nat → α) (m : SMap α) (k : Nat) (v : α) (hv : v ≠ d k)
    (h : SMap.reduced d m = true) : SMap.reduced d (SMap.insert m k v) = true := by
  induction m with
  | nil => simp [SMap.insert, SMap.reduced, hv]
  | cons p t ih =>
    obtain ⟨i, w⟩ := p
    simp only [SMap.reduced, Bool.and_eq_true] at h
    by_cases hi : k < i
    · simp only [SMap.insert, hi, if_true, SMap.reduced, Bool.and_eq_true]
      exact ⟨by simp [hv], h⟩
    · simp only [SMap.insert, hi, if_false, SMap.reduced, Bool.and_eq_true]
      exact ⟨h.1, ih h.2⟩

/-- A write keeps the canonical form. -/
theorem SMap.wf_set [DecidableEq α] (d : Nat → α) (m : SMap α) (k : Nat) (v : α) (h : SMap.wf d m = true) :
    SMap.wf d (SMap.set d m k v) = true := by
  simp only [SMap.wf, Bool.and_eq_true] at h ⊢
  by_cases hv : v = d k
  · simp only [SMap.set, hv, if_true]
    exact ⟨SMap.sorted_erase m k h.1, SMap.reduced_erase d m k h.2⟩
  · simp only [SMap.set, hv, if_false]
    exact ⟨SMap.sorted_insert _ k v (SMap.find_erase_self m k) (SMap.sorted_erase m k h.1),
      SMap.reduced_insert d _ k v hv (SMap.reduced_erase d m k h.2)⟩

/-- A put keeps the keys strictly rising. -/
theorem SMap.sorted_put (m : SMap α) (k : Nat) (v : α) (h : SMap.sorted m = true) :
    SMap.sorted (SMap.put m k v) = true :=
  SMap.sorted_insert _ k v (SMap.find_erase_self m k) (SMap.sorted_erase m k h)

end Sys2Proof.Machine
end

