-- ==== Sys2Proof/Laws/State.lean ====
section
/-! SUPPORT. What each named update of the state leaves alone, field by field, and what it writes: every lemma is true by
unfolding the update once, so that no later proof unfolds one. -/

namespace Sys2Proof.Machine

/-! ### setWord -/

@[simp] theorem State.setWord_role (s : State) (x : Nat) (v : Word) : (s.setWord x v).role = s.role := rfl
@[simp] theorem State.setWord_wq (s : State) (x : Nat) (v : Word) : (s.setWord x v).wq = s.wq := rfl
@[simp] theorem State.setWord_hq (s : State) (x : Nat) (v : Word) : (s.setWord x v).hq = s.hq := rfl
@[simp] theorem State.setWord_sampled (s : State) (x : Nat) (v : Word) : (s.setWord x v).sampled = s.sampled := rfl
@[simp] theorem State.setWord_rwt (s : State) (x : Nat) (v : Word) : (s.setWord x v).rwt = s.rwt := rfl
@[simp] theorem State.setWord_pwr (s : State) (x : Nat) (v : Word) : (s.setWord x v).pwr = s.pwr := rfl
@[simp] theorem State.setWord_icu (s : State) (x : Nat) (v : Word) : (s.setWord x v).icu = s.icu := rfl
@[simp] theorem State.setWord_blots (s : State) (x : Nat) (v : Word) : (s.setWord x v).blots = s.blots := rfl
@[simp] theorem State.setWord_clk (s : State) (x : Nat) (v : Word) : (s.setWord x v).clk = s.clk := rfl
@[simp] theorem State.setWord_saved (s : State) (x : Nat) (v : Word) : (s.setWord x v).saved = s.saved := rfl
@[simp] theorem State.setWord_keys (s : State) (x : Nat) (v : Word) : (s.setWord x v).keys = s.keys := rfl
@[simp] theorem State.setWord_link (s : State) (x : Nat) (v : Word) : (s.setWord x v).link = s.link := rfl
@[simp] theorem State.setWord_net (s : State) (x : Nat) (v : Word) : (s.setWord x v).net = s.net := rfl
@[simp] theorem State.setWord_cmds (s : State) (x : Nat) (v : Word) : (s.setWord x v).cmds = s.cmds := rfl
@[simp] theorem State.setWord_heads (s : State) (x : Nat) (v : Word) : (s.setWord x v).heads = s.heads := rfl
@[simp] theorem State.setWord_ingest (s : State) (x : Nat) (v : Word) : (s.setWord x v).ingest = s.ingest := rfl
@[simp] theorem State.setWord_comp (s : State) (x : Nat) (v : Word) : (s.setWord x v).comp = s.comp := rfl
@[simp] theorem State.setWord_tile (s : State) (x : Nat) (v : Word) : (s.setWord x v).tile = s.tile := rfl
@[simp] theorem State.setWord_priv (s : State) (x : Nat) (v : Word) : (s.setWord x v).priv = s.priv := rfl
@[simp] theorem State.setWord_red (s : State) (x : Nat) (v : Word) : (s.setWord x v).red = s.red := rfl
@[simp] theorem State.setWord_lamp (s : State) (x : Nat) (v : Word) : (s.setWord x v).lamp = s.lamp := rfl
@[simp] theorem State.setWord_drive (s : State) (x : Nat) (v : Word) : (s.setWord x v).drive = s.drive := rfl
@[simp] theorem State.setWord_thm (s : State) (x : Nat) (v : Word) : (s.setWord x v).thm = s.thm := rfl
@[simp] theorem State.setWord_pmu (s : State) (x : Nat) (v : Word) : (s.setWord x v).pmu = s.pmu := rfl
@[simp] theorem State.setWord_host (s : State) (x : Nat) (v : Word) : (s.setWord x v).host = s.host := rfl
@[simp] theorem State.setWord_jrn (s : State) (x : Nat) (v : Word) : (s.setWord x v).jrn = s.jrn := rfl
@[simp] theorem State.setWord_mem (s : State) (x : Nat) (v : Word) : (s.setWord x v).mem = s.mem := rfl
@[simp] theorem State.setWord_quill (s : State) (x : Nat) (v : Word) : (s.setWord x v).quill = s.quill := rfl
@[simp] theorem State.setWord_nvm (s : State) (x : Nat) (v : Word) : (s.setWord x v).nvm = s.nvm := rfl
@[simp] theorem State.setWord_upd (s : State) (x : Nat) (v : Word) : (s.setWord x v).upd = s.upd := rfl
@[simp] theorem State.setWord_cpcWait (s : State) (x : Nat) (v : Word) : (s.setWord x v).cpcWait = s.cpcWait := rfl
@[simp] theorem State.setWord_out (s : State) (x : Nat) (v : Word) : (s.setWord x v).out = s.out := rfl
@[simp] theorem State.setWord_free (s : State) (x : Nat) (v : Word) : (s.setWord x v).free = s.free := rfl
@[simp] theorem State.setWord_pending (s : State) (x : Nat) (v : Word) : (s.setWord x v).pending = s.pending := rfl

/-! ### put -/

@[simp] theorem State.put_role (s : State) (f : Fld) (v : Nat) : (s.put f v).role = s.role := rfl
@[simp] theorem State.put_wq (s : State) (f : Fld) (v : Nat) : (s.put f v).wq = s.wq := rfl
@[simp] theorem State.put_hq (s : State) (f : Fld) (v : Nat) : (s.put f v).hq = s.hq := rfl
@[simp] theorem State.put_sampled (s : State) (f : Fld) (v : Nat) : (s.put f v).sampled = s.sampled := rfl
@[simp] theorem State.put_rwt (s : State) (f : Fld) (v : Nat) : (s.put f v).rwt = s.rwt := rfl
@[simp] theorem State.put_pwr (s : State) (f : Fld) (v : Nat) : (s.put f v).pwr = s.pwr := rfl
@[simp] theorem State.put_icu (s : State) (f : Fld) (v : Nat) : (s.put f v).icu = s.icu := rfl
@[simp] theorem State.put_blots (s : State) (f : Fld) (v : Nat) : (s.put f v).blots = s.blots := rfl
@[simp] theorem State.put_clk (s : State) (f : Fld) (v : Nat) : (s.put f v).clk = s.clk := rfl
@[simp] theorem State.put_saved (s : State) (f : Fld) (v : Nat) : (s.put f v).saved = s.saved := rfl
@[simp] theorem State.put_keys (s : State) (f : Fld) (v : Nat) : (s.put f v).keys = s.keys := rfl
@[simp] theorem State.put_link (s : State) (f : Fld) (v : Nat) : (s.put f v).link = s.link := rfl
@[simp] theorem State.put_net (s : State) (f : Fld) (v : Nat) : (s.put f v).net = s.net := rfl
@[simp] theorem State.put_cmds (s : State) (f : Fld) (v : Nat) : (s.put f v).cmds = s.cmds := rfl
@[simp] theorem State.put_heads (s : State) (f : Fld) (v : Nat) : (s.put f v).heads = s.heads := rfl
@[simp] theorem State.put_ingest (s : State) (f : Fld) (v : Nat) : (s.put f v).ingest = s.ingest := rfl
@[simp] theorem State.put_comp (s : State) (f : Fld) (v : Nat) : (s.put f v).comp = s.comp := rfl
@[simp] theorem State.put_tile (s : State) (f : Fld) (v : Nat) : (s.put f v).tile = s.tile := rfl
@[simp] theorem State.put_priv (s : State) (f : Fld) (v : Nat) : (s.put f v).priv = s.priv := rfl
@[simp] theorem State.put_red (s : State) (f : Fld) (v : Nat) : (s.put f v).red = s.red := rfl
@[simp] theorem State.put_lamp (s : State) (f : Fld) (v : Nat) : (s.put f v).lamp = s.lamp := rfl
@[simp] theorem State.put_drive (s : State) (f : Fld) (v : Nat) : (s.put f v).drive = s.drive := rfl
@[simp] theorem State.put_thm (s : State) (f : Fld) (v : Nat) : (s.put f v).thm = s.thm := rfl
@[simp] theorem State.put_pmu (s : State) (f : Fld) (v : Nat) : (s.put f v).pmu = s.pmu := rfl
@[simp] theorem State.put_host (s : State) (f : Fld) (v : Nat) : (s.put f v).host = s.host := rfl
@[simp] theorem State.put_jrn (s : State) (f : Fld) (v : Nat) : (s.put f v).jrn = s.jrn := rfl
@[simp] theorem State.put_mem (s : State) (f : Fld) (v : Nat) : (s.put f v).mem = s.mem := rfl
@[simp] theorem State.put_quill (s : State) (f : Fld) (v : Nat) : (s.put f v).quill = s.quill := rfl
@[simp] theorem State.put_nvm (s : State) (f : Fld) (v : Nat) : (s.put f v).nvm = s.nvm := rfl
@[simp] theorem State.put_upd (s : State) (f : Fld) (v : Nat) : (s.put f v).upd = s.upd := rfl
@[simp] theorem State.put_cpcWait (s : State) (f : Fld) (v : Nat) : (s.put f v).cpcWait = s.cpcWait := rfl
@[simp] theorem State.put_out (s : State) (f : Fld) (v : Nat) : (s.put f v).out = s.out := rfl
@[simp] theorem State.put_free (s : State) (f : Fld) (v : Nat) : (s.put f v).free = s.free := rfl
@[simp] theorem State.put_pending (s : State) (f : Fld) (v : Nat) : (s.put f v).pending = s.pending := rfl

/-! ### putBit -/

@[simp] theorem State.putBit_role (s : State) (f : Fld) (b : Bool) : (s.putBit f b).role = s.role := rfl
@[simp] theorem State.putBit_wq (s : State) (f : Fld) (b : Bool) : (s.putBit f b).wq = s.wq := rfl
@[simp] theorem State.putBit_hq (s : State) (f : Fld) (b : Bool) : (s.putBit f b).hq = s.hq := rfl
@[simp] theorem State.putBit_sampled (s : State) (f : Fld) (b : Bool) : (s.putBit f b).sampled = s.sampled := rfl
@[simp] theorem State.putBit_rwt (s : State) (f : Fld) (b : Bool) : (s.putBit f b).rwt = s.rwt := rfl
@[simp] theorem State.putBit_pwr (s : State) (f : Fld) (b : Bool) : (s.putBit f b).pwr = s.pwr := rfl
@[simp] theorem State.putBit_icu (s : State) (f : Fld) (b : Bool) : (s.putBit f b).icu = s.icu := rfl
@[simp] theorem State.putBit_blots (s : State) (f : Fld) (b : Bool) : (s.putBit f b).blots = s.blots := rfl
@[simp] theorem State.putBit_clk (s : State) (f : Fld) (b : Bool) : (s.putBit f b).clk = s.clk := rfl
@[simp] theorem State.putBit_saved (s : State) (f : Fld) (b : Bool) : (s.putBit f b).saved = s.saved := rfl
@[simp] theorem State.putBit_keys (s : State) (f : Fld) (b : Bool) : (s.putBit f b).keys = s.keys := rfl
@[simp] theorem State.putBit_link (s : State) (f : Fld) (b : Bool) : (s.putBit f b).link = s.link := rfl
@[simp] theorem State.putBit_net (s : State) (f : Fld) (b : Bool) : (s.putBit f b).net = s.net := rfl
@[simp] theorem State.putBit_cmds (s : State) (f : Fld) (b : Bool) : (s.putBit f b).cmds = s.cmds := rfl
@[simp] theorem State.putBit_heads (s : State) (f : Fld) (b : Bool) : (s.putBit f b).heads = s.heads := rfl
@[simp] theorem State.putBit_ingest (s : State) (f : Fld) (b : Bool) : (s.putBit f b).ingest = s.ingest := rfl
@[simp] theorem State.putBit_comp (s : State) (f : Fld) (b : Bool) : (s.putBit f b).comp = s.comp := rfl
@[simp] theorem State.putBit_tile (s : State) (f : Fld) (b : Bool) : (s.putBit f b).tile = s.tile := rfl
@[simp] theorem State.putBit_priv (s : State) (f : Fld) (b : Bool) : (s.putBit f b).priv = s.priv := rfl
@[simp] theorem State.putBit_red (s : State) (f : Fld) (b : Bool) : (s.putBit f b).red = s.red := rfl
@[simp] theorem State.putBit_lamp (s : State) (f : Fld) (b : Bool) : (s.putBit f b).lamp = s.lamp := rfl
@[simp] theorem State.putBit_drive (s : State) (f : Fld) (b : Bool) : (s.putBit f b).drive = s.drive := rfl
@[simp] theorem State.putBit_thm (s : State) (f : Fld) (b : Bool) : (s.putBit f b).thm = s.thm := rfl
@[simp] theorem State.putBit_pmu (s : State) (f : Fld) (b : Bool) : (s.putBit f b).pmu = s.pmu := rfl
@[simp] theorem State.putBit_host (s : State) (f : Fld) (b : Bool) : (s.putBit f b).host = s.host := rfl
@[simp] theorem State.putBit_jrn (s : State) (f : Fld) (b : Bool) : (s.putBit f b).jrn = s.jrn := rfl
@[simp] theorem State.putBit_mem (s : State) (f : Fld) (b : Bool) : (s.putBit f b).mem = s.mem := rfl
@[simp] theorem State.putBit_quill (s : State) (f : Fld) (b : Bool) : (s.putBit f b).quill = s.quill := rfl
@[simp] theorem State.putBit_nvm (s : State) (f : Fld) (b : Bool) : (s.putBit f b).nvm = s.nvm := rfl
@[simp] theorem State.putBit_upd (s : State) (f : Fld) (b : Bool) : (s.putBit f b).upd = s.upd := rfl
@[simp] theorem State.putBit_cpcWait (s : State) (f : Fld) (b : Bool) : (s.putBit f b).cpcWait = s.cpcWait := rfl
@[simp] theorem State.putBit_out (s : State) (f : Fld) (b : Bool) : (s.putBit f b).out = s.out := rfl
@[simp] theorem State.putBit_free (s : State) (f : Fld) (b : Bool) : (s.putBit f b).free = s.free := rfl
@[simp] theorem State.putBit_pending (s : State) (f : Fld) (b : Bool) : (s.putBit f b).pending = s.pending := rfl

/-! ### raise -/

@[simp] theorem State.raise_role (s : State) (f : Fld) : (s.raise f).role = s.role := rfl
@[simp] theorem State.raise_wq (s : State) (f : Fld) : (s.raise f).wq = s.wq := rfl
@[simp] theorem State.raise_hq (s : State) (f : Fld) : (s.raise f).hq = s.hq := rfl
@[simp] theorem State.raise_sampled (s : State) (f : Fld) : (s.raise f).sampled = s.sampled := rfl
@[simp] theorem State.raise_rwt (s : State) (f : Fld) : (s.raise f).rwt = s.rwt := rfl
@[simp] theorem State.raise_pwr (s : State) (f : Fld) : (s.raise f).pwr = s.pwr := rfl
@[simp] theorem State.raise_icu (s : State) (f : Fld) : (s.raise f).icu = s.icu := rfl
@[simp] theorem State.raise_blots (s : State) (f : Fld) : (s.raise f).blots = s.blots := rfl
@[simp] theorem State.raise_clk (s : State) (f : Fld) : (s.raise f).clk = s.clk := rfl
@[simp] theorem State.raise_saved (s : State) (f : Fld) : (s.raise f).saved = s.saved := rfl
@[simp] theorem State.raise_keys (s : State) (f : Fld) : (s.raise f).keys = s.keys := rfl
@[simp] theorem State.raise_link (s : State) (f : Fld) : (s.raise f).link = s.link := rfl
@[simp] theorem State.raise_net (s : State) (f : Fld) : (s.raise f).net = s.net := rfl
@[simp] theorem State.raise_cmds (s : State) (f : Fld) : (s.raise f).cmds = s.cmds := rfl
@[simp] theorem State.raise_heads (s : State) (f : Fld) : (s.raise f).heads = s.heads := rfl
@[simp] theorem State.raise_ingest (s : State) (f : Fld) : (s.raise f).ingest = s.ingest := rfl
@[simp] theorem State.raise_comp (s : State) (f : Fld) : (s.raise f).comp = s.comp := rfl
@[simp] theorem State.raise_tile (s : State) (f : Fld) : (s.raise f).tile = s.tile := rfl
@[simp] theorem State.raise_priv (s : State) (f : Fld) : (s.raise f).priv = s.priv := rfl
@[simp] theorem State.raise_red (s : State) (f : Fld) : (s.raise f).red = s.red := rfl
@[simp] theorem State.raise_lamp (s : State) (f : Fld) : (s.raise f).lamp = s.lamp := rfl
@[simp] theorem State.raise_drive (s : State) (f : Fld) : (s.raise f).drive = s.drive := rfl
@[simp] theorem State.raise_thm (s : State) (f : Fld) : (s.raise f).thm = s.thm := rfl
@[simp] theorem State.raise_pmu (s : State) (f : Fld) : (s.raise f).pmu = s.pmu := rfl
@[simp] theorem State.raise_host (s : State) (f : Fld) : (s.raise f).host = s.host := rfl
@[simp] theorem State.raise_jrn (s : State) (f : Fld) : (s.raise f).jrn = s.jrn := rfl
@[simp] theorem State.raise_mem (s : State) (f : Fld) : (s.raise f).mem = s.mem := rfl
@[simp] theorem State.raise_quill (s : State) (f : Fld) : (s.raise f).quill = s.quill := rfl
@[simp] theorem State.raise_nvm (s : State) (f : Fld) : (s.raise f).nvm = s.nvm := rfl
@[simp] theorem State.raise_upd (s : State) (f : Fld) : (s.raise f).upd = s.upd := rfl
@[simp] theorem State.raise_cpcWait (s : State) (f : Fld) : (s.raise f).cpcWait = s.cpcWait := rfl
@[simp] theorem State.raise_out (s : State) (f : Fld) : (s.raise f).out = s.out := rfl
@[simp] theorem State.raise_free (s : State) (f : Fld) : (s.raise f).free = s.free := rfl
@[simp] theorem State.raise_pending (s : State) (f : Fld) : (s.raise f).pending = s.pending := rfl

/-! ### emit -/

@[simp] theorem State.emit_role (s : State) (o : Out) : (s.emit o).role = s.role := rfl
@[simp] theorem State.emit_wq (s : State) (o : Out) : (s.emit o).wq = s.wq := rfl
@[simp] theorem State.emit_hq (s : State) (o : Out) : (s.emit o).hq = s.hq := rfl
@[simp] theorem State.emit_sampled (s : State) (o : Out) : (s.emit o).sampled = s.sampled := rfl
@[simp] theorem State.emit_regs (s : State) (o : Out) : (s.emit o).regs = s.regs := rfl
@[simp] theorem State.emit_rwt (s : State) (o : Out) : (s.emit o).rwt = s.rwt := rfl
@[simp] theorem State.emit_pwr (s : State) (o : Out) : (s.emit o).pwr = s.pwr := rfl
@[simp] theorem State.emit_icu (s : State) (o : Out) : (s.emit o).icu = s.icu := rfl
@[simp] theorem State.emit_blots (s : State) (o : Out) : (s.emit o).blots = s.blots := rfl
@[simp] theorem State.emit_clk (s : State) (o : Out) : (s.emit o).clk = s.clk := rfl
@[simp] theorem State.emit_saved (s : State) (o : Out) : (s.emit o).saved = s.saved := rfl
@[simp] theorem State.emit_keys (s : State) (o : Out) : (s.emit o).keys = s.keys := rfl
@[simp] theorem State.emit_link (s : State) (o : Out) : (s.emit o).link = s.link := rfl
@[simp] theorem State.emit_net (s : State) (o : Out) : (s.emit o).net = s.net := rfl
@[simp] theorem State.emit_cmds (s : State) (o : Out) : (s.emit o).cmds = s.cmds := rfl
@[simp] theorem State.emit_heads (s : State) (o : Out) : (s.emit o).heads = s.heads := rfl
@[simp] theorem State.emit_ingest (s : State) (o : Out) : (s.emit o).ingest = s.ingest := rfl
@[simp] theorem State.emit_comp (s : State) (o : Out) : (s.emit o).comp = s.comp := rfl
@[simp] theorem State.emit_tile (s : State) (o : Out) : (s.emit o).tile = s.tile := rfl
@[simp] theorem State.emit_priv (s : State) (o : Out) : (s.emit o).priv = s.priv := rfl
@[simp] theorem State.emit_red (s : State) (o : Out) : (s.emit o).red = s.red := rfl
@[simp] theorem State.emit_lamp (s : State) (o : Out) : (s.emit o).lamp = s.lamp := rfl
@[simp] theorem State.emit_drive (s : State) (o : Out) : (s.emit o).drive = s.drive := rfl
@[simp] theorem State.emit_thm (s : State) (o : Out) : (s.emit o).thm = s.thm := rfl
@[simp] theorem State.emit_pmu (s : State) (o : Out) : (s.emit o).pmu = s.pmu := rfl
@[simp] theorem State.emit_host (s : State) (o : Out) : (s.emit o).host = s.host := rfl
@[simp] theorem State.emit_jrn (s : State) (o : Out) : (s.emit o).jrn = s.jrn := rfl
@[simp] theorem State.emit_mem (s : State) (o : Out) : (s.emit o).mem = s.mem := rfl
@[simp] theorem State.emit_quill (s : State) (o : Out) : (s.emit o).quill = s.quill := rfl
@[simp] theorem State.emit_nvm (s : State) (o : Out) : (s.emit o).nvm = s.nvm := rfl
@[simp] theorem State.emit_upd (s : State) (o : Out) : (s.emit o).upd = s.upd := rfl
@[simp] theorem State.emit_cpcWait (s : State) (o : Out) : (s.emit o).cpcWait = s.cpcWait := rfl
@[simp] theorem State.emit_free (s : State) (o : Out) : (s.emit o).free = s.free := rfl
@[simp] theorem State.emit_pending (s : State) (o : Out) : (s.emit o).pending = s.pending := rfl

/-! ### setPort -/

@[simp] theorem State.setPort_role (s : State) (p : Nat) (v : PortSt) : (s.setPort p v).role = s.role := rfl
@[simp] theorem State.setPort_wq (s : State) (p : Nat) (v : PortSt) : (s.setPort p v).wq = s.wq := rfl
@[simp] theorem State.setPort_hq (s : State) (p : Nat) (v : PortSt) : (s.setPort p v).hq = s.hq := rfl
@[simp] theorem State.setPort_sampled (s : State) (p : Nat) (v : PortSt) : (s.setPort p v).sampled = s.sampled := rfl
@[simp] theorem State.setPort_regs (s : State) (p : Nat) (v : PortSt) : (s.setPort p v).regs = s.regs := rfl
@[simp] theorem State.setPort_rwt (s : State) (p : Nat) (v : PortSt) : (s.setPort p v).rwt = s.rwt := rfl
@[simp] theorem State.setPort_pwr (s : State) (p : Nat) (v : PortSt) : (s.setPort p v).pwr = s.pwr := rfl
@[simp] theorem State.setPort_icu (s : State) (p : Nat) (v : PortSt) : (s.setPort p v).icu = s.icu := rfl
@[simp] theorem State.setPort_blots (s : State) (p : Nat) (v : PortSt) : (s.setPort p v).blots = s.blots := rfl
@[simp] theorem State.setPort_clk (s : State) (p : Nat) (v : PortSt) : (s.setPort p v).clk = s.clk := rfl
@[simp] theorem State.setPort_saved (s : State) (p : Nat) (v : PortSt) : (s.setPort p v).saved = s.saved := rfl
@[simp] theorem State.setPort_keys (s : State) (p : Nat) (v : PortSt) : (s.setPort p v).keys = s.keys := rfl
@[simp] theorem State.setPort_net (s : State) (p : Nat) (v : PortSt) : (s.setPort p v).net = s.net := rfl
@[simp] theorem State.setPort_cmds (s : State) (p : Nat) (v : PortSt) : (s.setPort p v).cmds = s.cmds := rfl
@[simp] theorem State.setPort_heads (s : State) (p : Nat) (v : PortSt) : (s.setPort p v).heads = s.heads := rfl
@[simp] theorem State.setPort_ingest (s : State) (p : Nat) (v : PortSt) : (s.setPort p v).ingest = s.ingest := rfl
@[simp] theorem State.setPort_comp (s : State) (p : Nat) (v : PortSt) : (s.setPort p v).comp = s.comp := rfl
@[simp] theorem State.setPort_tile (s : State) (p : Nat) (v : PortSt) : (s.setPort p v).tile = s.tile := rfl
@[simp] theorem State.setPort_priv (s : State) (p : Nat) (v : PortSt) : (s.setPort p v).priv = s.priv := rfl
@[simp] theorem State.setPort_red (s : State) (p : Nat) (v : PortSt) : (s.setPort p v).red = s.red := rfl
@[simp] theorem State.setPort_lamp (s : State) (p : Nat) (v : PortSt) : (s.setPort p v).lamp = s.lamp := rfl
@[simp] theorem State.setPort_drive (s : State) (p : Nat) (v : PortSt) : (s.setPort p v).drive = s.drive := rfl
@[simp] theorem State.setPort_thm (s : State) (p : Nat) (v : PortSt) : (s.setPort p v).thm = s.thm := rfl
@[simp] theorem State.setPort_pmu (s : State) (p : Nat) (v : PortSt) : (s.setPort p v).pmu = s.pmu := rfl
@[simp] theorem State.setPort_host (s : State) (p : Nat) (v : PortSt) : (s.setPort p v).host = s.host := rfl
@[simp] theorem State.setPort_jrn (s : State) (p : Nat) (v : PortSt) : (s.setPort p v).jrn = s.jrn := rfl
@[simp] theorem State.setPort_mem (s : State) (p : Nat) (v : PortSt) : (s.setPort p v).mem = s.mem := rfl
@[simp] theorem State.setPort_quill (s : State) (p : Nat) (v : PortSt) : (s.setPort p v).quill = s.quill := rfl
@[simp] theorem State.setPort_nvm (s : State) (p : Nat) (v : PortSt) : (s.setPort p v).nvm = s.nvm := rfl
@[simp] theorem State.setPort_upd (s : State) (p : Nat) (v : PortSt) : (s.setPort p v).upd = s.upd := rfl
@[simp] theorem State.setPort_cpcWait (s : State) (p : Nat) (v : PortSt) : (s.setPort p v).cpcWait = s.cpcWait := rfl
@[simp] theorem State.setPort_out (s : State) (p : Nat) (v : PortSt) : (s.setPort p v).out = s.out := rfl
@[simp] theorem State.setPort_free (s : State) (p : Nat) (v : PortSt) : (s.setPort p v).free = s.free := rfl
@[simp] theorem State.setPort_pending (s : State) (p : Nat) (v : PortSt) : (s.setPort p v).pending = s.pending := rfl

/-! ### setPhyOf -/

@[simp] theorem State.setPhyOf_role (s : State) (p m : Nat) (v : PhyLaneSt) : (s.setPhyOf p m v).role = s.role := rfl
@[simp] theorem State.setPhyOf_wq (s : State) (p m : Nat) (v : PhyLaneSt) : (s.setPhyOf p m v).wq = s.wq := rfl
@[simp] theorem State.setPhyOf_hq (s : State) (p m : Nat) (v : PhyLaneSt) : (s.setPhyOf p m v).hq = s.hq := rfl
@[simp] theorem State.setPhyOf_sampled (s : State) (p m : Nat) (v : PhyLaneSt) : (s.setPhyOf p m v).sampled = s.sampled := rfl
@[simp] theorem State.setPhyOf_regs (s : State) (p m : Nat) (v : PhyLaneSt) : (s.setPhyOf p m v).regs = s.regs := rfl
@[simp] theorem State.setPhyOf_rwt (s : State) (p m : Nat) (v : PhyLaneSt) : (s.setPhyOf p m v).rwt = s.rwt := rfl
@[simp] theorem State.setPhyOf_pwr (s : State) (p m : Nat) (v : PhyLaneSt) : (s.setPhyOf p m v).pwr = s.pwr := rfl
@[simp] theorem State.setPhyOf_icu (s : State) (p m : Nat) (v : PhyLaneSt) : (s.setPhyOf p m v).icu = s.icu := rfl
@[simp] theorem State.setPhyOf_blots (s : State) (p m : Nat) (v : PhyLaneSt) : (s.setPhyOf p m v).blots = s.blots := rfl
@[simp] theorem State.setPhyOf_clk (s : State) (p m : Nat) (v : PhyLaneSt) : (s.setPhyOf p m v).clk = s.clk := rfl
@[simp] theorem State.setPhyOf_saved (s : State) (p m : Nat) (v : PhyLaneSt) : (s.setPhyOf p m v).saved = s.saved := rfl
@[simp] theorem State.setPhyOf_keys (s : State) (p m : Nat) (v : PhyLaneSt) : (s.setPhyOf p m v).keys = s.keys := rfl
@[simp] theorem State.setPhyOf_net (s : State) (p m : Nat) (v : PhyLaneSt) : (s.setPhyOf p m v).net = s.net := rfl
@[simp] theorem State.setPhyOf_cmds (s : State) (p m : Nat) (v : PhyLaneSt) : (s.setPhyOf p m v).cmds = s.cmds := rfl
@[simp] theorem State.setPhyOf_heads (s : State) (p m : Nat) (v : PhyLaneSt) : (s.setPhyOf p m v).heads = s.heads := rfl
@[simp] theorem State.setPhyOf_ingest (s : State) (p m : Nat) (v : PhyLaneSt) : (s.setPhyOf p m v).ingest = s.ingest := rfl
@[simp] theorem State.setPhyOf_comp (s : State) (p m : Nat) (v : PhyLaneSt) : (s.setPhyOf p m v).comp = s.comp := rfl
@[simp] theorem State.setPhyOf_tile (s : State) (p m : Nat) (v : PhyLaneSt) : (s.setPhyOf p m v).tile = s.tile := rfl
@[simp] theorem State.setPhyOf_priv (s : State) (p m : Nat) (v : PhyLaneSt) : (s.setPhyOf p m v).priv = s.priv := rfl
@[simp] theorem State.setPhyOf_red (s : State) (p m : Nat) (v : PhyLaneSt) : (s.setPhyOf p m v).red = s.red := rfl
@[simp] theorem State.setPhyOf_lamp (s : State) (p m : Nat) (v : PhyLaneSt) : (s.setPhyOf p m v).lamp = s.lamp := rfl
@[simp] theorem State.setPhyOf_drive (s : State) (p m : Nat) (v : PhyLaneSt) : (s.setPhyOf p m v).drive = s.drive := rfl
@[simp] theorem State.setPhyOf_thm (s : State) (p m : Nat) (v : PhyLaneSt) : (s.setPhyOf p m v).thm = s.thm := rfl
@[simp] theorem State.setPhyOf_pmu (s : State) (p m : Nat) (v : PhyLaneSt) : (s.setPhyOf p m v).pmu = s.pmu := rfl
@[simp] theorem State.setPhyOf_host (s : State) (p m : Nat) (v : PhyLaneSt) : (s.setPhyOf p m v).host = s.host := rfl
@[simp] theorem State.setPhyOf_jrn (s : State) (p m : Nat) (v : PhyLaneSt) : (s.setPhyOf p m v).jrn = s.jrn := rfl
@[simp] theorem State.setPhyOf_mem (s : State) (p m : Nat) (v : PhyLaneSt) : (s.setPhyOf p m v).mem = s.mem := rfl
@[simp] theorem State.setPhyOf_quill (s : State) (p m : Nat) (v : PhyLaneSt) : (s.setPhyOf p m v).quill = s.quill := rfl
@[simp] theorem State.setPhyOf_nvm (s : State) (p m : Nat) (v : PhyLaneSt) : (s.setPhyOf p m v).nvm = s.nvm := rfl
@[simp] theorem State.setPhyOf_upd (s : State) (p m : Nat) (v : PhyLaneSt) : (s.setPhyOf p m v).upd = s.upd := rfl
@[simp] theorem State.setPhyOf_cpcWait (s : State) (p m : Nat) (v : PhyLaneSt) : (s.setPhyOf p m v).cpcWait = s.cpcWait := rfl
@[simp] theorem State.setPhyOf_out (s : State) (p m : Nat) (v : PhyLaneSt) : (s.setPhyOf p m v).out = s.out := rfl
@[simp] theorem State.setPhyOf_free (s : State) (p m : Nat) (v : PhyLaneSt) : (s.setPhyOf p m v).free = s.free := rfl
@[simp] theorem State.setPhyOf_pending (s : State) (p m : Nat) (v : PhyLaneSt) : (s.setPhyOf p m v).pending = s.pending := rfl

/-! ### setRxOf -/

@[simp] theorem State.setRxOf_role (s : State) (p k : Nat) (r : LaneRx) : (s.setRxOf p k r).role = s.role := rfl
@[simp] theorem State.setRxOf_wq (s : State) (p k : Nat) (r : LaneRx) : (s.setRxOf p k r).wq = s.wq := rfl
@[simp] theorem State.setRxOf_hq (s : State) (p k : Nat) (r : LaneRx) : (s.setRxOf p k r).hq = s.hq := rfl
@[simp] theorem State.setRxOf_sampled (s : State) (p k : Nat) (r : LaneRx) : (s.setRxOf p k r).sampled = s.sampled := rfl
@[simp] theorem State.setRxOf_regs (s : State) (p k : Nat) (r : LaneRx) : (s.setRxOf p k r).regs = s.regs := rfl
@[simp] theorem State.setRxOf_rwt (s : State) (p k : Nat) (r : LaneRx) : (s.setRxOf p k r).rwt = s.rwt := rfl
@[simp] theorem State.setRxOf_pwr (s : State) (p k : Nat) (r : LaneRx) : (s.setRxOf p k r).pwr = s.pwr := rfl
@[simp] theorem State.setRxOf_icu (s : State) (p k : Nat) (r : LaneRx) : (s.setRxOf p k r).icu = s.icu := rfl
@[simp] theorem State.setRxOf_blots (s : State) (p k : Nat) (r : LaneRx) : (s.setRxOf p k r).blots = s.blots := rfl
@[simp] theorem State.setRxOf_clk (s : State) (p k : Nat) (r : LaneRx) : (s.setRxOf p k r).clk = s.clk := rfl
@[simp] theorem State.setRxOf_saved (s : State) (p k : Nat) (r : LaneRx) : (s.setRxOf p k r).saved = s.saved := rfl
@[simp] theorem State.setRxOf_keys (s : State) (p k : Nat) (r : LaneRx) : (s.setRxOf p k r).keys = s.keys := rfl
@[simp] theorem State.setRxOf_net (s : State) (p k : Nat) (r : LaneRx) : (s.setRxOf p k r).net = s.net := rfl
@[simp] theorem State.setRxOf_cmds (s : State) (p k : Nat) (r : LaneRx) : (s.setRxOf p k r).cmds = s.cmds := rfl
@[simp] theorem State.setRxOf_heads (s : State) (p k : Nat) (r : LaneRx) : (s.setRxOf p k r).heads = s.heads := rfl
@[simp] theorem State.setRxOf_ingest (s : State) (p k : Nat) (r : LaneRx) : (s.setRxOf p k r).ingest = s.ingest := rfl
@[simp] theorem State.setRxOf_comp (s : State) (p k : Nat) (r : LaneRx) : (s.setRxOf p k r).comp = s.comp := rfl
@[simp] theorem State.setRxOf_tile (s : State) (p k : Nat) (r : LaneRx) : (s.setRxOf p k r).tile = s.tile := rfl
@[simp] theorem State.setRxOf_priv (s : State) (p k : Nat) (r : LaneRx) : (s.setRxOf p k r).priv = s.priv := rfl
@[simp] theorem State.setRxOf_red (s : State) (p k : Nat) (r : LaneRx) : (s.setRxOf p k r).red = s.red := rfl
@[simp] theorem State.setRxOf_lamp (s : State) (p k : Nat) (r : LaneRx) : (s.setRxOf p k r).lamp = s.lamp := rfl
@[simp] theorem State.setRxOf_drive (s : State) (p k : Nat) (r : LaneRx) : (s.setRxOf p k r).drive = s.drive := rfl
@[simp] theorem State.setRxOf_thm (s : State) (p k : Nat) (r : LaneRx) : (s.setRxOf p k r).thm = s.thm := rfl
@[simp] theorem State.setRxOf_pmu (s : State) (p k : Nat) (r : LaneRx) : (s.setRxOf p k r).pmu = s.pmu := rfl
@[simp] theorem State.setRxOf_host (s : State) (p k : Nat) (r : LaneRx) : (s.setRxOf p k r).host = s.host := rfl
@[simp] theorem State.setRxOf_jrn (s : State) (p k : Nat) (r : LaneRx) : (s.setRxOf p k r).jrn = s.jrn := rfl
@[simp] theorem State.setRxOf_mem (s : State) (p k : Nat) (r : LaneRx) : (s.setRxOf p k r).mem = s.mem := rfl
@[simp] theorem State.setRxOf_quill (s : State) (p k : Nat) (r : LaneRx) : (s.setRxOf p k r).quill = s.quill := rfl
@[simp] theorem State.setRxOf_nvm (s : State) (p k : Nat) (r : LaneRx) : (s.setRxOf p k r).nvm = s.nvm := rfl
@[simp] theorem State.setRxOf_upd (s : State) (p k : Nat) (r : LaneRx) : (s.setRxOf p k r).upd = s.upd := rfl
@[simp] theorem State.setRxOf_cpcWait (s : State) (p k : Nat) (r : LaneRx) : (s.setRxOf p k r).cpcWait = s.cpcWait := rfl
@[simp] theorem State.setRxOf_out (s : State) (p k : Nat) (r : LaneRx) : (s.setRxOf p k r).out = s.out := rfl
@[simp] theorem State.setRxOf_free (s : State) (p k : Nat) (r : LaneRx) : (s.setRxOf p k r).free = s.free := rfl
@[simp] theorem State.setRxOf_pending (s : State) (p k : Nat) (r : LaneRx) : (s.setRxOf p k r).pending = s.pending := rfl

/-! ### setTxOf -/

@[simp] theorem State.setTxOf_role (s : State) (p k : Nat) (r : LaneTx) : (s.setTxOf p k r).role = s.role := rfl
@[simp] theorem State.setTxOf_wq (s : State) (p k : Nat) (r : LaneTx) : (s.setTxOf p k r).wq = s.wq := rfl
@[simp] theorem State.setTxOf_hq (s : State) (p k : Nat) (r : LaneTx) : (s.setTxOf p k r).hq = s.hq := rfl
@[simp] theorem State.setTxOf_sampled (s : State) (p k : Nat) (r : LaneTx) : (s.setTxOf p k r).sampled = s.sampled := rfl
@[simp] theorem State.setTxOf_regs (s : State) (p k : Nat) (r : LaneTx) : (s.setTxOf p k r).regs = s.regs := rfl
@[simp] theorem State.setTxOf_rwt (s : State) (p k : Nat) (r : LaneTx) : (s.setTxOf p k r).rwt = s.rwt := rfl
@[simp] theorem State.setTxOf_pwr (s : State) (p k : Nat) (r : LaneTx) : (s.setTxOf p k r).pwr = s.pwr := rfl
@[simp] theorem State.setTxOf_icu (s : State) (p k : Nat) (r : LaneTx) : (s.setTxOf p k r).icu = s.icu := rfl
@[simp] theorem State.setTxOf_blots (s : State) (p k : Nat) (r : LaneTx) : (s.setTxOf p k r).blots = s.blots := rfl
@[simp] theorem State.setTxOf_clk (s : State) (p k : Nat) (r : LaneTx) : (s.setTxOf p k r).clk = s.clk := rfl
@[simp] theorem State.setTxOf_saved (s : State) (p k : Nat) (r : LaneTx) : (s.setTxOf p k r).saved = s.saved := rfl
@[simp] theorem State.setTxOf_keys (s : State) (p k : Nat) (r : LaneTx) : (s.setTxOf p k r).keys = s.keys := rfl
@[simp] theorem State.setTxOf_net (s : State) (p k : Nat) (r : LaneTx) : (s.setTxOf p k r).net = s.net := rfl
@[simp] theorem State.setTxOf_cmds (s : State) (p k : Nat) (r : LaneTx) : (s.setTxOf p k r).cmds = s.cmds := rfl
@[simp] theorem State.setTxOf_heads (s : State) (p k : Nat) (r : LaneTx) : (s.setTxOf p k r).heads = s.heads := rfl
@[simp] theorem State.setTxOf_ingest (s : State) (p k : Nat) (r : LaneTx) : (s.setTxOf p k r).ingest = s.ingest := rfl
@[simp] theorem State.setTxOf_comp (s : State) (p k : Nat) (r : LaneTx) : (s.setTxOf p k r).comp = s.comp := rfl
@[simp] theorem State.setTxOf_tile (s : State) (p k : Nat) (r : LaneTx) : (s.setTxOf p k r).tile = s.tile := rfl
@[simp] theorem State.setTxOf_priv (s : State) (p k : Nat) (r : LaneTx) : (s.setTxOf p k r).priv = s.priv := rfl
@[simp] theorem State.setTxOf_red (s : State) (p k : Nat) (r : LaneTx) : (s.setTxOf p k r).red = s.red := rfl
@[simp] theorem State.setTxOf_lamp (s : State) (p k : Nat) (r : LaneTx) : (s.setTxOf p k r).lamp = s.lamp := rfl
@[simp] theorem State.setTxOf_drive (s : State) (p k : Nat) (r : LaneTx) : (s.setTxOf p k r).drive = s.drive := rfl
@[simp] theorem State.setTxOf_thm (s : State) (p k : Nat) (r : LaneTx) : (s.setTxOf p k r).thm = s.thm := rfl
@[simp] theorem State.setTxOf_pmu (s : State) (p k : Nat) (r : LaneTx) : (s.setTxOf p k r).pmu = s.pmu := rfl
@[simp] theorem State.setTxOf_host (s : State) (p k : Nat) (r : LaneTx) : (s.setTxOf p k r).host = s.host := rfl
@[simp] theorem State.setTxOf_jrn (s : State) (p k : Nat) (r : LaneTx) : (s.setTxOf p k r).jrn = s.jrn := rfl
@[simp] theorem State.setTxOf_mem (s : State) (p k : Nat) (r : LaneTx) : (s.setTxOf p k r).mem = s.mem := rfl
@[simp] theorem State.setTxOf_quill (s : State) (p k : Nat) (r : LaneTx) : (s.setTxOf p k r).quill = s.quill := rfl
@[simp] theorem State.setTxOf_nvm (s : State) (p k : Nat) (r : LaneTx) : (s.setTxOf p k r).nvm = s.nvm := rfl
@[simp] theorem State.setTxOf_upd (s : State) (p k : Nat) (r : LaneTx) : (s.setTxOf p k r).upd = s.upd := rfl
@[simp] theorem State.setTxOf_cpcWait (s : State) (p k : Nat) (r : LaneTx) : (s.setTxOf p k r).cpcWait = s.cpcWait := rfl
@[simp] theorem State.setTxOf_out (s : State) (p k : Nat) (r : LaneTx) : (s.setTxOf p k r).out = s.out := rfl
@[simp] theorem State.setTxOf_free (s : State) (p k : Nat) (r : LaneTx) : (s.setTxOf p k r).free = s.free := rfl
@[simp] theorem State.setTxOf_pending (s : State) (p k : Nat) (r : LaneTx) : (s.setTxOf p k r).pending = s.pending := rfl

/-! ### setKeys -/

@[simp] theorem State.setKeys_role (s : State) (p : Nat) (k : LinkKeys) : (s.setKeys p k).role = s.role := rfl
@[simp] theorem State.setKeys_wq (s : State) (p : Nat) (k : LinkKeys) : (s.setKeys p k).wq = s.wq := rfl
@[simp] theorem State.setKeys_hq (s : State) (p : Nat) (k : LinkKeys) : (s.setKeys p k).hq = s.hq := rfl
@[simp] theorem State.setKeys_sampled (s : State) (p : Nat) (k : LinkKeys) : (s.setKeys p k).sampled = s.sampled := rfl
@[simp] theorem State.setKeys_regs (s : State) (p : Nat) (k : LinkKeys) : (s.setKeys p k).regs = s.regs := rfl
@[simp] theorem State.setKeys_rwt (s : State) (p : Nat) (k : LinkKeys) : (s.setKeys p k).rwt = s.rwt := rfl
@[simp] theorem State.setKeys_pwr (s : State) (p : Nat) (k : LinkKeys) : (s.setKeys p k).pwr = s.pwr := rfl
@[simp] theorem State.setKeys_icu (s : State) (p : Nat) (k : LinkKeys) : (s.setKeys p k).icu = s.icu := rfl
@[simp] theorem State.setKeys_blots (s : State) (p : Nat) (k : LinkKeys) : (s.setKeys p k).blots = s.blots := rfl
@[simp] theorem State.setKeys_clk (s : State) (p : Nat) (k : LinkKeys) : (s.setKeys p k).clk = s.clk := rfl
@[simp] theorem State.setKeys_saved (s : State) (p : Nat) (k : LinkKeys) : (s.setKeys p k).saved = s.saved := rfl
@[simp] theorem State.setKeys_keys (s : State) (p : Nat) (k : LinkKeys) : (s.setKeys p k).keys = s.keys := rfl
@[simp] theorem State.setKeys_net (s : State) (p : Nat) (k : LinkKeys) : (s.setKeys p k).net = s.net := rfl
@[simp] theorem State.setKeys_cmds (s : State) (p : Nat) (k : LinkKeys) : (s.setKeys p k).cmds = s.cmds := rfl
@[simp] theorem State.setKeys_heads (s : State) (p : Nat) (k : LinkKeys) : (s.setKeys p k).heads = s.heads := rfl
@[simp] theorem State.setKeys_ingest (s : State) (p : Nat) (k : LinkKeys) : (s.setKeys p k).ingest = s.ingest := rfl
@[simp] theorem State.setKeys_comp (s : State) (p : Nat) (k : LinkKeys) : (s.setKeys p k).comp = s.comp := rfl
@[simp] theorem State.setKeys_tile (s : State) (p : Nat) (k : LinkKeys) : (s.setKeys p k).tile = s.tile := rfl
@[simp] theorem State.setKeys_priv (s : State) (p : Nat) (k : LinkKeys) : (s.setKeys p k).priv = s.priv := rfl
@[simp] theorem State.setKeys_red (s : State) (p : Nat) (k : LinkKeys) : (s.setKeys p k).red = s.red := rfl
@[simp] theorem State.setKeys_lamp (s : State) (p : Nat) (k : LinkKeys) : (s.setKeys p k).lamp = s.lamp := rfl
@[simp] theorem State.setKeys_drive (s : State) (p : Nat) (k : LinkKeys) : (s.setKeys p k).drive = s.drive := rfl
@[simp] theorem State.setKeys_thm (s : State) (p : Nat) (k : LinkKeys) : (s.setKeys p k).thm = s.thm := rfl
@[simp] theorem State.setKeys_pmu (s : State) (p : Nat) (k : LinkKeys) : (s.setKeys p k).pmu = s.pmu := rfl
@[simp] theorem State.setKeys_host (s : State) (p : Nat) (k : LinkKeys) : (s.setKeys p k).host = s.host := rfl
@[simp] theorem State.setKeys_jrn (s : State) (p : Nat) (k : LinkKeys) : (s.setKeys p k).jrn = s.jrn := rfl
@[simp] theorem State.setKeys_mem (s : State) (p : Nat) (k : LinkKeys) : (s.setKeys p k).mem = s.mem := rfl
@[simp] theorem State.setKeys_quill (s : State) (p : Nat) (k : LinkKeys) : (s.setKeys p k).quill = s.quill := rfl
@[simp] theorem State.setKeys_nvm (s : State) (p : Nat) (k : LinkKeys) : (s.setKeys p k).nvm = s.nvm := rfl
@[simp] theorem State.setKeys_upd (s : State) (p : Nat) (k : LinkKeys) : (s.setKeys p k).upd = s.upd := rfl
@[simp] theorem State.setKeys_cpcWait (s : State) (p : Nat) (k : LinkKeys) : (s.setKeys p k).cpcWait = s.cpcWait := rfl
@[simp] theorem State.setKeys_out (s : State) (p : Nat) (k : LinkKeys) : (s.setKeys p k).out = s.out := rfl
@[simp] theorem State.setKeys_free (s : State) (p : Nat) (k : LinkKeys) : (s.setKeys p k).free = s.free := rfl
@[simp] theorem State.setKeys_pending (s : State) (p : Nat) (k : LinkKeys) : (s.setKeys p k).pending = s.pending := rfl

/-! ### setEscal -/

@[simp] theorem State.setEscal_role (s : State) (p : Nat) (e : Escal) : (s.setEscal p e).role = s.role := rfl
@[simp] theorem State.setEscal_wq (s : State) (p : Nat) (e : Escal) : (s.setEscal p e).wq = s.wq := rfl
@[simp] theorem State.setEscal_hq (s : State) (p : Nat) (e : Escal) : (s.setEscal p e).hq = s.hq := rfl
@[simp] theorem State.setEscal_sampled (s : State) (p : Nat) (e : Escal) : (s.setEscal p e).sampled = s.sampled := rfl
@[simp] theorem State.setEscal_regs (s : State) (p : Nat) (e : Escal) : (s.setEscal p e).regs = s.regs := rfl
@[simp] theorem State.setEscal_rwt (s : State) (p : Nat) (e : Escal) : (s.setEscal p e).rwt = s.rwt := rfl
@[simp] theorem State.setEscal_pwr (s : State) (p : Nat) (e : Escal) : (s.setEscal p e).pwr = s.pwr := rfl
@[simp] theorem State.setEscal_icu (s : State) (p : Nat) (e : Escal) : (s.setEscal p e).icu = s.icu := rfl
@[simp] theorem State.setEscal_blots (s : State) (p : Nat) (e : Escal) : (s.setEscal p e).blots = s.blots := rfl
@[simp] theorem State.setEscal_clk (s : State) (p : Nat) (e : Escal) : (s.setEscal p e).clk = s.clk := rfl
@[simp] theorem State.setEscal_saved (s : State) (p : Nat) (e : Escal) : (s.setEscal p e).saved = s.saved := rfl
@[simp] theorem State.setEscal_keys (s : State) (p : Nat) (e : Escal) : (s.setEscal p e).keys = s.keys := rfl
@[simp] theorem State.setEscal_net (s : State) (p : Nat) (e : Escal) : (s.setEscal p e).net = s.net := rfl
@[simp] theorem State.setEscal_cmds (s : State) (p : Nat) (e : Escal) : (s.setEscal p e).cmds = s.cmds := rfl
@[simp] theorem State.setEscal_heads (s : State) (p : Nat) (e : Escal) : (s.setEscal p e).heads = s.heads := rfl
@[simp] theorem State.setEscal_ingest (s : State) (p : Nat) (e : Escal) : (s.setEscal p e).ingest = s.ingest := rfl
@[simp] theorem State.setEscal_comp (s : State) (p : Nat) (e : Escal) : (s.setEscal p e).comp = s.comp := rfl
@[simp] theorem State.setEscal_tile (s : State) (p : Nat) (e : Escal) : (s.setEscal p e).tile = s.tile := rfl
@[simp] theorem State.setEscal_priv (s : State) (p : Nat) (e : Escal) : (s.setEscal p e).priv = s.priv := rfl
@[simp] theorem State.setEscal_red (s : State) (p : Nat) (e : Escal) : (s.setEscal p e).red = s.red := rfl
@[simp] theorem State.setEscal_lamp (s : State) (p : Nat) (e : Escal) : (s.setEscal p e).lamp = s.lamp := rfl
@[simp] theorem State.setEscal_drive (s : State) (p : Nat) (e : Escal) : (s.setEscal p e).drive = s.drive := rfl
@[simp] theorem State.setEscal_thm (s : State) (p : Nat) (e : Escal) : (s.setEscal p e).thm = s.thm := rfl
@[simp] theorem State.setEscal_pmu (s : State) (p : Nat) (e : Escal) : (s.setEscal p e).pmu = s.pmu := rfl
@[simp] theorem State.setEscal_host (s : State) (p : Nat) (e : Escal) : (s.setEscal p e).host = s.host := rfl
@[simp] theorem State.setEscal_jrn (s : State) (p : Nat) (e : Escal) : (s.setEscal p e).jrn = s.jrn := rfl
@[simp] theorem State.setEscal_mem (s : State) (p : Nat) (e : Escal) : (s.setEscal p e).mem = s.mem := rfl
@[simp] theorem State.setEscal_quill (s : State) (p : Nat) (e : Escal) : (s.setEscal p e).quill = s.quill := rfl
@[simp] theorem State.setEscal_nvm (s : State) (p : Nat) (e : Escal) : (s.setEscal p e).nvm = s.nvm := rfl
@[simp] theorem State.setEscal_upd (s : State) (p : Nat) (e : Escal) : (s.setEscal p e).upd = s.upd := rfl
@[simp] theorem State.setEscal_cpcWait (s : State) (p : Nat) (e : Escal) : (s.setEscal p e).cpcWait = s.cpcWait := rfl
@[simp] theorem State.setEscal_out (s : State) (p : Nat) (e : Escal) : (s.setEscal p e).out = s.out := rfl
@[simp] theorem State.setEscal_free (s : State) (p : Nat) (e : Escal) : (s.setEscal p e).free = s.free := rfl
@[simp] theorem State.setEscal_pending (s : State) (p : Nat) (e : Escal) : (s.setEscal p e).pending = s.pending := rfl

/-! ### setRecord -/

@[simp] theorem State.setRecord_role (s : State) (r : UpdRec) : (s.setRecord r).role = s.role := rfl
@[simp] theorem State.setRecord_wq (s : State) (r : UpdRec) : (s.setRecord r).wq = s.wq := rfl
@[simp] theorem State.setRecord_hq (s : State) (r : UpdRec) : (s.setRecord r).hq = s.hq := rfl
@[simp] theorem State.setRecord_sampled (s : State) (r : UpdRec) : (s.setRecord r).sampled = s.sampled := rfl
@[simp] theorem State.setRecord_regs (s : State) (r : UpdRec) : (s.setRecord r).regs = s.regs := rfl
@[simp] theorem State.setRecord_rwt (s : State) (r : UpdRec) : (s.setRecord r).rwt = s.rwt := rfl
@[simp] theorem State.setRecord_pwr (s : State) (r : UpdRec) : (s.setRecord r).pwr = s.pwr := rfl
@[simp] theorem State.setRecord_icu (s : State) (r : UpdRec) : (s.setRecord r).icu = s.icu := rfl
@[simp] theorem State.setRecord_blots (s : State) (r : UpdRec) : (s.setRecord r).blots = s.blots := rfl
@[simp] theorem State.setRecord_clk (s : State) (r : UpdRec) : (s.setRecord r).clk = s.clk := rfl
@[simp] theorem State.setRecord_saved (s : State) (r : UpdRec) : (s.setRecord r).saved = s.saved := rfl
@[simp] theorem State.setRecord_keys (s : State) (r : UpdRec) : (s.setRecord r).keys = s.keys := rfl
@[simp] theorem State.setRecord_link (s : State) (r : UpdRec) : (s.setRecord r).link = s.link := rfl
@[simp] theorem State.setRecord_net (s : State) (r : UpdRec) : (s.setRecord r).net = s.net := rfl
@[simp] theorem State.setRecord_cmds (s : State) (r : UpdRec) : (s.setRecord r).cmds = s.cmds := rfl
@[simp] theorem State.setRecord_heads (s : State) (r : UpdRec) : (s.setRecord r).heads = s.heads := rfl
@[simp] theorem State.setRecord_ingest (s : State) (r : UpdRec) : (s.setRecord r).ingest = s.ingest := rfl
@[simp] theorem State.setRecord_comp (s : State) (r : UpdRec) : (s.setRecord r).comp = s.comp := rfl
@[simp] theorem State.setRecord_tile (s : State) (r : UpdRec) : (s.setRecord r).tile = s.tile := rfl
@[simp] theorem State.setRecord_priv (s : State) (r : UpdRec) : (s.setRecord r).priv = s.priv := rfl
@[simp] theorem State.setRecord_red (s : State) (r : UpdRec) : (s.setRecord r).red = s.red := rfl
@[simp] theorem State.setRecord_lamp (s : State) (r : UpdRec) : (s.setRecord r).lamp = s.lamp := rfl
@[simp] theorem State.setRecord_drive (s : State) (r : UpdRec) : (s.setRecord r).drive = s.drive := rfl
@[simp] theorem State.setRecord_thm (s : State) (r : UpdRec) : (s.setRecord r).thm = s.thm := rfl
@[simp] theorem State.setRecord_pmu (s : State) (r : UpdRec) : (s.setRecord r).pmu = s.pmu := rfl
@[simp] theorem State.setRecord_host (s : State) (r : UpdRec) : (s.setRecord r).host = s.host := rfl
@[simp] theorem State.setRecord_jrn (s : State) (r : UpdRec) : (s.setRecord r).jrn = s.jrn := rfl
@[simp] theorem State.setRecord_mem (s : State) (r : UpdRec) : (s.setRecord r).mem = s.mem := rfl
@[simp] theorem State.setRecord_quill (s : State) (r : UpdRec) : (s.setRecord r).quill = s.quill := rfl
@[simp] theorem State.setRecord_nvm (s : State) (r : UpdRec) : (s.setRecord r).nvm = s.nvm := rfl
@[simp] theorem State.setRecord_cpcWait (s : State) (r : UpdRec) : (s.setRecord r).cpcWait = s.cpcWait := rfl
@[simp] theorem State.setRecord_out (s : State) (r : UpdRec) : (s.setRecord r).out = s.out := rfl
@[simp] theorem State.setRecord_free (s : State) (r : UpdRec) : (s.setRecord r).free = s.free := rfl
@[simp] theorem State.setRecord_pending (s : State) (r : UpdRec) : (s.setRecord r).pending = s.pending := rfl

/-! ### setCount -/

@[simp] theorem State.setCount_role (s : State) (n v : Nat) : (s.setCount n v).role = s.role := rfl
@[simp] theorem State.setCount_wq (s : State) (n v : Nat) : (s.setCount n v).wq = s.wq := rfl
@[simp] theorem State.setCount_hq (s : State) (n v : Nat) : (s.setCount n v).hq = s.hq := rfl
@[simp] theorem State.setCount_sampled (s : State) (n v : Nat) : (s.setCount n v).sampled = s.sampled := rfl
@[simp] theorem State.setCount_regs (s : State) (n v : Nat) : (s.setCount n v).regs = s.regs := rfl
@[simp] theorem State.setCount_rwt (s : State) (n v : Nat) : (s.setCount n v).rwt = s.rwt := rfl
@[simp] theorem State.setCount_pwr (s : State) (n v : Nat) : (s.setCount n v).pwr = s.pwr := rfl
@[simp] theorem State.setCount_icu (s : State) (n v : Nat) : (s.setCount n v).icu = s.icu := rfl
@[simp] theorem State.setCount_blots (s : State) (n v : Nat) : (s.setCount n v).blots = s.blots := rfl
@[simp] theorem State.setCount_clk (s : State) (n v : Nat) : (s.setCount n v).clk = s.clk := rfl
@[simp] theorem State.setCount_saved (s : State) (n v : Nat) : (s.setCount n v).saved = s.saved := rfl
@[simp] theorem State.setCount_keys (s : State) (n v : Nat) : (s.setCount n v).keys = s.keys := rfl
@[simp] theorem State.setCount_link (s : State) (n v : Nat) : (s.setCount n v).link = s.link := rfl
@[simp] theorem State.setCount_net (s : State) (n v : Nat) : (s.setCount n v).net = s.net := rfl
@[simp] theorem State.setCount_cmds (s : State) (n v : Nat) : (s.setCount n v).cmds = s.cmds := rfl
@[simp] theorem State.setCount_heads (s : State) (n v : Nat) : (s.setCount n v).heads = s.heads := rfl
@[simp] theorem State.setCount_ingest (s : State) (n v : Nat) : (s.setCount n v).ingest = s.ingest := rfl
@[simp] theorem State.setCount_comp (s : State) (n v : Nat) : (s.setCount n v).comp = s.comp := rfl
@[simp] theorem State.setCount_tile (s : State) (n v : Nat) : (s.setCount n v).tile = s.tile := rfl
@[simp] theorem State.setCount_priv (s : State) (n v : Nat) : (s.setCount n v).priv = s.priv := rfl
@[simp] theorem State.setCount_red (s : State) (n v : Nat) : (s.setCount n v).red = s.red := rfl
@[simp] theorem State.setCount_lamp (s : State) (n v : Nat) : (s.setCount n v).lamp = s.lamp := rfl
@[simp] theorem State.setCount_drive (s : State) (n v : Nat) : (s.setCount n v).drive = s.drive := rfl
@[simp] theorem State.setCount_thm (s : State) (n v : Nat) : (s.setCount n v).thm = s.thm := rfl
@[simp] theorem State.setCount_host (s : State) (n v : Nat) : (s.setCount n v).host = s.host := rfl
@[simp] theorem State.setCount_jrn (s : State) (n v : Nat) : (s.setCount n v).jrn = s.jrn := rfl
@[simp] theorem State.setCount_mem (s : State) (n v : Nat) : (s.setCount n v).mem = s.mem := rfl
@[simp] theorem State.setCount_quill (s : State) (n v : Nat) : (s.setCount n v).quill = s.quill := rfl
@[simp] theorem State.setCount_nvm (s : State) (n v : Nat) : (s.setCount n v).nvm = s.nvm := rfl
@[simp] theorem State.setCount_upd (s : State) (n v : Nat) : (s.setCount n v).upd = s.upd := rfl
@[simp] theorem State.setCount_cpcWait (s : State) (n v : Nat) : (s.setCount n v).cpcWait = s.cpcWait := rfl
@[simp] theorem State.setCount_out (s : State) (n v : Nat) : (s.setCount n v).out = s.out := rfl
@[simp] theorem State.setCount_free (s : State) (n v : Nat) : (s.setCount n v).free = s.free := rfl
@[simp] theorem State.setCount_pending (s : State) (n v : Nat) : (s.setCount n v).pending = s.pending := rfl

/-! ### setSrc -/

@[simp] theorem State.setSrc_role (s : State) (n : Nat) (v : Source) : (s.setSrc n v).role = s.role := rfl
@[simp] theorem State.setSrc_wq (s : State) (n : Nat) (v : Source) : (s.setSrc n v).wq = s.wq := rfl
@[simp] theorem State.setSrc_hq (s : State) (n : Nat) (v : Source) : (s.setSrc n v).hq = s.hq := rfl
@[simp] theorem State.setSrc_sampled (s : State) (n : Nat) (v : Source) : (s.setSrc n v).sampled = s.sampled := rfl
@[simp] theorem State.setSrc_regs (s : State) (n : Nat) (v : Source) : (s.setSrc n v).regs = s.regs := rfl
@[simp] theorem State.setSrc_rwt (s : State) (n : Nat) (v : Source) : (s.setSrc n v).rwt = s.rwt := rfl
@[simp] theorem State.setSrc_pwr (s : State) (n : Nat) (v : Source) : (s.setSrc n v).pwr = s.pwr := rfl
@[simp] theorem State.setSrc_icu (s : State) (n : Nat) (v : Source) : (s.setSrc n v).icu = s.icu := rfl
@[simp] theorem State.setSrc_blots (s : State) (n : Nat) (v : Source) : (s.setSrc n v).blots = s.blots := rfl
@[simp] theorem State.setSrc_clk (s : State) (n : Nat) (v : Source) : (s.setSrc n v).clk = s.clk := rfl
@[simp] theorem State.setSrc_saved (s : State) (n : Nat) (v : Source) : (s.setSrc n v).saved = s.saved := rfl
@[simp] theorem State.setSrc_keys (s : State) (n : Nat) (v : Source) : (s.setSrc n v).keys = s.keys := rfl
@[simp] theorem State.setSrc_link (s : State) (n : Nat) (v : Source) : (s.setSrc n v).link = s.link := rfl
@[simp] theorem State.setSrc_net (s : State) (n : Nat) (v : Source) : (s.setSrc n v).net = s.net := rfl
@[simp] theorem State.setSrc_cmds (s : State) (n : Nat) (v : Source) : (s.setSrc n v).cmds = s.cmds := rfl
@[simp] theorem State.setSrc_heads (s : State) (n : Nat) (v : Source) : (s.setSrc n v).heads = s.heads := rfl
@[simp] theorem State.setSrc_comp (s : State) (n : Nat) (v : Source) : (s.setSrc n v).comp = s.comp := rfl
@[simp] theorem State.setSrc_tile (s : State) (n : Nat) (v : Source) : (s.setSrc n v).tile = s.tile := rfl
@[simp] theorem State.setSrc_priv (s : State) (n : Nat) (v : Source) : (s.setSrc n v).priv = s.priv := rfl
@[simp] theorem State.setSrc_red (s : State) (n : Nat) (v : Source) : (s.setSrc n v).red = s.red := rfl
@[simp] theorem State.setSrc_lamp (s : State) (n : Nat) (v : Source) : (s.setSrc n v).lamp = s.lamp := rfl
@[simp] theorem State.setSrc_drive (s : State) (n : Nat) (v : Source) : (s.setSrc n v).drive = s.drive := rfl
@[simp] theorem State.setSrc_thm (s : State) (n : Nat) (v : Source) : (s.setSrc n v).thm = s.thm := rfl
@[simp] theorem State.setSrc_pmu (s : State) (n : Nat) (v : Source) : (s.setSrc n v).pmu = s.pmu := rfl
@[simp] theorem State.setSrc_host (s : State) (n : Nat) (v : Source) : (s.setSrc n v).host = s.host := rfl
@[simp] theorem State.setSrc_jrn (s : State) (n : Nat) (v : Source) : (s.setSrc n v).jrn = s.jrn := rfl
@[simp] theorem State.setSrc_mem (s : State) (n : Nat) (v : Source) : (s.setSrc n v).mem = s.mem := rfl
@[simp] theorem State.setSrc_quill (s : State) (n : Nat) (v : Source) : (s.setSrc n v).quill = s.quill := rfl
@[simp] theorem State.setSrc_nvm (s : State) (n : Nat) (v : Source) : (s.setSrc n v).nvm = s.nvm := rfl
@[simp] theorem State.setSrc_upd (s : State) (n : Nat) (v : Source) : (s.setSrc n v).upd = s.upd := rfl
@[simp] theorem State.setSrc_cpcWait (s : State) (n : Nat) (v : Source) : (s.setSrc n v).cpcWait = s.cpcWait := rfl
@[simp] theorem State.setSrc_out (s : State) (n : Nat) (v : Source) : (s.setSrc n v).out = s.out := rfl
@[simp] theorem State.setSrc_free (s : State) (n : Nat) (v : Source) : (s.setSrc n v).free = s.free := rfl
@[simp] theorem State.setSrc_pending (s : State) (n : Nat) (v : Source) : (s.setSrc n v).pending = s.pending := rfl

/-! ### pend -/

@[simp] theorem State.pend_role (s : State) (x : Nat) (m v : Word) : (s.pend x m v).role = s.role := rfl
@[simp] theorem State.pend_wq (s : State) (x : Nat) (m v : Word) : (s.pend x m v).wq = s.wq := rfl
@[simp] theorem State.pend_hq (s : State) (x : Nat) (m v : Word) : (s.pend x m v).hq = s.hq := rfl
@[simp] theorem State.pend_sampled (s : State) (x : Nat) (m v : Word) : (s.pend x m v).sampled = s.sampled := rfl
@[simp] theorem State.pend_regs (s : State) (x : Nat) (m v : Word) : (s.pend x m v).regs = s.regs := rfl
@[simp] theorem State.pend_pwr (s : State) (x : Nat) (m v : Word) : (s.pend x m v).pwr = s.pwr := rfl
@[simp] theorem State.pend_icu (s : State) (x : Nat) (m v : Word) : (s.pend x m v).icu = s.icu := rfl
@[simp] theorem State.pend_blots (s : State) (x : Nat) (m v : Word) : (s.pend x m v).blots = s.blots := rfl
@[simp] theorem State.pend_clk (s : State) (x : Nat) (m v : Word) : (s.pend x m v).clk = s.clk := rfl
@[simp] theorem State.pend_saved (s : State) (x : Nat) (m v : Word) : (s.pend x m v).saved = s.saved := rfl
@[simp] theorem State.pend_keys (s : State) (x : Nat) (m v : Word) : (s.pend x m v).keys = s.keys := rfl
@[simp] theorem State.pend_link (s : State) (x : Nat) (m v : Word) : (s.pend x m v).link = s.link := rfl
@[simp] theorem State.pend_net (s : State) (x : Nat) (m v : Word) : (s.pend x m v).net = s.net := rfl
@[simp] theorem State.pend_cmds (s : State) (x : Nat) (m v : Word) : (s.pend x m v).cmds = s.cmds := rfl
@[simp] theorem State.pend_heads (s : State) (x : Nat) (m v : Word) : (s.pend x m v).heads = s.heads := rfl
@[simp] theorem State.pend_ingest (s : State) (x : Nat) (m v : Word) : (s.pend x m v).ingest = s.ingest := rfl
@[simp] theorem State.pend_comp (s : State) (x : Nat) (m v : Word) : (s.pend x m v).comp = s.comp := rfl
@[simp] theorem State.pend_tile (s : State) (x : Nat) (m v : Word) : (s.pend x m v).tile = s.tile := rfl
@[simp] theorem State.pend_priv (s : State) (x : Nat) (m v : Word) : (s.pend x m v).priv = s.priv := rfl
@[simp] theorem State.pend_red (s : State) (x : Nat) (m v : Word) : (s.pend x m v).red = s.red := rfl
@[simp] theorem State.pend_lamp (s : State) (x : Nat) (m v : Word) : (s.pend x m v).lamp = s.lamp := rfl
@[simp] theorem State.pend_drive (s : State) (x : Nat) (m v : Word) : (s.pend x m v).drive = s.drive := rfl
@[simp] theorem State.pend_thm (s : State) (x : Nat) (m v : Word) : (s.pend x m v).thm = s.thm := rfl
@[simp] theorem State.pend_pmu (s : State) (x : Nat) (m v : Word) : (s.pend x m v).pmu = s.pmu := rfl
@[simp] theorem State.pend_host (s : State) (x : Nat) (m v : Word) : (s.pend x m v).host = s.host := rfl
@[simp] theorem State.pend_jrn (s : State) (x : Nat) (m v : Word) : (s.pend x m v).jrn = s.jrn := rfl
@[simp] theorem State.pend_mem (s : State) (x : Nat) (m v : Word) : (s.pend x m v).mem = s.mem := rfl
@[simp] theorem State.pend_quill (s : State) (x : Nat) (m v : Word) : (s.pend x m v).quill = s.quill := rfl
@[simp] theorem State.pend_nvm (s : State) (x : Nat) (m v : Word) : (s.pend x m v).nvm = s.nvm := rfl
@[simp] theorem State.pend_upd (s : State) (x : Nat) (m v : Word) : (s.pend x m v).upd = s.upd := rfl
@[simp] theorem State.pend_cpcWait (s : State) (x : Nat) (m v : Word) : (s.pend x m v).cpcWait = s.cpcWait := rfl
@[simp] theorem State.pend_out (s : State) (x : Nat) (m v : Word) : (s.pend x m v).out = s.out := rfl
@[simp] theorem State.pend_free (s : State) (x : Nat) (m v : Word) : (s.pend x m v).free = s.free := rfl
@[simp] theorem State.pend_pending (s : State) (x : Nat) (m v : Word) : (s.pend x m v).pending = s.pending := rfl

/-! ### count: the default amount is 1 -/

@[simp] theorem State.count_role (s : State) (g : Fld) (n : Nat) : (s.count g n).role = s.role := rfl
@[simp] theorem State.count_wq (s : State) (g : Fld) (n : Nat) : (s.count g n).wq = s.wq := rfl
@[simp] theorem State.count_hq (s : State) (g : Fld) (n : Nat) : (s.count g n).hq = s.hq := rfl
@[simp] theorem State.count_sampled (s : State) (g : Fld) (n : Nat) : (s.count g n).sampled = s.sampled := rfl
@[simp] theorem State.count_rwt (s : State) (g : Fld) (n : Nat) : (s.count g n).rwt = s.rwt := rfl
@[simp] theorem State.count_pwr (s : State) (g : Fld) (n : Nat) : (s.count g n).pwr = s.pwr := rfl
@[simp] theorem State.count_icu (s : State) (g : Fld) (n : Nat) : (s.count g n).icu = s.icu := rfl
@[simp] theorem State.count_blots (s : State) (g : Fld) (n : Nat) : (s.count g n).blots = s.blots := rfl
@[simp] theorem State.count_clk (s : State) (g : Fld) (n : Nat) : (s.count g n).clk = s.clk := rfl
@[simp] theorem State.count_saved (s : State) (g : Fld) (n : Nat) : (s.count g n).saved = s.saved := rfl
@[simp] theorem State.count_keys (s : State) (g : Fld) (n : Nat) : (s.count g n).keys = s.keys := rfl
@[simp] theorem State.count_link (s : State) (g : Fld) (n : Nat) : (s.count g n).link = s.link := rfl
@[simp] theorem State.count_net (s : State) (g : Fld) (n : Nat) : (s.count g n).net = s.net := rfl
@[simp] theorem State.count_cmds (s : State) (g : Fld) (n : Nat) : (s.count g n).cmds = s.cmds := rfl
@[simp] theorem State.count_heads (s : State) (g : Fld) (n : Nat) : (s.count g n).heads = s.heads := rfl
@[simp] theorem State.count_ingest (s : State) (g : Fld) (n : Nat) : (s.count g n).ingest = s.ingest := rfl
@[simp] theorem State.count_comp (s : State) (g : Fld) (n : Nat) : (s.count g n).comp = s.comp := rfl
@[simp] theorem State.count_tile (s : State) (g : Fld) (n : Nat) : (s.count g n).tile = s.tile := rfl
@[simp] theorem State.count_priv (s : State) (g : Fld) (n : Nat) : (s.count g n).priv = s.priv := rfl
@[simp] theorem State.count_red (s : State) (g : Fld) (n : Nat) : (s.count g n).red = s.red := rfl
@[simp] theorem State.count_lamp (s : State) (g : Fld) (n : Nat) : (s.count g n).lamp = s.lamp := rfl
@[simp] theorem State.count_drive (s : State) (g : Fld) (n : Nat) : (s.count g n).drive = s.drive := rfl
@[simp] theorem State.count_thm (s : State) (g : Fld) (n : Nat) : (s.count g n).thm = s.thm := rfl
@[simp] theorem State.count_pmu (s : State) (g : Fld) (n : Nat) : (s.count g n).pmu = s.pmu := rfl
@[simp] theorem State.count_host (s : State) (g : Fld) (n : Nat) : (s.count g n).host = s.host := rfl
@[simp] theorem State.count_jrn (s : State) (g : Fld) (n : Nat) : (s.count g n).jrn = s.jrn := rfl
@[simp] theorem State.count_mem (s : State) (g : Fld) (n : Nat) : (s.count g n).mem = s.mem := rfl
@[simp] theorem State.count_quill (s : State) (g : Fld) (n : Nat) : (s.count g n).quill = s.quill := rfl
@[simp] theorem State.count_nvm (s : State) (g : Fld) (n : Nat) : (s.count g n).nvm = s.nvm := rfl
@[simp] theorem State.count_upd (s : State) (g : Fld) (n : Nat) : (s.count g n).upd = s.upd := rfl
@[simp] theorem State.count_cpcWait (s : State) (g : Fld) (n : Nat) : (s.count g n).cpcWait = s.cpcWait := rfl
@[simp] theorem State.count_out (s : State) (g : Fld) (n : Nat) : (s.count g n).out = s.out := rfl
@[simp] theorem State.count_free (s : State) (g : Fld) (n : Nat) : (s.count g n).free = s.free := rfl
@[simp] theorem State.count_pending (s : State) (g : Fld) (n : Nat) : (s.count g n).pending = s.pending := rfl

/-! ### The register space -/

/-- A register reads what was stored in it last. -/
@[simp] theorem State.word_setWord_self (s : State) (x : Nat) (v : Word) : (s.setWord x v).word x = v := by
  simp [State.word, State.setWord]

/-- Storing a register leaves every other register alone. -/
theorem State.word_setWord_other (s : State) (x y : Nat) (v : Word) (h : y ≠ x) : (s.setWord x v).word y = s.word y := by
  simp [State.word, State.setWord, SMap.get_set_other _ _ _ _ _ h]

/-- Setting a field leaves every other register alone. -/
theorem State.word_put_other (s : State) (f : Fld) (v y : Nat) (h : y ≠ f.off) : (s.put f v).word y = s.word y :=
  State.word_setWord_other s f.off y _ h

/-- Setting a field leaves the fields of every other register alone. -/
theorem State.get_put_off (s : State) (f g : Fld) (v : Nat) (h : g.off ≠ f.off) : (s.put f v).get g = s.get g := by
  simp [State.get, State.word_put_other s f v g.off h]

/-- Setting a bit of another register leaves a bit alone. -/
theorem State.bit_put_off (s : State) (f g : Fld) (v : Nat) (h : g.off ≠ f.off) : (s.put f v).bit g = s.bit g := by
  simp [State.bit, State.get_put_off s f g v h]

/-- What a clock-independent reading of the power state gives does not depend on registers. -/
@[simp] theorem State.powered_put (s : State) (f : Fld) (v : Nat) : (s.put f v).powered = s.powered := rfl

@[simp] theorem State.running_put (s : State) (f : Fld) (v : Nat) : (s.put f v).running = s.running := rfl

@[simp] theorem State.powered_raise (s : State) (f : Fld) : (s.raise f).powered = s.powered := rfl

@[simp] theorem State.running_raise (s : State) (f : Fld) : (s.raise f).running = s.running := rfl

end Sys2Proof.Machine
end

