-- ==== Sys2Proof/Laws/Time.lean ====
section
/-! SUPPORT. What the counting of performance events and the passing of time can change, and how fields of one register
stand to one another. -/

namespace Sys2Proof.Machine

/-- What holds of the start of a loop and is kept by its body holds of its end. -/
theorem forEach_keeps {α : Type} (l : List α) (f : α → State → State) (P : State → Prop) (s : State) (h : P s)
    (hf : ∀ a u, P u → P (f a u)) : P (forEach l f s) := by
  induction l generalizing s with
  | nil => exact h
  | cons a t ih => exact ih (f a s) (hf a s h)

/-- Nothing but registers, the counters of the performance monitor and the count of free values drawn differs from `s`. -/
def SameButCounts (s u : State) : Prop := ∃ regs pmu free, u = { s with regs := regs, pmu := pmu, free := free }

theorem sameButCounts_refl (s : State) : SameButCounts s s := ⟨s.regs, s.pmu, s.free, rfl⟩

theorem sameButCounts_pmuAdd (s u : State) (n k : Nat) (h : SameButCounts s u) : SameButCounts s (u.pmuAdd n k) := by
  obtain ⟨r, p, f, rfl⟩ := h
  simp only [State.pmuAdd]
  split_ifs <;> exact ⟨_, _, _, rfl⟩

theorem sameButCounts_tallyBy (s u : State) (code : Nat) (g : Nat → Nat → Nat) (h : SameButCounts s u) :
    SameButCounts s (u.tallyBy code g) := by
  unfold State.tallyBy
  split_ifs
  · exact h
  · refine forEach_keeps _ _ (SameButCounts s) u h ?_
    intro a w hw
    split_ifs
    · exact sameButCounts_pmuAdd s w _ _ hw
    · exact hw

theorem sameButCounts_tally (s u : State) (code n : Nat) (h : SameButCounts s u) : SameButCounts s (u.tally code n) :=
  sameButCounts_tallyBy s u code _ h

theorem sameButCounts_tallyOf (s u : State) (code kind unit n : Nat) (h : SameButCounts s u) :
    SameButCounts s (u.tallyOf code kind unit n) :=
  sameButCounts_tallyBy s u code _ h

theorem sameButCounts_ite (s : State) (c : Prop) [Decidable c] (u v : State) (hu : SameButCounts s u) (hv : SameButCounts s v) :
    SameButCounts s (if c then u else v) := by
  split_ifs <;> assumption

theorem sameButCounts_freeNat (s u : State) (w : Nat) (h : SameButCounts s u) : SameButCounts s (u.freeNat w).2 := by
  obtain ⟨r, p, f, rfl⟩ := h
  exact ⟨_, _, _, rfl⟩

/-- The counting of events over `n` nanoseconds changes counters alone. -/
theorem sameButCounts_tallyTime (s : State) (n : Nat) : SameButCounts s (s.tallyTime n) := by
  unfold State.tallyTime
  extract_lets us cyc s1 s2 sr s3 s4 s5
  have h1 : SameButCounts s s1 := by
    refine forEach_keeps _ _ (SameButCounts s) s (sameButCounts_refl s) ?_
    intro a w hw
    split
    · exact sameButCounts_ite _ _ _ _ (sameButCounts_tallyOf _ _ _ _ _ _ hw) hw
    · exact hw
  have h2 : SameButCounts s s2 := sameButCounts_ite _ _ _ _ (sameButCounts_tally _ _ _ _ h1) h1
  have h3 : SameButCounts s s3 := sameButCounts_tally _ _ _ _ h2
  have h4 : SameButCounts s s4 := sameButCounts_ite _ _ _ _ (sameButCounts_tally _ _ _ _ h3) h3
  have h5 : SameButCounts s s5 :=
    sameButCounts_ite _ _ _ _ (sameButCounts_tally _ _ _ _ (sameButCounts_freeNat _ _ 32 h4)) h4
  exact sameButCounts_ite _ _ _ _ (sameButCounts_tally _ _ _ _ h5) h5

@[simp] theorem State.tallyTime_clk (s : State) (n : Nat) : (s.tallyTime n).clk = s.clk := by
  obtain ⟨r, p, f, h⟩ := sameButCounts_tallyTime s n
  rw [h]

/-! ### Fields of one register -/

/-- A number is its part above a field, the field, and its part below. -/
theorem bits_split (n lo w : Nat) :
    n = n / 2 ^ (lo + w) * 2 ^ (lo + w) + bitsOf n lo w * 2 ^ lo + n % 2 ^ lo := by
  have h1 := Nat.div_add_mod n (2 ^ lo)
  have h2 := Nat.div_add_mod (n / 2 ^ lo) (2 ^ w)
  have h3 : n / 2 ^ (lo + w) = n / 2 ^ lo / 2 ^ w := by rw [pow_add, Nat.div_div_eq_div_mul]
  rw [bitsOf, Nat.shiftRight_eq_div_pow, h3, pow_add]
  have h4 : n / 2 ^ lo / 2 ^ w * (2 ^ lo * 2 ^ w) + n / 2 ^ lo % 2 ^ w * 2 ^ lo =
      2 ^ lo * (2 ^ w * (n / 2 ^ lo / 2 ^ w) + n / 2 ^ lo % 2 ^ w) := by ring
  rw [h4, h2]
  omega

/-- The number with a field replaced. -/
theorem setBits_eq (n lo w v : Nat) :
    setBits n lo w v = n / 2 ^ (lo + w) * 2 ^ (lo + w) + v % 2 ^ w * 2 ^ lo + n % 2 ^ lo := by
  have h := bits_split n lo w
  unfold setBits
  omega

theorem below_lt (lo w a b : Nat) (ha : a < 2 ^ w) (hb : b < 2 ^ lo) : a * 2 ^ lo + b < 2 ^ (lo + w) := by
  rw [pow_add]
  have := Nat.mul_le_mul_right (2 ^ lo) (Nat.succ_le_of_lt ha)
  rw [Nat.succ_mul] at this
  rw [Nat.mul_comm (2 ^ lo)]
  omega

/-- The part above a field stands. -/
theorem setBits_above (n lo w v : Nat) : setBits n lo w v / 2 ^ (lo + w) = n / 2 ^ (lo + w) := by
  have h := below_lt lo w (v % 2 ^ w) (n % 2 ^ lo) (Nat.mod_lt _ (by positivity)) (Nat.mod_lt _ (by positivity))
  rw [setBits_eq, Nat.add_assoc, Nat.mul_comm, Nat.mul_add_div (by positivity), Nat.div_eq_of_lt h, Nat.add_zero]

/-- The part below a field stands. -/
theorem setBits_below (n lo w v : Nat) : setBits n lo w v % 2 ^ lo = n % 2 ^ lo := by
  rw [setBits_eq, pow_add, Nat.mul_comm (2 ^ lo) (2 ^ w), ← Nat.mul_assoc, ← Nat.add_mul, Nat.mul_comm _ (2 ^ lo),
    Nat.mul_add_mod, Nat.mod_mod]

/-- The field reads the value set, cut to its width. -/
theorem bitsOf_setBits (n lo w v : Nat) : bitsOf (setBits n lo w v) lo w = v % 2 ^ w := by
  have h1 := bits_split (setBits n lo w v) lo w
  rw [setBits_above, setBits_below, setBits_eq] at h1
  have : bitsOf (n / 2 ^ (lo + w) * 2 ^ (lo + w) + v % 2 ^ w * 2 ^ lo + n % 2 ^ lo) lo w * 2 ^ lo = v % 2 ^ w * 2 ^ lo := by
    omega
  rw [setBits_eq]
  exact Nat.eq_of_mul_eq_mul_right (by positivity) this

theorem bitsOf_of_div (m n lo w k : Nat) (h : m / 2 ^ k = n / 2 ^ k) (hk : k ≤ lo) : bitsOf m lo w = bitsOf n lo w := by
  obtain ⟨j, rfl⟩ := Nat.exists_eq_add_of_le hk
  rw [bitsOf, bitsOf, Nat.shiftRight_eq_div_pow, Nat.shiftRight_eq_div_pow, pow_add, ← Nat.div_div_eq_div_mul, h,
    Nat.div_div_eq_div_mul]

theorem bitsOf_of_mod (m n lo w k : Nat) (h : m % 2 ^ k = n % 2 ^ k) (hk : lo + w ≤ k) : bitsOf m lo w = bitsOf n lo w := by
  have key : ∀ x, bitsOf x lo w = x % 2 ^ k % 2 ^ (lo + w) / 2 ^ lo := by
    intro x
    rw [Nat.mod_mod_of_dvd _ (pow_dvd_pow 2 hk), bitsOf, Nat.shiftRight_eq_div_pow, pow_add, Nat.mod_mul_right_div_self]
  rw [key, key, h]

/-- Another field of the number, that shares no bit with it, reads as before. -/
theorem bitsOf_setBits_other (n lo w v l k : Nat) (h : lo + w ≤ l ∨ l + k ≤ lo) :
    bitsOf (setBits n lo w v) l k = bitsOf n l k := by
  rcases h with h | h
  · exact bitsOf_of_div _ _ l k (lo + w) (setBits_above n lo w v) h
  · exact bitsOf_of_mod _ _ l k lo (setBits_below n lo w v) h

/-- A field that lies within 32 bits keeps a number within 32 bits. -/
theorem setBits_lt (n lo w v : Nat) (hn : n < 2 ^ 32) (h : lo + w ≤ 32) : setBits n lo w v < 2 ^ 32 := by
  have h1 := setBits_above n lo w v
  have h2 : n / 2 ^ (lo + w) < 2 ^ (32 - (lo + w)) := by
    rw [Nat.div_lt_iff_lt_mul (by positivity), ← pow_add]
    simpa [Nat.sub_add_cancel h] using hn
  rw [← h1, Nat.div_lt_iff_lt_mul (by positivity), ← pow_add, Nat.sub_add_cancel h] at h2
  exact h2

/-- Reads of a field of a word that has had a field set, in terms of the numbers. -/
theorem State.word_put_toNat (s : State) (f : Fld) (v : Nat) (h : f.lo ≤ f.hi) (h' : f.hi < 32) :
    ((s.put f v).word f.off).toNat = setBits (s.word f.off).toNat f.lo f.width v := by
  rw [State.put, State.word_setWord_self, BitVec.toNat_ofNat, Nat.mod_eq_of_lt]
  apply setBits_lt _ _ _ _ (s.word f.off).isLt
  unfold Fld.width
  omega

end Sys2Proof.Machine
end

