-- ==== Sys2Proof/Tests/Slice0.lean ====
section
/-! SUPPORT. Tests of the model: the worked examples of the spec, the well-formedness checks, and for every statement of
Certificates/Slice0/Obligations.lean that has hypotheses a witness that meets them. -/

namespace Sys2Proof.Tests

open Sys2Proof Sys2Proof.Machine

set_option maxRecDepth 100000
set_option Elab.async false

/-! ### States and operands for the tests -/

/-- A node of role `r` in power state `p`, node ID 5 valid, port 0 up, Quill running, the domain key installed, and the
head 0x11 known. -/
def node (r : Role) (p : PState) : State :=
  let s := { State.reset with
    role    := r
    sampled := true
    pwr     := { Power.reset with state := p, strapped := true, fwStarted := true }
    quill   := { Quill.reset with up := true }
    keys    := { Keys.reset with domain := some 1 } }
  ((((s.put Fld.LNK_NODE_ID_ID 5).raise Fld.LNK_NODE_ID_VALID).put (Fld.LNK_PORT_STAT_STATE 0) 2).put (Fld.LNK_HEAD_HEAD 0) 0x11).raise
    (Fld.LNK_HEAD_VALID 0)

/-- A head with the client-0 key installed, its PCI Express link up and bus mastering on. -/
def headNode : State :=
  let s := (node .head .active).raise Fld.PCI_LINK_STAT_UP |>.raise Fld.PCI_LINK_STAT_BME
  { s with keys := { s.keys with client0 := some 7 } }

def tileNode : State := node .tile .active
def branchNode : State := node .branch .active

/-- A command for this node with parameter words `p`. -/
def cmdOf (r : Route) (p : List Word) : Cmd := ⟨r, 0, 1, 0, false, false, false, 0, p, none⟩

/-- A command that the head 0x11 forwarded to this node over Broash. -/
def fwd (p : List Word) : Cmd := cmdOf (.broash 0x11 false) p

/-- The command with the trailer that authenticates it under `k` with client sequence `q` (R291). -/
def signed (k : BitVec 256) (op : Nat) (c : Cmd) (q : BitVec 64) : Cmd :=
  let d : Cmd := { c with trailer := some ⟨q, 0⟩ }
  { c with trailer := some ⟨q, gmac k (BitVec.ofNat 96 (c.client.toNat * 2 ^ 80 + q.toNat))
    (leStream (headerWords op d ++ c.params ++ [wd (q.toNat / 2 ^ 32), wd q.toNat]))⟩ }

/-- A command of client 0 on its ring, signed under key 7. -/
def ringCmd (op : Nat) (p : List Word) : Cmd := signed 7 op (cmdOf .ring p) 1

/-- The head after it has taken client sequence 1 of client 0. -/
def took (s : State) : State := s.takeCseq 0 1

theorem signed_ok (k : BitVec 256) (op : Nat) (c : Cmd) (q : BitVec 64) : clientTagOk k op (signed k op c q) = true := by
  simp [clientTagOk, signed, headerWords]

/-- The opcode's row; its own default where the opcode has none. -/
def rowOf (op : Nat) : OpRow := (opRow op).getD ⟨.any, false, .now, false, 0⟩

/-- What `Passes` asks beside the authentication, as one decidable value. -/
def passing (s t : State) (op : Nat) (c : Cmd) : Bool :=
  s.takes c && !(s.busyNow op c) && !(decide (op = opTILE_PLACE) && decide (s.role = .tile) && decide (c.route ≠ .localPort)) &&
    decide (s.formStatus op c = stOK) && (opRow op).isSome && s.ownerOk op (rowOf op) c &&
    !(t.secureOnly op c (t.toSelf c || decide (c.target = 0xFFFF)))

theorem passes_of {s t : State} {op : Nat} {c : Cmd} (h : passing s t op c = true)
    (ha : s.authOk op (rowOf op) c = (true, t)) : Passes s op (rowOf op) c t := by
  simp only [passing, Bool.and_eq_true, Bool.not_eq_true', decide_eq_true_eq, Bool.and_eq_false_iff, decide_eq_false_iff_not] at h
  obtain ⟨⟨⟨⟨⟨⟨h1, h2⟩, h3⟩, h4⟩, h5⟩, h6⟩, h7⟩ := h
  refine ⟨h1, h2, ?_, h4, ?_, h6, ha, h7⟩
  · rintro ⟨a, b, c⟩
    rcases h3 with (h3 | h3) | h3
    · exact h3 a
    · exact h3 b
    · exact h3 c
  · obtain ⟨o, ho⟩ := Option.isSome_iff_exists.mp h5
    simp [rowOf, ho]

/-- What `ActsNow` asks beside the authentication. -/
def actingNow (s t : State) (op : Nat) (c : Cmd) : Bool :=
  passing s t op c && t.toSelf c && !(decide ((rowOf op).acts = .tick)) &&
    !(match c.route with | .broash _ _ => false | _ => t.instantBad op c) && decide (t.nowCheck op c = stOK)

theorem actsNow_of {s t : State} {op : Nat} {c : Cmd} (h : actingNow s t op c = true)
    (ha : s.authOk op (rowOf op) c = (true, t)) : ActsNow s op (rowOf op) c t := by
  simp only [actingNow, Bool.and_eq_true, Bool.not_eq_true', decide_eq_true_eq, decide_eq_false_iff_not] at h
  obtain ⟨⟨⟨⟨h1, h2⟩, h3⟩, h4⟩, h5⟩ := h
  exact ⟨passes_of h1 ha, h2, h3, h4, h5⟩

/-- A command of client 0 on a ring, signed under the head's key with a new sequence, is authentic. -/
theorem ring_auth (s : State) (op : Nat) (p : List Word) (o : OpRow) (hk : s.keys.client0 = some 7)
    (hq : decide (s.lastCseq 0 < 1) = true) : s.authOk op o (ringCmd op p) = (true, took s) := by
  have h : clientTagOk 7 op (ringCmd op p) = true := signed_ok 7 op (cmdOf .ring p) 1
  have hi : cmdIssuer (ringCmd op p) = 0 := rfl
  have ht : (ringCmd op p).trailer = some ⟨1, ((ringCmd op p).trailer.getD ⟨0, 0⟩).tag⟩ := rfl
  show s.authenticate op o.auth (ringCmd op p) = _
  unfold State.authenticate
  rw [ht]
  have hq' : decide (s.lastCseq 0 < BitVec.toNat (1#64)) = true := hq
  simp only [hi, State.clientKey, hk, if_true, h, Bool.true_and]
  exact if_pos hq'

theorem acts_fwd (s : State) (op : Nat) (p : List Word) (h : actingNow s s op (fwd p) = true) :
    ActsNow s op (rowOf op) (fwd p) s := actsNow_of h rfl

theorem acts_ring (s : State) (op : Nat) (p : List Word) (h : actingNow s (took s) op (ringCmd op p) = true)
    (hk : s.keys.client0 = some 7) (hq : decide (s.lastCseq 0 < 1) = true) :
    ActsNow s op (rowOf op) (ringCmd op p) (took s) := actsNow_of h (ring_auth s op p _ hk hq)

/-! ### Witnesses -/

theorem witness_InformationCommandsReply :
    ActsNow tileNode opNOP (rowOf opNOP) (fwd []) tileNode ∧
    ActsNow tileNode opECHO (rowOf opECHO) (fwd [1, 2]) tileNode ∧
    ActsNow branchNode opGET_INFO (rowOf opGET_INFO) (fwd []) branchNode ∧
    ActsNow tileNode opNODE_PEEK (rowOf opNODE_PEEK) (fwd [0x10000, 2]) tileNode ∧
    ActsNow headNode opPMU_READ (rowOf opPMU_READ) (ringCmd opPMU_READ []) (took headNode) ∧
    ActsNow tileNode opBLOT_READ (rowOf opBLOT_READ) (fwd [0, 0, 127]) tileNode :=
  ⟨acts_fwd _ _ _ (by decide), acts_fwd _ _ _ (by decide), acts_fwd _ _ _ (by decide), acts_fwd _ _ _ (by decide),
    acts_ring _ _ _ (by decide) rfl (by decide), acts_fwd _ _ _ (by decide)⟩

/-- A command given at the LOCAL port. -/
def localCmd (p : List Word) : Cmd := cmdOf .localPort p

/-- The word of register `x` that holds `v` in field `f` alone. -/
def fieldWord (f : Fld) (v : Nat) : Word := wd (v * 2 ^ f.lo)

theorem witness_NodeSettingCommandsAct :
    ActsNow tileNode opNODE_POKE (rowOf opNODE_POKE) (fwd [0x10020, 1, 0]) tileNode ∧
    ActsNow tileNode opCOR_LOAD (rowOf opCOR_LOAD) (fwd [387932, 5]) tileNode ∧
    ActsNow branchNode opHOUSE_TIME (rowOf opHOUSE_TIME) (fwd [0, 0, 999999999]) branchNode ∧
    ActsNow tileNode opPMU_CONFIG (rowOf opPMU_CONFIG) (fwd [31, 0x1C3, 0]) tileNode ∧
    ActsNow tileNode opKEY_INSTALL (rowOf opKEY_INSTALL) (localCmd [0x03000000, 1, 2, 3, 4, 5, 6, 7, 8]) tileNode ∧
    ActsNow tileNode opDOM_RESET (rowOf opDOM_RESET) (fwd [0]) tileNode :=
  ⟨acts_fwd _ _ _ (by decide), acts_fwd _ _ _ (by decide), acts_fwd _ _ _ (by decide), acts_fwd _ _ _ (by decide),
    actsNow_of (by decide) rfl, acts_fwd _ _ _ (by decide)⟩

/-- A tile with an open update session 3 whose image is verified. -/
def updTile (trial : Bool) : State :=
  { tileNode with upd := { Upd.reset with
    record := { UpdRec.reset with isOpen := true, session := 3, verified := true }
    trial := trial
    wdogEnd := 1 } }

/-- The recovery loader, with an open update session 3. -/
def recNode : State :=
  let s := node .recovery .ready
  { s with
    upd := { Upd.reset with record := { UpdRec.reset with isOpen := true, session := 3 } }
    quill := { s.quill with recovery := true } }

/-- A block of zeros whose seventh word makes its CRC right. -/
def zeroBlock : Block := setAt (List.replicate 1024 0) 6 2566472073

theorem witness_UpdateCommandsAct :
    ActsNow tileNode opUPD_BEGIN (rowOf opUPD_BEGIN) (fwd [3, 16777216]) tileNode ∧
    ActsNow (updTile false) opUPD_VERIFY (rowOf opUPD_VERIFY) (fwd [3]) (updTile false) ∧
    ActsNow recNode opUPD_BLOCK (rowOf opUPD_BLOCK) (localCmd (3 :: 0 :: zeroBlock)) recNode ∧
    ActsNow (updTile false) opUPD_ACTIVATE (rowOf opUPD_ACTIVATE) (fwd [3, 1000000]) (updTile false) ∧
    ActsNow (updTile true) opUPD_CONFIRM (rowOf opUPD_CONFIRM) (fwd [3]) (updTile true) :=
  ⟨acts_fwd _ _ _ (by decide), acts_fwd _ _ _ (by decide), actsNow_of (by decide +kernel) rfl,
    acts_fwd _ _ _ (by decide), acts_fwd _ _ _ (by decide)⟩

/-- A branch whose image has a user partition. -/
def userNode : State := branchNode.raise Fld.SYS_QUILL_STAT_USER

theorem witness_TestCommandsRun :
    ActsNow tileNode opSELFTEST (rowOf opSELFTEST) (fwd [15]) tileNode ∧
    ActsNow tileNode opLINK_EYE (rowOf opLINK_EYE) (fwd [0, 0x010300, 0x010200]) tileNode ∧
    ActsNow userNode (0x7000 + (0xFFF : BitVec 12).toNat) (rowOf 0x7FFF) (fwd [1]) userNode :=
  ⟨acts_fwd _ _ _ (by decide), acts_fwd _ _ _ (by decide), acts_fwd _ _ _ (by decide)⟩

/-- A head with descriptor 0 placed for node 9, a tile of 160 by 90 pixels. -/
def wallHead : State := { headNode with comp := { headNode.comp with tiles := [(0, [0x00090AC0, 0, 0, 0, 0, 0, 0, 0])] } }

theorem witness_HeadObjectCommandsAct :
    ActsNow headNode opCLIENT_OPEN (rowOf opCLIENT_OPEN) (ringCmd opCLIENT_OPEN [0xFFF, 255]) (took headNode) ∧
    ActsNow headNode opSRC_DEFINE (rowOf opSRC_DEFINE)
      (ringCmd opSRC_DEFINE [63, 0x1000, 0x04380780, 0x0001003C, 0, 0, 0, 0, 0, 0, 0, 0, 0, 0, 0]) (took headNode) ∧
    ActsNow headNode opSRC_STATUS (rowOf opSRC_STATUS) (ringCmd opSRC_STATUS [63]) (took headNode) ∧
    ActsNow headNode opSRC_WATCH (rowOf opSRC_WATCH) (ringCmd opSRC_WATCH [63]) (took headNode) ∧
    ActsNow wallHead opTILE_QUERY (rowOf opTILE_QUERY) (ringCmd opTILE_QUERY [0]) (took wallHead) ∧
    ActsNow headNode opJRN_CONFIG (rowOf opJRN_CONFIG) (ringCmd opJRN_CONFIG [0, 0, 0, 0x100000, 0]) (took headNode) :=
  ⟨acts_ring _ _ _ (by decide) rfl (by decide), acts_ring _ _ _ (by decide) rfl (by decide),
    acts_ring _ _ _ (by decide) rfl (by decide), acts_ring _ _ _ (by decide) rfl (by decide),
    acts_ring _ _ _ (by decide) rfl (by decide), acts_ring _ _ _ (by decide) rfl (by decide)⟩

/-- An active head paired with the head 0x11. -/
def pairHead : State :=
  let s := (headNode.put Fld.RED_STAT_PARTNER 0x11).put Fld.RED_STAT_ROLE 1
  { s with net := { s.net with metHead := [(0, 0x11)] } }

/-- A head in READY. -/
def readyHead : State := { headNode with pwr := { headNode.pwr with state := .ready } }

theorem witness_DomainCommandsStartTheirWork :
    ActsNow headNode opDOM_ENUMERATE (rowOf opDOM_ENUMERATE) (ringCmd opDOM_ENUMERATE [15, 0x100, 0x200, 0x300, 0x400]) (took headNode) ∧
    ActsNow headNode opDOM_BARRIER (rowOf opDOM_BARRIER) (ringCmd opDOM_BARRIER []) (took headNode) ∧
    ActsNow headNode opDOM_SNAPSHOT (rowOf opDOM_SNAPSHOT) (ringCmd opDOM_SNAPSHOT [1, 0]) (took headNode) ∧
    ActsNow pairHead opRED_PAIR (rowOf opRED_PAIR) (ringCmd opRED_PAIR [0x00050011, 0])
      (took pairHead) ∧
    ActsNow pairHead opRED_RESYNC (rowOf opRED_RESYNC) (ringCmd opRED_RESYNC []) (took pairHead) ∧
    ActsNow readyHead opJRN_REPLAY (rowOf opJRN_REPLAY) (ringCmd opJRN_REPLAY [0, 1, 0]) (took readyHead) :=
  ⟨acts_ring _ _ _ (by decide) rfl (by decide), acts_ring _ _ _ (by decide) rfl (by decide),
    acts_ring _ _ _ (by decide) rfl (by decide), acts_ring _ _ _ (by decide) rfl (by decide),
    acts_ring _ _ _ (by decide) rfl (by decide), acts_ring _ _ _ (by decide) rfl (by decide)⟩

/-! ### Timed commands -/

/-- What `AcceptsTick` asks beside the authentication. -/
def acceptingTick (s t : State) (op : Nat) (c : Cmd) : Bool :=
  let n := t.headTick op c
  passing s t op c && decide (c.route = .ring) && t.toSelf c && decide ((rowOf op).acts = .tick) && !(t.tooFar c) &&
    !(paramBad op c.params) && decide (((t.withoutRivals op c n.1).tickStatus op c n.1).1 = stOK) && !(t.queueFull c) && decide (t.rivals op c n.1 = []) &&
    decide ((t.resourceOf op c n.1).1 = 0)

/-- A command of client 0 on a ring that a head accepts for its tick. -/
theorem accepts_ring (s : State) (op : Nat) (p : List Word) (h : acceptingTick s (took s) op (ringCmd op p) = true)
    (hk : s.keys.client0 = some 7) (hq : decide (s.lastCseq 0 < 1) = true) :
    ∃ g late moved, AcceptsTick s op (rowOf op) (ringCmd op p) (took s) g late moved := by
  simp only [acceptingTick, Bool.and_eq_true, Bool.not_eq_true', decide_eq_true_eq] at h
  obtain ⟨⟨⟨⟨⟨⟨⟨⟨⟨h1, h2⟩, h3⟩, h4⟩, h5⟩, h6⟩, h7⟩, h8⟩, h9⟩, h10⟩ := h
  exact ⟨_, _, _, passes_of h1 (ring_auth s op p _ hk hq), h2, h3, h4, h5, rfl, h6, h7, h8, h9, h10⟩

/-- The head has not composed the tick the command acts at. -/
def waits (s : State) (op : Nat) (c : Cmd) : Bool :=
  let n := s.headTick op c
  let u := s.countedTick c n.2.2
  let f := u.filled op c n.1
  !(((u.mirror op f n.1).tickSends op f n.1).pastCompose n.1)

/-- A fill window of 16 by 16 pixels on plane 0. -/
def fillWords : List Word := [0x00010010, 1024, 0, 0, 0, 0, 0, 0, 16, 16, 0, 0, 0]

/-- A head with window 1 of client 0, the open client 5, a journal configured and Privet item 1 loaded. -/
def busyHead : State :=
  { headNode with
    comp := { headNode.comp with windows := [(1, ⟨0, fillWords⟩)] }
    cmds := { headNode.cmds with clients := [(5, ⟨true, false, 1, 0⟩)] }
    jrn  := { headNode.jrn with configured := true }
    priv := { headNode.priv with items := [(1, [])] } }

theorem witness_HeadAcceptsTickCommands :
    [(opCLIENT_CLOSE, [5]), (opCLIENT_GRANT, [5, 255]), (opSRC_ENABLE, [63]), (opWIN_CREATE, 2 :: fillWords),
      (opWIN_MODIFY, [0x00020001, 512]), (opWIN_DELETE, [1]), (opWIN_BATCH, [1, 0x80000001]), (opPLANE_ORDER, [0x1AC688]), (opJRN_START, []),
      (opJRN_STOP, [])].all (fun e : Nat × List Word =>
        acceptingTick busyHead (took busyHead) e.1 (ringCmd e.1 e.2) && waits (took busyHead) e.1 (ringCmd e.1 e.2) &&
          decide ((ringCmd e.1 e.2).target ≠ 0xFFFF)) = true ∧
    (∃ g late moved, AcceptsTick busyHead opWIN_DELETE (rowOf opWIN_DELETE) (ringCmd opWIN_DELETE [1]) (took busyHead) g late moved) ∧
    commandOf (.winDelete (ringCmd opWIN_DELETE [1])) = some (opWIN_DELETE, ringCmd opWIN_DELETE [1]) ∧
    (let s := { busyHead with heads := { busyHead.heads with lastC := some 3 } }
     waits (took s) opWIN_DELETE (ringCmd opWIN_DELETE [1]) = false) :=
  ⟨by decide +kernel, accepts_ring _ _ _ (by decide +kernel) rfl (by decide), rfl, by decide +kernel⟩

/-- A paired head that has Privet item 1 and a partner in step. -/
def sendHead : State :=
  { pairHead with
    priv := { pairHead.priv with items := [(1, [])] }
    red  := { pairHead.red with lastBeat := some 0, beat := some 4 } }

/-- A part of a Privet item that is not the last. -/
def partWords : List Word := [0x01, 1024, 0] ++ List.replicate 12 0 ++ [1, 2]

theorem witness_HeadSendsTickCommandsOn :
    [(opTILE_PLACE, [8191, 0x00090AC0, 0, 0, 0, 0, 0, 0, 0]), (opPRIVET_LOAD, partWords), (opPRIVET_SHOW, [2, 0]),
      (opPRIVET_HIDE, [2, 0]), (opRED_SWITCH, []), (opLEAD_SET, [3000000, 0]), (opTICK_CONFIG, [20000000, 0, 0, 0, 0])].all
      (fun e : Nat × List Word => acceptingTick sendHead (took sendHead) e.1 (ringCmd e.1 e.2) &&
        waits (took sendHead) e.1 (ringCmd e.1 e.2) && decide ((ringCmd e.1 e.2).target ≠ 0xFFFF)) = true ∧
    (∃ g late moved, AcceptsTick sendHead opLEAD_SET (rowOf opLEAD_SET) (ringCmd opLEAD_SET [3000000, 0]) (took sendHead) g late moved) ∧
    commandOf (.leadSet (ringCmd opLEAD_SET [3000000, 0])) = some (opLEAD_SET, ringCmd opLEAD_SET [3000000, 0]) :=
  ⟨by decide +kernel, accepts_ring _ _ _ (by decide +kernel) rfl (by decide), rfl⟩

/-- What `AcceptsFrame` asks at a tile of a command that came over Broash. -/
def acceptingFrame (s : State) (op : Nat) (c : Cmd) : Bool :=
  passing s s op c && decide (c.route ≠ .ring) && s.toSelf c && decide ((rowOf op).acts = .tick) && !(s.tooFar c) && !(paramBad op c.params) &&
    decide (s.tileStatus op c = stOK)

theorem accepts_fwd (s : State) (op : Nat) (p : List Word) (h : acceptingFrame s op (fwd p) = true) :
    ∃ g late, AcceptsFrame s op (rowOf op) (fwd p) s g late := by
  simp only [acceptingFrame, Bool.and_eq_true, Bool.not_eq_true', decide_eq_true_eq] at h
  obtain ⟨⟨⟨⟨⟨⟨h1, h2⟩, h3⟩, h4⟩, h5⟩, h6⟩, h7⟩ := h
  exact ⟨_, _, passes_of h1 rfl, h2, h3, h4, h5, rfl, h6, fun _ => h7⟩

/-- A tile whose inactive calibration copy the test leaves as it is. -/
theorem witness_TileCommandsTakeEffectAtTheirFrame :
    (∃ g late, AcceptsFrame tileNode opWALL_GAIN (rowOf opWALL_GAIN) (fwd [0x80008000, 0x8000]) tileNode g late) ∧
    commandOf (.wallGain (fwd [0x80008000, 0x8000])) = some (opWALL_GAIN, fwd [0x80008000, 0x8000]) ∧ tileNode.role = .tile ∧
    [(opLAMP_TEST, [0x00010000, 43199]), (opAGEING_CTL, [0, 0, 0]), (opRED_TILE, [0x00110000, 0])].all
      (fun e : Nat × List Word => acceptingFrame tileNode e.1 (fwd e.2)) = true :=
  ⟨accepts_fwd _ _ _ (by decide +kernel), rfl, rfl, by decide +kernel⟩

theorem witness_AcceptedCommandsTakeEffect :
    tileNode.cmds.accepted = [] ∧
    (let a : Accepted := ⟨opPLANE_ORDER, ringCmd opPLANE_ORDER [0x1AC688], 3, false, false⟩
     let s := { headNode with cmds := { headNode.cmds with accepted := [a] } }
     s.cmds.accepted = a :: [] ∧ later a.tick 3 = false ∧ (s.objStatus a.opcode a.cmd).1 = stOK ∧ a.mirror = false) ∧
    headNode.jrn.replay = none ∧
    opWIN_BATCH ∈ [opWIN_CREATE, opWIN_MODIFY, opWIN_DELETE, opWIN_BATCH] := by
  refine ⟨rfl, ⟨rfl, ?_, ?_, rfl⟩, rfl, ?_⟩ <;> decide +kernel

theorem witness_ChecksOfACommandComeInOrder :
    (commandOf (.nop (fwd [])) = some (opNOP, fwd []) ∧ State.reset.takes (fwd []) = false) ∧
    (let s := tileNode.raise Fld.SYS_FAULT_STAT_HOLD
     commandOf (.houseTime (fwd [0, 0, 0])) = some (opHOUSE_TIME, fwd [0, 0, 0]) ∧ s.takes (fwd [0, 0, 0]) = true ∧
      s.busyNow opHOUSE_TIME (fwd [0, 0, 0]) = true) ∧
    [(opECHO, fwd (List.replicate 4086 0)), (opNOP, fwd [1]), (opCLIENT_OPEN, fwd [5, 0]), (opRED_TILE, fwd [0, 0]),
        (opNODE_PEEK, { fwd [0x400004, 1] with client := 5 })].all (fun e : Nat × Cmd =>
      tileNode.takes e.2 && !(tileNode.busyNow e.1 e.2) && !(decide (e.1 = opTILE_PLACE))) = true ∧
    4089 < cmdLength (fwd (List.replicate 4086 0)) ∧
    (plenOk opNOP [1] = false ∧ opRow opNOP = some (rowOf opNOP)) ∧
    tileNode.targetOk opCLIENT_OPEN (rowOf opCLIENT_OPEN) (fwd [5, 0]) = false ∧
    (tileNode.targetOk opRED_TILE (rowOf opRED_TILE) (fwd [0, 0]) = true ∧
      tileNode.ownerOk opRED_TILE (rowOf opRED_TILE) (fwd [0, 0]) = false) ∧
    (let c := cmdOf .ring [0x10020, 1, 0]
     headNode.takes c = true ∧ headNode.busyNow opNODE_POKE c = false ∧ plenOk opNODE_POKE c.params = true ∧
      headNode.bareKeyOk opNODE_POKE c = true ∧ headNode.targetOk opNODE_POKE (rowOf opNODE_POKE) c = true ∧
      headNode.ownerOk opNODE_POKE (rowOf opNODE_POKE) c = true ∧ (headNode.authOk opNODE_POKE (rowOf opNODE_POKE) c).1 = false) ∧
    (let c := { fwd [0x400000, 1] with client := 5 }
     let d := { fwd [0x20000, 1] with client := 5 }
     (tileNode.authOk opNODE_PEEK (rowOf opNODE_PEEK) c).1 = true ∧ tileNode.secureOnly opNODE_PEEK d (tileNode.toSelf d || decide (d.target = 0xFFFF)) = true ∧
      tileNode.ownerOk opNODE_PEEK (rowOf opNODE_PEEK) d = true) ∧
    (let ws : List Word := [0xFFFF0000, 0, 0, 0]
     tileNode.takes (parseCmd .localPort ws).2 = true ∧ tileNode.busyNow (parseCmd .localPort ws).1 (parseCmd .localPort ws).2 = false ∧
      cmdLength (parseCmd .localPort ws).2 ≤ 4089 ∧ opRow (parseCmd .localPort ws).1 = none) ∧
    ((localCmd [0, 0]).route = .localPort ∧ tileNode.takes (localCmd [0, 0]) = true ∧
      tileNode.busyNow opRED_TILE (localCmd [0, 0]) = false ∧ cmdLength (localCmd [0, 0]) ≤ 4089) := by
  refine ⟨⟨rfl, by decide⟩, ⟨rfl, by decide, by decide⟩, by decide +kernel, by decide +kernel, ⟨by decide, rfl⟩, by decide,
    ⟨by decide, by decide⟩, ?_, ?_, by decide, by decide⟩
  · refine ⟨?_, ?_, ?_, ?_, ?_, ?_, ?_⟩ <;> decide
  · refine ⟨?_, ?_, ?_⟩ <;> decide

/-- A packet for this node from head 0x11 that arrives on port 0. -/
def rxOf (type : BitVec 4) (dest : NodeId) (body : List Word) : Rx :=
  ⟨0, 0, false, type, dest, 0x11, 0, body, wd (crc32c (wireStream (headWords type.toNat dest 0x11 body.length 0 ++ body))), 0⟩

/-- The body `w` with ORIG 1 and the tag that authenticates the packet under the domain key 1 (R188). -/
def sealedBody (type : Nat) (dest : NodeId) (w : List Word) : List Word :=
  let t := gmac 1 (BitVec.ofNat 96 (0x11 * 2 ^ 80 + 1)) (wireStream (hdrWords type dest 0x11 (w.length + 6) ++ (w ++ [0, 1])))
  w ++ [0, 1] ++ [wd (t.toNat / 2 ^ 96), wd (t.toNat / 2 ^ 64), wd (t.toNat / 2 ^ 32), wd t.toNat]

def sealedRx (type : BitVec 4) (dest : NodeId) (w : List Word) : Rx := rxOf type dest (sealedBody type.toNat dest w)

theorem tagOf_words (t : BitVec 128) :
    tagOf [wd (t.toNat / 2 ^ 96), wd (t.toNat / 2 ^ 64), wd (t.toNat / 2 ^ 32), wd t.toNat] = t := by
  have h := t.isLt
  apply BitVec.eq_of_toNat_eq
  simp [tagOf, nth, wd]
  omega

/-- The state after a sealed packet has been let in at `u`. -/
theorem sealed_tag (u : State) (type : BitVec 4) (dest : NodeId) (w : List Word) (hk : u.keys.domain = some 1)
    (hh : u.knowsHead 0x11 = true) (ho : lookup (0, []) u.net.origins (0x11 : NodeId) = (0, [])) :
    u.tagCheck (sealedRx type dest w) = .ok := by
  have hl : (sealedRx type dest w).body.length - 6 = w.length := by simp [sealedRx, rxOf, sealedBody]
  have hb : (sealedRx type dest w).body = w ++ [0, 1] ++ (sealedRx type dest w).body.drop (w.length + 2) := by
    simp [sealedRx, rxOf, sealedBody]
  have h0 : nth (sealedRx type dest w).body w.length = 0 := by simp [sealedRx, rxOf, sealedBody, nth]
  have h1 : nth (sealedRx type dest w).body (w.length + 1) = 1 := by simp [sealedRx, rxOf, sealedBody, nth]
  have hs : (sealedRx type dest w).src = 0x11 := rfl
  have ht : gmac 1 (BitVec.ofNat 96 ((sealedRx type dest w).src.toNat * 2 ^ 80 + 1))
      (wireStream (hdrWords (sealedRx type dest w).type.toNat (sealedRx type dest w).dest (sealedRx type dest w).src
        (sealedRx type dest w).body.length ++ (sealedRx type dest w).body.take (w.length + 2))) = tagOf ((sealedRx type dest w).body.drop (w.length + 2)) := by
    have hd : (sealedRx type dest w).body.drop (w.length + 2) =
        (sealedBody type.toNat dest w).drop (w ++ [0, 1] : List Word).length := by simp [sealedRx, rxOf]
    rw [hd]
    unfold sealedBody
    rw [List.drop_left, tagOf_words]
    have hk : (sealedRx type dest w).body.take (w.length + 2) = w ++ [0, 1] := by
      have : (sealedRx type dest w).body.take (w ++ [0, 1] : List Word).length = w ++ [0, 1] := by
        show (sealedBody type.toNat dest w).take _ = _
        unfold sealedBody
        rw [List.take_left]
      simpa using this
    rw [hk]
    simp [sealedRx, rxOf, sealedBody]
  unfold State.tagCheck
  simp only [hk, hl, h0, h1]
  have hc : (0 : Word).toNat * 2 ^ 32 + (1 : Word).toNat = 1 := rfl
  rw [hc, if_neg (by simpa using ht)]
  simp only [hs, hh, ho]
  decide

theorem crc_rxOf (type : BitVec 4) (dest : NodeId) (body : List Word) : crcCheck (rxOf type dest body) = .good := by
  simp [crcCheck, rxOf]

/-- `State.letIn` for a packet whose CRC is right. -/
def entered (s : State) (x : Rx) : Bool × Bool × State :=
  let p := x.port.val
  if !(s.running) || !(s.linkUp p) || s.get (Fld.LNK_NET_STAT_LEVEL p) = 3 then (false, false, s)
  else
    let drop := decide (2 ≤ s.get (Fld.LNK_NET_STAT_LEVEL p)) && quarantined x.type.toNat x.body
    let s := s.takeSeq x
    if !(typeOk x.type.toNat x.dest x.body) || s.strayArrive x then (false, false, s.violation p 1)
    else if !(lenOk x.type.toNat x.body) then (false, false, s.violation p 2)
    else if drop then (false, false, s)
    else
      let s := s.checkDup x
      (true, false, if x.dest = 0 ∧ x.src ≠ 0 then s.put (Fld.LNK_NET_STAT_NEIGHBOUR p) x.src.toNat else s)

theorem letIn_rxOf (s : State) (type : BitVec 4) (dest : NodeId) (body : List Word) :
    s.letIn (rxOf type dest body) = entered s (rxOf type dest body) := by
  simp only [State.letIn, entered, crc_rxOf]

/-- The node after it has taken the sealed packet `w`. -/
def unsealed (s : State) (type : BitVec 4) (dest : NodeId) (w : List Word) : State :=
  ((entered s (sealedRx type dest w)).2.2.takeOrig (sealedRx type dest w)).passOn (sealedRx type dest w) (sealedRx type dest w).body false

/-- A sealed packet of a tagged type is taken. -/
theorem taken_sealed (s : State) (type : BitVec 4) (dest : NodeId) (w : List Word)
    (h1 : ((entered s (sealedRx type dest w)).1 && !((entered s (sealedRx type dest w)).2.1)) = true) (ht : tagged type.toNat = true)
    (hk : (entered s (sealedRx type dest w)).2.2.keys.domain = some 1)
    (hh : (entered s (sealedRx type dest w)).2.2.knowsHead 0x11 = true)
    (ho : lookup (0, []) (entered s (sealedRx type dest w)).2.2.net.origins (0x11 : NodeId) = (0, []))
    (hc : (unsealed s type dest w).consumes (sealedRx type dest w) = true) :
    s.taken (sealedRx type dest w) = some (sealedBody type.toNat dest w, unsealed s type dest w) := by
  have hs := sealed_tag _ type dest w hk hh ho
  unfold unsealed at hc ⊢
  unfold State.taken
  have he : s.letIn (sealedRx type dest w) = entered s (sealedRx type dest w) := letIn_rxOf s type dest _
  rw [he]
  rcases hl : entered s (sealedRx type dest w) with ⟨a, b, u⟩
  rw [hl] at h1 hs hc
  simp only [Bool.and_eq_true, Bool.not_eq_true'] at h1
  obtain ⟨rfl, rfl⟩ := h1
  have ht' : tagged (sealedRx type dest w).type.toNat = true := ht
  simp only [ht', if_true, hs, hc]
  rfl

/-- The node after it has taken an untagged packet. -/
def arrived (s : State) (x : Rx) : State := match s.taken x with | some (_, t) => t | none => s

/-- A head whose translation maps its first page, with the ring of client 5 enabled and one command in it. -/
def ringHead : State :=
  let s := ((((headNode.put Fld.PCI_XLT_L1_LO_BASE 1).put Fld.PCI_XLT_L1LEN_LEN 1).put (Fld.PCI_WIN_LO_R 0) 1).put (Fld.PCI_WIN_LO_W 0) 1).put
    (Fld.PCI_WIN_LIM_LIMIT 0) 255
  { s with host := { s.host with rings := [(5, { Ring.off with
    en    := true
    cfg   := [0, 0x0A000000, 0, 0x08000000, 0, 0x08000000, 0, 0]
    cmdPi := 4 })] } }

/-- Host memory with one page mapped at 0. -/
def pageMem : HostMem := ⟨[(0x1000, 0x2001), (0x2000, 0x4003)], [], [], []⟩

/-- The four words of a NOP of client 5. -/
def nopWords : List Word := [0x00010000, 0x00500001, 0, 0]

theorem witness_CommandsArriveAndAreClosed :
    (let r := (ringHead.showMem pageMem).ring 5
     ringHead.ringTakes 5 = true ∧ announced nopWords ≤ 4089 ∧ announced nopWords ≤ 2 ^ ctxLog r.cfg 0 ∧
      announced nopWords ≤ (r.cmdPi - r.cmdCi).toNat ∧ ((ringHead.showMem pageMem).ringFetch 5 (announced nopWords)).1 = none ∧
      (parseCmd .ring nopWords).2.client = 5) ∧
    ((sealedRx 2 5 nopWords).type.toNat = tyCMD ∧
      tileNode.taken (sealedRx 2 5 nopWords) = some (sealedBody 2 5 nopWords, unsealed tileNode 2 5 nopWords)) ∧
    (let f : Forwarded := ⟨5, 7, 0x11, false, opNOP⟩
     let s := { headNode with cmds := { headNode.cmds with forwarded := [f] } }
     let b : List Word := [0x40000000, 0x00500007, 0x00110001, 3]
     let x := rxOf 3 5 b
     x.type.toNat = tyRPL ∧ s.taken x = some (b, arrived s x) ∧ (arrived s x).role = .head ∧ (arrived s x).cmds.forwarded = [f] ∧
      f.client.toNat = wbits (nth b 1) 31 20 ∧ f.tag.toNat = wbits (nth b 1) 15 0 ∧ f.target.toNat = wbits (nth b 2) 31 16 ∧
      updLong f.opcode = false ∧ wbits (nth b 0) 31 16 ≠ stPENDING) ∧
    (let g : Gather := ⟨5, 7, false, 0, false, [9], [], opHOUSE_TIME⟩
     let s := { headNode with cmds := { headNode.cmds with gathers := [g] } }
     s.cmds.gathers = [g] ∧ updLong g.opcode = false) ∧
    headNode.pci = true := by
  refine ⟨?_, ⟨rfl, taken_sealed _ _ _ _ (by decide +kernel) rfl (by decide +kernel) (by decide +kernel) (by decide +kernel) (by decide +kernel)⟩, ?_, ⟨rfl, rfl⟩, rfl⟩
  · decide +kernel
  · refine ⟨rfl, rfl, rfl, rfl, ?_, ?_, ?_, rfl, ?_⟩ <;> decide

/-! ### The machine, its registers and its time -/

theorem witness_StepRunsFrontCommand :
    (let s := { tileNode with pending := [.tickStart, .nop (fwd [])] }
     s.pending = .tickStart :: [.nop (fwd [])]) ∧
    (tileNode.pending = [] ∧ tileNode.powered = true) ∧ (State.reset.pending = [] ∧ State.reset.powered = false) := by
  decide

theorem witness_QueueIsServedInOrder :
    (let s := { State.reset with pending := [Instr.testReset, .safeNLow] ++ [Instr.tickStart] }
     s.pending = [Instr.testReset, .safeNLow] ++ [Instr.tickStart]) ∧
    (let s := { State.reset with pending := [Instr.testReset, .tickStart] }
     s.pending = .testReset :: ([] ++ [Instr.tickStart]) ∧ ∃ t, exec .testReset { s with pending := [] ++ [Instr.tickStart] } = .next t) :=
  ⟨rfl, rfl, _, rfl⟩

theorem witness_CalmNodeSettlesAlone :
    (tileNode.quiet = true ∧ tileNode.pci = false) ∧ (headNode.quiet = true ∧ headNode.pci = true) ∧
    headNode.icuPresented 1 = headNode.icu.presented1 := by
  decide +kernel

theorem witness_RegisterFieldWrites :
    (Fld.TIME_LEAD_NS.lo ≤ Fld.TIME_LEAD_NS.hi ∧ Fld.TIME_LEAD_NS.hi < 32) ∧
    (Fld.THM_CFG_WARN.lo ≤ Fld.THM_CFG_WARN.hi ∧ Fld.THM_CFG_WARN.hi < 32 ∧ Fld.THM_CFG_THROT.lo ≤ Fld.THM_CFG_THROT.hi ∧
      Fld.THM_CFG_THROT.hi < 32 ∧ Fld.THM_CFG_THROT.off = Fld.THM_CFG_WARN.off ∧
      (Fld.THM_CFG_THROT.hi < Fld.THM_CFG_WARN.lo ∨ Fld.THM_CFG_WARN.hi < Fld.THM_CFG_THROT.lo)) ∧
    Reg.TIME_LEAD ≠ Fld.THM_CFG_WARN.off := by
  decide

theorem witness_RegisterSpaceStaysCanonical :
    tileNode.regsWf = true ∧ tileNode.regs ≠ [] ∧ (∀ x, tileNode.word x = tileNode.word x) :=
  ⟨by decide +kernel, by decide +kernel, fun _ => rfl⟩

theorem witness_ResetStateIsAsSpecified : Reg.SYS_STRAP ≠ Reg.PWR_RST_CAUSE ∧ Reg.SYS_STRAP ≠ Reg.NVM_POOL := by decide

theorem witness_CommandWordsRoundTrip : 0xFFFF < 2 ^ 16 ∧ (fwd (List.replicate 4095 1)).params.length < 2 ^ 12 := by decide +kernel

theorem witness_CountsCompareCyclically : later (0x7FFFFFFF : Word) 0 = true ∧ later (0x80000000 : Word) 0 = false := by decide

theorem witness_TimePassesAsCounted :
    (tileNode.clk.htPend = none ∧ tileNode.houseNs + (2 ^ 32 * 1000000000 - 1) < 2 ^ 32 * 1000000000) ∧
    (let s := { tileNode with clk := { tileNode.clk with htPend := some 5 } }
     s.clk.htPend = some 5 ∧ 1000000000 ≤ s.clk.htNs + 1999999999 ∧ s.clk.htNs + 1999999999 < 2000000000) ∧
    tileNode.clk.htNs + 999999999 < 1000000000 := by
  decide +kernel

theorem witness_CounterWrapsPast48Bits :
    31 < 32 ∧ tileNode.pmu.cnt.length = 32 ∧ 0 ≠ 31 ∧ 2 ^ 48 ≤ tileNode.pmu.cnt.getD 31 0 + 2 ^ 48 ∧
      tileNode.pmu.cnt.getD 31 0 + (2 ^ 48 - 1) < 2 ^ 48 := by
  decide

/-- A node whose ICU source 255 is pending, enabled and of priority 15, and targets processor `p`. -/
def icuNode (r : Role) (p : Nat) : State :=
  ((((node r .active).raise (Fld.ICU_SRC_PEND 255)).raise (Fld.ICU_SRC_EN 255)).put (Fld.ICU_SRC_PRIO 255) 15).put (Fld.ICU_SRC_TGT 255) p

theorem witness_IcuPresentsTheBestSource :
    (icuNode .tile 0).icuPresented 0 = some 255 ∧ (icuNode .head 1).icuPresented 1 = some 255 ∧ tileNode.icuPresented 0 = none ∧
      255 < 256 ∧ (icuNode .tile 0).icuQualifies 0 255 = true := by
  decide +kernel

theorem witness_PriorityStackRises :
    (let s := { icuNode .tile 0 with icu := { (icuNode .tile 0).icu with stack0 := [14, 3, 1] } }
     (s.icuStack 0).Pairwise (fun a b => b < a) ∧ (∀ a ∈ s.icuStack 0, 1 ≤ a ∧ a ≤ 15) ∧
      (s.icuStack 1).Pairwise (fun a b => b < a) ∧ (∀ a ∈ s.icuStack 1, 1 ≤ a ∧ a ≤ 15) ∧ s.icuPresented (0 : Fin 2) = some 255) ∧
    (let l := [15, 14, 13, 12, 11, 10, 9, 8, 7, 6, 5, 4, 3, 2, 1]
     l.Pairwise (fun a b => b < a) ∧ ∀ a ∈ l, 1 ≤ a ∧ a ≤ 15) := by
  decide +kernel

/-! ### Power -/

def inState (s : State) (p : PState) : State := { s with pwr := { s.pwr with state := p } }

/-- The node with a transition under way. -/
def moving (s : State) (r : PReq) : State := { s with pwr := { s.pwr with trans := some ⟨r, false, 0⟩ } }

theorem witness_PowerRequestsAreFiled :
    (tileNode.pwrOpen = true ∧ tileNode.safeHold = false ∧ tileNode.role = .tile ∧ tileNode.role ≠ .head) ∧
    ¬(tileNode.pwr.trans = none ∧ tileNode.pwr.state = .off) ∧ ¬(tileNode.pwr.trans = none ∧ tileNode.pwr.state = .ready) ∧
    ¬(tileNode.pwr.trans = none ∧ tileNode.pwr.state = .dim) ∧ ¬(tileNode.pwr.trans = none ∧ tileNode.pwr.state = .park) ∧
    (let s := inState tileNode .ready
     s.pwrOpen = true ∧ s.safeHold = false ∧ s.pwr.trans = none ∧ s.pwr.state = .ready ∧
      ¬(s.pwr.trans = none ∧ s.pwr.state = .active)) ∧
    ((1 : BitVec 4) = 1 ∧ 6 ≤ (6 : BitVec 4).toNat ∧ 6 ≤ (15 : BitVec 4).toNat) ∧ (0xB006 : BitVec 16) ≠ 0xB007 := by
  decide

theorem witness_TransitionsEndAsTheirWorkEnds :
    (let s := { tileNode with pwr := { tileNode.pwr with queued := some (.state .off) } }
     s.pwr.trans = none ∧ s.pwr.queued = some (.state .off) ∧ s.powered = true) ∧
    (let s := moving (inState tileNode .ready) (.state .dim)
     s.role = .tile ∧ s.drive.railUp = false ∧ s.pwr.trans = some ⟨.state .dim, false, 0⟩) ∧
    (let s := moving tileNode (.state .park)
     s.role = .tile ∧ s.drive.dark = true ∧ s.pwr.trans = some ⟨.state .park, false, 0⟩) ∧
    (let s := moving tileNode (.state .off)
     s.lit = false ∧ s.pwr.trans = some ⟨.state .off, false, 0⟩) ∧
    (let s := moving tileNode .warm
     s.lit = false ∧ s.pwr.trans = some ⟨.warm, false, 0⟩) ∧
    (let s := moving (inState branchNode .park) (.state .active)
     s.role = .branch ∧ s.pwr.state = .park ∧ s.pwr.trans = some ⟨.state .active, false, 0⟩) := by
  decide

/-- A node in BOOT whose rails are not yet good. -/
def bootNode (r : Role) : State :=
  { node r .boot with pwr := { (node r .boot).pwr with strapped := false, fwStarted := false, bootWait := true, fromWake := true } }

theorem witness_ResetsAndRailsAct :
    (10 ≤ 10 ∧ 1000 < 1001 ∧ State.reset.pwr.held ≠ 1 ∧ 1000 ≤ 1000) ∧
    (let s := { State.reset with pwr := { State.reset.pwr with held := 2 } }
     s.pwr.held ≠ 0) ∧
    ((5 : Fin 8).val ≠ 0 ∧ tileNode.railsRequired.getLsbD (5 : Fin 8).val = true ∧ tileNode.railsRequired.getLsbD (7 : Fin 8).val = true ∧
      tileNode.powered = true ∧ tileNode.pwr.held = 0) ∧
    ((0xBF : BitVec 8).getLsbD 0 = true ∧ (bootNode .tile).pwr.bootWait = true ∧
      0xBF &&& (bootNode .tile).railsRequired = (bootNode .tile).railsRequired) ∧
    ((bootNode .tile).pwr.state = .boot ∧ (bootNode .tile).pwr.fromWake = true) ∧
    (let s := { tileNode with pwr := { tileNode.pwr with domReset := some 9 } }
     s.pwr.domReset = some 9 ∧ s.powered = true) := by
  decide +kernel

theorem witness_ResetsKeepWhatTheyMust :
    (tileNode.nvm.writing = none ∧ tileNode.blots.mramWait = []) ∧
    (let s := { tileNode with pwr := { tileNode.pwr with thermalLatch := true } }
     s.nvm.writing = none ∧ s.pwr.thermalLatch = true) ∧
    Reg.SYS_STRAP ≠ Reg.NVM_POOL ∧ Reg.SYS_STRAP ≠ Reg.NVM_RECOV := by
  decide

theorem witness_WakeAndSafetyPinsAct :
    (State.reset.pwr.state = .off ∧ State.reset.pwr.powerOffN = true ∧ State.reset.pwr.held = 0 ∧ State.reset.pwr.trans = none) ∧
    (bitsOf ((State.reset.put Fld.PWR_WAKE_CFG_LINK_EN 8).get Fld.PWR_WAKE_CFG_LINK_EN) (3 : Port).val 1 = 1 ∧
      (State.reset.put Fld.PWR_WAKE_CFG_LINK_EN 8).pwr.state = .off) ∧
    (tileNode.powered = true ∧ tileNode.pwr.held = 0 ∧ tileNode.role = .tile) ∧
    (let s := { State.reset with pwr := { State.reset.pwr with wakePin := true, powerOffN := false } }
     s.pwr.state = .off ∧ s.pwr.wakePin = true ∧ s.pwr.held = 0) ∧
    (headNode.role = .head ∧ headNode.powered = true ∧ headNode.running = true ∧ headNode.role ≠ .tile) ∧ branchNode.role = .branch ∧
    (tileNode.pwr.strapped = true ∨ tileNode.running = true) ∧ tileNode.pwr.state ≠ .off ∧ State.reset.powered = false ∧
    State.reset.pwr.wakeSeen = false ∧
    (let s := { State.reset with pwr := { State.reset.pwr with held := 1 } }
     s.pwr.held ≠ 0) ∧
    (let s := { bootNode .head with pwr := { (bootNode .head).pwr with strapped := true } }
     s.role = .head ∧ s.powered = true ∧ s.pwr.strapped = true ∧ s.running = false) := by
  decide

theorem witness_BootCompletes :
    (let s := inState tileNode .boot
     s.pwr.state = .boot ∧ s.bit Fld.MEM_STAT_CLEARED = false ∧ s.pwr.bootWait = false) ∧
    (let s := { bootNode .tile with pwr := { (bootNode .tile).pwr with bootWait := false } }
     let l : List Straps := [⟨0, 1⟩, ⟨1, 1⟩, ⟨1, 1⟩, ⟨1, 1⟩]
     s.pwr.state = .boot ∧ s.pwr.bootWait = false ∧ s.pwr.strapped = false ∧ strapsAgree l 0 = some (4, ⟨1, 1⟩)) ∧
    (let l : List Straps := (List.range 100).map (fun i => ⟨BitVec.ofNat 2 i, 0⟩)
     strapsAgree l 0 = none ∧ 100 ≤ l.length) ∧
    ((⟨0, 1⟩ : Straps) ≠ ⟨1, 1⟩) ∧
    [Role.tile, Role.recovery].all (fun r =>
      let s := (bootNode r).raise Fld.MEM_STAT_CLEARED
      let t := { s with pwr := { s.pwr with strapped := true, bootWait := false } }
      decide (t.pwr.state = .boot) && t.bit Fld.MEM_STAT_CLEARED && t.pwr.strapped && !t.pwr.bootWait && !t.quill.debug &&
        !t.pwr.fwStarted && decide (t.role = r)) = true := by
  decide +kernel

/-! ### Registers with rows of their own -/

/-- A head in READY with source 3 a host source of two buffers, enabled. -/
def hostSrc : State :=
  let s := (readyHead.put (Fld.SRC_CFG_KIND 3) 4).put (Fld.SRC_CFG_ENABLED 3) 1
  { s with ingest := { s.ingest with srcs := [(3, { Source.reset with bufs := [(0, 4096), (65536, 4096)] })] } }

theorem witness_SourceRegistersAct :
    (headNode.role = .head ∧ headNode.powered = true) ∧
    (let s := headNode.put (Fld.SRC_GRP_CFG_GMODE 1) 2
     s.ingest.gmode.getD (1 : Fin 2).val 3 ≠ s.get (Fld.SRC_GRP_CFG_GMODE (1 : Fin 2).val) ∧ s.role = .head ∧ s.powered = true) ∧
    (hostSrc.ingestRuns = true ∧ hostSrc.get (Fld.SRC_CFG_KIND (3 : SrcId).val) = 4 ∧ hostSrc.bit (Fld.SRC_CFG_ENABLED (3 : SrcId).val) = true ∧
      wbits (1 : Word) 1 0 < (hostSrc.src (3 : SrcId).val).bufs.length ∧ (hostSrc.src (3 : SrcId).val).fetching = none ∧
      (hostSrc.src (3 : SrcId).val).bufs.length ≤ wbits (2 : Word) 1 0) ∧
    (let s := { hostSrc with ingest := { hostSrc.ingest with srcs := [(3, { hostSrc.src 3 with heldBell := some 1 })] } }
     s.ingestRuns = true ∧ (s.src (3 : SrcId).val).fetching = none ∧ (s.src (3 : SrcId).val).heldBell = some 1) := by
  decide +kernel

theorem witness_ComposerRegistersAct :
    headNode.headRegs = true ∧ isOrder 0x1AC688 = true ∧ isOrder 0 = false ∧ wbits (0x00100000 : Word) 20 20 = 1 ∧
      wbits (0 : Word) 20 20 = 0 ∧ wbits (0x00020000 : Word) 17 17 = 1 ∧ wbits (0x00010000 : Word) 17 17 = 0 ∧
      wbits (0x00010000 : Word) 16 16 = 1 ∧ headNode.comp.windows = [] ∧ wbits (0x40000000 : Word) 30 30 = 1 ∧
      wbits (8333 : Word) 15 0 * 1000 ≤ headNode.tickInt ∧ ¬(wbits (8334 : Word) 15 0 * 1000 ≤ headNode.tickInt) := by
  decide +kernel

theorem witness_LinkRegistersAct :
    tileNode.powered = true ∧ wbits (0x80000000 : Word) 31 31 = 1 ∧ wbits (0 : Word) 31 31 = 0 ∧
      (let s := tileNode.put (Fld.LNK_NET_STAT_LEVEL (2 : Port).val) 3
       (s.put (Fld.LNK_ESC_CTL_COOL (2 : Port).val) 0).get (Fld.LNK_NET_STAT_LEVEL (2 : Port).val) = 3) ∧
      wbits (0x10 : Word) 5 4 ≠ 0 ∧ wbits (1 : Word) 0 0 = 1 ∧ tileNode.laneBusy (0 : Port).val (2 : PhyLane).val true = false := by
  decide +kernel

theorem witness_TimeRegistersAct :
    tileNode.powered = true ∧ wbits (999999999 : Word) 29 0 < 1000000000 ∧ ¬(wbits (1000000000 : Word) 29 0 < 1000000000) ∧
      (tileNode.raise Fld.TIME_HT_CTL_SET).bit Fld.TIME_HT_CTL_IMM = false ∧
      ((tileNode.raise Fld.TIME_HT_CTL_IMM).raise Fld.TIME_HT_CTL_SET).bit Fld.TIME_HT_CTL_IMM = true ∧ tileNode.clk.htNs < 1000000000 := by
  decide +kernel

theorem witness_TileAndMemoryRegistersAct :
    (tileNode.role = .tile ∧ tileNode.powered = true ∧ tileNode.running = true ∧ roleUses tileNode.role Reg.MEM_BIST_CTL = true) ∧
    (wbits (0x80000000 : Word) 31 31 = 1 ∧
      ((tileNode.put Fld.COR_AGE_CTL_PERIOD (wbits (0x80000000 : Word) 15 8)).pend Reg.COR_AGE_CTL 3 (0x80000000 : Word)).ageMode ≤ 1) ∧
    (255 < (256 : BitVec 12).toNat ∧ (255 : BitVec 12).toNat ≤ 255 ∧ pathSecure .host = false ∧ pathSecure (.quill true) = true) ∧
    (let s := { tileNode with nvm := { tileNode.nvm with writing := some (939, [1]) } }
     s.nvm.writing = some (939, [1])) ∧ tileNode.nvm.writing = none := by
  decide +kernel

theorem witness_InterruptControllerActs :
    (tileNode.powered = true ∧ tileNode.icuSecure (255 : BitVec 8).toNat = false ∧ tileNode.icuSecure (19 : BitVec 8).toNat = true ∧
      pathSecure .host = false) ∧
    ((icuNode .head 1).powered = true ∧ (icuNode .head 1).icuPresented 1 = some 255) ∧
    (headNode.icuPresented 1 = none ∧ headNode.icu.sent1 = false) ∧
    ((icuNode .tile 0).quillTakes = true ∧ (icuNode .tile 0).icuPresented 0 = some 255) ∧
    ((icuNode .tile 0).quill.up = true ∧ (icuNode .tile 0).bit (Fld.ICU_SRC_EN (255 : Fin 256).val) = true ∧
      (icuNode .tile 0).get (Fld.ICU_SRC_TGT (255 : Fin 256).val) = 0 ∧ (icuNode .tile 0).icuPend (255 : Fin 256).val = true) := by
  decide +kernel

theorem witness_CompletionsPopOrFault :
    (let s := { tileNode with icu := { tileNode.icu with stack1 := [15, 1] } }
     s.powered = true ∧ s.icuStack (1 : Fin 2).val = (15 : BitVec 4).toNat :: [1] ∧
      (s.icuStack (1 : Fin 2).val).head? ≠ some (1 : BitVec 4).toNat) ∧
    (tileNode.icuStack (0 : Fin 2).val).head? ≠ some (0 : BitVec 4).toNat ∧
    ([15, 1].Pairwise (fun a b => b < a) ∧ ∀ a ∈ [15, 1], 1 ≤ a ∧ a ≤ 15) := by
  decide

theorem witness_HostInterfaceActs :
    headNode.pci = true ∧ (headNode.ring 5).en = false ∧ (ringHead.ring 5).en = true ∧
      wbits (0x80000000 : Word) 29 29 = 0 ∧ wbits (0x80000000 : Word) 31 31 = 1 ∧ wbits (0x80000000 : Word) 30 30 = 0 ∧
      wbits (0x40000000 : Word) 30 30 = 1 ∧
      (let s := { headNode with host := { headNode.host with rings := [(5, { Ring.off with en := true, holdoff := true, msgDue := true })] } }
       (s.ring 5).holdoff = true ∧ (s.ring 5).msgDue = true) ∧
      wbits (1 : Word) 0 0 = 1 ∧ wbits (0 : Word) 0 0 = 0 ∧
      (let s := { headNode with host := { headNode.host with inval := true } }
       s.pci = true ∧ s.host.inval = true) ∧
      (headNode.raise (Fld.PCI_CH_STAT_STOP (4 : Fin 5).val)).bit (Fld.PCI_CH_STAT_STOP (4 : Fin 5).val) = true := by
  decide +kernel

theorem witness_HostLinkChangesAct :
    headNode.pci = true ∧ headNode.bit Fld.PCI_LINK_STAT_UP = true ∧ tileNode.pci = false := by
  decide

theorem witness_PerformanceMonitorActs :
    (tileNode.powered = true ∧ tileNode.role ≠ .recovery ∧ wbits (0x80000000 : Word) 30 30 = 0 ∧ wbits (0x80000000 : Word) 31 31 = 1) ∧
    (let s := tileNode.setWord Reg.PMU_TIMED_AT 1
     later ((s.put Fld.PMU_TIMED_CTL_ACTION (wbits (0x80000000 : Word) 1 0)).word Reg.PMU_TIMED_AT) s.clk.dtime = true) ∧
    (tileNode.raise Fld.PMU_TIMED_CTL_ARM).bit Fld.PMU_TIMED_CTL_ARM = true ∧
    (let x := rxOf 8 5 [0x00010000, 0, 9]
     tileNode.taken x = some (x.body, arrived tileNode x) ∧ (arrived tileNode x).knowsHead x.src = true ∧ x.type.toNat = tySNAP) ∧
    (tileNode.passed 9 = false ∧ { tileNode with pmu := { tileNode.pmu with queue := [(1, 0, 0, 0), (2, 0, 0, 0), (3, 0, 0, 0)] } }.pmu.queue.length < 4) ∧
    (let s := { tileNode with pmu := { tileNode.pmu with queue := [(1, 0, 5, 0x11)] } }
     s.running = true ∧ s.pmu.queue = (1, 0, 5, 0x11) :: [] ∧ (s.advanceTo 5).bit Fld.SEC_GATE_PMU_CG = false) := by
  decide +kernel

/-- A head whose journal runs. -/
def jrnHead : State := headNode.raise Fld.JRN_STAT_RUN

/-- The head with one NVMe write of device 0 under way, sent again or not. -/
def nvmeHead (retried : Bool) : State :=
  { ringHead.showMem pageMem with jrn := { ringHead.jrn with
    devs := [[0, 0, 0, 0, 0, 0, 0, 0, 0x00100010, 0, 12, 0, 0, 0, 0, 0]]
    fly  := [⟨0, 5, 63, retried⟩] } }

theorem witness_JournalEventsAct :
    (headNode.role = .head ∧ headNode.powered = true) ∧
    (let s := { jrnHead with jrn := { jrnHead.jrn with lost := [1, 2] } }
     s.jrn.lost = 1 :: [2] ∧ s.jrnRuns = true ∧ s.stageFits jtGAP 1 = true) ∧
    headNode.jrn.lost = [] ∧
    [false, true].all (fun r =>
      let s := nvmeHead r
      s.headRegs && s.jrn.fly.any (fun (w : NvmeWrite) => decide (w.dev = (0 : Fin 4).val)) &&
        !(s.jrn.fly.any (fun (w : NvmeWrite) => decide (w.dev = (3 : Fin 4).val))) &&
        decide ((s.busRead 3 (dev64 (s.jrn.devs.getD 0 []) 2 + 16 * s.jrn.cqHeads.getD 0 0) 16).1 = none) &&
        decide (s.jrn.fly.find? (fun (w : NvmeWrite) => decide (w.dev = 0)) = some ⟨0, 5, 63, r⟩)) = true ∧ 15 < 16 := by
  decide +kernel

theorem witness_RegisterWritesFollowAccessCodes :
    (State.reset.powered = false ∧ (0x10021 : BitVec 22).toNat % 4 ≠ 0 ∧ roleUses .tile (0x140000 : BitVec 22).toNat = false) ∧
    (tileNode.powered = true ∧ (0x40000 : BitVec 22).toNat % 4 = 0 ∧ roleUses tileNode.role (0x40000 : BitVec 22).toNat = true) ∧
    (∃ f ∈ regFields 0x20000, f.lo ≤ f.hi ∧ f.hi < 32) ∧
    (tileNode.powered = true ∧ (0x20430 : BitVec 22).toNat % 4 = 0 ∧ roleUses tileNode.role (0x20430 : BitVec 22).toNat = true ∧
      ownWrite (0x20430 : BitVec 22).toNat = false ∧ pathSecure .host = false ∧ pathSecure (.quill true) = true ∧
      tileNode.srwDiffers 0x20430 0 (regFields 0x20430) = false ∧ tileNode.srwDiffers 0x20430 0x80000000 (regFields 0x20430) = true) := by
  decide +kernel

/-! ### Packets and frames -/

/-- A MIRROR of kind `k` with EPOCH `e`, MSEQ 1 and content `w` from the partner. -/
def mirrorRx (k e : Nat) (w : List Word) : Rx := sealedRx 11 5 (wd (k * 2 ^ 24 + e) :: 1 :: w)

/-- The node after it has taken that MIRROR. -/
def reflected (s : State) (k e : Nat) (w : List Word) : State := ((unsealed s 11 5 (wd (k * 2 ^ 24 + e) :: 1 :: w)).mirrorIn 1).2

/-- What that MIRROR must meet at `s` for it to be taken. -/
def mirrorOk (s : State) (k e : Nat) (w : List Word) : Bool :=
  let b := wd (k * 2 ^ 24 + e) :: 1 :: w
  let r := entered s (sealedRx 11 5 b)
  let u := unsealed s 11 5 b
  (r.1 && !(r.2.1)) && decide (r.2.2.keys.domain = some 1) && r.2.2.knowsHead 0x11 &&
    decide (lookup (0, []) r.2.2.net.origins (0x11 : NodeId) = (0, [])) && u.consumes (sealedRx 11 5 b) &&
    (u.paired && decide (u.partner = 0x11) && decide (wbits (wd (k * 2 ^ 24 + e)) 31 24 = k)) && (u.mirrorIn 1).1

theorem mirrored_ok (s : State) (k e : Nat) (w : List Word) (h : mirrorOk s k e w = true) :
    s.mirrored (mirrorRx k e w) k = some (w, reflected s k e w) := by
  unfold mirrorOk at h
  have h := (Bool.and_eq_true _ _).mp h
  have h6 := (Bool.and_eq_true _ _).mp h.1
  have h5 := (Bool.and_eq_true _ _).mp h6.1
  have h4 := (Bool.and_eq_true _ _).mp h5.1
  have h3 := (Bool.and_eq_true _ _).mp h4.1
  have h2 := (Bool.and_eq_true _ _).mp h3.1
  have ht : s.taken (mirrorRx k e w) = _ :=
    taken_sealed _ _ _ _ h2.1 rfl (of_decide_eq_true h2.2) h3.2 (of_decide_eq_true h4.2) h5.2
  have hp := h6.2
  have hm := h.2
  simp only [Bool.and_eq_true, decide_eq_true_eq] at hp
  unfold State.mirrored reflected
  rw [ht]
  generalize unsealed s 11 5 (wd (k * 2 ^ 24 + e) :: 1 :: w) = u at hp hm
  have h0 : nth (sealedBody 11 5 (wd (k * 2 ^ 24 + e) :: 1 :: w)) 0 = wd (k * 2 ^ 24 + e) := rfl
  have h1 : (nth (sealedBody 11 5 (wd (k * 2 ^ 24 + e) :: 1 :: w)) 1).toNat = 1 := rfl
  have hb : ((sealedBody 11 5 (wd (k * 2 ^ 24 + e) :: 1 :: w)).take ((sealedBody 11 5 (wd (k * 2 ^ 24 + e) :: 1 :: w)).length - 6)).drop 2 = w := by
    simp [sealedBody]
  have hc : u.paired ∧ (mirrorRx k e w).src = u.partner ∧ wbits (nth (sealedBody 11 5 (wd (k * 2 ^ 24 + e) :: 1 :: w)) 0) 31 24 = k ∧
      (mirrorRx k e w).type.toNat = tyMIRROR := ⟨hp.1.1, hp.1.2.symm, by rw [h0]; exact hp.2, rfl⟩
  have hs : (11 : BitVec 4).toNat = 11 := rfl
  simp only [hs, if_pos hc, h1, hb]
  rcases hr : u.mirrorIn 1 with ⟨a, t⟩
  rw [hr] at hm
  simp only at hm
  subst hm
  rfl

/-- A standby head paired with the head 0x11. -/
def standbyHead : State := pairHead.put Fld.RED_STAT_ROLE 2

/-- A standby head out of step. -/
def oosHead : State := standbyHead.raise Fld.RED_STAT_OOS

/-- A standby head that has taken a SNAPEND, a MIRROR of MSEQ 2 and a beat of the active head. -/
def snapHead : State := { standbyHead with red := { standbyHead.red with snapEnd := some (0, 1, 0, 0, 0), beat := some 1, recv := 2 } }

theorem witness_PairEventsAct :
    (pairHead.mirrored (mirrorRx mkCMD 0 nopWords) mkCMD = some (nopWords, reflected pairHead mkCMD 0 nopWords) ∧
      (reflected pairHead mkCMD 0 nopWords).standby = false) ∧
    ((standbyHead.mirrored (mirrorRx mkCMD 7 nopWords) mkCMD = some (nopWords, reflected standbyHead mkCMD 7 nopWords) ∧
      (oosHead.mirrored (mirrorRx mkCMD 7 nopWords) mkCMD = some (nopWords, reflected oosHead mkCMD 7 nopWords))) ∧
      [(standbyHead, false), (oosHead, true)].all (fun (e : State × Bool) =>
        let t := reflected e.1 mkCMD 7 nopWords
        t.standby && (parseCmd .ring (nopWords.drop 1)).2.trailer.isNone && (t.put Fld.RED_EPOCH_EPOCH 7).resyncing == e.2) = true) ∧
    [(2, false), (3, true)].all (fun (e : Nat × Bool) => later (wd e.1) (wd snapHead.red.recv) == e.2) = true ∧
    ((pairHead.mirrored (mirrorRx mkTABLE 0 [0x03000000]) mkTABLE = some ([0x03000000], reflected pairHead mkTABLE 0 [0x03000000]) ∧
        (reflected pairHead mkTABLE 0 [0x03000000]).standby = false) ∧
      (standbyHead.mirrored (mirrorRx mkTABLE 0 [0x03000000]) mkTABLE = some ([0x03000000], reflected standbyHead mkTABLE 0 [0x03000000]) ∧
        (reflected standbyHead mkTABLE 0 [0x03000000]).standby = true ∧
        (if (reflected standbyHead mkTABLE 0 [0x03000000]).bit Fld.RED_STAT_OOS then reflected standbyHead mkTABLE 0 [0x03000000]
          else (reflected standbyHead mkTABLE 0 [0x03000000]).setOos.sendResyncReq).red.snapEnd = none)) ∧
    (let s := { standbyHead with red := { standbyHead.red with snapEnd := some (0, 1, 0, 0, 0) } }
     let t := reflected s mkTABLE 0 [0x03000000]
     s.mirrored (mirrorRx mkTABLE 0 [0x03000000]) mkTABLE = some ([0x03000000], t) ∧ t.standby = true ∧
      (if t.bit Fld.RED_STAT_OOS then t else t.setOos.sendResyncReq).red.snapEnd.isSome = true) ∧
    (standbyHead.mirrored (mirrorRx mkSNAPEND 0 [5, 0, 0, 0, 0]) mkSNAPEND = some ([5, 0, 0, 0, 0], reflected standbyHead mkSNAPEND 0 [5, 0, 0, 0, 0]) ∧
      standbyHead.mirrored (mirrorRx mkSNAPEND 0 [5, 0, 0, 0, 1]) mkSNAPEND = some ([5, 0, 0, 0, 1], reflected standbyHead mkSNAPEND 0 [5, 0, 0, 0, 1]) ∧
      [(0, true), (1, false)].all (fun (e : Nat × Bool) =>
        let t := reflected standbyHead mkSNAPEND 0 [5, 0, 0, 0, wd e.1]
        t.standby && (decide (e.1 = unitsCrc t.red.tables) && t.keysUnwrap t.red.tables) == e.2) = true) := by
  refine ⟨⟨mirrored_ok _ _ _ _ ?_, ?_⟩, ⟨⟨mirrored_ok _ _ _ _ ?_, mirrored_ok _ _ _ _ ?_⟩, ?_⟩, ?_,
    ⟨⟨mirrored_ok _ _ _ _ ?_, ?_⟩, mirrored_ok _ _ _ _ ?_, ?_, ?_⟩, ⟨mirrored_ok _ _ _ _ ?_, ?_, ?_⟩,
    mirrored_ok _ _ _ _ ?_, mirrored_ok _ _ _ _ ?_, ?_⟩ <;> decide +kernel

theorem witness_PairEventsAct_beats :
    [(pairHead, 0, false), (pairHead, 1, false), (standbyHead, 1, true), (snapHead, 0, true)].all (fun (e : State × Nat × Bool) =>
      let t := reflected e.1 mkHEARTBEAT 1 [0, wd e.2.1]
      mirrorOk e.1 mkHEARTBEAT 1 [0, wd e.2.1] && t.standby == e.2.2 && decide (t.get Fld.RED_EPOCH_EPOCH < 1)) = true ∧
    pairHead.mirrored (mirrorRx mkHEARTBEAT 1 [0, 0]) mkHEARTBEAT = some ([0, 0], reflected pairHead mkHEARTBEAT 1 [0, 0]) ∧
    (reflected snapHead mkHEARTBEAT 1 [0, 0]).red.beat = some 1 ∧
    (pairHead.mirrored (mirrorRx mkACK 0 [1]) mkACK = some ([1], reflected pairHead mkACK 0 [1]) ∧ (reflected pairHead mkACK 0 [1]).standby = false) ∧
    (pairHead.mirrored (mirrorRx mkRELINQUISH 0 [9]) mkRELINQUISH = some ([9], reflected pairHead mkRELINQUISH 0 [9]) ∧
      (reflected pairHead mkRELINQUISH 0 [9]).standby = false) ∧
    (standbyHead.mirrored (mirrorRx mkRELINQUISH 0 [9]) mkRELINQUISH = some ([9], reflected standbyHead mkRELINQUISH 0 [9]) ∧
      (reflected standbyHead mkRELINQUISH 0 [9]).standby = true) ∧
    (pairHead.mirrored (mirrorRx mkRESYNC_REQ 0 []) mkRESYNC_REQ = some ([], reflected pairHead mkRESYNC_REQ 0 [])) ∧
    (pairHead.running = true ∧ pairHead.paired = true ∧ pairHead.red.reqDue = false ∧ pairHead.red.lastBeat = none ∧
      (pairHead.sendMirror mkHEARTBEAT [pairHead.clk.fn, pairHead.beatFlags]).standby = false) ∧
    [(0, false), (9, true)].all (fun (e : Nat × Bool) =>
      let s := { standbyHead with red := { standbyHead.red with takeover := some (wd e.1), lastBeat := some 0 } }
      s.running && s.paired && earlier s.clk.fn (wd e.1) == e.2) = true ∧
    (snapHead.red.snapEnd = some (0, 1, 0, 0, 0) ∧ snapHead.standby = true ∧ later 0 snapHead.nextCompose = false ∧ snapHead.afterSnap 0 1 = [] ∧
      snapHead.red.tables.filter (fun e => decide (e.1 / 2 ^ 24 = 3)) = []) ∧ pairHead.red.snapEnd = none := by
  refine ⟨?_, mirrored_ok _ _ _ _ ?_, ?_, ⟨mirrored_ok _ _ _ _ ?_, ?_⟩, ⟨mirrored_ok _ _ _ _ ?_, ?_⟩, ⟨mirrored_ok _ _ _ _ ?_, ?_⟩,
    mirrored_ok _ _ _ _ ?_, ?_, ?_, ?_, rfl⟩ <;> decide +kernel

theorem witness_TimeEventsAct :
    (let x := rxOf 1 0 [0x00110001, 0, 0, 0, 0]
     tileNode.taken x = some (x.body, arrived tileNode x) ∧ wbits (nth x.body 0) 15 12 = 0 ∧ wbits (nth x.body 0) 11 0 = 1) ∧
    2048 ≤ wbits (0x00110800 : Word) 11 0 ∧
    (let s := { headNode with clk := { headNode.clk with isMaster := true, hasMaster := true } }
     s.running = true ∧ s.clk.isMaster = true ∧ s.role = .head) ∧
    (headNode.running = true ∧ headNode.clk.isMaster = false) ∧ (headNode.raise Fld.TIME_MASTER_CFG_ELIG).candidate = true ∧
    (headNode.raise Fld.TIME_REF_STAT_VALID).bit Fld.TIME_REF_STAT_VALID = true := by
  decide +kernel

theorem witness_TickStartsTheNextFrame : tileNode.powered = true ∧ State.reset.powered = false := by decide

/-- A frame past C with nothing to send. -/
def quietFrame (n : Word) : HeadFrame :=
  ⟨n, true, ⟨[], 0, [0, 0, 0], [], [], [], [], [], [], false, [], []⟩, [], [], ⟨[], [], false⟩, [], [], [], [], false⟩

/-- A head with one frame past C. -/
def frameHead : State := { headNode with heads := { headNode.heads with frames := [quietFrame 1] } }

theorem witness_HeadFrameEventsAct :
    (headNode.role = .head ∧ headNode.running = true ∧ headNode.composes = true ∧ headNode.replaying = false) ∧
    headNode.frameWith (8191 : Fin 8192).val (59 : Fin 60).val = none ∧
    (frameHead.composes = true ∧ frameHead.heads.frames.find? (fun h => !((3 : Port).val ∈ h.dead)) = some (quietFrame 1) ∧
      (let a := frameHead.advanceTo (frameHead.pushBy (3 : Port).val 1)
       let r := a.settleChase (quietFrame 1)
       (r.2.setFrame r.1).heads.frames.find? (fun g => decide (g.fn = r.1.fn)) = some (quietFrame 1))) ∧
    tileNode.composes = false := by
  decide +kernel

/-- A SEAL and a PATCH of fields 0. -/
def sealRx : Rx := rxOf 5 5 [0, 0, 0, 0]
def patchRx : Rx := rxOf 4 5 (List.replicate 230 0)

theorem witness_TileFrameEventsAct :
    (tileNode.taken sealRx = some (sealRx.body, arrived tileNode sealRx) ∧ (arrived tileNode sealRx).tileRuns = true) ∧
    (tileNode.taken patchRx = some (patchRx.body, arrived tileNode patchRx) ∧ (arrived tileNode patchRx).tileRuns = true ∧
      patchRx.type.toNat = tyPATCH) ∧
    (branchNode.taken sealRx = some (sealRx.body, arrived branchNode sealRx) ∧ (arrived branchNode sealRx).tileRuns = false) ∧
    (tileNode.tileRuns = true ∧ tileNode.tile.waiting = none ∧
      tileNode.cmds.accepted.any (fun (c : Accepted) => !(later c.tick tileNode.nextDecision)) = false) ∧
    (let s := { tileNode with tile := { tileNode.tile with waiting := some ⟨3, 1, 0, none, ⟨0, 0⟩⟩ } }
     s.tileRuns = true ∧ s.tile.waiting = some ⟨3, 1, 0, none, ⟨0, 0⟩⟩) ∧
    (let s := { tileNode with tile := { tileNode.tile with waiting := some ⟨3, 0, 0, some ([], 0), ⟨0, 0⟩⟩ } }
     s.tileRuns = true ∧ s.tile.waiting = some ⟨3, 0, 0, some ([], 0), ⟨0, 0⟩⟩) ∧ branchNode.tileRuns = false := by
  refine ⟨⟨rfl, ?_⟩, ⟨rfl, ?_, rfl⟩, ⟨rfl, ?_⟩, ?_, ?_, ?_, rfl⟩ <;> decide +kernel

theorem witness_LampPipelineActs :
    (let s := { tileNode with tile := { tileNode.tile with decided := some 3 } }
     s.scans = true ∧ s.tile.decided = some 3) ∧ (tileNode.scans = true ∧ tileNode.tile.decided = none) ∧
    (let s := { tileNode with lamp := { tileNode.lamp with running := some 3 } }
     s.role = .tile ∧ s.running = true ∧ s.lamp.running = some 3) ∧
    (let s := { tileNode with lamp := { tileNode.lamp with ageSnap := some [(0, 1)] } }
     s.role = .tile ∧ s.powered = true ∧ s.lamp.ageSnap = some [(0, 1)]) ∧ branchNode.role ≠ .tile := by
  decide

/-- A tile whose lamps are lit. -/
def litTile : State := { tileNode with drive := { tileNode.drive with railUp := true, dark := false } }

theorem witness_DriveEventsAct :
    (litTile.lit = true ∧ litTile.scans = true ∧ litTile.drive.railUp = true) ∧
    ((litTile.rowOf (89 : Fin 90).val).isSome = true ∧ litTile.latchedRow (89 : Fin 90).val = false ∧ (89 : Fin 90).val ∉ litTile.drive.tripped) ∧
    (let t : Trim := ⟨960, 0, 0, [], none, []⟩
     let s := { litTile with drive := { litTile.drive with trim := some t } }
     s.drive.trim = some t ∧ 960 ≤ t.sink) ∧
    (litTile.role = .tile ∧ litTile.powered = true ∧ litTile.drive.adcSettle = false) := by
  decide +kernel

theorem witness_ThermalEventsAct :
    tileNode.powered = true ∧
    (let s := { tileNode.put Fld.THM_STAT_LEVEL 2 with thm := { tileNode.thm with hotMs := 1000 * 255 } }
     s.powered = true ∧ s.get Fld.THM_STAT_LEVEL = 2 ∧ 1000 * max 1 (s.get Fld.THM_THROT_CFG_STEP_S) ≤ s.thm.hotMs) ∧
    tileNode.get Fld.THM_STAT_LEVEL ≠ 2 := by
  decide +kernel

theorem witness_SourceEventsAct :
    readyHead.ingestRuns = true ∧ tileNode.ingestRuns = false ∧ (hostSrc.ingestRuns = true ∧ hostSrc.bit (Fld.SRC_CFG_ENABLED (3 : SrcId).val) = true) ∧
    (let s := { readyHead with ingest := { readyHead.ingest with gmode := [3, 2] } }
     s.ingestRuns = true ∧ s.ingest.gmode.getD (1 : Fin 2).val 3 = 2) ∧
    (let s := { hostSrc with ingest := { hostSrc.ingest with srcs := [(3, { hostSrc.src 3 with fetching := some 1 })] } }
     s.pci = true ∧ ((s.showMem pageMem).ingestRuns && (s.showMem pageMem).channelOn 1) = true ∧
      ((s.showMem pageMem).src (3 : SrcId).val).fetching = some 1) := by
  decide +kernel

/-- A node whose port 1 is in state `v`. -/
def portAt (v : Nat) : State := tileNode.put (Fld.LNK_PORT_STAT_STATE 1) v

/-- A node with `f` applied to port 0. -/
def withPort (f : PortSt → PortSt) : State := tileNode.setPort 0 (f (tileNode.port 0))

theorem witness_LaneEventsAct :
    (tileNode.portsOn = true ∧ tileNode.get (Fld.LNK_PORT_STAT_STATE (1 : Port).val) = 0) ∧
    ((portAt 2).portsOn = true ∧ (portAt 2).get (Fld.LNK_PORT_STAT_STATE (1 : Port).val) = 2) ∧
    ((portAt 1).portsOn = true ∧ (portAt 1).get (Fld.LNK_PORT_STAT_STATE (1 : Port).val) = 1 ∧
      (((portAt 1).port (1 : Port).val).phy (2 : PhyLane).val).retired = false) ∧
    (tileNode.running = true ∧ tileNode.linkUp (0 : Port).val = true) := by
  decide +kernel

theorem witness_LaneRepairActs :
    (tileNode.running = true ∧ tileNode.linkUp (0 : Port).val = true ∧ tileNode.rxLogical (0 : Port).val (1 : PhyLane).val = some 1 ∧
      (tileNode.port (0 : Port).val).calib = none) ∧
    tileNode.rxLogical (0 : Port).val (2 : PhyLane).val = none ∧
    (let s := withPort (fun q => { q with standIn := some 1 })
     s.running = true ∧ s.linkUp (0 : Port).val = true ∧ (s.port (0 : Port).val).standIn = some 1 ∧ s.rxMap (0 : Port).val 2 ≠ 3 ∧
      s.rxMap (0 : Port).val 0 ≠ 3) ∧
    (let s := withPort (fun q => { q with remoteReady := true, remoteCal := some 1 })
     s.running = true ∧ (s.port (0 : Port).val).remoteReady = true ∧ (s.port (0 : Port).val).remoteCal = some 1 ∧
      s.txLogical (0 : Port).val 1 = some 1) ∧
    (let c : Calib := ⟨1, true, 2, false⟩
     let s := (withPort (fun q => { q with calib := some c })).put (Fld.LNK_CAL_STAT_STEP (0 : Port).val) 2
     s.running = true ∧ (s.port (0 : Port).val).calib = some c ∧ 2 ≤ s.get (Fld.LNK_CAL_STAT_STEP (0 : Port).val) ∧
      0 ≤ s.get (Fld.LNK_CAL_CFG_RETIRE_THR (0 : Port).val) ∧ (s.port (0 : Port).val).selftest = []) := by
  decide +kernel

theorem witness_NetworkPacketsAct :
    (let x := rxOf 14 9 [0, 0]
     let s := (tileNode.put Fld.LNK_NODE_ID_UPPORT 1).put (Fld.LNK_PORT_STAT_STATE 1) 2
     ((s.letIn x).1 = true ∧ (s.letIn x).2.1 = false ∧ tagged x.type.toNat = false ∧ x.type.toNat ≠ tyPATCH ∧
       (s.letIn x).2.2.bit Fld.LNK_NODE_ID_VALID = true ∧ x.dest ≠ 0 ∧ x.dest ≠ 0xFFFF ∧ x.dest ≠ (s.letIn x).2.2.nodeId ∧
       (s.letIn x).2.2.outPort x.dest (some x.port.val) = some 1) ∧
     ((tileNode.letIn x).1 = true ∧ (tileNode.letIn x).2.1 = false ∧
       (tileNode.letIn x).2.2.bit Fld.LNK_NODE_ID_VALID = true ∧ x.dest ≠ (tileNode.letIn x).2.2.nodeId ∧
       (tileNode.letIn x).2.2.outPort x.dest (some x.port.val) = none)) ∧
    (let x := rxOf 14 5 [0, 0]
     tileNode.taken x = some (x.body, arrived tileNode x)) ∧
    (let c := ringCmd opDOM_BARRIER []
     let s := { headNode with net := { headNode.net with barMine := some (3, 0, c) } }
     let x := rxOf 7 5 [0x00030100, 1, 0]
     (s.letIn x).1 = true ∧ (s.letIn x).2.1 = false ∧ (s.letIn x).2.2.bit Fld.LNK_NODE_ID_VALID = true ∧ x.dest = (s.letIn x).2.2.nodeId ∧
      (s.letIn x).2.2.net.barMine = some (3, 0, c) ∧ 3 = wbits (nth x.body 0) 31 16 ∧ s.net.barriers = []) ∧
    (headNode.net.barMine = none ∧ headNode.net.barriers = [] ∧ headNode.running = true ∧ headNode.role = .head) := by
  refine ⟨by decide +kernel, rfl, ⟨?_, ?_, ?_, ?_, rfl, ?_, rfl⟩, ?_⟩ <;> decide +kernel

theorem witness_LinkKeysAct :
    (let x := rxOf 12 0 (0x04000000 :: List.replicate 29 0)
     tileNode.taken x = some (x.body, arrived tileNode x) ∧ (arrived tileNode x).keys.domain = some 1) ∧
    (let s := { tileNode with keys := { tileNode.keys with domain := none } }
     let x := rxOf 12 0 (0x04000000 :: List.replicate 29 0)
     s.taken x = some (x.body, arrived s x) ∧ (arrived s x).keys.domain = none) ∧
    (tileNode.running = true ∧ tileNode.linkUp (0 : Port).val = true) := by
  refine ⟨⟨rfl, rfl⟩, ⟨rfl, rfl⟩, ?_⟩; decide +kernel

/-- The recovery loader with what it needs for one mailbox block. -/
def mailNode : State := { recNode with host := { recNode.host with toHead := [(6, 2566472073)] } }

theorem witness_PrivetAndUpdateEventsAct :
    (tileNode.taken (sealedRx 13 5 [0x01000000, 0]) = some (sealedBody 13 5 [0x01000000, 0], unsealed tileNode 13 5 [0x01000000, 0]) ∧
      (unsealed tileNode 13 5 [0x01000000, 0]).role = .tile) ∧
    (let w : List Word := List.replicate 1026 0
     tileNode.taken (sealedRx 10 0 w) = some (sealedBody 10 0 w, unsealed tileNode 10 0 w)) ∧
    (let s := { tileNode with upd := { tileNode.upd with staging := [(4095, [1])] } }
     s.upd.staging = (4095, [1]) :: []) ∧ tileNode.upd.staging = [] ∧
    (let c := fwd [3, 16777216]
     let s := { tileNode with upd := { tileNode.upd with erasing := some c, verifying := some c } }
     s.upd.erasing = some c ∧ s.upd.verifying = some c) ∧
    (let g : Gather := ⟨5, 7, false, 0, false, [9], [], opUPD_VERIFY⟩
     let f : Forwarded := ⟨5, 7, 0x11, false, opUPD_BEGIN⟩
     let s := { headNode with cmds := { headNode.cmds with gathers := [g] } }
     let t := { headNode with cmds := { headNode.cmds with forwarded := [f] } }
     s.cmds.gathers.find? (fun g => updLong g.opcode) = some g ∧ t.cmds.gathers.find? (fun g => updLong g.opcode) = none ∧
      t.cmds.forwarded.find? (fun f => updLong f.opcode) = some f) ∧
    (mailNode.powered = true ∧ mailNode.quill.recovery = true ∧ mailNode.running = true ∧ mailNode.upd.staging = [] ∧
      mailNode.blockOk (wbits (0 : Word) 11 0) ((List.range 1024).map (fun i => SMap.get (fun _ => 0) mailNode.host.toHead i)) = true ∧
      recNode.blockOk (wbits (0 : Word) 11 0) ((List.range 1024).map (fun i => SMap.get (fun _ => 0) recNode.host.toHead i)) = false) ∧
    tileNode.quill.recovery = false := by
  refine ⟨⟨taken_sealed _ _ _ _ (by decide +kernel) rfl (by decide +kernel) (by decide +kernel) (by decide +kernel) (by decide +kernel), rfl⟩,
    taken_sealed _ _ _ _ (by decide +kernel) rfl (by decide +kernel) (by decide +kernel) (by decide +kernel) (by decide +kernel), rfl, rfl, ⟨rfl, rfl⟩, ?_, ?_, rfl⟩ <;>
    decide +kernel

/-- A head whose DRAM is trained, with the scrub and the row repair configured. -/
def dramHead : State := (((headNode.put Fld.DMC_STAT_TRAINED 3).put Fld.DMC_SR_IDLE_CLOCKS 1).put Fld.DMC_SCRUB_HOURS 1).put Fld.DMC_PPR_THR 1

/-- A tile with a test under way whose bank 4 gained a corrected word over its threshold. -/
def wornTile : State :=
  let s := tileNode.put Fld.CPC_CFG_BANK_CORR 1
  { s with mem := { s.mem with
    test := some 4
    corrected := [(4, [0, 0])] } }

theorem witness_bankWear :
    (tileNode.put Fld.CPC_CFG_BANK_CORR 0).get Fld.CPC_CFG_BANK_CORR = 0 ∧
    wornTile.get Fld.CPC_CFG_BANK_CORR ≠ 0 ∧ wornTile.get Fld.CPC_CFG_BANK_CORR < (wornTile.bankGain 4).length ∧
    wornTile.cpcWait = [] ∧ wornTile.bit Fld.MEM_STAT_NOSPARE = false ∧ wornTile.mem.test.isSome = true := by
  decide +kernel

/-- R335: a corrected word counts for its bank, one that cannot be corrected counts beside it and is logged. -/
theorem test_sram_errors :
    ((wornTile.sramError 4 ⟨7, 9, false, some 5⟩).word (Reg.MEM_ECC 4) = 0x00000001) ∧
    ((wornTile.sramError 4 ⟨7, 9, true, none⟩).word (Reg.MEM_ECC 4) = 0x00010000) ∧
    ((wornTile.sramError 4 ⟨7, 9, false, some 5⟩).word Reg.MEM_COLL_ADDR = 0x00080007) := by decide +kernel

theorem witness_MemoryEventsAct :
    (let s := { tileNode with mem := { tileNode.mem with test := some 4 } }
     s.mem.test = some 4 ∧ (s.put Fld.MEM_BIST_STAT_STEP 1).get Fld.MEM_BIST_STAT_STEP = 1) ∧ tileNode.mem.test = none ∧
    (let s := { tileNode with cpcWait := [(2, 4)] }
     s.cpcWait = [(2, 4)] ∧ s.mem.test = none) ∧ tileNode.cpcWait = [] ∧
    (headNode.dmcOn = true ∧ headNode.get Fld.DMC_STAT_TRAINED = 0 ∧ headNode.get Fld.DMC_STAT_TRAINFAIL = 0 ∧ headNode.pwr.state ≠ .off) ∧
    (dramHead.dmcOn = true ∧ bitsOf (dramHead.get Fld.DMC_STAT_TRAINED) ((3 : Fin 4).val / 2) 1 = 1 ∧
      SMap.get (fun _ => (0 : Int)) dramHead.mem.delays (3 : Fin 4).val = 0) ∧
    (dramHead.get Fld.DMC_SR_IDLE_CLOCKS ≠ 0 ∧ bitsOf (dramHead.get Fld.DMC_STAT_TRAINED) (1 : Fin 2).val 1 = 1) ∧
    (dramHead.get Fld.DMC_SCRUB_HOURS ≠ 0 ∧ dramHead.get Fld.DMC_STAT_TRAINED = 3 ∧ dramHead.pwr.state ≠ .park ∧
      (0 : BitVec 36).toNat < dramHead.dramBytes) ∧ dramHead.get Fld.DMC_PPR_THR ≠ 0 := by
  decide +kernel

theorem witness_QuillAndFaultEventsAct :
    tileNode.quill.up = true ∧
    (let s := { tileNode with quill := { tileNode.quill with up := false } }
     s.quill.up = false ∧ s.quill.restart = none) ∧
    (let s := { tileNode with quill := { tileNode.quill with restart := some 2 } }
     s.quill.restart = some 2) ∧
    (let c := fwd [1]
     let s := { userNode with cmds := { userNode.cmds with userBusy := some (c, 0x7FFF) } }
     s.cmds.userBusy = some (c, 0x7FFF)) ∧ tileNode.cmds.userBusy = none ∧
    (let s := { tileNode.raise Fld.SYS_FAULT_STAT_HANDLING with blots := { tileNode.blots with fatal := true } }
     s.bit Fld.SYS_FAULT_STAT_HANDLING = true ∧ (s.blots.fatal = true ∨ s.blots.nestedHit = true)) ∧
    tileNode.bit Fld.SYS_FAULT_STAT_HANDLING = false := by
  refine ⟨rfl, ⟨rfl, rfl⟩, rfl, rfl, rfl, ?_, ?_⟩ <;> decide

/-! ### Witnesses of single clauses -/

/-- A head whose DRAM training failed. -/
def untrained : State := headNode.put Fld.DMC_STAT_TRAINFAIL 1

/-- A tile whose SAFE_N is low. -/
def safeTile : State := { tileNode with pwr := { tileNode.pwr with safeN := false } }

theorem witness_CalmNodeSettlesAlone_lanes :
    tileNode.lanesSettle.pci = false ∧ headNode.lanesSettle.pci = true ∧
    headNode.lanesSettle.icuPresented 1 = headNode.lanesSettle.icu.presented1 ∧
    (let u := tileNode.put (Fld.LNK_PORT_STAT_STATE 0) 0
     ∀ p, p < 4 → u.laneSends p 0 = false ∧ u.laneSends p 1 = false ∧ u.get (Fld.LNK_CAL_STAT_STEP p) ≠ 2) := by
  decide +kernel

theorem witness_PowerRequests_refused :
    tileNode.pathOpen .host = false ∧ tileNode.pathOpen (.quill true) = true ∧ headNode.pathOpen .host = true ∧
    (tileNode.role ≠ .head ∧ headNode.role = .head ∧ headNode.get Fld.DMC_STAT_TRAINFAIL = 0) ∧
    (safeTile.safeHold = true ∧ safeTile.pathOpen (.quill true) = true ∧ safeTile.pwrOpen = true) ∧
    (branchNode.role ≠ .tile ∧ branchNode.pathOpen (.quill true) = true ∧ branchNode.pwrOpen = true) ∧
    (untrained.role = .head ∧ untrained.get Fld.DMC_STAT_TRAINFAIL ≠ 0 ∧ untrained.pathOpen .host = true ∧ untrained.pwrOpen = true) ∧
    (tileNode.pwr.trans = none ∧ tileNode.pwr.state = .active) := by
  decide +kernel

theorem witness_ResetsAndRails_boundaries :
    (1000 < 1001 ∧ ({ State.reset with pwr := { State.reset.pwr with held := 1 } } : State).pwr.held = 1) ∧
    State.reset.powered = false ∧
    ((1 : BitVec 8).getLsbD 0 = true ∧ (1 : BitVec 8) &&& (bootNode .tile).railsRequired ≠ (bootNode .tile).railsRequired) ∧
    ((0xBE : BitVec 8).getLsbD 0 = false ∧ ((0 : BitVec 8) ||| 2) &&& 0xFE ≠ 0 ∧ (0 : BitVec 8).getLsbD 0 = false ∧
      tileNode.pwr.bootWait = false) ∧ (bootNode .tile).pwr.bootWait = true := by
  decide +kernel

theorem witness_ResetsKeep_safe :
    (safeTile.nvm.writing = none ∧ safeTile.blots.mramWait = [] ∧ safeTile.role = .tile ∧ safeTile.sampled = true ∧ safeTile.pwr.safeN = false) := by
  decide

theorem witness_SafetyPins :
    (tileNode.roleKnown = true ∧ tileNode.bit Fld.RED_TILE_STAT_SAFE = false ∧ (tileNode.raise Fld.RED_TILE_STAT_SAFE).bit Fld.RED_TILE_STAT_SAFE = true ∧
      (tileNode.raise Fld.RED_TILE_STAT_SAFE).roleKnown = true) ∧
    (safeTile.role = .tile ∧ safeTile.powered = true ∧ safeTile.roleKnown = true ∧ safeTile.pwr.safeN = false ∧ safeTile.pwr.trans = none) ∧
    headNode.roleKnown = true ∧ State.reset.roleKnown = false ∧
    (let s := { headNode with priv := { headNode.priv with safe := true, safeEnd := some 5 } }
     s.priv.safeEnd = some 5 ∧ later 5 4 = true ∧ later 5 5 = false) ∧
    (tileNode.pwr.wakePin = false ∧ tileNode.pwr.wakeSeen = false) := by
  decide +kernel

theorem witness_Registers_other_cases :
    (headNode.ingest.gmode.getD (0 : Fin 2).val 3 = headNode.get (Fld.SRC_GRP_CFG_GMODE 0)) ∧
    (let s := hostSrc.setSrc 3 { hostSrc.src 3 with heldBell := some 0 }
     s.ingestRuns = true ∧ s.get (Fld.SRC_CFG_KIND (3 : SrcId).val) = 4 ∧ s.bit (Fld.SRC_CFG_ENABLED (3 : SrcId).val) = true ∧
      wbits (1 : Word) 1 0 < (s.src (3 : SrcId).val).bufs.length ∧ (s.src (3 : SrcId).val).heldBell = some 0) ∧
    (let s := hostSrc.setSrc 3 { hostSrc.src 3 with fetching := some 0 }
     s.ingestRuns = true ∧ (s.src (3 : SrcId).val).fetching = some 0 ∧ (s.src (3 : SrcId).val).heldBell = none) ∧
    (wbits (0x00018000 : Word) 16 16 = 1 ∧ wbits (0x00018000 : Word) 15 12 ≤ 8 ∧ wbits (0x00018000 : Word) 15 12 ∉ headNode.ingest.swaps ∧
      wbits (0x00008000 : Word) 16 16 = 0) ∧
    (wbits (0x0010047F : Word) 10 0 ≤ 1151 ∧ 1 ≤ wbits (0x0010047F : Word) 10 0 ∧ 1151 < wbits (0x00100480 : Word) 10 0 ∧
      wbits (0x00100480 : Word) 20 20 = 1 ∧ wbits (0x00100480 : Word) 19 16 ∉ headNode.comp.filtSwaps) ∧
    (2 * (headNode.get Fld.TIME_LEAD_NS + wbits (4000 : Word) 15 0 * 1000) ≤ 3 * headNode.tickInt) ∧
    (wbits (0x00010000 : Word) 12 12 ∉ headNode.comp.wlutSwaps ∧ wbits (0x40000000 : Word) 30 30 = 1 ∧ wbits (0 : Word) 30 30 = 0) ∧
    (let u := (tileNode.put (Fld.LNK_PORT_STAT_STATE 1) 2)
     wbits (0x11 : Word) 5 4 ≠ 0 ∧ wbits (0x11 : Word) 0 0 = 1 ∧ u.laneBusy (1 : Port).val (0 : PhyLane).val true = true ∧
      u.laneBusy (1 : Port).val (0 : PhyLane).val false = true) ∧
    (eyeDwell 10 = 10 ∧ eyeDwell 36 = 36 ∧ eyeDwell 37 = 20) := by
  decide +kernel

theorem witness_Registers_paths :
    tileNode.pathOpen .host = false ∧ tileNode.pathOpen (.quill true) = true ∧ tileNode.pathOpen (.quill false) = true ∧
    headNode.pathOpen .host = true ∧ pathSecure (.quill false) = false ∧
    (let t := (tileNode.put Fld.COR_AGE_CTL_PERIOD (wbits (0 : Word) 15 8)).pend Reg.COR_AGE_CTL 3 (0 : Word)
     wbits (0 : Word) 31 31 = 0 ∨ 1 < t.ageMode) ∧
    (let s := { tileNode with mem := { tileNode.mem with test := some 4 } }
     let t := (s.portUsed (.quill true)).put Fld.MEM_BIST_CTL_BANK (wbits (0x80000003 : Word) 3 0)
     t.mem.test.isSome = true ∧ s.running = true ∧ wbits (0x80000003 : Word) 31 31 = 1) ∧
    (tileNode.bit Fld.NVM_STAT_BUSY = false ∧ (tileNode.raise Fld.NVM_STAT_BUSY).bit Fld.NVM_STAT_BUSY = true ∧
      (938 < (939 : BitVec 12).toNat) ∧ 8 ≤ (tileNode.put Fld.NVM_POOL_FREE 8).get Fld.NVM_POOL_FREE) ∧
    ((icuNode .tile 0).powered = true ∧ (icuNode .tile 0).quillTakes = true) ∧
    (tileNode.powered = true ∧ (0x40001 : BitVec 22).toNat % 4 ≠ 0 ∧ tileNode.pathOpen (.quill true) = true) ∧
    ((0x20430 : BitVec 22).toNat % 4 = 0 ∧ (tileNode.portUsed (.quill false)).srwDiffers 0x20430 0x80000000 (regFields 0x20430) = true ∧
      (tileNode.portUsed (.quill false)).srwDiffers 0x20430 0 (regFields 0x20430) = false ∧ ownWrite (0x20430 : BitVec 22).toNat = false) := by
  decide +kernel

theorem witness_HostInterface_other_cases :
    (let r := (ringHead.ring 5).rung (some 0x100000) none
     r.overrun = true ∧ r.stopped = false) ∧ ((ringHead.ring 5).rung none none).overrun = false ∧
    ctxOk (headNode.ringCtx 0) = false ∧
    (let s := headNode.setRing 5 { Ring.off with holdoff := true, msgDue := false }
     (s.ring 5).holdoff = true ∧ (s.ring 5).msgDue = false) ∧
    [(0 : Fin 5), 1, 2, 3].all (fun c => (headNode.raise (Fld.PCI_CH_STAT_STOP c.val)).bit (Fld.PCI_CH_STAT_STOP c.val)) = true ∧
    (0x24FFFC < 0x250000 ∧ 0x250000 ≤ 0x250000 ∧ 0x25FFFC < 0x260000 ∧ 0x260000 ≤ 0x260000) := by
  decide +kernel

theorem witness_PerformanceMonitor_other_cases :
    tileNode.actingRole ≠ .recovery ∧ recNode.actingRole = .recovery ∧
    (let t := tileNode.put Fld.PMU_TIMED_CTL_ACTION (wbits (0x80000003 : Word) 1 0)
     later (t.word Reg.PMU_TIMED_AT) tileNode.clk.dtime = false) ∧
    (tileNode.passed 0 = true ∨ 4 ≤ tileNode.pmu.queue.length) ∧
    (let s := { tileNode.put Fld.SEC_GATE_PMU_CG 1 with pmu := { tileNode.pmu with queue := [(1, 0, 5, 0x11)] } }
     let u := State.put { s.advanceTo 5 with pmu := { (s.advanceTo 5).pmu with queue := [] } } Fld.PMU_SNAP_STAT_PENDING 0
     s.running = true ∧ s.pmu.queue = (1, 0, 5, 0x11) :: [] ∧ u.bit Fld.SEC_GATE_PMU_CG = true) := by
  decide +kernel

theorem witness_RingEnable_good_context :
    (let s := { headNode with host := { headNode.host with ctx := [(1, 0x0A000000), (3, 0x08000000), (5, 0x08000000)] } }
     (s.ring 0).en = false ∧ s.pci = true ∧ s.get Fld.PCI_RING_SEL_CLIENT = 0 ∧ ctxOk (s.ringCtx 0) = true) := by
  decide +kernel

theorem witness_HeadSendsTickCommands_late :
    (let c := ringCmd opTILE_PLACE [8191, 0x00090AC0, 0, 0, 0, 0, 0, 0, 0]
     let s := { sendHead with heads := { sendHead.heads with lastC := some 3 } }
     acceptingTick s (took s) opTILE_PLACE c && !(waits (took s) opTILE_PLACE c) && acceptingTick sendHead (took sendHead) opTILE_PLACE c) = true := by
  decide +kernel
theorem witness_Checks_customer :
    (let c := fwd [1]
     branchNode.takes c = true ∧ branchNode.busyNow 0x7FFF c = false ∧ cmdLength c ≤ 4089 ∧ 0x7FFF / 4096 = 7 ∧ branchNode.toSelf c = true ∧
      branchNode.bit Fld.SYS_QUILL_STAT_USER = false) := by
  decide +kernel

/-- The head at C of its next frame, as COMPOSE_START leaves it before the frame begins. -/
def atC (s : State) : State :=
  let f := s.nextCompose
  let t := forEach (List.range 64) (fun n u => u.stepFallback f n) ((s.advanceTo (s.compose f)).closeTicks)
  let r := ((t.applyHead f t.cmds.accepted.length).applyLuts.takeChanges f).freeNat 64
  { r.2 with comp := { r.2.comp with seed := BitVec.ofNat 64 r.1 } }

def beginsAt (s : State) : Bool :=
  let u := atC s
  u.composes && !u.replaying && !u.jrn.restore && !u.bit Fld.SYS_FAULT_STAT_HANDLING

/-- The head in whose fault handler the tick comes, with an order for its frame. -/
def orderHead : State := { headNode.raise Fld.SYS_FAULT_STAT_HANDLING with comp := { headNode.comp with orderCmd := some 0x1AC688 } }

/-- The head of the wall after C of frame 0: all 60 patches of its tile wait. -/
def begunHead : State := (atC wallHead).beginFrame 0

theorem witness_ComposeStart_cases :
    (headNode.nextCompose = 0 ∧ beginsAt headNode = true ∧ ((atC headNode).beginFrame 0).comp.orderCmd = none) ∧
    (beginsAt orderHead = false ∧ (atC orderHead).comp.orderCmd = some 0x1AC688 ∧ (atC orderHead).clk.fn = orderHead.nextCompose) ∧
    (let s := headNode.raise Fld.SYS_FAULT_STAT_HANDLING
     beginsAt s = false ∧ (atC s).comp.orderCmd = none) := by
  decide +kernel

theorem witness_PatchComposed_cases :
    begunHead.composes = true ∧
    [(0, true), (59, false)].all (fun (e : Nat × Bool) =>
      match begunHead.frameWith 0 e.1 with
      | some h =>
        let r := begunHead.settleChase h
        let u := r.2.setFrame r.1
        match SMap.find r.1.cfg.tiles 0 with
        | some d => u.patchReady r.1.cfg d e.1 && decide (u.readyAhead r.1.fn 0 e.1 < max 1 u.lanes) == e.2
        | none => false
      | none => false) = true := by
  decide +kernel

theorem witness_PushDeadline_cases :
    [frameHead, begunHead].all (fun s =>
      match s.heads.frames.find? (fun h => !((3 : Port).val ∈ h.dead)) with
      | some h =>
        let a := s.advanceTo (s.pushBy (3 : Port).val h.fn)
        let r := a.settleChase h
        let u := forEach (r.1.tiles.map (·.1)) (fun t w => w.deadlineTile r.1.fn (3 : Port).val t []) (r.2.setFrame r.1)
        match u.heads.frames.find? (fun g => decide (g.fn = r.1.fn)) with
        | some g =>
          let v := forEach (r.1.tiles.map (·.1)) (fun t w => w.sealedBy r.1.fn (3 : Port).val t)
            (if g.push then (u.lapseLane g (3 : Port).val 0).lapseLane g (3 : Port).val 1 else u)
          (v.heads.frames.find? (fun g => decide (g.fn = r.1.fn))).isSome
        | none => false
      | none => false) = true ∧
    headNode.heads.frames.find? (fun h => !((3 : Port).val ∈ h.dead)) = none := by
  decide +kernel

/-- Row slot `r` of subframe `k` starts before the period ends; subframe `k` starts before it. -/
def slotPlays (s : State) (k r : Nat) : Bool :=
  let p := s.scanPars
  earlier (s.scanAt p (subOffset p k + r * p.grow + p.gdead)) s.periodCut

def subPlays (s : State) (k : Nat) : Bool := earlier (s.scanAt s.scanPars (subOffset s.scanPars k)) s.periodCut

/-- A lit tile whose row slots are too long for its tick, so that all but the first fall past the end of the period. -/
def slowTile : State := { litTile with lamp := { litTile.lamp with pars := [{ litTile.parsNow with fn := 0, grow := 10000000, texact := 2 ^ 32 * 100000000 }] } }

/-- A lit tile at the dead time after row slot 44, 64 scan periods after the last check of every lamp, with PROBE_EN `e`. -/
def probeTile (e : Nat) : State :=
  { litTile.put Fld.DRV_FAULT_CFG_PROBE_EN e with drive := { litTile.drive with slotNow := some 44, period := 64 } }

theorem witness_Scan_cases :
    litTile.scanPars.slog = 5 ∧ litTile.scanPars.rowPairs = 45 ∧ slotPlays litTile 31 44 = true ∧ slotPlays slowTile 31 44 = false ∧
    slowTile.lit = true ∧ slowTile.scanPars.rowPairs = 45 ∧ subPlays litTile 31 = true ∧ subPlays slowTile 31 = false ∧
    2 ^ litTile.scanPars.slog ≤ (32 : Fin 64).val := by
  decide +kernel

theorem witness_RowTrip_cases :
    (let s := { litTile with drive := { litTile.drive with tripped := [89] } }
     (89 : Fin 90).val ∈ s.drive.tripped ∧ s.lit = true) ∧
    [(2, false), (3, true)].all (fun (e : Nat × Bool) =>
      let s := { litTile with drive := { litTile.drive with tripRun := [(89, e.1)] } }
      s.lit && (s.rowOf 89).isSome && !(s.latchedRow 89) && decide (3 ≤ SMap.get (fun _ => 0) s.drive.tripRun 89) == e.2) = true := by
  decide +kernel

theorem witness_DeadTime_cases :
    litTile.scans = true ∧ litTile.drive.trim = none ∧ litTile.pinDue = false ∧ litTile.probeDue = false ∧
    ((probeTile 1).mayProbe (43199 : Fin 43200).val = true ∧ (probeTile 1).lit = true ∧ (43199 : Fin 43200).val ∈ (probeTile 1).slotLamps ∧
      (probeTile 1).pinDue = false ∧ (probeTile 1).probeDue = true) ∧
    (probeTile 0).mayProbe (43199 : Fin 43200).val = false ∧
    { litTile with drive := { litTile.drive with pinRun := true } }.pinDue = true ∧
    [959, 960].all (fun n =>
      let t : Trim := ⟨n, 0, 0, [true], none, []⟩
      let s := { litTile with drive := { litTile.drive with trim := some t } }
      decide (s.drive.trim = some t) && decide (t.sink < 960) == decide (n = 959)) = true := by
  decide +kernel

theorem witness_AdcConversion_cases :
    (let s := { litTile with drive := { litTile.drive with adcSettle := true } }
     s.role = .tile ∧ s.powered = true ∧ s.drive.adcSettle = true) ∧ (0 ≤ (4095 : Int) ∧ (4095 : Int) < 4096 ∧ 4096 ≤ (4096 : Int) ∧ (-1 : Int) < 0) := by
  decide +kernel

theorem witness_Thermal_cases :
    (let s := { tileNode.put Fld.THM_STAT_LEVEL 2 with thm := { tileNode.thm with hotMs := 0 } }
     s.get Fld.THM_STAT_LEVEL = 2 ∧ s.thm.hotMs < 1000 * max 1 (s.get Fld.THM_THROT_CFG_STEP_S)) := by
  decide +kernel

/-- One part of a line on SDI lane `n`. -/
def sdiPart (n : Fin 8) (rate : BitVec 3) (link : Nat) : SdiPart := ⟨n, rate, false, link, 0, [64, 64], [512], [512], true, 0⟩

/-- A head in READY whose groups 0 and 1 are in modes `a` and `b`. -/
def laneHead (a b : Nat) : State := { readyHead with ingest := { readyHead.ingest with gmode := [a, b] } }

theorem witness_SdiLine_cases :
    [(2, true), (1, false), (0, false), (3, true)].all (fun (e : Nat × Bool) =>
      let s := laneHead 0 e.1
      s.ingestRuns && decide (2 ≤ s.laneMode (7 : Fin 8).val) == e.2 && decide (s.laneMode 7 = e.1)) = true ∧
    ((laneHead 0 1).ingest.gmode.getD (1 : Fin 2).val 3 = 1 ∧
      ∀ p ∈ [sdiPart 4 1 1, sdiPart 5 1 2, sdiPart 6 1 3, sdiPart 7 1 4], p.lane.val / 4 = (1 : Fin 2).val ∧ p.rate ≠ 0) ∧
    quadPart [sdiPart 4 1 1, sdiPart 5 1 2] 3 = none := by
  decide +kernel

/-- A frame of one ST 2110 packet of sequence 5 for flow filter 256 with these sample rows. -/
def flowFrame (full fcs : Bool) : EthFrame :=
  ⟨1, full, fcs, true, true, false, 0, 0, true, 0, true, 0xE0000001, 5004, 2, 96, false, 5, 0, false, [⟨0, 0, [], 0⟩]⟩

/-- A head whose source 3 takes its flow from filter 256, `seqs` being what it has taken. -/
def flowHead (seqs : List (Nat × Nat × Nat)) : State :=
  let s := (((((((laneHead 0 2).raise (Fld.SRC_FLOW_CFG_VALID 256)).put (Fld.SRC_FLOW_CFG_DST_PORT 256) 5004).put (Fld.SRC_FLOW_MAP_SOURCE 256) 3).put
    (Fld.SRC_FLOW_MAP_PT 256) 96).setWord (Reg.SRC_FLOW_ADDR 256) 0xE0000001).raise (Fld.SRC_CFG_ENABLED 3)).put (Fld.SRC_CFG_KIND 3) 3
  let s := (s.put (Fld.SRC_RASTER_WIDTH 3) 1920).put (Fld.SRC_RASTER_HEIGHT 3) 1080
  let s := s.setSrc 3 { s.src 3 with seqs := seqs }
  { s with clk := { s.clk with upNs := 20000000 } }

/-- The flow head after its lanes show LOCK. -/
def locked (seqs : List (Nat × Nat × Nat)) : State := forEach (List.range 4) (fun i u => u.raise (Fld.SRC_LANE_STAT_LOCK (4 + i))) (flowHead seqs)

theorem witness_St2110_cases :
    ((flowHead []).ingestRuns = true ∧ (flowHead []).ingest.gmode.getD (flowFrame false true).eth.val 3 = 2) ∧
    (let f := flowFrame false true
     let t := locked []
     t.matchFlow f = some 256 ∧ f.payloadType.toNat = t.get (Fld.SRC_FLOW_MAP_PT 256) ∧ t.get (Fld.SRC_FLOW_MAP_KIND 256) ≠ 1 ∧
      t.get (Fld.SRC_FLOW_MAP_SOURCE 256) = 3 ∧
      (∀ r ∈ f.srds, r.line < t.fieldH 3 ∧ r.offset < t.rasterW 3 ∧ r.octets % (pgroup (t.get (Fld.SRC_CFG_FORMAT 3))).1 = 0) ∧
      (t.src 3).seqs.find? (fun e => decide (e.1 = f.seq.toNat)) = none ∧ olderThanBuffer 256 f.seq.toNat (t.src 3).seqs = false) ∧
    olderThanBuffer 256 5 ((locked [(1029, 256, 0)]).src 3).seqs = true ∧ olderThanBuffer 256 5 ((locked [(1028, 256, 0)]).src 3).seqs = false ∧
    [(10000000, true), (9999999, false)].all (fun (e : Nat × Bool) =>
      let t := locked [(5, 256, e.1)]
      match (t.src 3).seqs.find? (fun e => decide (e.1 = 5)) with
      | some q => decide (t.clk.upNs ≤ q.2.2 + 10000000) == e.2
      | none => false) = true ∧
    (flowFrame true true).full = true ∧ (flowFrame false false).fcsOk = false ∧
    (locked []).matchFlow { flowFrame false true with dstIp := 0 } = none := by
  decide +kernel

theorem witness_SourceFrame_cases :
    (let a := forEach (hostSrc.sdiLanes 3) (fun i u => if u.laneMode i ≤ 1 then u.putBit (Fld.SRC_LANE_STAT_PID i) false else u)
       (hostSrc.put (Fld.SRC_CFG_KIND 3) 1)
     a.bit (Fld.SRC_CFG_ENABLED 3) = true ∧ a.get (Fld.SRC_CFG_KIND 3) = 1) ∧
    (let t := State.showMem (hostSrc.setSrc 3 { hostSrc.src 3 with fetching := some 1 }) pageMem
     (t.fetchLines 0 65536 4096 4).1 = none ∧ (t.fetchLines 1 65536 4096 4).1.isSome = true) := by
  decide +kernel

/-- A TIME packet of kind `k` that arrives on port 0, a replay or not. -/
def timeRx (k : Nat) (replay : Bool) : Rx := { rxOf 1 0 [wd (0x00110001 + k * 2 ^ 12), 0, 0, 0, 0] with replay := replay }

theorem witness_TimePackets_cases :
    (∀ k ∈ [0, 1, 2], ∀ r ∈ [false, true], (tileNode.taken (timeRx k r)).isSome = true ∧ wbits (nth (timeRx k r).body 0) 15 12 = k ∧ (timeRx k r).replay = r) ∧
    (let s := { tileNode with clk := { tileNode.clk with dreqAt := [(0, 5)] } }
     (match s.taken (timeRx 2 false) with
      | some (_, t) => t.clk.dreqAt.any (fun a => decide (a.1 = (timeRx 2 false).port.val))
      | none => false) = true) := by
  decide +kernel

/-- A head that synchronizes to reference `src`, valid or not, as master or not, the last edge at `e`. -/
def refHead (src : Nat) (valid master : Bool) (e : Option Nat) : State :=
  let s := (headNode.put Fld.TIME_REF_CFG_SRC src).put Fld.TIME_REF_STAT_VALID (if valid then 1 else 0)
  { s with clk := { s.clk with edge := e, isMaster := master, hasMaster := true } }

theorem witness_TimeEvents_cases :
    (headNode.running = true ∧ headNode.clk.isMaster = false ∧ headNode.clk.hasMaster = false) ∧
    ((refHead 1 true false none).clk.hasMaster = true ∧ (refHead 1 true false none).get Fld.TIME_STAT_STATE ≠ tsHOLDOVER ∧
      ((refHead 1 true false none).put Fld.TIME_STAT_STATE tsHOLDOVER).get Fld.TIME_STAT_STATE = tsHOLDOVER) ∧
    ((headNode.raise Fld.TIME_MASTER_CFG_ELIG).untilSilent.candidate = true ∧ headNode.untilSilent.candidate = false ∧
      headNode.untilSilent.clk.hasMaster = false ∧ (refHead 1 true false none).untilSilent.clk.hasMaster = true ∧
      (refHead 1 true false none).untilSilent.candidate = false ∧ (refHead 1 true true none).clk.isMaster = true) ∧
    (let s := { headNode with clk := { headNode.clk with lastSync := some 7 } }
     s.clk.lastSync = some 7) ∧
    ([0, 1, 2, 3].map (fun n => (refHead n true true none).refSrc) = [0, 1, 2, 0]) ∧
    [(1, true), (1, false), (2, true), (2, false)].all (fun (e : Nat × Bool) =>
      let s := refHead e.1 e.2 true none
      let a := (s.elapse 5).slewed
      decide (s.role = .head) && s.running && decide (s.refSrc = e.1) && a.refEdge.bit Fld.TIME_REF_STAT_VALID == e.2 && a.refEdge.clk.isMaster) = true := by
  decide +kernel

/-- The head whose last edge of the pulse per second came at 0 and that has been up for `n` ns. -/
def edgeAt (n : Nat) : State := let s := refHead 1 true true (some 0); { s with clk := { s.clk with upNs := n } }

theorem witness_ReferenceEdges_cases :
    (refHead 1 true true none).clk.edge = none ∧
    [(1, 999999000), (1, 1000001000), (2, 2000001000)].all (fun (e : Nat × Nat) =>
      let s := edgeAt e.2
      decide (s.clk.edge = some 0 ∧ 1 ≤ e.1 ∧ 2000 < s.edgePeriod ∧ e.1 * s.edgePeriod ≤ s.clk.upNs - 0 + 1000 ∧
        s.clk.upNs - 0 ≤ e.1 * s.edgePeriod + 1000)) = true ∧
    [(1, 999998999), (1, 1000001001), (1, 500000000), (1, 1499999999)].all (fun (e : Nat × Nat) =>
      let s := edgeAt e.2
      decide (s.clk.edge = some 0 ∧ 1 ≤ e.1 ∧ 1 ≤ s.edgePeriod ∧ e.1 * s.edgePeriod ≤ s.clk.upNs - 0 + s.edgePeriod / 2 ∧
        s.clk.upNs - 0 + s.edgePeriod / 2 < (e.1 + 1) * s.edgePeriod ∧
        (s.clk.upNs - 0 + 1000 < e.1 * s.edgePeriod ∨ e.1 * s.edgePeriod + 1000 < s.clk.upNs - 0))) = true := by
  decide +kernel

theorem witness_AlignPhase_cases :
    headNode.rephasing = false ∧
    (let s := { headNode with clk := { headNode.clk with rephased := some 5, scheds := [⟨5, 0, 0, 0, 0, 0⟩] } }
     s.rephasing = true) ∧
    (let p := headNode.periodThirds
     let k := 3000 * max 1 (headNode.get Fld.TIME_CFG_STEP)
     0 < k ∧ k + 3 < p ∧ 2 * k ≤ p ∧ 2 * (k + 3) ≤ p ∧ p - (p - k) ≤ k ∧ k + 3 ≤ p - (p - k - 3) ∧ p < 2 * (p - k) ∧ p < 2 * (p - k - 3)) := by
  decide +kernel

/-- An error-free codeword with the header `h` and blocks of zeros; one symbol short of a codeword. -/
def cwOf (h : Nat) : Codeword := Codeword.ofSent (BitVec.ofNat 112 h) (List.replicate 13 (List.replicate 32 0))
def badCw : Codeword := ⟨List.replicate 359 0⟩

/-- Port 1 in bring-up, with a HELLO of its neighbour and both lanes aligned. -/
def metPort : State :=
  let s := portAt 1
  ((s.setPort 1 { s.port 1 with met := true, helloStamp := some 7 }).raise (Fld.LNK_PHY_STAT_ALIGN 1 0)).raise (Fld.LNK_PHY_STAT_ALIGN 1 1)

theorem witness_Codeword_cases :
    ((portAt 2).portsOn = true ∧ (((portAt 2).port (1 : Port).val).phy (2 : PhyLane).val).retired = false) ∧
    cwDecode badCw = none ∧
    (match cwDecode (cwOf 0), cwDecode (cwOf (2 ^ 82 + 2 ^ 80)) with
     | some d, some e =>
       let a := (portAt 2).tallyOf 0x000 1 (1 : Port).val
       let b := (portAt 1).tallyOf 0x000 1 (1 : Port).val
       let h := ((a.goodCodeword 1 0 d.fixed).takeHeader 1 d).nackNow 1 0
       !(a.contradicts 1 0 d) && b.contradicts 1 0 d && !(b.contradicts 1 0 e) && decide (cwField d 80 79 < 2 ∧ cwField d 82 81 < 2) &&
         decide (2 ≤ cwField e 80 79) && decide (((h.port 1).rx 0).expect = BitVec.ofNat 16 (cwField d 98 83))
     | _, _ => false) = true := by
  decide +kernel

theorem witness_BringUp_cases :
    (metPort.get (Fld.LNK_PORT_STAT_STATE 1) = 1 ∧ (metPort.port 1).met = true ∧ metPort.rxMap 1 0 ≠ 3 ∧ metPort.txMap 1 0 ≠ 3 ∧
      ∀ k ∈ [0, 1], metPort.rxMap 1 k = 3 ∨ metPort.bit (Fld.LNK_PHY_STAT_ALIGN 1 (metPort.rxMap 1 k)) = true) ∧
    (portAt 1).linkUp 1 = false ∧ (metPort.port 1).helloStamp = some 7 ∧ ((portAt 1).port 1).helloStamp ≠ some 7 ∧ (2 : Byte) ≠ 1 := by
  decide +kernel

/-- A node with `f` applied to the transmit side of lane 1 of port 0, FI_EN set. -/
def laneOne (f : LaneTx → LaneTx) : State := (withPort (fun q => q.setTx 1 (f (q.tx 1)))).raise (Fld.LNK_LANE_CFG_FI_EN 0)

theorem witness_LaneEvents_cases :
    (let s := withPort (fun q => { q with rx1 := { q.rx1 with nacked := true } })
     ((s.port (0 : Port).val).rx (1 : LogLane).val).nacked = true ∧ ((s.port (0 : Port).val).rx (1 : LogLane).val).nackDue = false ∧
      s.running = true ∧ s.linkUp (0 : Port).val = true) ∧
    (tileNode.rxMap (0 : Port).val (1 : LogLane).val = (1 : PhyLane).val ∧ tileNode.rxMap (0 : Port).val 2 ≠ 3 ∧
      (tileNode.port (0 : Port).val).calib = none ∧ (1 : LogLane).val ≠ 0) ∧
    (tileNode.rxMap (0 : Port).val (1 : LogLane).val ≠ (2 : PhyLane).val ∧ (tileNode.port (0 : Port).val).move = none) ∧
    tileNode.rxMap (0 : Port).val 1 ≠ 3 ∧
    (let s := laneOne id
     s.bit (Fld.LNK_LANE_CFG_FI_EN (0 : Port).val) = true ∧ s.txMap (0 : Port).val 1 ≠ 3 ∧ (s.port (0 : Port).val).tx1.buf = [] ∧
      (s.port (0 : Port).val).tx1.queue = [] ∧ (s.port (0 : Port).val).tx1.part = none ∧ (s.port (0 : Port).val).tx1.ready = false ∧
      s.bit (Fld.LNK_PORT_STAT_L1_IDLE (0 : Port).val) = false) ∧
    ((laneOne (fun t => { t with queue := [.resync] })).port (0 : Port).val).tx1.queue ≠ [] ∧
    ((withPort (fun q => { q with rxIdle1 := true })).port (0 : Port).val).rxIdle1 = true := by
  decide +kernel

theorem witness_LaneRepair_cases :
    (let m : PhyLane := 1
     let t := ((tileNode.setWord (Reg.LNK_PHY_STAT 0 m.val) (wd (6 * 16))).raise (Fld.LNK_INT_LANE_DOWN 0)).setRxMap 0 1 3
     (t.port 0).calib = none ∧ t.rxMap 0 2 ≠ 3 ∧ (t.port 0).standIn = none) ∧
    (let s := tileNode.setRxMap 0 2 3
     let t := ((s.setWord (Reg.LNK_PHY_STAT 0 1) (wd (6 * 16))).raise (Fld.LNK_INT_LANE_DOWN 0)).setRxMap 0 1 3
     let u := ((s.setRxMap 0 0 3).setRxMap 0 1 3)
     s.rxLogical 0 1 = some 1 ∧ t.rxMap 0 2 = 3 ∧ t.workingLanes 0 ≠ 0 ∧ u.workingLanes 0 = 0) ∧
    (let s := withPort (fun q => { q with standIn := some 0 })
     let t := ((s.setWord (Reg.LNK_PHY_STAT 0 1) (wd (6 * 16))).raise (Fld.LNK_INT_LANE_DOWN 0)).setRxMap 0 1 3
     t.rxMap 0 2 ≠ 3 ∧ (t.port 0).standIn.isSome = true ∧ (t.port 0).calib = none) ∧
    (let s := withPort (fun q => { q with standIn := some 0 })
     s.rxLogical 0 2 = none ∧ (s.port 0).calib = none ∧ s.rxMap 0 2 = 2 ∧ (s.port 0).standIn.isSome = true) ∧
    ((withPort (fun q => { q with remoteCal := some 1 })).port 0).remoteCal.isSome = true ∧ (tileNode.port 0).remoteCal = none ∧
    (tileNode.put (Fld.LNK_CAL_CFG_PERIOD 0) 1).get (Fld.LNK_CAL_CFG_PERIOD 0) ≠ 0 ∧ (tileNode.put (Fld.LNK_CAL_CFG_PERIOD 0) 0).get (Fld.LNK_CAL_CFG_PERIOD 0) = 0 ∧
    (tileNode.raise (Fld.LNK_CAL_STAT_QUEUED 0)).bit (Fld.LNK_CAL_STAT_QUEUED 0) = true ∧
    (let c : Calib := ⟨1, false, 2, false⟩
     let s := (withPort (fun q => { q with calib := some c })).put (Fld.LNK_CAL_STAT_STEP 0) 1
     s.get (Fld.LNK_CAL_STAT_STEP 0) = 1 ∧ c.started = false) ∧
    fewest [3, 1, 1] (List.range 3) = some 1 := by
  decide +kernel

/-- The four words of a tag. -/
def tagWords (t : BitVec 128) : List Word := [wd (t.toNat / 2 ^ 96), wd (t.toNat / 2 ^ 64), wd (t.toNat / 2 ^ 32), wd t.toNat]

theorem tagOf_tagWords (t : BitVec 128) : tagOf (tagWords t) = t := tagOf_words t

/-- A KEYX of 26 words of zeros with its HMAC under the domain key 1, and one with the tag 0. -/
def keyxWords : List Word := 0x04000000 :: List.replicate 25 0
def keyxRx : Rx := rxOf 12 0 (keyxWords ++ tagWords (hmac 1 (hdrWords tyENUM 0 0x11 30 ++ keyxWords)))

/-- A node that has sent its own KEYX of epoch 0 on port 0. -/
def keyNode : State := tileNode.setKeys 0 { tileNode.keysOf 0 with priv := some (0, 5) }

theorem witness_Keyx_good :
    keyNode.taken keyxRx = some (keyxRx.body, arrived keyNode keyxRx) ∧ (arrived keyNode keyxRx).keys.domain = some 1 ∧
    hmac 1 (hdrWords tyENUM keyxRx.dest keyxRx.src 30 ++ keyxRx.body.take 26) = tagOf (keyxRx.body.drop 26) ∧
    ((arrived keyNode keyxRx).keysOf keyxRx.port.val).priv = some (0, 5) ∧ 0 = (nth keyxRx.body 1).toNat :=
  ⟨rfl, rfl, (tagOf_tagWords _).symm, rfl, rfl⟩

theorem witness_Keyx_wrong_tag :
    (let h := hmac 1 (hdrWords tyENUM 0 0x11 30 ++ keyxWords)
     let x := rxOf 12 0 (keyxWords ++ tagWords (h + 1))
     hmac 1 (hdrWords tyENUM x.dest x.src 30 ++ x.body.take 26) ≠ tagOf (x.body.drop 26)) := by
  intro h x hx
  have : h = h + 1 := hx.trans (tagOf_tagWords _)
  have := congrArg (fun v => v - h) this
  simp at this

/-- The KEYACK that proves the keys of `keyNode`'s agreement, whose receiving key is 9. -/
def ackTag : BitVec 128 := gmac 9 0 (wireStream ([] ++ ephemeral 5))
def ackRx (e : Word) : Rx := rxOf 12 0 (0x05000000 :: e :: tagWords ackTag)

/-- A node that has derived keys of epoch 0 on port 0, after an earlier agreement or not. -/
def ackNode (agreed acked : Bool) : State :=
  tileNode.setKeys 0 { tileNode.keysOf 0 with
    priv := some (0, 5)
    newKeys := some (0, 8, 9)
    agreed := agreed
    acked := acked }

theorem taken_local (s : State) (body : List Word)
    (h : ((entered s (rxOf 12 0 body)).1 && !((entered s (rxOf 12 0 body)).2.1)) = true) :
    s.taken (rxOf 12 0 body) = some (body, (entered s (rxOf 12 0 body)).2.2) := by
  unfold State.taken
  rw [letIn_rxOf]
  rcases hl : entered s (rxOf 12 0 body) with ⟨a, b, u⟩
  rw [hl] at h
  simp only [Bool.and_eq_true, Bool.not_eq_true'] at h
  obtain ⟨rfl, rfl⟩ := h
  rfl

/-- The node after it has taken that KEYACK. -/
def acked (agreed old : Bool) (e : Word) : State := (entered (ackNode agreed old) (ackRx e)).2.2

theorem witness_Keyack_cases :
    ∀ a ∈ [false, true], ∀ e ∈ [(0 : Word), 1],
      (ackNode a false).taken (ackRx e) = some ((ackRx e).body, acked a false e) ∧
      ((acked a false e).keysOf (ackRx e).port.val).newKeys = some (0, 8, 9) ∧
      ((acked a false e).keysOf (ackRx e).port.val).priv = some (0, 5) ∧
      ((acked a false e).keysOf (ackRx e).port.val).agreed = a ∧
      gmac 9 0 (wireStream (((acked a false e).keysOf (ackRx e).port.val).peerPoint ++ ephemeral 5)) = tagOf ((ackRx e).body.drop 2) ∧
      (nth (ackRx e).body 1).toNat = e.toNat := by
  intro a ha e he
  simp only [List.mem_cons, List.not_mem_nil, or_false] at ha he
  refine ⟨taken_local _ _ ?_, ?_, ?_, ?_, (tagOf_tagWords ackTag).symm ▸ ?_, rfl⟩
  rotate_left 4
  · have h : ((acked a false e).keysOf (ackRx e).port.val).peerPoint = [] := by
      rcases ha with rfl | rfl <;> rcases he with rfl | rfl <;> rfl
    rw [h]
    rfl
  all_goals rcases ha with rfl | rfl <;> rcases he with rfl | rfl <;> rfl

theorem witness_LinkKeys_timers :
    (let s (u : Nat) (st ag : Bool) : State :=
       (withPort (fun q => { q with tx0 := { q.tx0 with seq := u } })).setKeys 0
         { tileNode.keysOf 0 with agreed := ag, stopped := st, sendEpoch := 2 ^ 32 - 2, failed := true }
     [2 ^ 39 - 1, 2 ^ 39, 2 ^ 61 - 1, 2 ^ 61].map (fun u => (s u false true).keyUse 0) = [2 ^ 40 - 2, 2 ^ 40, 2 ^ 62 - 2, 2 ^ 62] ∧
     ((s 0 false true).running = true ∧ (s 0 false true).linkUp 0 = true ∧ ((s 0 false true).keysOf 0).failed = true ∧
       ((s 0 false true).keysOf 0).agreed = true ∧ ((s 0 false true).keysOf 0).priv = none ∧ ((s 0 false true).keysOf 0).sendEpoch + 1 < 2 ^ 32)) ∧
    (((ackNode true true).keysOf 0).acked = true ∧ ((ackNode true false).keysOf 0).acked = false) := by
  decide +kernel

/-- A WALK, RETURN and REPORT of WALK_ID 7 of head 0x11 on port 0, and an EVT of code 2. -/
def walkRx : Rx := rxOf 12 0 [0x01000007, 0x00110000, 0x00110000]
def returnRx : Rx := rxOf 12 0 [0x02000007, 0x00110000, 0, 0]
def reportRx : Rx := rxOf 12 5 [0x03000007, 0x00090000, 0, 0, 0]
def evtRx : Rx := rxOf 9 5 [0x00020000, 0, 0]
def testRx : Rx := rxOf 14 5 [0x00000100, 0]
def barRx : Rx := rxOf 7 0xFFFF [0x00030000, 0, 0]

/-- A branch and a head through which a walk of head 0x11 goes on port 0. -/
def walkNode : State :=
  { branchNode with net := { branchNode.net with
    through := [⟨1, false, 7, 0x11, 1, 0, 1, false, false, none, 0, 0, [], 0⟩]
    seen    := [(7, 0x11)] } }
def walkHead : State := { headNode with net := { headNode.net with walk := some ⟨false, 7, [], 0, [], [], [], [], none⟩ } }

/-- A branch whose route entry 1 of head 0x11 leads to port 2. -/
def routedNode : State := (branchNode.raise (Fld.LNK_ROUTE_PORT_VALID 1)).put (Fld.LNK_ROUTE_PORT_PORT 1) 2

/-- `s` takes `x`, and the state after it satisfies `p`. -/
def takesAs (s : State) (x : Rx) (p : State → Bool) : Bool := match s.taken x with | some (b, t) => decide (b = x.body) && p t | none => false

theorem witness_NetworkPackets_cases :
    takesAs headNode walkRx (fun t => decide (t.role = .head)) = true ∧
    takesAs walkHead returnRx (fun t => match t.net.walk with | some w => decide (w.port = 0 ∧ w.walkId = 7) | none => false) = true ∧
    takesAs headNode returnRx (fun t => decide (t.net.walk = none)) = true ∧
    takesAs headNode reportRx (fun t => decide (t.clk.isMaster = false)) = true ∧
    takesAs branchNode reportRx (fun t => decide (t.role ≠ .head)) = true ∧
    takesAs walkNode walkRx (fun t => decide ((wbits (nth walkRx.body 0) 15 0, (BitVec.ofNat 16 (wbits (nth walkRx.body 2) 31 16) : NodeId)) ∈ t.net.seen)) = true ∧
    takesAs walkNode returnRx (fun t => (t.walkAt returnRx.port.val (some (wbits (nth returnRx.body 0) 15 0))).isSome) = true ∧
    takesAs headNode evtRx (fun t => decide (t.role = .head ∧ evtRx.type.toNat = tyEVT ∧ wbits (nth evtRx.body 0) 31 16 = 2)) = true ∧
    takesAs branchNode testRx (fun _ => decide (wbits (nth testRx.body 0) 15 8 = 1 ∧ testRx.src ≠ 0)) = true ∧
    takesAs branchNode barRx (fun t => (t.headIndex barRx.src).isSome && decide (t.downPorts barRx.src = [])) = true ∧
    takesAs routedNode barRx (fun t => decide (t.downPorts barRx.src ≠ [])) = true ∧
    takesAs (branchNode.put (Fld.LNK_HEAD_VALID 0) 0) barRx (fun t => (t.headIndex barRx.src).isNone) = true := by
  decide +kernel

theorem witness_NetworkTimers_cases :
    (walkHead.role = .head ∧ walkHead.running = true ∧ (∃ w, walkHead.net.walk = some w ∧ w.port = (0 : Port).val)) ∧
    (walkNode.role ≠ .head ∧ (walkNode.walkAt (0 : Port).val none).isSome = true ∧ walkNode.walkAt (3 : Port).val none = none) ∧
    (headNode.net.walk = none) ∧
    (let s := { headNode with net := { headNode.net with barMine := some (3, 0, fwd []) } }
     s.net.barMine = some (3, 0, fwd []) ∧ headNode.net.barriers = [] ∧ headNode.net.merge = []) ∧
    (let s := { branchNode with net := { branchNode.net with barriers := [⟨3, 0x11, 1, none⟩] } }
     s.net.barMine = none ∧ s.net.barriers = [⟨3, 0x11, 1, none⟩] ∧ s.net.merge = [] ∧
      (State.barGo { s with net := { s.net with barriers := [] } } ⟨3, 0x11, 1, none⟩).net.merge = []) := by
  refine ⟨⟨rfl, by decide +kernel, _, rfl, rfl⟩, ?_, rfl, ?_, ?_⟩ <;> decide +kernel

/-- What a sealed packet for this node must meet at `s` to be taken. -/
def sealedOk (s : State) (type : BitVec 4) (dest : NodeId) (w : List Word) : Bool :=
  let r := entered s (sealedRx type dest w)
  (r.1 && !(r.2.1)) && tagged type.toNat && decide (r.2.2.keys.domain = some 1) && r.2.2.knowsHead 0x11 &&
    decide (lookup (0, []) r.2.2.net.origins (0x11 : NodeId) = (0, [])) && (unsealed s type dest w).consumes (sealedRx type dest w)

theorem sealed_ok (s : State) (type : BitVec 4) (dest : NodeId) (w : List Word) (h : sealedOk s type dest w = true) :
    s.taken (sealedRx type dest w) = some (sealedBody type.toNat dest w, unsealed s type dest w) := by
  unfold sealedOk at h
  have h6 := (Bool.and_eq_true _ _).mp h
  have h5 := (Bool.and_eq_true _ _).mp h6.1
  have h4 := (Bool.and_eq_true _ _).mp h5.1
  have h3 := (Bool.and_eq_true _ _).mp h4.1
  have h2 := (Bool.and_eq_true _ _).mp h3.1
  exact taken_sealed _ _ _ _ h2.1 h2.2 (of_decide_eq_true h3.2) h4.2 (of_decide_eq_true h5.2) h6.2

/-- A tile that holds the client-0 key 7. -/
def keyTile : State := { tileNode with keys := { tileNode.keys with client0 := some 7 } }

/-- PRIVET_SHOW of item 1 by client 0, client sequence 1, with its tag `tag`, in a PRIVET CMD for frame 9. -/
def showBody (tag : Nat) : List Word := [0x01000000, 9] ++ cmdWords opPRIVET_SHOW { cmdOf .localPort [2, 0] with trailer := some ⟨1, BitVec.ofNat 128 tag⟩ }

/-- The tile that is loading item 1, of 4 bytes, of which DATA `d` have come. -/
def loadTile (d : List (Nat × List Word)) : State :=
  { keyTile with priv := { keyTile.priv with load := some ⟨1, 4, digestWords [1, 0, 0, 0], d⟩ } }

theorem witness_PrivetPackets_cases :
    (tileNode.taken (sealedRx 13 5 (showBody 0)) = some (sealedBody 13 5 (showBody 0), unsealed tileNode 13 5 (showBody 0)) ∧
      (unsealed tileNode 13 5 (showBody 0)).keys.client0 = none) ∧
    [(0, false), (223515316346456375143372052517017576846, true)].all (fun (e : Nat × Bool) =>
      let r := parseCmd .localPort (((sealedBody 13 5 (showBody e.1)).take ((sealedBody 13 5 (showBody e.1)).length - 6)).drop 2)
      let t := unsealed keyTile 13 5 (showBody e.1)
      sealedOk keyTile 13 5 (showBody e.1) && decide (t.role = .tile ∧ t.keys.client0 = some 7 ∧ r.1 = opPRIVET_SHOW ∧ r.2.client = 0) &&
        (match r.2.trailer with
         | some w => clientTagOk 7 r.1 r.2 == e.2 && decide (t.lastCseq 0 < w.cseq.toNat)
         | none => false)) = true ∧
    (let w : List Word := [0x02010000, 9, 0, 1]
     let t := unsealed (loadTile []) 13 5 w
     sealedOk (loadTile []) 13 5 w && (match t.priv.load with | some l => decide (l.item = wbits (nth w 0) 21 16) | none => false)) = true ∧
    (let w : List Word := [0x03010000, 9, 4]
     sealedOk tileNode 13 5 w && (unsealed tileNode 13 5 w).priv.load.isNone &&
       [(0, false), (1, true)].all (fun (e : Nat × Bool) =>
         let s := loadTile [(if e.2 then 0 else 4, [1])]
         sealedOk s 13 5 w && (match (unsealed s 13 5 w).priv.load with
           | some l => (match l.content with | some got => e.2 && decide (got.length = l.length ∧ l.length = (nth w 2).toNat) && digestIs l.digest got | none => !(e.2))
           | none => false))) = true := by
  refine ⟨⟨sealed_ok _ _ _ _ ?_, ?_⟩, ?_, ?_, ?_⟩ <;> decide +kernel

theorem witness_PrivetVerify_cases :
    (let s := { tileNode with priv := { tileNode.priv with items := [(1, [])] } }
     s.mem.upsets = [] ∧ s.mem.clearing = [] ∧ SMap.find s.priv.items 1 = some [] ∧ SMap.find s.priv.tags 1 ≠ some (Config.privetTag 1 [])) ∧
    (let s := { tileNode with priv := { tileNode.priv with items := [(1, [])], tags := [(1, Config.privetTag 1 [])] } }
     s.mem.upsets = [] ∧ s.mem.clearing = [] ∧ SMap.find s.priv.items 1 = some [] ∧ SMap.find s.priv.tags 1 = some (Config.privetTag 1 []) ∧ s.mem.poison = []) ∧
    (let s := { updTile false with upd := { (updTile false).upd with record := { (updTile false).upd.record with pending := true } } }
     s.activateDue = true) ∧ tileNode.activateDue = false ∧
    (let s := { updTile true with clk := { tileNode.clk with upNs := 1 } }
     s.upd.trial = true ∧ s.upd.wdogEnd ≤ s.clk.upNs) ∧ tileNode.upd.trial = false ∧
    (recNode.quill.recovery = true ∧ recNode.running = true) := by
  refine ⟨⟨rfl, rfl, rfl, ?_⟩, ⟨rfl, rfl, rfl, rfl, rfl⟩, ?_, ?_, ⟨rfl, ?_⟩, rfl, ⟨rfl, ?_⟩⟩ <;> decide +kernel

/-- A tile with a test of bank 4 in step `k`. -/
def testTile (k : Nat) : State := State.put { tileNode with mem := { tileNode.mem with test := some 4 } } Fld.MEM_BIST_STAT_STEP k

theorem witness_Memory_cases :
    [1, 2, 3, 4].all (fun k => decide ((testTile k).mem.test = some 4) && decide ((testTile k).get Fld.MEM_BIST_STAT_STEP = k)) = true ∧
    (tileNode.mem.clearing.find? (fun e => decide (e.1 = 4)) = none ∧ tileNode.mem.upsets = []) ∧
    (let s := { tileNode with mem := { tileNode.mem with upsets := [(4, ⟨7, 9, true, none⟩)], clearing := [(3, 9)] } }
     s.mem.clearing.find? (fun e => decide (e.1 = 4)) = none ∧ s.mem.upsets = [(4, ⟨7, 9, true, none⟩)]) ∧
    (let s := { tileNode with mem := { tileNode.mem with clearing := [(3, 9)] } }
     s.mem.clearing.find? (fun e => decide (e.1 = 3)) = some (3, 9) ∧ s.mem.upsets = []) ∧
    (tileNode.actingRole ≠ .recovery ∧ wornTile.actingRole ≠ .recovery ∧
      { wornTile with cpcWait := [(2, 4)] }.mem.test.isSome = true ∧ { wornTile with cpcWait := [(2, 4)] }.actingRole ≠ .recovery) ∧
    ((0 : BitVec 2) = 0 ∧ (1 : BitVec 2).getLsbD 0 = true) ∧ 8 < 9 ∧
    (let s := { dramHead with mem := { dramHead.mem with rows := [((dramHead.dramAt 0).rowKey, [1])] } }
     ((dramHead.rowCount (dramHead.dramAt 0).rowKey).length < dramHead.get Fld.DMC_PPR_THR) ∧
      s.get Fld.DMC_PPR_THR ≤ (s.rowCount (s.dramAt 0).rowKey).length ∧ (s.dramAt 0).group ∉ s.mem.noRepair) := by
  decide +kernel

theorem witness_TileFrame_cases :
    (let s := { tileNode with tile := { tileNode.tile with waiting := some ⟨3, 0, 0, some ([], 0), ⟨0, 0⟩⟩ } }
     let a := (s.advanceTo (s.tshow 3)).put Fld.SCN_CMT_STAT_LAST 0
     let u : State := { a with tile := { a.tile with waiting := none, played := 3 } }
     let v := ((u.put Fld.SCN_CMT_STAT_HEADID 0).raise Fld.SCN_CMT_STAT_SHOWN_VALID).setWord Reg.SCN_SHOWN_FN 3
     let free := v.tile.slots.map (fun q => if q.st = 3 then Slot.free else q)
     v.slotOf 3 = none ∧ (List.range 3).find? (fun j => match free[j]? with | some q => decide (q.st = 0) | none => false) = some 0) ∧
    (let x := rxOf 6 5 [0, 0]
     tileNode.taken x = some (x.body, arrived tileNode x) ∧ (arrived tileNode x).tileRuns = true ∧ x.type.toNat = tyVOID) ∧
    (sealRx.type.toNat = tySEAL) := by
  decide +kernel

theorem witness_LampPipeline_cases :
    (let s := { tileNode with tile := { tileNode.tile with decided := some 3 }, lamp := { tileNode.lamp with pars := [{ tileNode.parsNow with fn := 3, mode := 2 }] } }
     s.scans = true ∧ s.tile.decided = some 3 ∧ s.mem.upsets = [] ∧ s.mem.clearing = [] ∧
      ((s.advanceTo (s.tdec 3 + wd 2000)).parsFor 3).mode = 2) ∧
    [(2, false), (1, true)].all (fun (e : Nat × Bool) =>
      let s := { tileNode.put Fld.SCN_FRZ_CFG_N 2 with
        lamp := { tileNode.lamp with running := some 3, lastSig := some 0, sigRun := 0, freeze := e.1 }
        tile := { tileNode.tile with thisOk := true, lastOk := true } }
      let t := s.setWord Reg.SCN_SHOWN_SIG (wd s.lamp.sigRun)
      decide (t.get Fld.SCN_FRZ_CFG_N = s.lamp.freeze + 1) == e.2) = true ∧
    (tileNode.ageMode = 0 ∧ tileNode.lamp.ageSnap = none ∧ tileNode.role = .tile ∧ tileNode.running = true) ∧
    (tileNode.put Fld.COR_AGE_CTL_MODE 1).ageMode ≠ 0 := by
  decide +kernel

/-! ### Worked examples of the spec -/

/-- Chapter 2: head A and tile 0x0328 read these words in SYS_STRAP; straps that never settle give the recovery role. -/
theorem test_strap_words :
    (State.reset.takeStraps 1 0 3 false).word Reg.SYS_STRAP = 0x301 ∧ (State.reset.takeStraps 0 0 3 false).word Reg.SYS_STRAP = 0x300 ∧
      (State.reset.takeStraps 3 0 100 true).word Reg.SYS_STRAP = 0x6413 := by
  decide +kernel

/-- Chapter 4 (R70): the table indices of the pixel Y = 502, Cb = 512, Cr = 612 under the reset matrix. -/
theorem test_code_matrix :
    codeMatrix false false [wd (1500 * 2 ^ 16 + 12613), wd (14862 * 2 ^ 16 + 3749)] 2008 2048 2448 = (2624, 1825, 2008) := by
  decide +kernel

/-- Chapter 5 (R97): pixel (5, 7) of tile 0x0328. -/
theorem test_scale_position : scalePos 51288 0 61440 51200 25600 0 = (12, 45) ∧ scalePos 7320 0 34560 7200 14400 0 = (17, 32) := by
  decide +kernel

/-- Chapter 5 (R99 to R102): three layers at one sample point. -/
theorem test_blend_of_three_layers :
    blend ⟨52400, 31870, 18205⟩ 700 (scaleBy ⟨600000, 400000, 100000⟩ 700) = (⟨426736, 283522, 74119⟩, 0) ∧
      blend ⟨426736, 283522, 74119⟩ 512 (scaleBy ⟨200000, 0, 0⟩ 512) = (⟨313368, 141761, 37060⟩, 0) ∧
      blend1 426736 900000 100 = (1048575, true) := by
  decide +kernel

/-- Chapter 6 (R108): the wire codes of 313,368 in the three formats. -/
theorem test_wire_codes :
    (quietFrame 0).cfg.encode 1 313368 = 1224 ∧ (quietFrame 0).cfg.encode 0 313368 = 306 ∧ (quietFrame 0).cfg.encode 2 313368 = 19585 := by
  decide +kernel

/-- Chapter 11: one lamp from stage 3 on, and its gray clocks in the first three subframes. -/
theorem test_lamp_pipeline :
    wallGain 0x7400 0x8000 0 false 64632 = 58573 ∧ ageGain 33751 58573 = 60330 ∧ conceal 102 1 60330 = 66339 ∧
      dutyOf 157286 66339 = 7076178 ∧ targetOf 16 5 7076178 = 56609424 ∧
      (List.range 3).map (countOf 56609424 40000) = [864, 864, 863] := by
  decide +kernel

/-- Chapter 14 (R286): the words of a WIN_DELETE of window 12 by client 7 with tag 9 for tick 0x100. -/
theorem test_command_words :
    cmdWords opWIN_DELETE ⟨.ring, 7, 9, 0x0328, true, false, false, 0x100, [12], none⟩ =
      [wd (opWIN_DELETE * 2 ^ 16 + 2 ^ 14 + 1), 0x00700009, 0x03280000, 0x100, 12] := by
  decide

/-! ### Single steps -/

/-- R45: a request for BOOT is refused with ERR. -/
theorem test_request_for_boot_refused :
    (match exec (.pwrReqInvalid (.quill true) 1) tileNode with | .next t => t.bit Fld.PWR_REQ_ERR && t.pwr.queued.isNone | _ => false) = true := by
  decide +kernel

/-- R45: only the key 0xB007 files a warm reset. -/
theorem test_warm_reset_key :
    (match exec (.warmReset 0xB007) tileNode with | .next t => decide (t.pwr.queued = some .warm) | _ => false) = true ∧
      (match exec (.warmReset 0xB008) tileNode with | .next t => t.pwr.queued.isNone | _ => false) = true := by
  decide +kernel

/-- R48: POWER_OFF_N low darkens the drive and enters OFF. -/
theorem test_emergency_off :
    (match exec .emergencyOff litTile with | .next t => t.drive.dark && decide (t.pwr.state = .off) | _ => false) = true := by
  decide +kernel

/-- R212: a read of TIME_HT_NS latches the seconds. -/
theorem test_house_time_read :
    (match exec .timeHtNsRead { tileNode with clk := { tileNode.clk with htSec := 77 } } with
      | .next t => decide (t.clk.htLatch = some 77)
      | _ => false) = true := by
  decide +kernel

/-- R358: a completion of another level than the top of the stack sets the fault and leaves the stack. -/
theorem test_wrong_completion :
    (match exec (.icuEoi 1 3) { tileNode with icu := { tileNode.icu with stack1 := [4] } } with
      | .next t => t.bit Fld.ICU_FAULT_FAULT && decide (t.icu.stack1 = [4])
      | _ => false) = true := by
  decide +kernel

/-- A command whose queue holds another one runs alone, and the other stays. -/
theorem test_step_takes_one :
    (match step { tileNode with pending := [.testReset, .tickStart] } with
      | .next t => t.pwr.tapReset && decide (t.pending = [.tickStart])
      | _ => false) = true := by
  decide +kernel

/-! ### Well-formedness: an ill-formed term for each check -/

theorem wf_command : (Instr.nop (fwd [])).wf = true ∧ (Instr.nop (fwd (List.replicate 4096 0))).wf = false := by decide +kernel

theorem wf_packet : (Instr.sealReceived sealRx).wf = true ∧ (Instr.sealReceived (rxOf 0 5 [0, 0, 0, 0])).wf = false ∧
    (Instr.patchReceived (rxOf 4 5 (List.replicate 4096 0))).wf = false := by decide +kernel

theorem wf_host_memory : (Instr.stagedReplyWrite 0 pageMem).wf = true ∧ (Instr.stagedReplyWrite 0 ⟨[(4, 0)], [], [], []⟩).wf = false ∧
    (Instr.ringCommandTaken 0 (List.replicate 4090 0) pageMem).wf = false := by decide +kernel

theorem wf_intake : (Instr.localCommand nopWords).wf = true ∧ (Instr.localCommand []).wf = false ∧ (Instr.strapSampling []).wf = false := by
  decide

/-- A line of two samples with one chroma pair over the link of this ST 352 number. -/
def lineOf (cr : List (BitVec 10)) (link : Nat) : SdiLine := ⟨0, false, [⟨0, 1, false, link, 0, [64, 64], [512], cr, true, 0⟩]⟩

theorem wf_source_line : (Instr.sdiLineReceived (lineOf [512] 1)).wf = true ∧ (Instr.sdiLineReceived (lineOf [] 1)).wf = false ∧
    (Instr.sdiLineReceived (lineOf [512] 0)).wf = false := by decide

/-- A frame on interface 0 with these sample rows. -/
def frameOf (l : List Srd) : EthFrame :=
  ⟨0, false, true, true, true, false, 0, 0, true, 0, true, 0, 0, 2, 96, false, 0, 0, false, l⟩

theorem wf_ethernet_frame : (Instr.st2110PacketReceived (frameOf [])).wf = true ∧
    (Instr.st2110PacketReceived (frameOf [⟨0, 0, [], 0⟩])).wf = false := by decide

theorem wf_sink_check : (Instr.subframeStart 0 [⟨0, 1, true, false, false, false⟩]).wf = true ∧
    (Instr.subframeStart 0 [⟨0, 0, true, false, false, false⟩]).wf = false ∧
    (Instr.scanPeriodEnd [⟨0, 0, true, false, false, false⟩]).wf = false ∧
    (Instr.deadTime (.probe ⟨0, 0, true, false, false, false⟩)).wf = false := by decide

theorem wf_codeword : (Instr.codewordReceived 0 0 ⟨List.replicate 360 0⟩).wf = true ∧
    (Instr.codewordReceived 0 0 ⟨List.replicate 361 0⟩).wf = false ∧ (Instr.codewordReceived 0 0 ⟨[]⟩).wf = false := by
  decide +kernel

theorem wf_thermal_sample : (Instr.thermalModelUpdate ⟨List.replicate 8 0, [0, 0, 0]⟩).wf = true ∧
    (Instr.thermalModelUpdate ⟨[], [0, 0, 0]⟩).wf = false ∧ (Instr.thermalModelUpdate ⟨List.replicate 8 0, []⟩).wf = false := by decide

theorem wf_drive_operands : (Instr.phaseShareWindow (List.replicate 4 0)).wf = true ∧ (Instr.phaseShareWindow []).wf = false ∧
    (Instr.pushDeadline 0 [(1, 2, 3), (1, 2, 4)]).wf = false ∧ (Instr.pwrReqInvalid .host 3).wf = false := by decide

/-- R352: of two slots whose CRC checks the later FN is taken, past the wrap of FN too; of one the other's does not matter. -/
theorem test_checkpoint_taken : takenCkpt (some 0xFFFFFFFF) (some 0) = some 0 ∧ takenCkpt (some 8) (some 7) = some 8 ∧
    takenCkpt none (some 7) = some 7 ∧ takenCkpt none none = none := by decide

end Sys2Proof.Tests
end

section
/-! PROOFS. Writes of registers by the access codes of their fields (R370, R417 to R419): what a write leaves in a field, where a
write goes, and the statement O44. -/

namespace Sys2Proof.Machine

/-! ### A field after a write -/

/-- A field reads the value put into it, cut to its width. -/
theorem State.get_put_self (s : State) (f : Fld) (v : Nat) (h : f.lo ≤ f.hi) (h' : f.hi < 32) :
    (s.put f v).get f = v % 2 ^ f.width := by
  rw [State.get, State.word_put_toNat s f v h h', bitsOf_setBits]

/-- A field reads a value put into it that fits. -/
theorem State.get_put_of_lt (s : State) (f : Fld) (v : Nat) (h : f.lo ≤ f.hi) (h' : f.hi < 32) (hv : v < 2 ^ f.width) :
    (s.put f v).get f = v := by
  rw [State.get_put_self s f v h h', Nat.mod_eq_of_lt hv]

/-- A field holds no more than its width. -/
theorem State.get_lt (s : State) (f : Fld) : s.get f < 2 ^ f.width :=
  Nat.mod_lt _ (by positivity)

/-- What a written word has for a field fits it. -/
theorem RegField.bits_lt (f : RegField) (v : Word) : f.bits v < 2 ^ (f.hi + 1 - f.lo) :=
  Nat.mod_lt _ (by positivity)

section
variable (s : State) (x : Nat) (v : Word) (secure : Bool) (f : RegField)

theorem State.writeField_rw (h : f.acc = .rw) : s.writeField x v secure f = s.put ⟨x, f.hi, f.lo⟩ (f.bits v) := by
  simp [State.writeField, h]

theorem State.writeField_keeps (h : f.acc = .ro ∨ f.acc = .wo) : s.writeField x v secure f = s := by
  rcases h with h | h <;> simp [State.writeField, h]

theorem State.writeField_w1c (h : f.acc = .w1c) : s.writeField x v secure f =
    s.put ⟨x, f.hi, f.lo⟩ (s.get ⟨x, f.hi, f.lo⟩ &&& (2 ^ (f.hi + 1 - f.lo) - 1 - f.bits v)) := by
  simp [State.writeField, h]

theorem State.writeField_w1s (h : f.acc = .w1s) : s.writeField x v secure f =
    s.put ⟨x, f.hi, f.lo⟩ (s.get ⟨x, f.hi, f.lo⟩ ||| f.bits v) := by
  simp [State.writeField, h]

theorem State.writeField_srw (h : f.acc = .srw) : s.writeField x v secure f =
    if secure then s.put ⟨x, f.hi, f.lo⟩ (f.bits v) else s := by
  simp [State.writeField, h]

theorem State.writeField_rwt (h : f.acc = .rwt) : s.writeField x v secure f = s.pend x (wd (2 ^ (f.hi + 1) - 2 ^ f.lo)) v := by
  simp [State.writeField, h]

variable (hlo : f.lo ≤ f.hi) (hhi : f.hi < 32)
include hlo hhi

/-- Of a W1C field the bits written 1 are clear and the others stand. -/
theorem State.writeField_w1c_testBit (h : f.acc = .w1c) (i : Nat) (hi : i < f.hi + 1 - f.lo) :
    ((s.writeField x v secure f).get ⟨x, f.hi, f.lo⟩).testBit i =
      ((s.get ⟨x, f.hi, f.lo⟩).testBit i && !((f.bits v).testBit i)) := by
  have hlt := s.get_lt ⟨x, f.hi, f.lo⟩
  have hinv : 2 ^ (f.hi + 1 - f.lo) - 1 - f.bits v = 2 ^ (f.hi + 1 - f.lo) - (f.bits v + 1) := by omega
  rw [State.writeField_w1c s x v secure f h, State.get_put_of_lt _ _ _ hlo hhi (Nat.lt_of_le_of_lt Nat.and_le_left hlt),
    hinv, Nat.testBit_and, Nat.testBit_two_pow_sub_succ (f.bits_lt v)]
  simp [hi]

/-- Of a W1S field the bits written 1 are set and the others stand. -/
theorem State.writeField_w1s_testBit (h : f.acc = .w1s) (i : Nat) :
    ((s.writeField x v secure f).get ⟨x, f.hi, f.lo⟩).testBit i =
      ((s.get ⟨x, f.hi, f.lo⟩).testBit i || (f.bits v).testBit i) := by
  rw [State.writeField_w1s s x v secure f h,
    State.get_put_of_lt _ _ _ hlo hhi (Nat.or_lt_two_pow (s.get_lt _) (f.bits_lt v)), Nat.testBit_or]

end

/-! ### Where a write goes -/

@[simp] theorem portUsed_powered (s : State) (path : Path) : (s.portUsed path).powered = s.powered := by cases path <;> rfl

theorem State.writePlain_allowed (s : State) (path : Path) (x : Nat) (v : Word)
    (h : pathSecure path = true ∨ s.srwDiffers x v (regFields x) = false) :
    s.writePlain path x v = forEach (regFields x) (fun f t => t.writeField x v (pathSecure path) f) s := by
  rcases h with h | h <;> simp [State.writePlain, h]

theorem State.writePlain_violates (s : State) (path : Path) (x : Nat) (v : Word)
    (hp : pathSecure path = false) (h : s.srwDiffers x v (regFields x) = true) :
    s.writePlain path x v = (forEach (regFields x) (fun f t => t.writeField x v (pathSecure path) f) s).secViol path x := by
  simp [State.writePlain, hp, h]

/-- What the block that an offset lies in makes of a write of its own; none where the access codes say all. -/
def State.blockWrite (s : State) (path : Path) (x : Nat) (v : Word) : Option State :=
  if x < 0x100000 then s.writeLow path x v
  else if x < 0x140000 then s.writeLnk ((x - 0x100000) / 0x10000) (x % 0x10000) v
  else if x < 0x1C0000 ∨ 0x200000 ≤ x ∧ x < 0x210000 then s.writeHead path x v
  else if x < 0x200000 then s.writeTile path x v
  else if 0x250000 ≤ x ∧ x < 0x260000 then s.writePci x v
  else s.writeRest x v

/-- A write where no register of the node's lies does nothing (R5, R417). -/
theorem State.writeReg_ignored (s : State) (path : Path) (x : Nat) (v : Word)
    (h : s.powered = false ∨ x % 4 ≠ 0 ∨ roleUses s.role x = false) : s.writeReg path x v = s := by
  rcases h with h | h | h <;> simp [State.writeReg, h]

/-- A write with no effect of its own goes field by field. -/
theorem State.writeReg_plain (s : State) (path : Path) (x : BitVec 22) (v : Word) (hp : s.powered = true)
    (hx : x.toNat % 4 = 0) (hr : roleUses s.role x.toNat = true) (h : s.blockWrite path x.toNat v = none) :
    s.writeReg path x.toNat v = s.writePlain path x.toNat v := by
  have hlt : ¬ 0x400000 ≤ x.toNat := by have := x.isLt; omega
  unfold State.blockWrite at h
  simp [State.writeReg, hp, hx, hr, hlt, h]

/-! ### Registers whose access codes say all -/

/-- A register that no effect of its own marks is none of those so marked. -/
theorem ne_of_ownWrite {x y : Nat} (h : ownWrite x = false) (hy : ownWrite y = true) : x ≠ y := by
  rintro rfl
  simp [h] at hy

theorem State.writeLow_eq_none (s : State) (path : Path) (x : Nat) (v : Word) (h : ownWrite x = false) :
    s.writeLow path x v = none := by
  have hsrc : ¬ (Reg.ICU_SRC 0 ≤ x ∧ x < Reg.ICU_SRC 256) := by
    rintro ⟨h1, h2⟩
    simp [ownWrite, h1, h2] at h
  have ne : ∀ y, ownWrite y = true → x ≠ y := fun _ => ne_of_ownWrite h
  simp only [State.writeLow, hsrc, if_false, ne Reg.PWR_REQ rfl, ne Reg.PWR_RST rfl, ne Reg.PWR_DIM rfl, ne Reg.ICU_SETPEND rfl,
    ne Reg.ICU_CLRPEND rfl, ne (Reg.ICU_EOI 0) rfl, ne (Reg.ICU_EOI 1) rfl, ne Reg.TIME_HT_NS rfl, ne Reg.TIME_HT_SEC rfl,
    ne Reg.TIME_MASTER_CFG rfl, ne Reg.TIME_REF_CFG rfl, ne Reg.NVM_CMD rfl, ne Reg.MEM_BIST_CTL rfl, ne Reg.MEM_BIST_STAT rfl,
    ne Reg.DMC_MAP rfl]

theorem State.writeLnk_eq_none (s : State) (p x : Nat) (v : Word) (h : ownWrite x = false) (h1 : 0x100000 ≤ x) (h2 : x < 0x140000) :
    s.writeLnk p (x % 0x10000) v = none := by
  have hn : ¬ (x % 0x10000 = 0x008 ∨ x % 0x10000 = 0x208 ∨
      (x % 0x10000 % 0x40 = 0x10 ∨ x % 0x10000 % 0x40 = 0x18) ∧ 0x110 ≤ x % 0x10000 ∧ x % 0x10000 ≤ 0x198) := by
    intro hy
    apply absurd h
    rcases hy with hy | hy | ⟨hy | hy, h3, h4⟩ <;> simp [ownWrite, *]
  generalize x % 0x10000 = y at hn
  unfold State.writeLnk
  rw [if_neg (by omega), if_neg (by omega), if_neg (by omega), if_neg (by omega)]

theorem State.writeHead_eq_none (s : State) (path : Path) (x : Nat) (v : Word) (h : ownWrite x = false) :
    s.writeHead path x v = none := by
  have hready : ¬ (Reg.SRC_HREADY 0 ≤ x ∧ x < Reg.SRC_HREADY 64) := by
    rintro ⟨h1, h2⟩
    simp [ownWrite, h1, h2] at h
  have hcfg : ¬ (0x144000 ≤ x ∧ x < 0x146000 ∧ (x - 0x144000) % 0x80 < 12 ∧
      s.bit (Fld.SRC_CFG_ENABLED ((x - 0x144000) / 0x80)) = true) := by
    rintro ⟨h1, h2, h3, -⟩
    simp [ownWrite, h1, h2, h3] at h
  have ne : ∀ y, ownWrite y = true → x ≠ y := fun _ => ne_of_ownWrite h
  simp only [State.writeHead, hready, hcfg, if_false, ne (Reg.SRC_GRP_CFG 0) rfl, ne (Reg.SRC_GRP_CFG 1) rfl, ne Reg.SRC_LUT_CTL rfl,
    ne Reg.SRC_LUT_DATA rfl, ne Reg.CMP_PLANE_ORDER rfl, ne Reg.CMP_WTAB_BASE rfl, ne Reg.CMP_FILT_CTL rfl,
    ne Reg.CMP_FILT_DATA rfl, ne Reg.CMP_TTAB_BASE rfl, ne Reg.CMP_INK_CTL rfl, ne Reg.CMP_PREV_BASE rfl, ne Reg.CMP_RUNAHEAD rfl,
    ne Reg.CMP_WLUT_CTL rfl, ne Reg.CMP_WLUT_DATA rfl, ne Reg.JRN_STAGE rfl, ne Reg.JRN_CI_HI rfl]

/-- No element of a register array that is marked is a register that is not. -/
theorem find_array_eq_none {x n : Nat} {reg : Nat → Nat} (h : ownWrite x = false) (hr : ∀ k ∈ List.range n, ownWrite (reg k) = true) :
    (List.range n).find? (fun k => decide (x = reg k)) = none := by
  rw [List.find?_eq_none]
  intro k hk
  simpa using ne_of_ownWrite h (hr k hk)

theorem State.writeTile_eq_none (s : State) (path : Path) (x : Nat) (v : Word) (h : ownWrite x = false) :
    s.writeTile path x v = none := by
  have ne : ∀ y, ownWrite y = true → x ≠ y := fun _ => ne_of_ownWrite h
  simp only [State.writeTile, ne Reg.SCN_CFG rfl, ne Reg.DRV_GATE rfl, ne Reg.COR_AGE_CTL rfl, ne Reg.DRV_ADC_SEQ rfl, or_self, if_false,
    find_array_eq_none h (show ∀ k ∈ List.range 3, ownWrite (Reg.DRV_ROW_LATCH k) = true by decide)]

theorem State.writePci_eq_none (s : State) (x : Nat) (v : Word) (h : ownWrite x = false) : s.writePci x v = none := by
  have hcfg : ¬ (Reg.PCI_RING_CFG 0 ≤ x ∧ x < Reg.PCI_RING_CFG 8) := by
    rintro ⟨h1, h2⟩
    simp [ownWrite, h1, h2] at h
  have hmsix : ¬ (0x258000 ≤ x ∧ x < 0x258400) := by
    rintro ⟨h1, h2⟩
    simp [ownWrite, h1, h2] at h
  have ne : ∀ y, ownWrite y = true → x ≠ y := fun _ => ne_of_ownWrite h
  simp only [State.writePci, hcfg, hmsix, if_false, ne Reg.PCI_XLT_INV rfl, ne Reg.PCI_RING_STAT rfl,
    find_array_eq_none h (show ∀ k ∈ List.range 5, ownWrite (Reg.PCI_CH_STAT k) = true by decide)]

theorem State.writeRest_eq_none (s : State) (x : Nat) (v : Word) (h : ownWrite x = false) : s.writeRest x v = none := by
  have ne : ∀ y, ownWrite y = true → x ≠ y := fun _ => ne_of_ownWrite h
  simp only [State.writeRest, ne Reg.UPD_REC_CTL rfl, ne Reg.PMU_TIMED_CTL rfl, if_false,
    find_array_eq_none h (show ∀ k ∈ List.range 32, ownWrite (Reg.PMU_CNT_CFG k) = true by decide)]

/-- A register that no effect of its own marks has none in any block. -/
theorem State.blockWrite_eq_none (s : State) (path : Path) (x : Nat) (v : Word) (h : ownWrite x = false) :
    s.blockWrite path x v = none := by
  unfold State.blockWrite
  split_ifs with low lnk head tile pci
  · exact s.writeLow_eq_none path x v h
  · exact s.writeLnk_eq_none _ x v h (by omega) lnk
  · exact s.writeHead_eq_none path x v h
  · exact s.writeTile_eq_none path x v h
  · exact s.writePci_eq_none x v h
  · exact s.writeRest_eq_none x v h

/-! ### The two rows of register writes -/

/-- What either row for a register write answers. -/
def WriteAnswers (s : State) (x : BitVec 22) (v : Word) (path : Path) (t : State) : Prop :=
  exec (.registerWrite x v path) s = .next (after s t) ∧ exec (.srwNormalWorldWrite x v path) s = .next (after s t)

theorem writeAnswers (s : State) (x : BitVec 22) (v : Word) (path : Path) :
    WriteAnswers s x v path (s.viaPath path (fun s => s.writeReg path x.toNat v)) := ⟨rfl, rfl⟩

theorem writeAnswers_open {s : State} {path : Path} (x : BitVec 22) (v : Word) (h : s.pathOpen path = true) :
    WriteAnswers s x v path ((s.portUsed path).writeReg path x.toNat v) := by
  have ha := writeAnswers s x v path
  rwa [viaPath_open _ h] at ha

section
variable {q : State} {x : BitVec 22} {v : Word} {path : Path} (ho : q.pathOpen path = true)
  (hp : (q.portUsed path).powered = true) (hx : x.toNat % 4 = 0) (hr : roleUses (q.portUsed path).role x.toNat = true)
  (hb : (q.portUsed path).blockWrite path x.toNat v = none)
include ho hp hx hr hb

/-- A write that changes no secure field from the normal world: every field by its access code. -/
theorem writeAnswers_allowed
    (h : pathSecure path = true ∨ (q.portUsed path).srwDiffers x.toNat v (regFields x.toNat) = false) :
    WriteAnswers q x v path
      (forEach (regFields x.toNat) (fun f t => t.writeField x.toNat v (pathSecure path) f) (q.portUsed path)) := by
  have ha := writeAnswers_open x v ho
  rwa [State.writeReg_plain _ path x v hp hx hr hb, State.writePlain_allowed _ path _ v h] at ha

/-- A write that would change a secure field from the normal world: a violation besides (R370). -/
theorem writeAnswers_violates (hs : pathSecure path = false)
    (h : (q.portUsed path).srwDiffers x.toNat v (regFields x.toNat) = true) :
    WriteAnswers q x v path
      ((forEach (regFields x.toNat) (fun f t => t.writeField x.toNat v (pathSecure path) f) (q.portUsed path)).secViol path x.toNat) := by
  have ha := writeAnswers_open x v ho
  rwa [State.writeReg_plain _ path x v hp hx hr hb, State.writePlain_violates _ path _ v hs h] at ha

end

/-- Settles O44: a write goes field by field wherever its block has no effect of its own, and each access code says what its
field then holds. -/
theorem registerWritesFollowAccessCodes : Obligations.RegisterWritesFollowAccessCodes := by
  unfold Obligations.RegisterWritesFollowAccessCodes
  refine ⟨?closed, ?ignored, ?plain, ?unmarked, ?rows, ?fields⟩
  case closed =>
    intro s x v path h
    have ha := writeAnswers s x v path
    rwa [viaPath_closed _ h] at ha
  case ignored =>
    intro s x v path ho h
    have ha := writeAnswers_open x v ho
    rwa [State.writeReg_ignored _ path _ v (by simpa using h)] at ha
  case plain =>
    intro q x v path ho s hp hx hr hb u bad
    refine ⟨fun h => writeAnswers_allowed ho hp hx hr hb ?_, fun ⟨hs, h⟩ => writeAnswers_violates ho hp hx hr hb hs h⟩
    by_cases hs : pathSecure path = true
    · exact .inl hs
    · exact .inr (Bool.eq_false_iff.mpr fun h' => h ⟨Bool.eq_false_iff.mpr hs, h'⟩)
  case unmarked =>
    intro q x v path ho s hp hx hr hown u
    have hb := s.blockWrite_eq_none path x.toNat v hown
    exact ⟨fun hs => (writeAnswers_allowed ho hp hx hr hb (.inl hs)).1,
      fun _ h => (writeAnswers_allowed ho hp hx hr hb (.inr h)).1,
      fun hs h => (writeAnswers_violates ho hp hx hr hb hs h).2⟩
  case rows => exact fun s x v path => ⟨_, writeAnswers s x v path⟩
  case fields =>
    intro s x v secure f hlo hhi fld
    refine ⟨fun h => ?_, s.writeField_keeps x v secure f, fun h i => s.writeField_w1c_testBit x v secure f hlo hhi h i,
      fun h i _ => s.writeField_w1s_testBit x v secure f hlo hhi h i, fun h => ?_, fun h => ?_⟩
    · rw [s.writeField_rw x v secure f h, State.get_put_of_lt _ _ _ hlo hhi (f.bits_lt v)]
    · rw [s.writeField_srw x v secure f h]
      split
      · rw [State.get_put_of_lt _ _ _ hlo hhi (f.bits_lt v)]
      · rfl
    · rw [s.writeField_rwt x v secure f h, State.pend_regs]

end Sys2Proof.Machine
end

section
/-! PROOFS. The wake and safety pins (R7, R31, R32, R47 to R51, R284, R388): what each pin does, and the statement O31. -/

namespace Sys2Proof.Machine

/-- A row whose own effect is `w` answers the state after `w`. -/
theorem finish_eq (s : State) {u w : State} (h : u = w) : finish s u = .next (after s w) := by
  rw [h, finish]

/-! ### Waking from OFF -/

/-- The node can be woken: OFF, with POWER_OFF_N high and no reset held (R51). -/
def State.wakeable (s : State) : Prop := s.pwr.state = .off ∧ s.pwr.powerOffN = true ∧ s.pwr.held = 0

theorem State.not_wakeable {s : State} (h : s.pwr.state ≠ .off ∨ s.pwr.powerOffN = false ∨ s.pwr.held ≠ 0) : ¬ s.wakeable := by
  rintro ⟨h1, h2, h3⟩
  simp [h1, h2, h3] at h

/-- WAKE, high now or kept, takes a node that can be woken into BOOT. -/
theorem State.wakeCheck_wakes {s : State} (h : s.wakeable) (hw : s.pwr.wakePin = true ∨ s.pwr.wakeSeen = true) :
    s.wakeCheck = ((s.enterBoot true).put Fld.PWR_RST_CAUSE_WAKE_PIN 1).put Fld.PWR_RST_CAUSE_WAKE_LINK 0 := by
  obtain ⟨h1, h2, h3⟩ := h
  rcases hw with hw | hw <;> simp [State.wakeCheck, h1, h2, h3, hw]

theorem State.wakeCheck_stays {s : State} (h : ¬ s.wakeable ∨ s.pwr.wakePin = false ∧ s.pwr.wakeSeen = false) :
    s.wakeCheck = s := by
  refine if_neg ?_
  simp only [State.wakeable] at h
  simp only [Bool.and_eq_true, Bool.or_eq_true, decide_eq_true_eq]
  rintro ⟨⟨⟨h1, hw⟩, h2⟩, h3⟩
  rcases h with h | ⟨h4, h5⟩
  · exact h ⟨h1, h2, h3⟩
  · simp [h4, h5] at hw

theorem doLinkWake_wakes {s : State} {p : Nat} (h : s.wakeable) (hp : bitsOf (s.get Fld.PWR_WAKE_CFG_LINK_EN) p 1 = 1) :
    doLinkWake p s = ((s.enterBoot true).put Fld.PWR_RST_CAUSE_WAKE_LINK 1).put Fld.PWR_RST_CAUSE_WAKE_PIN 0 := by
  obtain ⟨h1, h2, h3⟩ := h
  simp [doLinkWake, h1, h2, h3, hp]

theorem doLinkWake_stays {s : State} {p : Nat} (h : ¬ s.wakeable ∨ bitsOf (s.get Fld.PWR_WAKE_CFG_LINK_EN) p 1 = 0) :
    doLinkWake p s = s := by
  refine if_neg ?_
  simp only [State.wakeable] at h
  simp only [Bool.and_eq_true, decide_eq_true_eq, beq_iff_eq]
  rintro ⟨⟨⟨h1, h2⟩, h3⟩, h4⟩
  rcases h with h | h
  · exact h ⟨h1, h2, h3⟩
  · simp [h] at h4

/-! ### Emergency off and thermal shutdown -/

section
variable (s : State)

theorem doEmergencyOff_held (h : s.pwr.held ≠ 0) :
    doEmergencyOff s = { s with pwr := { s.pwr with powerOffN := false, wakeSeen := false } } :=
  if_pos h

theorem doEmergencyOff_powered (hp : s.powered = true) (h : s.pwr.held = 0) :
    doEmergencyOff s = ({ s with pwr := { s.pwr with powerOffN := false, wakeSeen := false } }.raise
      Fld.PWR_RST_CAUSE_EOFF).driveOff.enterOff :=
  (if_neg (not_not.mpr h)).trans (if_pos hp)

theorem doEmergencyOff_unpowered (hp : s.powered = false) (h : s.pwr.held = 0) :
    doEmergencyOff s = { s with pwr := { s.pwr with powerOffN := false, wakeSeen := false } }.raise Fld.PWR_RST_CAUSE_EOFF :=
  (if_neg (not_not.mpr h)).trans (if_neg (Bool.eq_false_iff.mp hp))

theorem doShutdown_unpowered (hp : s.powered = false) : doShutdown s = s := by
  simp [doShutdown, hp]

theorem doShutdown_powered (hp : s.powered = true) :
    let u := s.driveOff.logBlot blkTHM 4 clsFATAL (s.get Fld.THM_STAT_TJ)
    doShutdown s = (({ u with pwr := { u.pwr with thermalLatch := true } }.raise Fld.PWR_RST_CAUSE_THERMAL).cleared
      .shutdown).floatDrive := by
  simp [doShutdown, hp]

end

/-! ### SAFE_N -/

section
variable {s : State}

/-- A branch and a recovery node ignore the level, and so does any node without power or without a role (R7, R31). -/
theorem State.safeLevel_ignored (h : s.role = .branch ∨ s.role = .recovery ∨ s.powered = false ∨ s.roleKnown = false) :
    s.safeLevel = s := by
  rcases h with h | h | h | h <;> simp [State.safeLevel, h]

section
variable (hn : s.pwr.safeN = false) (hp : s.powered = true) (hk : s.roleKnown = true)
include hn hp hk

theorem State.safeLevel_head (hr : s.role = .head) :
    s.safeLevel = { s with priv := { s.priv with safe := true, safeEnd := none } } := by
  simp [State.safeLevel, hn, hp, hk, hr]

theorem State.safeLevel_tile (hr : s.role = .tile) :
    s.safeLevel =
      let u := { s with priv := { s.priv with safe := true } }
      (if s.bit Fld.RED_TILE_STAT_SAFE then u else (u.raise Fld.RED_TILE_STAT_SAFE).raise Fld.RED_TILE_INT_SAFE).safeRequest := by
  simp [State.safeLevel, hn, hp, hk, hr, State.bit, State.get, State.word]

end

/-- With no transition in progress SAFE_N requests ACTIVE, unless the tile is there (R49). -/
theorem State.safeRequest_tile (hr : s.role = .tile) (hp : s.powered = true) (hk : s.roleKnown = true)
    (hn : s.pwr.safeN = false) (ht : s.pwr.trans = none) :
    s.safeRequest = { s with pwr := { s.pwr with queued := if s.pwr.state = .active then none else some (.state .active) } } := by
  have hh : s.safeHold = true := by simp [State.safeHold, hr, hk, hn]
  by_cases ha : s.pwr.state = .active <;> simp [State.safeRequest, hh, hp, ht, ha]

@[simp] theorem State.safeRequest_role (s : State) : s.safeRequest.role = s.role := by
  unfold State.safeRequest
  split_ifs <;> rfl

theorem doSafeLow_ignored (h : s.role = .branch ∨ s.role = .recovery ∨ s.powered = false ∨ s.roleKnown = false)
    (hh : s.role = .head → s.running = false) : doSafeLow s = { s with pwr := { s.pwr with safeN := false } } := by
  unfold doSafeLow
  rw [State.safeLevel_ignored (s := { s with pwr := { s.pwr with safeN := false } }) h]
  refine if_neg ?_
  rintro ⟨hr, hrun⟩
  exact Bool.eq_false_iff.mp (hh hr) hrun

section
variable (hp : s.powered = true) (hk : s.roleKnown = true)
include hp hk

theorem doSafeLow_head (hr : s.role = .head) :
    let u := { s with pwr := { s.pwr with safeN := false }, priv := { s.priv with safe := true, safeEnd := none } }
    doSafeLow s = if s.running then u.showLate else u := by
  intro u
  unfold doSafeLow
  rw [State.safeLevel_head (s := { s with pwr := { s.pwr with safeN := false } }) rfl hp hk hr]
  exact if_congr (and_iff_right hr) rfl rfl

theorem doSafeLow_tile (hr : s.role = .tile) :
    let u := { s with pwr := { s.pwr with safeN := false }, priv := { s.priv with safe := true } }
    doSafeLow s =
      (if s.bit Fld.RED_TILE_STAT_SAFE then u else (u.raise Fld.RED_TILE_STAT_SAFE).raise Fld.RED_TILE_INT_SAFE).safeRequest := by
  intro u
  unfold doSafeLow
  rw [State.safeLevel_tile (s := { s with pwr := { s.pwr with safeN := false } }) rfl hp hk hr]
  refine if_neg ?_
  rintro ⟨hh, -⟩
  rw [State.safeRequest_role] at hh
  split_ifs at hh <;> cases hr.symm.trans hh

end

theorem doSafeHigh_head (hr : s.role = .head) : doSafeHigh s = { s with
    pwr := { s.pwr with safeN := true }
    priv := { s.priv with safeEnd := if s.priv.safe then some (s.clk.fn + 1) else none } } := by
  simp [doSafeHigh, hr]

theorem doSafeHigh_ignored (hr : s.role = .branch ∨ s.role = .recovery) : doSafeHigh s = { s with
    pwr := { s.pwr with safeN := true }
    priv := { s.priv with safe := false } } := by
  rcases hr with hr | hr <;> simp [doSafeHigh, hr]

theorem doSafeHigh_tile (hr : s.role = .tile) :
    let u := { s with pwr := { s.pwr with safeN := true }, priv := { s.priv with safe := false } }
    doSafeHigh s = (if s.bit Fld.RED_TILE_STAT_SAFE then u.raise Fld.RED_TILE_INT_SAFE else u).put Fld.RED_TILE_STAT_SAFE 0 := by
  simp only [doSafeHigh, hr, State.bit, State.get, State.word]
  split_ifs <;> rfl

/-- The cause that SAFE_N high ends at tick `g` shows in the frames before it and is removed at that tick (R284). -/
theorem State.safe_ends_at (n : Word) {g : Word} (h : s.priv.safeEnd = some g) :
    s.safeFor n = (s.priv.safe && earlier n g) ∧
      s.safeTick n = if later g n then s else { s with priv := { s.priv with safe := false, safeEnd := none } } := by
  simp [State.safeFor, State.safeTick, h]

end

/-! ### The statement -/

/-- Settles O31, pin by pin: each row answers what its pin does. -/
theorem wakeAndSafetyPinsAct : Obligations.WakeAndSafetyPinsAct := by
  unfold Obligations.WakeAndSafetyPinsAct
  refine ⟨?wakes, ?wakeShows, ?linkStays, ?linkWakes, ?off, ?offHeld, ?offUnpowered, ?releaseStays, ?shutdownUnpowered, ?releaseWakes,
    ?shutdown, ?lowTile, ?requests, ?lowHead, ?lowIgnored, ?highHead, ?ends, ?highIgnored, ?highTile, fun _ => rfl⟩
  case wakes =>
    intro s stays h1 h2 h3 t u
    have hu : t.wakeCheck = u := State.wakeCheck_wakes ⟨h1, h2, h3⟩ (.inl rfl)
    exact finish_eq s (congrArg (fun w : State => { w with pwr := { w.pwr with wakePin := stays } }) hu)
  case wakeShows =>
    intro s stays h
    let t : State := { s with pwr := { s.pwr with wakePin := true, wakeSeen := s.pwr.wakeSeen || s.target == some (PReq.state .off) } }
    have ht : t.wakeCheck = t := State.wakeCheck_stays (.inl (State.not_wakeable h))
    exact finish_eq s (congrArg (fun w : State => { w with pwr := { w.pwr with wakePin := stays } }) ht)
  case linkStays =>
    refine fun s p h => finish_eq s (doLinkWake_stays ?_)
    rcases h with h | h | h | h
    · exact .inl (State.not_wakeable (.inl h))
    · exact .inl (State.not_wakeable (.inr (.inl h)))
    · exact .inl (State.not_wakeable (.inr (.inr h)))
    · exact .inr h
  case linkWakes => exact fun s p h1 h2 h3 hp => finish_eq s (doLinkWake_wakes ⟨h1, h2, h3⟩ hp)
  case off => exact fun s hp h => finish_eq s (doEmergencyOff_powered s hp h)
  case offHeld => exact fun s h => finish_eq s (doEmergencyOff_held s h)
  case offUnpowered => exact fun s hp h => finish_eq s (doEmergencyOff_unpowered s hp h)
  case releaseStays =>
    refine fun s h => finish_eq s (State.wakeCheck_stays ?_)
    rcases h with h | h | h
    · exact .inl (State.not_wakeable (.inl h))
    · exact .inl (State.not_wakeable (.inr (.inr h)))
    · exact .inr h
  case shutdownUnpowered => exact fun s hp => finish_eq s (doShutdown_unpowered s hp)
  case releaseWakes => exact fun s h hw hh => finish_eq s (State.wakeCheck_wakes ⟨h, rfl, hh⟩ hw)
  case shutdown => exact fun s hp => finish_eq s (doShutdown_powered s hp)
  case lowTile =>
    intro s hr hp hk u
    have hd := doSafeLow_tile hp hk hr
    exact ⟨fun hb => finish_eq s (hd.trans (by rw [hb]; rfl)), fun hb => finish_eq s (hd.trans (by rw [hb]; rfl))⟩
  case requests => exact fun s => State.safeRequest_tile
  case lowHead => exact fun s hr hp hk => finish_eq s (doSafeLow_head hp hk hr)
  case lowIgnored => exact fun s h hh => finish_eq s (doSafeLow_ignored h hh)
  case highHead => exact fun s hr => finish_eq s (doSafeHigh_head hr)
  case ends =>
    intro s g n h
    obtain ⟨hf, ht⟩ := State.safe_ends_at n h
    exact ⟨hf, fun hl => by rw [ht, hl]; rfl, fun hl => by rw [ht, hl]; rfl⟩
  case highIgnored => exact fun s hr => finish_eq s (doSafeHigh_ignored hr)
  case highTile =>
    intro s hr u
    have hd := doSafeHigh_tile hr
    exact ⟨fun hb => finish_eq s (hd.trans (by rw [hb]; rfl)), fun hb => finish_eq s (hd.trans (by rw [hb]; rfl))⟩

end Sys2Proof.Machine
end

section
/-! PROOFS. The performance monitor (R4, R187, R393 to R395): timed actions, counters and snapshots, and the statement O42. -/

namespace Sys2Proof.Machine

/-! ### Timed actions and counters -/

section
variable (s : State)

/-- A value with ARM and without LATE: the action is scheduled when its DTIME is later, else applied at once (R394). -/
theorem doTimedArm_arms (v : Word) (hp : s.powered = true) (hl : wbits v 30 30 = 0) (ha : wbits v 31 31 = 1) :
    let t := s.put Fld.PMU_TIMED_CTL_ACTION (wbits v 1 0)
    doTimedArm v s = if later (t.word Reg.PMU_TIMED_AT) s.clk.dtime then t.raise Fld.PMU_TIMED_CTL_ARM
      else t.pmuApply.raise Fld.PMU_TIMED_CTL_LATE := by
  simp [doTimedArm, hp, hl, ha]

theorem doTimedAction_acts (hp : s.powered = true) (hr : s.actingRole ≠ .recovery) (ha : s.bit Fld.PMU_TIMED_CTL_ARM = true) :
    doTimedAction s = (s.advanceTo (s.word Reg.PMU_TIMED_AT)).pmuApply := by
  simp [doTimedAction, hp, hr, ha]

theorem doTimedAction_recovery (hr : s.actingRole = .recovery) : doTimedAction s = s := by
  simp [doTimedAction, hr]

theorem doCntLoRead_latches (n : Nat) (hp : s.powered = true) (hr : s.role ≠ .recovery) :
    doCntLoRead n s = State.emit { s with pmu := { s.pmu with latch := setAt s.pmu.latch n (s.pmu.cnt.getD n 0 / 2 ^ 32) } }
      (.readValue (Reg.PMU_CNT_LO n) (wd (s.pmu.cnt.getD n 0))) := by
  simp [doCntLoRead, State.readCntLo, hp, hr]

theorem doCounterClear_powered (n : Nat) (v : Word) (hp : s.powered = true) :
    let t := s.setWord (Reg.PMU_CNT_CFG n) (v &&& 0xFFFFC1FF)
    doCounterClear n v s = if wbits v 13 13 = 1 then t.setCount n 0 else t := by
  simp [doCounterClear, hp]

end

/-! ### Snapshots -/

/-- The snapshots queued with one more, after those of its instant or before it (R395). -/
def snapInsert (q : List (Nat × Nat × Word × NodeId)) (e : Nat × Nat × Word × NodeId) : List (Nat × Nat × Word × NodeId) :=
  q.filter (fun d => !(later d.2.2.1 e.2.2.1)) ++ [e] ++ q.filter (fun d => later d.2.2.1 e.2.2.1)

theorem snapInsert_length (q : List (Nat × Nat × Word × NodeId)) (e : Nat × Nat × Word × NodeId) :
    (snapInsert q e).length = q.length + 1 := by
  have h := List.length_eq_length_filter_add (l := q) (fun d => later d.2.2.1 e.2.2.1)
  simp only [snapInsert, List.length_append, List.length_singleton]
  omega

section
variable {s : State} (id scope : Nat) (a : Word) (src : NodeId)

theorem State.queueSnap_recovery (hr : s.actingRole = .recovery) : s.queueSnap id scope a src = s :=
  if_pos hr

theorem State.queueSnap_late (hr : s.actingRole ≠ .recovery) (h : s.passed a = true ∨ 4 ≤ s.pmu.queue.length) :
    s.queueSnap id scope a src = s.snapLate id src :=
  (if_neg hr).trans (if_pos (by simpa using h))

theorem State.queueSnap_queues (hr : s.actingRole ≠ .recovery) (hp : s.passed a = false) (hq : s.pmu.queue.length < 4) :
    s.queueSnap id scope a src = { s with pmu := { s.pmu with queue := snapInsert s.pmu.queue (id, scope, a, src) } }.put
      Fld.PMU_SNAP_STAT_PENDING (snapInsert s.pmu.queue (id, scope, a, src)).length :=
  (if_neg hr).trans (if_neg (by simp [hp, hq]))

theorem doSnapInstant_recovery (hr : s.actingRole = .recovery) : doSnapInstant s = s := by
  unfold doSnapInstant
  split
  · rfl
  · simp [hr]

/-- At the instant of the first snapshot queued, by whether the monitor is gated (R395). -/
theorem doSnapInstant_acts {rest : List (Nat × Nat × Word × NodeId)} (hrun : s.running = true) (hr : s.actingRole ≠ .recovery)
    (hq : s.pmu.queue = (id, scope, a, src) :: rest) :
    let t := s.advanceTo a
    let u := { t with pmu := { t.pmu with queue := rest } }.put Fld.PMU_SNAP_STAT_PENDING rest.length
    doSnapInstant s = if u.bit Fld.SEC_GATE_PMU_CG then u.snapLate id src
      else (((u.snapCopy scope).put Fld.PMU_SNAP_STAT_SNAP_ID id).setWord Reg.PMU_SNAP_T a).raise Fld.PMU_INT_SNAP := by
  simp [doSnapInstant, hq, hrun, hr]

end

/-- Settles O42: each row of the monitor, by what its operation does. -/
theorem performanceMonitorActs : Obligations.PerformanceMonitorActs := by
  unfold Obligations.PerformanceMonitorActs
  refine ⟨?arm, ?act, ?read, ?clear, ?snap, ?queue, ?recovery, ?instant⟩
  case arm =>
    intro s v hp hr hl ha t
    have hd := (write_timed_ctl s v (.quill false) hp hr).trans (doTimedArm_arms s v hp hl ha)
    exact ⟨fun h => finish_eq s (hd.trans (if_pos h)), fun h => finish_eq s (hd.trans (if_neg (Bool.eq_false_iff.mp h)))⟩
  case act => exact fun s hp hr ha => finish_eq s (doTimedAction_acts s hp hr ha)
  case read => exact fun s n hp hr => finish_eq s (doCntLoRead_latches s n.val hp hr)
  case clear =>
    exact fun s n v hp hr => finish_eq s ((write_cnt_cfg s n v (.quill false) hp hr).trans (doCounterClear_powered s n.val v hp))
  case snap =>
    intro s t x b ht hk hty
    refine finish_eq s ((receive_taken s x b t _ _ ht).trans ?_)
    simp [hk, hty]
  case queue =>
    refine fun s id scope a src hr => ⟨fun hp hq => ?_, State.queueSnap_late id scope a src hr⟩
    have hlt : s.pmu.queue.length + 1 < 2 ^ Fld.PMU_SNAP_STAT_PENDING.width := Nat.lt_of_lt_of_le (Nat.succ_lt_succ hq) (by decide)
    rw [State.queueSnap_queues id scope a src hr hp hq, snapInsert_length]
    exact ⟨snapInsert_length _ _, State.get_put_of_lt _ _ _ (by decide) (by decide) hlt⟩
  case recovery =>
    exact fun s id scope a src hr => ⟨State.queueSnap_recovery id scope a src hr, finish_eq s (doSnapInstant_recovery hr),
      finish_eq s (doTimedAction_recovery s hr)⟩
  case instant =>
    intro s id scope a src rest hrun hr hq t u
    have hd := doSnapInstant_acts id scope a src hrun hr hq
    exact ⟨fun h => finish_eq s (hd.trans (if_neg (Bool.eq_false_iff.mp h))), fun h => finish_eq s (hd.trans (if_pos h))⟩

end Sys2Proof.Machine
end

section
/-! PROOFS. The start of a tick (R25, R46, R196, R199): what time that passes leaves of FN, what TICK_START does with power and
without, and the statement O46. -/

namespace Sys2Proof.Machine

/-! ### Time that passes within a tick -/

section
variable (s : State)

/-- FN counts ticks, not time: house time and DTIME move, wraps and rollovers included, and the running tick stays (R196, R197). -/
@[simp] theorem State.elapse_fn (n : Nat) : (s.elapse n).clk.fn = s.clk.fn := by
  simp only [State.elapse]
  split_ifs <;> simp

@[simp] theorem State.advanceTo_fn (d : Word) : (s.advanceTo d).clk.fn = s.clk.fn := by
  unfold State.advanceTo
  split_ifs
  · exact s.elapse_fn _
  · rfl

/-! ### The tick boundary -/

theorem doTickStart_unpowered (hp : s.powered = false) : doTickStart s = s :=
  if_pos (by simp [hp])

/-- A powered node adopts the schedule that has come before it lets time run to the tick by that schedule; the lead and the
registers that wait take effect before the frame, the units and the node do their work (R25, R46, R199). -/
theorem doTickStart_powered (hp : s.powered = true) :
    let n := s.clk.fn + 1
    let a := s.adoptSched n
    let t := ((((a.advanceTo (a.startOf n)).stepTick.beginTick n (s.startOf s.clk.fn)).tally 0x1C3).leadSwitch n)
    let u := (((t.rwtTick n).frameTick (t.waits Reg.SCN_CFG) ((List.range 3).any (fun c => t.waits (Reg.COR_CEIL_WALL c)))).unitTick).nodeTickWork n
    doTickStart s = if u.role = .tile then u.notePars else u :=
  if_neg (by simp [hp])

end

/-- Settles O46: TICK_START by whether the node is powered, and the advance to the tick's instant leaves FN to the tick itself. -/
theorem tickStartsTheNextFrame : Obligations.TickStartsTheNextFrame := by
  unfold Obligations.TickStartsTheNextFrame
  refine ⟨?powered, ?unpowered, State.advanceTo_fn⟩
  case powered => exact fun s hp => finish_eq s (doTickStart_powered s hp)
  case unpowered => exact fun s hp => finish_eq s (doTickStart_unpowered s hp)

end Sys2Proof.Machine
end

section
/-! PROOFS. Accesses over a path (R32, R33): what a used port leaves alone, and what a row of an access answers. -/

namespace Sys2Proof.Machine

/-! ### What a used port leaves alone -/

section
variable (s : State) (path : Path)

@[simp] theorem portUsed_pwrOpen : (s.portUsed path).pwrOpen = s.pwrOpen := by cases path <;> rfl
@[simp] theorem portUsed_reqRefused (r : PReq) : (s.portUsed path).reqRefused r = s.reqRefused r := by
  cases path <;> rfl
@[simp] theorem portUsed_trans : (s.portUsed path).pwr.trans = s.pwr.trans := by cases path <;> rfl
@[simp] theorem portUsed_state : (s.portUsed path).pwr.state = s.pwr.state := by cases path <;> rfl
@[simp] theorem portUsed_running : (s.portUsed path).running = s.running := by cases path <;> rfl
@[simp] theorem portUsed_nvmPage (p : Nat) : (s.portUsed path).nvmPage p = s.nvmPage p := by cases path <;> rfl
@[simp] theorem portUsed_word (x : Nat) : (s.portUsed path).word x = s.word x := by simp [State.word]
@[simp] theorem portUsed_get (f : Fld) : (s.portUsed path).get f = s.get f := by simp [State.get]
@[simp] theorem portUsed_bit (f : Fld) : (s.portUsed path).bit f = s.bit f := by simp [State.bit]

end

/-! ### Rows of accesses over a path -/

section
variable {s : State} {path : Path}

/-- A row of an access over a path that the node ignores changes nothing. -/
theorem finish_viaPath_closed (f : State → State) (h : s.pathOpen path = false) : finish s (s.viaPath path f) = .next (after s s) :=
  finish_eq s (viaPath_closed f h)

/-- A row of an access over a path that reaches the node does what the access does. -/
theorem finish_viaPath_open {f : State → State} {w : State} (h : s.pathOpen path = true) (hf : f (s.portUsed path) = w) :
    finish s (s.viaPath path f) = .next (after s w) :=
  finish_eq s ((viaPath_open f h).trans hf)

end

end Sys2Proof.Machine
end

section
/-! PROOFS. Requests for power states and the warm-reset key (R42 to R49, R341): what a write of PWR_REQ and of PWR_RST does, and the
statement O27. -/

namespace Sys2Proof.Machine

section
variable {s : State} {path : Path}

/-! ### Requests -/

/-- What PWR_REQ.REQ shows does not decide whether a request is refused. -/
@[simp] theorem State.reqRefused_put_req (s : State) (v : Nat) (r : PReq) :
    (s.put Fld.PWR_REQ_REQ v).reqRefused r = s.reqRefused r := by
  have ht : (s.put Fld.PWR_REQ_REQ v).get Fld.DMC_STAT_TRAINFAIL = s.get Fld.DMC_STAT_TRAINFAIL :=
    State.get_put_off s _ _ v (by decide)
  unfold State.reqRefused
  rw [ht]
  rfl

theorem State.reqRefused_of_safeHold (r : PReq) (h : s.safeHold = true) : s.reqRefused r = true := by
  simp [State.reqRefused, h]

theorem State.request_refused {r : PReq} (h : s.reqRefused r = true) : s.request r = (false, s.raise Fld.PWR_REQ_ERR) :=
  if_pos h

theorem State.request_shown {p : PState} (h : s.reqRefused (.state p) = false) (ht : s.pwr.trans = none) (hs : s.pwr.state = p) :
    s.request (.state p) = (true, s) := by
  simp [State.request, h, ht, hs]

theorem State.request_filed {r : PReq} (h : s.reqRefused r = false) (hn : ¬(s.pwr.trans = none ∧ r = .state s.pwr.state)) :
    s.request r = (true, { s with pwr := { s.pwr with queued := some r } }) := by
  simp [State.request, h, hn]

/-! ### Writes of PWR_REQ that name a state -/

variable {p : PState}

theorem State.writeReq_open (p : PState) (ho : s.pwrOpen = true) :
    s.writeReq p = ((s.put Fld.PWR_REQ_REQ p.code).request (.state p)).2 := by
  simp [State.writeReq, ho]

theorem State.writeReq_refused (ho : s.pwrOpen = true) (h : s.reqRefused (.state p) = true) :
    s.writeReq p = (s.put Fld.PWR_REQ_REQ p.code).raise Fld.PWR_REQ_ERR := by
  rw [State.writeReq_open p ho, State.request_refused (by simpa using h)]

theorem State.writeReq_shown (ho : s.pwrOpen = true) (h : s.reqRefused (.state p) = false) (ht : s.pwr.trans = none)
    (hs : s.pwr.state = p) : s.writeReq p = s.put Fld.PWR_REQ_REQ p.code := by
  rw [State.writeReq_open p ho, State.request_shown (by simpa using h) (by simpa using ht) (by simpa using hs)]

theorem State.writeReq_filed (ho : s.pwrOpen = true) (h : s.reqRefused (.state p) = false)
    (hn : ¬(s.pwr.trans = none ∧ s.pwr.state = p)) :
    s.writeReq p = { s.put Fld.PWR_REQ_REQ p.code with pwr := { s.pwr with queued := some (.state p) } } := by
  rw [State.writeReq_open p ho, State.request_filed (by simpa using h) (by simpa [eq_comm] using hn)]
  rfl

/-- A value of PWR_REQ.REQ that names BOOT, SHUTDOWN or no state is no request. -/
theorem reqState_eq_none {v : Nat} (h : v = 1 ∨ 6 ≤ v) : reqState v = none := by
  rcases h with rfl | h
  · rfl
  · obtain ⟨k, rfl⟩ := Nat.exists_eq_add_of_le' h
    rfl

theorem State.writeReqValue_invalid {v : Nat} (ho : s.pwrOpen = true) (h : v = 1 ∨ 6 ≤ v) :
    s.writeReqValue v = (s.put Fld.PWR_REQ_REQ v).raise Fld.PWR_REQ_ERR := by
  simp [State.writeReqValue, reqState_eq_none h, ho]

/-! ### The warm-reset key -/

theorem doWarmReset_files (ho : s.pwrOpen = true) (h : s.safeHold = false) :
    doWarmReset 0xB007 s = { s with pwr := { s.pwr with queued := some .warm } } := by
  have hr : s.reqRefused .warm = false := by simp [State.reqRefused, h]
  simp [doWarmReset, ho, State.request_filed hr]

theorem doWarmReset_ignored (s : State) {k : BitVec 16} (h : k ≠ 0xB007) : doWarmReset k s = s := by
  refine if_neg ?_
  simp only [Bool.and_eq_true, beq_iff_eq, not_and]
  exact fun _ => h

end

/-! ### The rows of PWR_REQ -/

/-- The row `i` is a write of PWR_REQ over `path` that names `p`. -/
def WritesReq (i : Instr) (p : PState) (path : Path) : Prop :=
  ∀ s : State, exec i s = finish s (s.viaPath path (fun t => t.writeReq p))

section
variable (path : Path)

theorem writesReq_off : WritesReq (.pwrReqOff path) .off path := fun _ => rfl
theorem writesReq_ready : WritesReq (.pwrReqReady path) .ready path := fun _ => rfl
theorem writesReq_active : WritesReq (.pwrReqActive path) .active path := fun _ => rfl
theorem writesReq_dim : WritesReq (.pwrReqDim path) .dim path := fun _ => rfl
theorem writesReq_park : WritesReq (.pwrReqPark path) .park path := fun _ => rfl

theorem writesReq_named {path : Path} {i : Instr} {p : PState}
    (h : i = .pwrReqOff path ∧ p = .off ∨ i = .pwrReqReady path ∧ p = .ready ∨ i = .pwrReqActive path ∧ p = .active ∨
      i = .pwrReqDim path ∧ p = .dim ∨ i = .pwrReqPark path ∧ p = .park) : WritesReq i p path := by
  rcases h with ⟨rfl, rfl⟩ | ⟨rfl, rfl⟩ | ⟨rfl, rfl⟩ | ⟨rfl, rfl⟩ | ⟨rfl, rfl⟩
  exacts [writesReq_off path, writesReq_ready path, writesReq_active path, writesReq_dim path, writesReq_park path]

end

section
variable {i : Instr} {p : PState} {s : State} {path : Path}

theorem WritesReq.closed (hi : WritesReq i p path) (h : s.pathOpen path = false) : exec i s = .next (after s s) :=
  (hi s).trans (finish_viaPath_closed _ h)

variable (hi : WritesReq i p path) (hp : s.pathOpen path = true) (ho : s.pwrOpen = true)
include hi hp ho

theorem WritesReq.refused (h : s.reqRefused (.state p) = true) :
    exec i s = .next (after s (((s.portUsed path).put Fld.PWR_REQ_REQ p.code).raise Fld.PWR_REQ_ERR)) :=
  (hi s).trans (finish_viaPath_open hp (State.writeReq_refused (by simpa using ho) (by simpa using h)))

/-- A request that is not refused is filed, unless it names the state the node stays in (R45, R47). -/
theorem WritesReq.accepted (h : s.reqRefused (.state p) = false) :
    let u := s.portUsed path
    (¬(s.pwr.trans = none ∧ s.pwr.state = p) →
      exec i s = .next (after s { u.put Fld.PWR_REQ_REQ p.code with pwr := { u.pwr with queued := some (.state p) } })) ∧
    (s.pwr.trans = none → s.pwr.state = p → exec i s = .next (after s (u.put Fld.PWR_REQ_REQ p.code))) :=
  ⟨fun hn => (hi s).trans (finish_viaPath_open hp (State.writeReq_filed (by simpa using ho) (by simpa using h) (by simpa using hn))),
    fun ht hs => (hi s).trans
      (finish_viaPath_open hp (State.writeReq_shown (by simpa using ho) (by simpa using h) (by simpa using ht) (by simpa using hs)))⟩

end

/-! ### Which requests are refused -/

section
variable {s : State} {p : PState}

theorem State.reqRefused_dim (hr : s.role ≠ .tile) : s.reqRefused (.state .dim) = true := by
  simp [State.reqRefused, hr]

/-- A head whose DRAM training failed refuses the states in which it composes (R341). -/
theorem State.reqRefused_untrained (hp : p = .active ∨ p = .park) (hr : s.role = .head) (ht : s.get Fld.DMC_STAT_TRAINFAIL ≠ 0) :
    s.reqRefused (.state p) = true := by
  rcases hp with rfl | rfl <;> simp [State.reqRefused, hr, ht]

/-- What can be requested while SAFE_N holds nothing: OFF and READY; DIM at a tile; ACTIVE and PARK but at an untrained head. -/
theorem State.reqRefused_eq_false (hh : s.safeHold = false)
    (h : p = .off ∨ p = .ready ∨ (p = .dim ∧ s.role = .tile) ∨
      (p = .active ∨ p = .park) ∧ (s.role ≠ .head ∨ s.get Fld.DMC_STAT_TRAINFAIL = 0)) : s.reqRefused (.state p) = false := by
  rcases h with rfl | rfl | ⟨rfl, hr⟩ | ⟨rfl | rfl, hr | hr⟩ <;> simp [State.reqRefused, *]

end

/-- Settles O27: every row of PWR_REQ writes a state, and the request is refused, only shown or filed. -/
theorem powerRequestsAreFiled : Obligations.PowerRequestsAreFiled := by
  unfold Obligations.PowerRequestsAreFiled
  refine ⟨?closed, ?accepted, ?refused, ?invalid, ?warm, ?otherKey⟩
  case closed =>
    exact fun s path h => ⟨(writesReq_off path).closed h, (writesReq_ready path).closed h, (writesReq_active path).closed h,
      (writesReq_dim path).closed h, (writesReq_park path).closed h, fun v => finish_viaPath_closed _ h⟩
  case accepted =>
    intro i p s path h hp ho hh
    rcases h with ⟨rfl, rfl⟩ | ⟨rfl, rfl⟩ | ⟨rfl, rfl, hr⟩ | ⟨rfl, rfl, hr⟩ | ⟨rfl, rfl, hr⟩
    · exact (writesReq_off path).accepted hp ho (State.reqRefused_eq_false hh (by simp))
    · exact (writesReq_ready path).accepted hp ho (State.reqRefused_eq_false hh (by simp))
    · exact (writesReq_active path).accepted hp ho (State.reqRefused_eq_false hh (by simp [hr]))
    · exact (writesReq_dim path).accepted hp ho (State.reqRefused_eq_false hh (by simp [hr]))
    · exact (writesReq_park path).accepted hp ho (State.reqRefused_eq_false hh (by simp [hr]))
  case refused =>
    intro i p s path h hp ho
    rcases h with ⟨h, hh⟩ | ⟨rfl, rfl, hr⟩ | ⟨h, hr, ht⟩
    · exact (writesReq_named h).refused hp ho (s.reqRefused_of_safeHold _ hh)
    · exact (writesReq_dim path).refused hp ho (State.reqRefused_dim hr)
    · rcases h with ⟨rfl, rfl⟩ | ⟨rfl, rfl⟩
      · exact (writesReq_active path).refused hp ho (State.reqRefused_untrained (.inl rfl) hr ht)
      · exact (writesReq_park path).refused hp ho (State.reqRefused_untrained (.inr rfl) hr ht)
  case invalid =>
    intro s path v hp ho hv
    have hn : v.toNat = 1 ∨ 6 ≤ v.toNat := hv.imp (by rintro rfl; rfl) id
    exact finish_viaPath_open hp (State.writeReqValue_invalid (by simpa using ho) hn)
  case warm => exact fun s ho hh => finish_eq s (doWarmReset_files ho hh)
  case otherKey => exact fun s k hk => finish_eq s (doWarmReset_ignored s hk)

end Sys2Proof.Machine
end

section
/-! PROOFS. How BOOT completes (R36 to R38, R336, R373, R381): the SRAM clear, the strap samples, the firmware start, and the
statement O32. -/

namespace Sys2Proof.Machine

section
variable {s : State}

/-! ### The SRAM clear -/

theorem doSramClear_clears (hb : s.pwr.state = .boot) (hc : s.bit Fld.MEM_STAT_CLEARED = false) (hw : s.pwr.bootWait = false) :
    let u := forEach (List.range 16) (fun n t => t.setWord (Reg.MEM_ECC n) 0) ((s.raise Fld.MEM_STAT_CLEARED).setWord Reg.MEM_COLL 0)
    doSramClear s = { u with mem := { u.mem with upsets := [], poison := [], clearing := [] } } :=
  if_pos ⟨hb, hc, hw⟩

/-! ### The straps -/

theorem strapsAgree_of_three (a : Straps) : strapsAgree [a, a, a] 0 = some (3, a) := by
  simp [strapsAgree]

theorem strapsAgree_of_last_three {a b : Straps} (h : a ≠ b) : strapsAgree [b, a, a, a] 0 = some (4, a) := by
  simp [strapsAgree, h.symm]

section
variable {l : List Straps} (hb : s.pwr.state = .boot) (hs : s.pwr.strapped = false)
include hb hs

theorem doStraps_agreed {n : Nat} {v : Straps} (h : strapsAgree l 0 = some (n, v)) :
    doStraps l s = s.takeStraps v.role.toNat v.boot.toNat n false := by
  simp [doStraps, hb, hs, h]

theorem doStraps_unstable (h : strapsAgree l 0 = none) (hl : 100 ≤ l.length) : doStraps l s = s.takeStraps 3 0 100 true := by
  simp [doStraps, hb, hs, h, hl]

end

/-! ### The firmware start -/

/-- The version registers do not change the role. -/
@[simp] theorem State.slotVersions_role (s : State) : s.slotVersions.role = s.role :=
  forEach_keeps _ _ (fun u => u.role = s.role) s rfl (fun _ _ h => h)

/-- What starts once BOOT has cleared the SRAM and taken the straps: the recovery loader in the recovery role and where no slot
is valid, else the image of the slot that the ROM chose (R373, R381). -/
def State.imageRuns (s : State) (iref : Nat) (settings : List Setting) : State :=
  if s.role = .recovery then s.recoveryUp
  else match s.chooseSlot with
    | (some slot, t) => t.firmwareUp slot iref settings
    | (none, t) => t.recoveryUp

/-- Firmware may start: in BOOT with SRAM cleared, the straps taken, the required rails good and no debug hold (R36, R373). -/
structure FirmwareDue (s : State) : Prop where
  boot     : s.pwr.state = .boot
  cleared  : s.bit Fld.MEM_STAT_CLEARED = true
  strapped : s.pwr.strapped = true
  rails    : s.pwr.bootWait = false
  free     : s.quill.debug = false
  first    : s.pwr.fwStarted = false

theorem doFirmwareStart_due (h : FirmwareDue s) (iref : Nat) (settings : List Setting) :
    let u := s.slotVersions.imageRuns iref settings
    doFirmwareStart iref settings s = { u with pwr := { u.pwr with fwStarted := true } }.workIsDone := by
  have hd : ¬((decide (s.pwr.state ≠ .boot) || !(s.bit Fld.MEM_STAT_CLEARED) || !(s.pwr.strapped) || s.pwr.bootWait ||
      s.quill.debug || s.pwr.fwStarted) = true) := by
    simp [h.boot, h.cleared, h.strapped, h.rails, h.free, h.first]
  exact if_neg hd

end

/-- Settles O32: each row that completes BOOT, by what its operation does. -/
theorem bootCompletes : Obligations.BootCompletes := by
  unfold Obligations.BootCompletes
  refine ⟨?clear, ?agreed, ?unstable, ?three, ?working, ?recovery⟩
  case clear => exact fun s hb hc hw => finish_eq s (doSramClear_clears hb hc hw)
  case agreed => exact fun s l n v hb hs h => finish_eq s (doStraps_agreed hb hs h)
  case unstable => exact fun s l hb hs h hl => finish_eq s (doStraps_unstable hb hs h hl)
  case three => exact fun a b => ⟨strapsAgree_of_three a, strapsAgree_of_last_three⟩
  case working =>
    intro s code l hb hc hs hw hd hf hr u
    have hu : s.slotVersions.imageRuns code.toNat l = u := if_neg (by simpa using hr)
    have h := doFirmwareStart_due ⟨hb, hc, hs, hw, hd, hf⟩ code.toNat l
    rw [hu] at h
    exact finish_eq s h
  case recovery =>
    intro s code l hb hc hs hw hd hf hr
    have hu : s.slotVersions.imageRuns code.toNat l = s.slotVersions.recoveryUp := if_pos (by simpa using hr)
    have h := doFirmwareStart_due ⟨hb, hc, hs, hw, hd, hf⟩ code.toNat l
    rw [hu] at h
    exact finish_eq s h

end Sys2Proof.Machine
end

section
/-! PROOFS. Registers of a tile and of the memories, and the MRAM commands (R238, R251, R338, R361 to R366): what each write and each
command does, and the statement O37. -/

namespace Sys2Proof.Machine

section
variable {s : State}

/-! ### Registers of a tile -/

section
variable (v : Word) (hr : s.role = .tile) (hp : s.powered = true)
include hr hp

theorem doAgeNow_tile :
    let t := (s.put Fld.COR_AGE_CTL_PERIOD (wbits v 15 8)).pend Reg.COR_AGE_CTL 3 v
    doAgeNow v s = if wbits v 31 31 = 1 ∧ t.ageMode ≤ 1 then (t.raise Fld.COR_AGE_CTL_NOW).ageRequest else t :=
  if_neg (by simp [hr, hp])

theorem doRowRelease_tile (w : Nat) :
    doRowRelease w v s = forEach (List.range 32) (fun n t =>
      if wbits v n n = 1 ∧ t.latchedRow (32 * w + n) = true then
        let u := t.put ⟨Reg.DRV_ROW_LATCH w, n, n⟩ 0
        (State.changeFlags { u with drive := { u.drive with
          tripRun := SMap.set (fun _ => 0) u.drive.tripRun (32 * w + n) 0
          tripped := u.drive.tripped.filter (fun q => decide (q ≠ 32 * w + n)) } } (u.rowLamps (32 * w + n)) 0 1).raise
          Fld.DRV_INT_LAMP
      else t) s :=
  if_neg (by simp [hr, hp])

end

/-! ### The self-test of a bank -/

theorem doBistStart_running (v : Word) (path : Path) (h : s.running = true) :
    let t := s.put Fld.MEM_BIST_CTL_BANK (wbits v 3 0)
    doBistStart v path s = if wbits v 31 31 = 1 then (t.startTest (wbits v 3 0) (pathSecure path)).2 else t :=
  if_neg (by simp [h])

/-- A test while another is under way is refused (R338). -/
theorem State.startTest_refused (n : Nat) (secure : Bool) (h : s.mem.test.isSome = true) :
    s.startTest n secure = (false, s.raise Fld.MEM_BIST_STAT_REFUSED) :=
  if_pos (by simp [h])

/-! ### MRAM -/

section
variable {p : Nat} {path : Path} (hp : s.powered = true)
include hp

section
variable (h : nvmRefused p path = true)
include h

theorem doNvmRead_refused : doNvmRead p path s = (s.raise Fld.NVM_STAT_SECERR).secViol path p := by
  simp [doNvmRead, hp, h]

theorem doNvmWrite_refused (n : Nat) : doNvmWrite p path n s = (s.raise Fld.NVM_STAT_SECERR).secViol path p := by
  simp [doNvmWrite, hp, h]

end

variable (h : nvmRefused p path = false)
include h

theorem doNvmRead_fills (hw : s.nvm.writing = none) :
    let t := forEach (List.range 64) (fun i u => u.setWord (Reg.NVM_RBUF i) (nth (s.nvmPage p) i)) s
    doNvmRead p path s = { t with nvm := { t.nvm with rbufPage := some p } } := by
  simp [doNvmRead, hp, h, hw]

theorem doNvmWrite_busy (hb : s.bit Fld.NVM_STAT_BUSY = true) (n : Nat) : doNvmWrite p path n s = s.raise Fld.NVM_STAT_REJ := by
  simp [doNvmWrite, hp, h, hb]

/-- A write with 8 free pages or more, none of which fails, takes one (R362, R363). -/
theorem doNvmWrite_starts (hb : s.bit Fld.NVM_STAT_BUSY = false) (hpg : p < 256 ∨ 938 < p) (hf : 8 ≤ s.get Fld.NVM_POOL_FREE) :
    doNvmWrite p path 0 s = { (s.put Fld.NVM_POOL_FREE (s.get Fld.NVM_POOL_FREE - 1)).raise Fld.NVM_STAT_BUSY with
      nvm := { s.nvm with writing := some (p, (List.range 64).map (fun i => s.word (Reg.NVM_WBUF i))) } } := by
  have hsec : ¬(256 ≤ p ∧ p ≤ 938) := by omega
  have h0 : s.get Fld.NVM_POOL_FREE ≠ 0 := by omega
  have h8 : ¬ s.get Fld.NVM_POOL_FREE < 8 := by omega
  simp [doNvmWrite, State.retirePages, hp, h, hb, hsec, h0, h8]

end

theorem nvmRefused_eq_false {p : Nat} {path : Path} (h : 255 < p ∨ pathSecure path = true) : nvmRefused p path = false := by
  rcases h with h | h <;> simp [nvmRefused, h]

theorem nvmRefused_eq_true {p : Nat} {path : Path} (h : p ≤ 255) (hs : pathSecure path = false) : nvmRefused p path = true := by
  simp [nvmRefused, h, hs]

theorem doNvmDone_writing {p : Nat} {ws : List Word} (h : s.nvm.writing = some (p, ws)) :
    let u := (s.setNvmPage p ws).pageFreed.put Fld.NVM_STAT_BUSY 0
    doNvmDone s = ({ u with nvm := { u.nvm with writing := none } }.tally 0x185).flushBlots := by
  simp [doNvmDone, h]

end

/-- Settles O37: each row goes to its register's own write or to its MRAM command. -/
theorem tileAndMemoryRegistersAct : Obligations.TileAndMemoryRegistersAct := by
  unfold Obligations.TileAndMemoryRegistersAct
  refine ⟨?age, ?rows, ?closed, ?bist, ?mram, ?secure, ?done⟩
  case age =>
    intro s v hr hp t
    have hd := (write_age_ctl s v (.quill false) hp hr).trans (doAgeNow_tile v hr hp)
    refine ⟨fun hn hm => finish_eq s (hd.trans (if_pos ⟨hn, hm⟩)), fun h => finish_eq s (hd.trans (if_neg ?_))⟩
    rintro ⟨hn, hm⟩
    rcases h with h | h
    · omega
    · exact absurd hm (Nat.not_le.mpr h)
  case rows =>
    exact fun s w v hr hp => finish_eq s ((write_row_latch s w v (.quill false) hp hr).trans (doRowRelease_tile v hr hp w.val))
  case closed =>
    exact fun s v path p k h => ⟨finish_viaPath_closed _ h, finish_viaPath_closed _ h, finish_viaPath_closed _ h⟩
  case bist =>
    intro s v path ho hrun hp hu t
    have hw : (s.portUsed path).writeReg path Reg.MEM_BIST_CTL v =
        if wbits v 31 31 = 1 then (t.startTest (wbits v 3 0) (pathSecure path)).2 else t := by
      rw [write_bist_ctl _ v path (by simpa using hp), if_pos (by simpa using hu)]
      exact doBistStart_running v path (by simpa using hrun)
    refine ⟨fun h => finish_viaPath_open ho (hw.trans (if_pos h)), fun h ht => finish_viaPath_open ho ?_,
      fun h => finish_viaPath_open ho (hw.trans (if_neg (by omega)))⟩
    rw [hw, if_pos h, State.startTest_refused _ _ ht]
  case mram =>
    intro s p path ho hp hs w
    have hpw : w.powered = true := by simpa [w] using hp
    have hn := nvmRefused_eq_false hs
    refine ⟨fun hw => finish_viaPath_open ho ?_, fun hb n => finish_viaPath_open ho ?_, fun hb hpg hf => finish_viaPath_open ho ?_⟩
    · simpa [w] using doNvmRead_fills hpw hn (by simpa [w] using hw)
    · exact doNvmWrite_busy hpw hn (by simpa [w] using hb) n
    · simpa [w] using doNvmWrite_starts hpw hn (by simpa [w] using hb) hpg (by simpa [w] using hf)
  case secure =>
    intro s p path n ho hp hs hw
    have hpw : (s.portUsed path).powered = true := by simpa using hp
    have hn := nvmRefused_eq_true hs hw
    exact ⟨finish_viaPath_open ho (doNvmRead_refused hpw hn), finish_viaPath_open ho (doNvmWrite_refused hpw hn n)⟩
  case done => exact fun s p ws h => finish_eq s (doNvmDone_writing h)

end Sys2Proof.Machine
end

section
/-! PROOFS. A claim over ICU_CLAIM1 (R320, R356; assumption 52): what it takes from the PBA, and the refutation of the statement O38. -/

namespace Sys2Proof.Machine

/-- A read of ICU_CLAIM1 claims the source presented to processor 1, and its message leaves the PBA (R320, assumption 52). -/
theorem doClaim1_presented {s : State} {n : Nat} (hp : s.powered = true) (h : s.icuPresented 1 = some n) :
    let u := ((s.spuriousCheck n).icuClaim 1 n).settlePba n
    doClaim1 s = { u with icu := { u.icu with presented1 := none, sent1 := false } }.emit (.readValue Reg.ICU_CLAIM1 (wd n)) := by
  simp [doClaim1, State.readClaim1, hp, h]

/-- A claim for processor 1 that leaves the PBA alone. -/
def State.claimedBesidePba (s : State) (n : Nat) : State :=
  let u := (s.spuriousCheck n).icuClaim 1 n
  { u with icu := { u.icu with presented1 := none, sent1 := false } }.emit (.readValue Reg.ICU_CLAIM1 (wd n))

/-- A head with its MSI-X function masked while source 255 is presented to processor 1: the message of the source's vector, 0,
waits in the PBA. -/
def messageWaits : State :=
  let s := { State.reset with
    role := .head
    pwr  := { State.reset.pwr with state := .ready }
    icu  := { State.reset.icu with presented1 := some 255, sent1 := true }
    host := { State.reset.host with msixMask := true, pba := [0] } }
  (((s.raise (Fld.ICU_SRC_PEND 255)).raise (Fld.ICU_SRC_EN 255)).put (Fld.ICU_SRC_PRIO 255) 15).put (Fld.ICU_SRC_TGT 255) 1

theorem messageWaits_presented : messageWaits.powered = true ∧ messageWaits.icuPresented 1 = some 255 := by decide +kernel

/-- No message is left once the claim has been made. -/
theorem claim_empties_pba : (after messageWaits (doClaim1 messageWaits)).host.pba = [] := by
  obtain ⟨hp, hn⟩ := messageWaits_presented
  rw [doClaim1_presented hp hn]
  decide +kernel

theorem claimedBesidePba_keeps_pba : (after messageWaits (messageWaits.claimedBesidePba 255)).host.pba = [0] := by
  decide +kernel

/-- Refutes O38: at a head whose MSI-X function is masked the message of the source presented waits in the PBA, and a read of
ICU_CLAIM1 takes it out (R320, assumption 52), but the next state that the statement gives still has it. -/
theorem not_interruptControllerActs : ¬ Obligations.InterruptControllerActs := by
  unfold Obligations.InterruptControllerActs
  rintro ⟨-, -, -, claims, -⟩
  obtain ⟨hp, hn⟩ := messageWaits_presented
  obtain ⟨stated, -, -⟩ := claims messageWaits 255 hp hn
  have ran : exec .icuClaim1Read messageWaits = .next (after messageWaits (doClaim1 messageWaits)) := rfl
  have same : after messageWaits (doClaim1 messageWaits) = after messageWaits (messageWaits.claimedBesidePba 255) :=
    Host.Outcome.next.inj (ran.symm.trans stated)
  have pba : ([] : List Nat) = [0] :=
    claim_empties_pba.symm.trans ((congrArg (·.host.pba) same).trans claimedBesidePba_keeps_pba)
  cases pba

end Sys2Proof.Machine
end

section
/-! PROOFS. The state right after reset (R42, R43, R197), and the statement O7. -/

namespace Sys2Proof.Machine

/-- The reset state holds in every register its reset value but for the two that a power-on leaves otherwise. -/
theorem State.reset_word {x : Nat} (h1 : x ≠ Reg.PWR_RST_CAUSE) (h2 : x ≠ Reg.NVM_POOL) : State.reset.word x = resetReg x :=
  (if_neg h1.symm).trans (if_neg h2.symm)

/-- Settles O7: the parts of the reset state by their definition, the registers by what the sparse map holds. -/
theorem resetStateIsAsSpecified : Obligations.ResetStateIsAsSpecified := by
  unfold Obligations.ResetStateIsAsSpecified
  refine ⟨rfl, rfl, rfl, rfl, rfl, rfl, fun x => State.reset_word, ?_⟩
  decide +kernel

end Sys2Proof.Machine
end

section
/-! PROOFS. The start of a requested transition and the end of a transition's work (R46, R47, R159, R235, R253), and the statement O28. -/

namespace Sys2Proof.Machine

section
variable {s : State} {tr : Trans}

theorem doQueuedStart_starts {r : PReq} (ht : s.pwr.trans = none) (hq : s.pwr.queued = some r) (hp : s.powered = true) :
    doQueuedStart s = (s.advanceTo (s.startOf (s.clk.fn + 1))).startReq r (s.clk.fn + 1) := by
  simp [doQueuedStart, ht, hq, hp]

/-- A flag is raised in the registers alone, whatever the drive's own state. -/
theorem State.raise_withDrive (s : State) (d : Drive) (f : Fld) : State.raise { s with drive := d } f = { s.raise f with drive := d } := by
  simp only [State.raise, State.put, State.setWord, State.word]

section
variable (ht : s.pwr.trans = some tr)
include ht

theorem State.target_of_trans : s.target = some tr.req := by
  simp [State.target, ht]

theorem State.workIsDone_of_trans :
    s.workIsDone = { s with pwr := { s.pwr with trans := some { tr with workDone := true } } } := by
  simp [State.workIsDone, ht]

/-- Regulation ends the work of a tile on its way to ACTIVE or DIM (R253). -/
theorem doSoftStart_regulated (hr : s.role = .tile) (hu : s.drive.railUp = false)
    (hq : tr.req = .state .active ∨ tr.req = .state .dim) :
    doSoftStart s = { s.raise Fld.DRV_RAIL_STAT_REG with
      drive := { s.drive with railUp := true }
      pwr := { s.pwr with trans := some { tr with workDone := true } } } := by
  have due : (decide (s.role = .tile) && (s.target == some (.state .active) || s.target == some (.state .dim)) &&
      !(s.drive.railUp)) = true := by
    rcases hq with hq | hq <;> simp [State.target_of_trans ht, hr, hu, hq]
  rw [doSoftStart, if_pos due, State.raise_withDrive]
  simp only [State.workIsDone, State.raise_pwr, ht]

/-- The discharge of VLED ends the work of a tile whose lamps go dark (R253). -/
theorem doDischarged_discharged (hr : s.role = .tile) (hd : s.drive.dark = true)
    (hq : tr.req = .state .ready ∨ tr.req = .state .park) :
    doDischarged s = { s.put Fld.DRV_RAIL_STAT_PH_ACTIVE 0 with
      pwr := { s.pwr with trans := some { tr with workDone := true } } } := by
  have on : (decide (s.role = .tile) && s.drive.dark && s.pwr.trans.isSome) = true := by simp [hr, hd, ht]
  have hput : (s.put Fld.DRV_RAIL_STAT_PH_ACTIVE 0).pwr.trans = some tr := ht
  have due : (s.put Fld.DRV_RAIL_STAT_PH_ACTIVE 0).target = some (.state .ready) ∨
      (s.put Fld.DRV_RAIL_STAT_PH_ACTIVE 0).target = some (.state .park) := by
    simpa [State.target_of_trans hput] using hq
  exact (if_pos on).trans ((if_pos due).trans (State.workIsDone_of_trans hput))

theorem doOffFlush_off (hl : s.lit = false) (hq : tr.req = .state .off) : doOffFlush s = s.flushToMram.workIsDone := by
  simp [doOffFlush, State.target_of_trans ht, hl, hq]

theorem doOffFlush_warm (hl : s.lit = false) (hq : tr.req = .warm) :
    doOffFlush s = (s.flushToMram.enterBoot false).raise Fld.PWR_RST_CAUSE_WARM := by
  simp [doOffFlush, State.target_of_trans ht, hl, hq]

theorem doDeepParkExit_branch (hr : s.role = .branch) (hs : s.pwr.state = .park) :
    doDeepParkExit s = (s.deepPark false).workIsDone := by
  simp [doDeepParkExit, hr, hs, ht]

end

end

/-- Settles O28, row by row. -/
theorem transitionsEndAsTheirWorkEnds : Obligations.TransitionsEndAsTheirWorkEnds := by
  unfold Obligations.TransitionsEndAsTheirWorkEnds
  exact ⟨fun s _ ht hq hp => finish_eq s (doQueuedStart_starts ht hq hp),
    fun s _ hr hu ht hq => finish_eq s (doSoftStart_regulated ht hr hu hq),
    fun s _ hr hd ht hq => finish_eq s (doDischarged_discharged ht hr hd hq),
    fun s _ hl ht hq => finish_eq s (doOffFlush_off ht hl hq),
    fun s _ hl ht hq => finish_eq s (doOffFlush_warm ht hl hq),
    fun s _ hr hs ht => finish_eq s (doDeepParkExit_branch ht hr hs)⟩

end Sys2Proof.Machine
end

section
/-! PROOFS. Resets, rail events and the domain reset (R40 to R42, R48, R52, R187, R426), and the statement O29. -/

namespace Sys2Proof.Machine

/-! ### Resets (R42, R426) -/

theorem doPowerOnReset_low {n : Nat} (hn : 10 ≤ n) (s : State) : doPowerOnReset n false s = s.assertReset 1 false := by
  simp [doPowerOnReset, hn]

theorem doPowerOnReset_pulse (s : State) : doPowerOnReset 0 false s = s := by
  simp [doPowerOnReset]

theorem doBrownOut_dip {n : Nat} (hn : n ≤ 1000) (low : Bool) (s : State) : doBrownOut n low s = s :=
  if_pos hn

theorem doBrownOut_long {n : Nat} (hn : 1000 < n) (low : Bool) (s : State) :
    doBrownOut n low s = if low then (s.assertReset 1 true).vaonFell
      else if s.pwr.held = 1 then s.vaonFell else (s.assertReset 2 false).vaonFell :=
  if_neg (Nat.not_le.mpr hn)

theorem doResetRelease_releases {s : State} (h : s.pwr.held ≠ 0) :
    let early := s.pwr.railsGood.getLsbD 0 = false ∧ s.othersUp ≠ 0
    doResetRelease s = (({ s with pwr := { s.pwr with held := 0, railsGood := s.pwr.railsGood ||| 1 } }.setWord
      Reg.PWR_RST_CAUSE (if s.pwr.held = 1 then 1 else 2)).put Fld.PWR_RST_CAUSE_SEQ
        (if early then 1 else s.get Fld.PWR_RST_CAUSE_SEQ)).wakeCheck := by
  simp [doResetRelease, h]

/-! ### Rails (R40, R41, R48, R52) -/

/-- PWR_RAIL_STAT shows rail `r` failed. -/
def State.railFailed (s : State) (r : Fin 8) : State :=
  { s with pwr := { s.pwr with railsGood := s.pwr.railsGood &&& ~~~(BitVec.ofNat 8 (2 ^ r.val)) } }

/-- A rail that fails shows, and a required one other than VAON takes a powered node that no reset holds into BOOT. -/
theorem doRailFailure_eq (r : Fin 8) (s : State) :
    doRailFailure r s =
      if r.val = 0 || !(s.railsRequired.getLsbD r.val) || !s.powered || decide (s.pwr.held ≠ 0) then s.railFailed r
      else ((s.railFailed r).driveOff.enterBoot (decide (s.pwr.state = .boot) && s.pwr.fromWake)).raise Fld.PWR_RST_CAUSE_RAILFAIL :=
  rfl

section
variable {s : State} {r : Fin 8}

theorem doRailFailure_required (h0 : r.val ≠ 0) (hq : s.railsRequired.getLsbD r.val = true) (hp : s.powered = true)
    (hh : s.pwr.held = 0) :
    doRailFailure r s = ((s.railFailed r).driveOff.enterBoot (decide (s.pwr.state = .boot ∧ s.pwr.fromWake = true))).raise
      Fld.PWR_RST_CAUSE_RAILFAIL := by
  rw [doRailFailure_eq, if_neg (by simp only [h0, hq, hp, hh]; decide), Bool.decide_and, Bool.decide_eq_true]

theorem doRailFailure_shows (h : s.railsRequired.getLsbD r.val = false ∨ s.powered = false) : doRailFailure r s = s.railFailed r := by
  rw [doRailFailure_eq, if_pos]
  rcases h with h | h <;> rw [h] <;> simp

end

/-- PWR_RAIL_STAT shows the rails of `r`. -/
def State.railsShown (s : State) (r : Rails) : State :=
  { s with pwr := { s.pwr with railsGood := r.good, railsRisen := r.risen } }

section
variable {s : State} {r : Rails}

/-- A BOOT that waited goes on once every required rail is good. -/
def State.bootGoesOn (s : State) : State :=
  if s.pwr.bootWait && s.railsOk then { s with pwr := { s.pwr with bootWait := false } } else s

theorem doRailsGood_eq (r : Rails) (s : State) :
    doRailsGood r s =
      (if r.good.getLsbD 0 = false ∧ (s.railsShown r).othersUp ≠ 0 then (s.railsShown r).raise Fld.PWR_RST_CAUSE_SEQ
        else s.railsShown r).bootGoesOn :=
  rfl

theorem State.bootGoesOn_goes {s : State} (hw : s.pwr.bootWait = true) (hg : s.pwr.railsGood &&& s.railsRequired = s.railsRequired) :
    s.bootGoesOn = { s with pwr := { s.pwr with bootWait := false } } :=
  if_pos (by simp [State.railsOk, hw, hg])

theorem State.bootGoesOn_stays {s : State}
    (h : s.pwr.bootWait = false ∨ s.pwr.railsGood &&& s.railsRequired ≠ s.railsRequired) : s.bootGoesOn = s := by
  refine if_neg ?_
  rcases h with h | h <;> simp [State.railsOk, h]

/-- The order of R41 is kept while VAON is good. -/
theorem doRailsGood_inOrder (h0 : r.good.getLsbD 0 = true) : doRailsGood r s = (s.railsShown r).bootGoesOn := by
  rw [doRailsGood_eq, h0, if_neg (by simp)]

/-- A rail that is up before VAON is good breaks the order of R41. -/
theorem doRailsGood_outOfOrder (h0 : r.good.getLsbD 0 = false) (hu : (r.good ||| r.risen) &&& 0xFE ≠ 0) :
    doRailsGood r s = ((s.railsShown r).raise Fld.PWR_RST_CAUSE_SEQ).bootGoesOn := by
  rw [doRailsGood_eq, if_pos ⟨h0, hu⟩]

end

section
variable {s : State}

theorem doRailTimeout_off (hb : s.pwr.state = .boot) (hw : s.pwr.fromWake = true) (hw' : s.pwr.bootWait = true) :
    doRailTimeout s = (s.raise Fld.PWR_RST_CAUSE_RAILTO).enterOff := by
  simp [doRailTimeout, hb, hw, hw']

theorem doDomainReset_resets {t : Word} (hd : s.pwr.domReset = some t) (hp : s.powered = true) :
    doDomainReset s = (((s.advanceTo t).driveOff.flushToMram).enterBoot false).raise Fld.PWR_RST_CAUSE_DOMRST := by
  simp [doDomainReset, hd, hp]
end

/-- Settles O29, row by row. -/
theorem resetsAndRailsAct : Obligations.ResetsAndRailsAct := by
  unfold Obligations.ResetsAndRailsAct
  refine ⟨?por, fun _ _ => rfl, ?pulse, ?brownOut, ?porHeld, ?below1V, ?dip, ?release, ?railRequired, ?railShows, ?bootGoesOn, ?railsShow,
    ?outOfOrder, ?timeout, ?domain⟩
  case por => exact fun s n hn => finish_eq s (doPowerOnReset_low hn s)
  case pulse => exact fun s => finish_eq s (doPowerOnReset_pulse s)
  case brownOut => exact fun s n hn hh => finish_eq s ((doBrownOut_long hn false s).trans (if_neg hh))
  case porHeld => exact fun s n hn hh => finish_eq s ((doBrownOut_long hn false s).trans (if_pos hh))
  case below1V => exact fun s n hn => finish_eq s (doBrownOut_long hn true s)
  case dip => exact fun s n low hn => finish_eq s (doBrownOut_dip hn low s)
  case release => exact fun s hh => finish_eq s (doResetRelease_releases hh)
  case railRequired => exact fun s r h0 hq hp hh => finish_eq s (doRailFailure_required h0 hq hp hh)
  case railShows => exact fun s r h => finish_eq s (doRailFailure_shows h)
  case bootGoesOn =>
    exact fun s good risen h0 hw hg => finish_eq s ((doRailsGood_inOrder h0).trans (State.bootGoesOn_goes hw hg))
  case railsShow => exact fun s good risen h0 h => finish_eq s ((doRailsGood_inOrder h0).trans (State.bootGoesOn_stays h))
  case outOfOrder =>
    exact fun s good risen h0 hu h => finish_eq s ((doRailsGood_outOfOrder h0 hu).trans (State.bootGoesOn_stays h))
  case timeout => exact fun s hb hw hw' => finish_eq s (doRailTimeout_off hb hw hw')
  case domain => exact fun s t hd hp => finish_eq s (doDomainReset_resets hd hp)

end Sys2Proof.Machine
end

section
/-! PROOFS. The core of a node: what R42 keeps and what BOOT sets by itself. Reports and the verifying of Privet items leave it alone
(R282, R396 to R399). -/

namespace Sys2Proof.Machine

/-- The part of a node that the restoring from MRAM and the reports made meanwhile leave alone: what R42 keeps, what entry into
BOOT sets by itself, and FAULT_EPOCH. -/
structure BootCore where
  role    : Role
  sampled : Bool
  pwr     : Power
  clk     : Clock
  saved   : Saved
  domain  : Option (BitVec 256)
  client0 : Option (BitVec 256)
  heads   : HeadFrames
  ingest  : Ingest
  mem     : MemSt
  nvm     : Nvm
  upd     : Upd
  pending : List Instr
  epoch   : Nat

def BootCore.withEpoch (c : BootCore) (n : Nat) : BootCore := { c with epoch := n }

def BootCore.withSaved (c : BootCore) (v : Saved) : BootCore := { c with saved := v }

def BootCore.withPwr (c : BootCore) (p : Power) : BootCore := { c with pwr := p }

def BootCore.withQueued (c : BootCore) (q : Option PReq) : BootCore := { c with pwr := { c.pwr with queued := q } }

/-- FAULT_EPOCH one up, in the register and in MRAM (R399). -/
def BootCore.epochUp (c : BootCore) : BootCore :=
  (c.withEpoch ((c.epoch + 1) % 2 ^ 16)).withSaved { c.saved with faultEpoch := BitVec.ofNat 16 ((c.epoch + 1) % 2 ^ 16) }

/-- The core of the node. -/
def State.bootCore (s : State) : BootCore where
  role    := s.role
  sampled := s.sampled
  pwr     := s.pwr
  clk     := s.clk
  saved   := s.saved
  domain  := s.keys.domain
  client0 := s.keys.client0
  heads   := s.heads
  ingest  := s.ingest
  mem     := s.mem
  nvm     := s.nvm
  upd     := s.upd
  pending := s.pending
  epoch   := s.get Fld.SYS_FAULT_EPOCH_EPOCH

/-- A change that keeps the core in each round keeps it over the loop. -/
theorem forEach_bootCore {α : Type} (l : List α) {f : α → State → State} (s : State) (hf : ∀ a u, (f a u).bootCore = u.bootCore) :
    (forEach l f s).bootCore = s.bootCore :=
  forEach_keeps l f (fun u => u.bootCore = s.bootCore) s rfl (fun a u h => (hf a u).trans h)

section
variable (s : State)

theorem State.setWord_bootCore {x : Nat} (v : Word) (h : x ≠ Reg.SYS_FAULT_EPOCH) : (s.setWord x v).bootCore = s.bootCore := by
  have he : (s.setWord x v).get Fld.SYS_FAULT_EPOCH_EPOCH = s.get Fld.SYS_FAULT_EPOCH_EPOCH :=
    congrArg (fun w : Word => bitsOf w.toNat 0 16) (s.word_setWord_other x Reg.SYS_FAULT_EPOCH v h.symm)
  exact congrArg s.bootCore.withEpoch he

theorem State.put_bootCore {f : Fld} (v : Nat) (h : f.off ≠ Reg.SYS_FAULT_EPOCH) : (s.put f v).bootCore = s.bootCore :=
  s.setWord_bootCore _ h

theorem State.raise_bootCore {f : Fld} (h : f.off ≠ Reg.SYS_FAULT_EPOCH) : (s.raise f).bootCore = s.bootCore :=
  s.put_bootCore 1 h

theorem State.putBit_bootCore {f : Fld} (b : Bool) (h : f.off ≠ Reg.SYS_FAULT_EPOCH) : (s.putBit f b).bootCore = s.bootCore :=
  s.put_bootCore _ h

theorem State.put_epoch_bootCore (v : Nat) :
    (s.put Fld.SYS_FAULT_EPOCH_EPOCH v).bootCore = s.bootCore.withEpoch (v % 2 ^ 16) :=
  congrArg s.bootCore.withEpoch (s.get_put_self Fld.SYS_FAULT_EPOCH_EPOCH v (by decide) (by decide))

/-! ### Reports -/

theorem State.pmuAdd_bootCore (n k : Nat) : (s.pmuAdd n k).bootCore = s.bootCore := by
  unfold State.pmuAdd
  extract_lets v p t
  split_ifs
  · exact (State.put_bootCore _ 1 (by decide)).trans (State.put_bootCore t 1 (by decide : Reg.PMU_OVF ≠ Reg.SYS_FAULT_EPOCH))
  · rfl

theorem State.tallyBy_bootCore (code : Nat) (g : Nat → Nat → Nat) : (s.tallyBy code g).bootCore = s.bootCore := by
  unfold State.tallyBy
  split_ifs
  · rfl
  · refine forEach_bootCore _ s (fun n u => ?_)
    split_ifs
    · exact u.pmuAdd_bootCore n _
    · rfl

theorem State.unroute_bootCore (p : Nat) : (s.unroute p).bootCore = s.bootCore :=
  (State.put_bootCore _ _ (Nat.lt_add_right _ (by decide)).ne').trans
    (State.put_bootCore s _ (Nat.lt_add_right _ (by decide)).ne')

theorem State.sendOn_bootCore (p k type : Nat) (dest src : NodeId) (body : List Word) :
    (s.sendOn p k type dest src body).bootCore = s.bootCore := by
  unfold State.sendOn
  extract_lets k q t pkt t' s1 s2
  have h1 : s1.bootCore = s.bootCore := by
    unfold s1
    split_ifs <;> exact s.tallyBy_bootCore _ _
  have h2 : s2.bootCore = s1.bootCore := by
    unfold s2
    split_ifs
    · exact s1.tallyBy_bootCore _ _
    · rfl
  exact h2.trans h1

theorem State.sendTo_bootCore (type : Nat) (dest : NodeId) (body : List Word) : (s.sendTo type dest body).bootCore = s.bootCore := by
  unfold State.sendTo
  split_ifs
  · exact forEach_bootCore _ s (fun p u => u.sendOn_bootCore _ _ _ _ _ _)
  · split
    · exact s.sendOn_bootCore _ _ _ _ _ _
    · exact s.unroute_bootCore _

theorem State.sendEvt_bootCore (h : NodeId) (code : Nat) (params : List Word) : (s.sendEvt h code params).bootCore = s.bootCore :=
  State.sendTo_bootCore _ _ _ _

theorem State.headEvent_bootCore (code : Nat) (origin : NodeId) (eseq : Nat) (stamp fn : Word) (params : List Word) :
    (s.headEvent code origin eseq stamp fn params).bootCore = s.bootCore := by
  unfold State.headEvent
  extract_lets e c s1
  have h1 : s1.bootCore = s.bootCore := by
    unfold s1
    split_ifs <;> rfl
  split_ifs <;> exact h1

theorem State.ownEvent_bootCore (code : Nat) (params : List Word) : (s.ownEvent code params).bootCore = s.bootCore :=
  State.headEvent_bootCore _ _ _ _ _ _ _

theorem State.evtBlot_bootCore (b : Blot) : (s.evtBlot b).bootCore = s.bootCore := by
  unfold State.evtBlot
  extract_lets rate bl s0 s1
  have h1 : s1.bootCore = s.bootCore := by
    unfold s1
    split_ifs
    · rfl
    · exact forEach_bootCore _ _ (fun h u => u.sendEvt_bootCore h _ _)
    · exact State.put_bootCore s _ (by decide)
  split_ifs
  · exact (s1.ownEvent_bootCore _ _).trans h1
  · exact h1

/-- A blot of class INFO or DEGRADED is a report alone: fault handling, and with it a new FAULT_EPOCH, starts at FAULT (R396, R399). -/
theorem State.logBlot_bootCore (block code : Nat) {cls : Nat} (p0 p1 p2 : Nat) (h : cls < 2) :
    (s.logBlot block code cls p0 p1 p2).bootCore = s.bootCore := by
  have hc : ¬ 2 ≤ cls := Nat.not_le.mpr h
  unfold State.logBlot
  extract_lets nested start s1 seq s2 b n ring s3 s4 wait s5 hit s6 s7 s8 due s9
  have notStart : ¬ start = true := by simp [start, hc]
  have notNested : ¬ nested = true := by simp [nested, hc]
  have h1 : s1 = s := if_neg notStart
  have h2 : s2.bootCore = s.bootCore :=
    ((State.tallyBy_bootCore _ _ _).trans (State.put_bootCore s1 _ (by decide))).trans (congrArg State.bootCore h1)
  have h3 : s3.bootCore = s2.bootCore := by
    unfold s3
    split_ifs <;> rfl
  have h4 : s4.bootCore = s3.bootCore := State.put_bootCore s3 _ (by decide)
  have h5 : s5 = s4 := if_neg hc
  have h7 : s7 = s5 := if_neg notNested
  have h9 : s9 = s7 := if_neg (fun hs => notStart (Bool.and_eq_true_iff.mp hs).1)
  have logged : s9.bootCore = s.bootCore := by rw [h9, h7, h5, h4, h3, h2]
  split_ifs
  · rfl
  · exact (s9.evtBlot_bootCore b).trans logged
  · exact logged

end

/-! ### Privet items -/

section
variable {s : State}

theorem State.privetTagBad_bootCore (s : State) (item : Nat) : (s.privetTagBad item).bootCore = s.bootCore :=
  (State.logBlot_bootCore _ _ _ _ _ _ (by decide)).trans (State.put_bootCore _ 1 (by decide))

/-- A bank without wrong words that is not being cleared reads as it stands. -/
theorem State.readBank_clean (h : s.mem = MemSt.reset) (n : Nat) : s.readBank n = s := by
  cases s
  cases h
  rfl

/-- An item read from memory at its reset value verifies or is reported; no word of it can be poisoned. -/
theorem State.verifyItem_bootCore (h : s.mem = MemSt.reset) (item : Nat) : (s.verifyItem item).bootCore = s.bootCore := by
  unfold State.verifyItem
  split
  · rfl
  · rw [State.readBank_clean h]
    simp only [h, MemSt.reset, List.any_nil, Bool.false_eq_true, if_false]
    split_ifs
    · exact s.privetTagBad_bootCore item
    · rfl

theorem State.restoreItems_bootCore (h : s.mem = MemSt.reset) : s.restoreItems.bootCore = s.bootCore := by
  refine forEach_keeps _ _ (fun u => u.bootCore = s.bootCore) _ rfl (fun e u hu => ?_)
  have hm : u.mem = MemSt.reset := (congrArg BootCore.mem hu).trans h
  exact (State.verifyItem_bootCore hm e.1).trans hu

end

end Sys2Proof.Machine
end

section
/-! PROOFS. What BOOT restores from MRAM (R42, R170, R179, R271, R340, R399): it leaves the core alone but for FAULT_EPOCH. -/

namespace Sys2Proof.Machine

/-! ### The network's tables, the banks and the lanes -/

section
variable (s : State)

theorem State.restoreNet_bootCore : s.restoreNet.bootCore = s.bootCore := by
  unfold State.restoreNet
  refine (forEach_bootCore _ _ (fun i u => ?_)).trans
    ((forEach_bootCore _ _ (fun i u => u.setWord_bootCore _ ?_)).trans (s.setWord_bootCore _ (by decide)))
  · exact (State.setWord_bootCore _ _ (Nat.lt_add_right _ (by decide)).ne').trans
      (u.setWord_bootCore _ (Nat.lt_add_right _ (by decide)).ne')
  · exact (Nat.lt_add_right _ (by decide)).ne'

theorem State.restoreBanks_bootCore : s.restoreBanks.bootCore = s.bootCore := by
  have maps : (forEach (List.range 16) (fun n s => s.setPhysBank n (s.saved.bankMap.getD n n)) s).bootCore = s.bootCore :=
    forEach_bootCore _ s (fun n u => u.setWord_bootCore _ (Nat.lt_add_right _ (by decide)).ne')
  unfold State.restoreBanks
  split_ifs
  · rfl
  · extract_lets t
    split
    all_goals exact (State.put_bootCore _ _ (by decide)).trans ((State.put_bootCore t _ (by decide)).trans maps)

theorem State.restoreLanes_bootCore : s.restoreLanes.bootCore = s.bootCore := by
  refine forEach_bootCore _ s (fun p u => forEach_bootCore _ u (fun m w => ?_))
  split_ifs
  · exact State.setWord_bootCore _ _ (Nat.lt_add_right _ (Nat.lt_add_right _ (by decide))).ne'
  · rfl

end

/-! ### The restoring, record by record -/

/-- FAULT_EPOCH comes back from MRAM (R399). -/
def State.epochAgain (s : State) : State := s.put Fld.SYS_FAULT_EPOCH_EPOCH s.saved.faultEpoch.toNat

/-- The next position of the MRAM ring of blots comes back (R397). -/
def State.mnextAgain (s : State) : State := s.put Fld.SYS_BLOT_STAT_MNEXT s.saved.mnext

/-- The partner of a head and its place in the pair come back. -/
def State.partnerAgain (s : State) : State :=
  (s.put Fld.RED_STAT_PARTNER s.saved.partner.toNat).putBit Fld.RED_STAT_HEADID s.saved.headId

/-- The epoch of the pair comes back. -/
def State.redEpochAgain (s : State) : State := s.put Fld.RED_EPOCH_EPOCH s.saved.redEpoch.toNat

/-- RESYNC_REQ is due (R271). -/
def State.resyncDue (s : State) : State := { s with red := { s.red with reqDue := true } }

/-- A paired head comes up as standby and out of step (R271). -/
def State.standbyAgain (s : State) : State :=
  if s.saved.partner ≠ 0 then ((s.put Fld.RED_STAT_ROLE 2).raise Fld.RED_STAT_OOS).resyncDue else s

/-- The pair of heads that a tile follows comes back. -/
def State.tilePairAgain (s : State) : State :=
  (s.setWord Reg.RED_TILE_CFG s.saved.tilePair).putBit Fld.RED_TILE_STAT_FOLLOW s.saved.follow

/-- The counts of Coppice's log come back. -/
def State.cpcAgain (s : State) : State :=
  (s.put Fld.CPC_LOG_STAT_TOTAL s.saved.cpcTotal).put Fld.CPC_LOG_STAT_NEXT s.saved.cpcNext

/-- The wall ceiling of colour `c` comes back where MRAM holds one (R237). -/
def State.ceilingAgain (s : State) (c : Nat) : State :=
  match s.saved.ceilWall[c]? with | some v => s.put (Fld.COR_CEIL_WALL_CEIL c) v | none => s

/-- The ageing ledger comes back (R235). -/
def State.ledgerAgain (s : State) : State := { s with lamp := { s.lamp with ledger := s.saved.ledger, ledgerView := s.saved.ledger } }

/-- The records that come back after FAULT_EPOCH. -/
def State.recordsAgain (s : State) : State :=
  (forEach [0, 1, 2] (fun c u => u.ceilingAgain c)
    s.mnextAgain.partnerAgain.redEpochAgain.standbyAgain.tilePairAgain.cpcAgain).ledgerAgain

section
variable (s : State)

/-- The restoring is: the network's tables, the bank map and the retired lanes, FAULT_EPOCH, the other records, the items. -/
theorem State.restored_eq :
    s.restored = s.restoreNet.restoreBanks.restoreLanes.epochAgain.recordsAgain.restoreItems := by
  unfold State.restored
  extract_lets s1 s2 s3 s4 s5 oos _ s6 s7 s8 s9 lamp
  have e2 : s2 = s1.epochAgain := rfl
  have e3 : s3 = s2.mnextAgain := rfl
  have e4 : s4 = s3.partnerAgain := rfl
  have e5 : s5 = s4.redEpochAgain := rfl
  clear_value s5
  have e6 : s6 = s5.standbyAgain := rfl
  have e7 : s7 = s6.tilePairAgain := rfl
  have e8 : s8 = s7.cpcAgain := rfl
  have e9 : s9 = forEach [0, 1, 2] (fun c u => u.ceilingAgain c) s8 := rfl
  have e : s9.ledgerAgain = s1.epochAgain.recordsAgain := by
    rw [State.recordsAgain, e9, e8, e7, e6, e5, e4, e3, e2]
  exact congrArg State.restoreItems e

theorem State.epochAgain_bootCore : s.epochAgain.bootCore = s.bootCore.withEpoch s.saved.faultEpoch.toNat := by
  rw [State.epochAgain, State.put_epoch_bootCore, Nat.mod_eq_of_lt s.saved.faultEpoch.isLt]

theorem State.resyncDue_bootCore : s.resyncDue.bootCore = s.bootCore := rfl

theorem State.ledgerAgain_bootCore : s.ledgerAgain.bootCore = s.bootCore := rfl

theorem State.standbyAgain_bootCore : s.standbyAgain.bootCore = s.bootCore := by
  unfold State.standbyAgain
  split_ifs
  · rw [State.resyncDue_bootCore, State.raise_bootCore _ (by decide), State.put_bootCore _ _ (by decide)]
  · rfl

theorem State.ceilingAgain_bootCore (c : Nat) : (s.ceilingAgain c).bootCore = s.bootCore := by
  unfold State.ceilingAgain
  split
  · exact s.put_bootCore _ (Nat.lt_add_right _ (by decide)).ne'
  · rfl

theorem State.recordsAgain_bootCore : s.recordsAgain.bootCore = s.bootCore := by
  rw [State.recordsAgain, State.ledgerAgain_bootCore, forEach_bootCore _ _ (fun c u => u.ceilingAgain_bootCore c)]
  simp (disch := decide) only [State.cpcAgain, State.tilePairAgain, State.redEpochAgain, State.partnerAgain, State.mnextAgain,
    State.put_bootCore, State.putBit_bootCore, State.setWord_bootCore, State.standbyAgain_bootCore]

/-- The restoring takes FAULT_EPOCH from MRAM and keeps the rest of the core; the items it verifies are reported under that epoch. -/
theorem State.restored_bootCore (h : s.mem = MemSt.reset) :
    s.restored.bootCore = s.bootCore.withEpoch s.saved.faultEpoch.toNat := by
  have before : s.restoreNet.restoreBanks.restoreLanes.bootCore = s.bootCore := by
    rw [State.restoreLanes_bootCore, State.restoreBanks_bootCore, State.restoreNet_bootCore]
  rw [State.restored_eq]
  generalize s.restoreNet.restoreBanks.restoreLanes = u at before ⊢
  have saved : u.saved = s.saved := congrArg BootCore.saved before
  have records : u.epochAgain.recordsAgain.bootCore = s.bootCore.withEpoch s.saved.faultEpoch.toNat := by
    rw [State.recordsAgain_bootCore, State.epochAgain_bootCore, before, saved]
  generalize u.epochAgain.recordsAgain = w at records ⊢
  have mem : w.mem = MemSt.reset := (congrArg BootCore.mem records).trans h
  rw [State.restoreItems_bootCore mem, records]

theorem State.origAgain_bootCore : s.origAgain.bootCore = s.bootCore := by
  unfold State.origAgain
  split_ifs <;> rfl

theorem State.epochUp_bootCore : s.epochUp.bootCore = s.bootCore.epochUp := by
  have h : (s.put Fld.SYS_FAULT_EPOCH_EPOCH ((s.bootCore.epoch + 1) % 2 ^ 16)).bootCore =
      s.bootCore.withEpoch ((s.bootCore.epoch + 1) % 2 ^ 16) := by
    rw [State.put_epoch_bootCore, Nat.mod_mod]
  exact congrArg (fun c : BootCore => c.withSaved
    { s.saved with faultEpoch := BitVec.ofNat 16 ((s.bootCore.epoch + 1) % 2 ^ 16) }) h

theorem State.floatDrive_bootCore : s.floatDrive.bootCore = s.bootCore := by
  unfold State.floatDrive
  split_ifs <;> rfl

end

end Sys2Proof.Machine
end

section
/-! PROOFS. What a reset clears and what it keeps (R42, R49, R197, R364, R396, R399, R426), and the statement O30. -/

namespace Sys2Proof.Machine

/-! ### What a reset clears and keeps (R42) -/

/-- The registers of the always-on domain and those that stand for MRAM: a reset copies their words. -/
def wordsKept : List Nat := [Reg.PWR_WAKE_CFG, Reg.PWR_RST_CAUSE, Reg.SYS_BLOT_SEQ, Reg.NVM_POOL, Reg.NVM_RECOV, Reg.SYS_STRAP]

/-- After the words of the registers in `l` have been copied from `b`, they are those of `b`, and the others still those of `r`. -/
theorem word_copied (l : List Nat) (b r : State) (x : Nat) :
    (forEach l (fun x s => s.setWord x (b.word x)) r).word x = if x ∈ l then b.word x else r.word x := by
  induction l generalizing r with
  | nil => rfl
  | cons y t ih =>
    rw [forEach, ih]
    by_cases hx : x ∈ t
    · simp [hx]
    · by_cases hy : x = y
      · simp [hy]
      · simp [hx, hy, State.word_setWord_other]

theorem bootCore_copied (b r : State) : (forEach wordsKept (fun x s => s.setWord x (b.word x)) r).bootCore = r.bootCore := by
  simp (disch := decide) only [wordsKept, forEach, State.setWord_bootCore]

/-- What a reset leaves of the power state: the pins, the rails, the latch and the reset that is held. -/
def Power.cleared (p : Power) (st : PState) : Power :=
  { p with
    state     := st
    trans     := none
    queued    := none
    fromWake  := false
    bootWait  := false
    strapped  := false
    fwStarted := false
    noForward := false
    domReset  := none
    groups    := [] }

/-- A node at reset but for what R42 keeps of `s`. -/
def State.keptCore (s : State) (st : PState) : BootCore :=
  { State.reset.bootCore with
    role    := s.role
    sampled := s.sampled
    pwr     := s.pwr.cleared st
    saved   := s.saved
    domain  := s.keys.domain
    client0 := s.keys.client0
    nvm     := { Nvm.reset with pages := s.nvm.pages, oldPairs := s.nvm.oldPairs }
    upd     := { Upd.reset with record := s.upd.record, flash := s.upd.flash }
    pending := s.pending }

section
variable {s : State} (hw : s.nvm.writing = none) (hb : s.blots.mramWait = [])
include hw hb

/-- With no write under way and no blot waiting a reset has nothing to settle in MRAM first. -/
theorem State.nothing_to_settle : s.flushBlots.nvmRecover = s := by
  have hf : s.flushBlots = s := by
    simp only [State.flushBlots, hb, forEach]
    rw [← hb]
  rw [hf, State.nvmRecover, hw]

theorem State.cleared_bootCore (st : PState) : (s.cleared st).bootCore = s.keptCore st := by
  unfold State.cleared
  rw [State.nothing_to_settle hw hb]
  exact (bootCore_copied s _).trans rfl

theorem State.cleared_word (st : PState) (x : Nat) : (s.cleared st).word x = if x ∈ wordsKept then s.word x else resetReg x := by
  unfold State.cleared
  rw [State.nothing_to_settle hw hb]
  exact word_copied wordsKept s _ x

end

/-! ### SAFE_N in BOOT (R31, R49) -/

section
variable {s : State} (hb : s.pwr.state = .boot)
include hb

theorem State.safeLevel_notHeld (h : ¬(s.role = .tile ∧ s.sampled = true ∧ s.pwr.safeN = false)) :
    s.safeLevel.bootCore = s.bootCore := by
  have hk : s.roleKnown = s.sampled := by simp [State.roleKnown, State.running, hb]
  unfold State.safeLevel
  split_ifs with hn
  · rfl
  · simp only [hk, Bool.or_eq_true, Bool.not_eq_true', not_or, Bool.not_eq_true, Bool.not_eq_false] at hn
    obtain ⟨⟨hsafe, -⟩, hsampled⟩ := hn
    split
    · rfl
    · next hr => exact absurd ⟨hr, hsampled, hsafe⟩ h
    · rfl

variable (ht : s.pwr.trans = some ⟨.state .ready, false, 0⟩)
include ht

/-- The request that SAFE_N makes waits for the transition to READY (R47, R49). -/
theorem State.safeRequest_waits (hh : s.safeHold = true) :
    s.safeRequest.bootCore = s.bootCore.withQueued (some (.state .active)) := by
  have hp : s.powered = true := by simp [State.powered, hb]
  have hq : s.safeRequest = { s with pwr := { s.pwr with queued := some (.state .active) } } := by
    simp [State.safeRequest, hh, hp, ht]
  rw [hq]
  rfl

theorem State.safeLevel_held (hr : s.role = .tile) (hs : s.sampled = true) (hn : s.pwr.safeN = false) :
    s.safeLevel.bootCore = s.bootCore.withQueued (some (.state .active)) := by
  have hp : s.powered = true := by simp [State.powered, hb]
  have hk : s.roleKnown = true := by simp [State.roleKnown, hs]
  rw [State.safeLevel_tile hn hp hk hr]
  extract_lets _ u
  have shown : (if s.bit Fld.RED_TILE_STAT_SAFE then u else (u.raise Fld.RED_TILE_STAT_SAFE).raise Fld.RED_TILE_INT_SAFE).bootCore =
      s.bootCore := by
    split_ifs
    · rfl
    · exact (State.raise_bootCore _ (by decide)).trans (u.raise_bootCore (by decide))
  generalize (if s.bit Fld.RED_TILE_STAT_SAFE then u else (u.raise Fld.RED_TILE_STAT_SAFE).raise Fld.RED_TILE_INT_SAFE) = v
    at shown ⊢
  have pwr : v.pwr = s.pwr := congrArg BootCore.pwr shown
  have role : v.role = s.role := congrArg BootCore.role shown
  have sampled : v.sampled = s.sampled := congrArg BootCore.sampled shown
  have hold : v.safeHold = true := by simp [State.safeHold, State.roleKnown, role, sampled, pwr, hr, hs, hn]
  rw [State.safeRequest_waits (by rw [pwr, hb]) (by rw [pwr, ht]) hold, shown]

theorem State.safeLevel_bootCore (hq : s.pwr.queued = none) :
    s.safeLevel.bootCore = s.bootCore.withQueued
      (if s.role = .tile ∧ s.sampled = true ∧ s.pwr.safeN = false then some (.state .active) else none) := by
  split_ifs with h
  · obtain ⟨hr, hs, hn⟩ := h
    exact State.safeLevel_held hb ht hr hs hn
  · rw [State.safeLevel_notHeld hb h, ← hq]
    rfl

end

/-! ### Entry into BOOT (R42, R240, R399) -/

/-- What entry into BOOT makes of the power state; a BOOT waits where a required rail is not good. -/
def Power.booting (p : Power) (wake wait : Bool) : Power :=
  { p with
    trans    := some ⟨.state .ready, false, 0⟩
    fromWake := wake
    wakeSeen := false
    pulls    := true
    bootWait := wait }

/-- Entry into BOOT begins the transition to READY (R42). -/
def State.booting (s : State) (wake : Bool) : State := { s with pwr := s.pwr.booting wake (!s.railsOk) }

theorem State.enterBoot_eq (s : State) (wake : Bool) :
    s.enterBoot wake = ((s.cleared .boot).restored.origAgain.epochUp.booting wake).floatDrive.safeLevel := by
  unfold State.enterBoot
  generalize (s.cleared .boot).restored.origAgain.epochUp = u
  rfl

/-- The core that entry into BOOT leaves of the node `s`. -/
def State.bootedCore (s : State) (wake wait : Bool) : BootCore :=
  (((s.keptCore .boot).withEpoch s.saved.faultEpoch.toNat).epochUp.withPwr ((s.pwr.cleared .boot).booting wake wait)).withQueued
    (if s.role = .tile ∧ s.sampled = true ∧ s.pwr.safeN = false then some (.state .active) else none)

/-- FAULT_EPOCH after BOOT is one more than MRAM had, modulo 2^16. -/
theorem State.bootedCore_faultEpoch (s : State) (wake wait : Bool) :
    (s.bootedCore wake wait).saved.faultEpoch = s.saved.faultEpoch + 1 := by
  show BitVec.ofNat 16 ((s.saved.faultEpoch.toNat + 1) % 2 ^ 16) = s.saved.faultEpoch + 1
  apply BitVec.eq_of_toNat_eq
  simp

section
variable {s : State} (hw : s.nvm.writing = none) (hb : s.blots.mramWait = [])
include hw hb

/-- Entry into BOOT, step by step: what the clearing leaves, FAULT_EPOCH restored and one up, the transition to READY, SAFE_N. -/
theorem State.enterBoot_bootCore (wake : Bool) : ∃ wait : Bool, (s.enterBoot wake).bootCore = s.bootedCore wake wait := by
  have cleared := State.cleared_bootCore hw hb .boot
  rw [State.enterBoot_eq]
  generalize s.cleared .boot = c at cleared ⊢
  have mem : c.mem = MemSt.reset := congrArg BootCore.mem cleared
  have saved : c.saved = s.saved := congrArg BootCore.saved cleared
  have up : c.restored.origAgain.epochUp.bootCore = ((s.keptCore .boot).withEpoch s.saved.faultEpoch.toNat).epochUp := by
    rw [State.epochUp_bootCore, State.origAgain_bootCore, c.restored_bootCore mem, cleared, saved]
  generalize c.restored.origAgain.epochUp = u at up ⊢
  have upPwr : u.pwr = s.pwr.cleared .boot := congrArg BootCore.pwr up
  have boots : (u.booting wake).floatDrive.bootCore =
      ((s.keptCore .boot).withEpoch s.saved.faultEpoch.toNat).epochUp.withPwr ((s.pwr.cleared .boot).booting wake (!u.railsOk)) := by
    rw [State.floatDrive_bootCore, ← up, ← upPwr]
    rfl
  generalize (u.booting wake).floatDrive = v at boots ⊢
  have pwr : v.pwr = (s.pwr.cleared .boot).booting wake (!u.railsOk) := congrArg BootCore.pwr boots
  have role : v.role = s.role := congrArg BootCore.role boots
  have sampled : v.sampled = s.sampled := congrArg BootCore.sampled boots
  have safeN : v.pwr.safeN = s.pwr.safeN := by rw [pwr]; rfl
  refine ⟨!u.railsOk, ?_⟩
  rw [State.safeLevel_bootCore (by rw [pwr]; rfl) (by rw [pwr]; rfl) (by rw [pwr]; rfl), boots, role, sampled, safeN]
  rfl

end

/-! ### A power-on or brown-out reset (R42, R426) -/

/-- A reset of the whole part holds the node: of the registers only the two that stand for MRAM keep their words. -/
def State.resetHeld (s : State) (k : Nat) (clear : Bool) : State :=
  { s with
    sampled := false
    regs    := SMap.set resetReg (SMap.set resetReg [] Reg.NVM_POOL (s.word Reg.NVM_POOL)) Reg.NVM_RECOV (s.word Reg.NVM_RECOV)
    saved   := { s.saved with retiredLanes := 0 }
    pwr     := { s.pwr with
      held := k
      wakeSeen := false
      pulls := false
      thermalLatch := s.pwr.thermalLatch && !clear } }

theorem State.assertReset_eq (s : State) (k : Nat) (clear : Bool) :
    s.assertReset k clear =
      (s.cleared (if s.pwr.thermalLatch = true ∧ clear = false then .shutdown else .off)).floatDrive.resetHeld k clear := by
  have hc : (if s.pwr.thermalLatch && !clear then PState.shutdown else .off) =
      if s.pwr.thermalLatch = true ∧ clear = false then .shutdown else .off := by simp
  rw [← hc]
  rfl

theorem State.resetHeld_word (s : State) (k : Nat) (clear : Bool) {x : Nat} (h1 : x ≠ Reg.NVM_POOL) (h2 : x ≠ Reg.NVM_RECOV) :
    (s.resetHeld k clear).word x = resetReg x :=
  (SMap.get_set_other _ _ _ _ _ h2).trans (SMap.get_set_other _ _ _ _ _ h1)

/-- Settles O30: entry into BOOT by the core that it leaves, the words by what a reset copies, and a reset of the whole part by what
it holds. -/
theorem resetsKeepWhatTheyMust : Obligations.ResetsKeepWhatTheyMust := by
  unfold Obligations.ResetsKeepWhatTheyMust
  refine ⟨?boot, ?words, ?whole⟩
  case boot =>
    intro s wake hw hb
    obtain ⟨wait, h⟩ := State.enterBoot_bootCore hw hb wake
    generalize s.enterBoot wake = u at h ⊢
    have saved := congrArg BootCore.saved h
    exact ⟨congrArg (·.pwr.state) h, congrArg (·.pwr.trans) h, congrArg (·.pwr.queued) h, congrArg (·.clk.dtime) h,
      congrArg (·.clk.fn) h, congrArg (·.heads.frames) h, congrArg (·.ingest.srcs) h, congrArg BootCore.role h,
      congrArg BootCore.domain h, congrArg BootCore.client0 h, congrArg (·.nvm.pages) h, congrArg (·.upd.record) h,
      congrArg (·.upd.flash) h, (congrArg Saved.faultEpoch saved).trans (s.bootedCore_faultEpoch wake wait), congrArg BootCore.pending h⟩
  case words =>
    intro s x hw hb hx
    refine (State.cleared_word hw hb .boot x).trans (if_pos ?_)
    rcases hx with rfl | rfl | rfl | rfl <;> decide
  case whole =>
    intro s k clear hw hb
    rw [State.assertReset_eq]
    generalize (if s.pwr.thermalLatch = true ∧ clear = false then PState.shutdown else .off) = st
    have h : (s.cleared st).floatDrive.bootCore = s.keptCore st := by rw [State.floatDrive_bootCore, State.cleared_bootCore hw hb]
    generalize (s.cleared st).floatDrive = u at h ⊢
    exact ⟨congrArg (·.pwr.state) h, rfl, congrArg (·.upd.record) h, congrArg (·.nvm.pages) h, congrArg BootCore.domain h,
      fun x h1 h2 => u.resetHeld_word k clear h1 h2⟩

end Sys2Proof.Machine
end

section
/-! PROOFS. The immediate commands on head objects (R78, R79, R290, R306, R321, R324): what a head does once it has accepted one, and
the statement O19. -/

namespace Sys2Proof.Machine

/-- An immediate command of a head's own acts on the head that has accepted it, with the words it came with; DOM_SNAPSHOT alone
has words that the head fills in (R395). -/
theorem exec_headNow {i : Instr} {s t : State} {op : Nat} {o : OpRow} {c : Cmd} (hi : commandOf i = some (op, c))
    (h : ActsNow s op o c t) (ho : headOp op = true) (hs : op ≠ opDOM_SNAPSHOT) :
    exec i s = .next (after s ((t.acceptedNow op o c).applyHeadNow op c)) := by
  have hr : op ≠ opDOM_RESET := by rintro rfl; exact absurd ho (by decide)
  have ht : op ≠ opTICK_CONFIG := by rintro rfl; exact absurd ho (by decide)
  rw [exec_command s hi, takeCommand_actsNow h, madeReady_eq _ op c hr hs ht, State.actNow, if_pos ho]

section
variable (a : State) (c : Cmd)

theorem State.applyHeadNow_clientOpen :
    a.applyHeadNow opCLIENT_OPEN c =
      let u := a.setClient (clientArg c.params) (clientOf c.params)
      u.answer opCLIENT_OPEN c stOK false u.clk.fn [] := rfl

theorem State.applyHeadNow_srcDefine :
    a.applyHeadNow opSRC_DEFINE c =
      let u := a.applyDefine c.client c.params
      u.answer opSRC_DEFINE c stOK false u.clk.fn [] := rfl

theorem State.applyHeadNow_srcStatus :
    a.applyHeadNow opSRC_STATUS c =
      let n := wbits (nth c.params 0) 5 0
      a.answer opSRC_STATUS c stOK false a.clk.fn
        ([Reg.SRC_STAT n, Reg.SRC_FCNT n, Reg.SRC_SIG n, Reg.SRC_RANGECNT n, Reg.SRC_SYNCCNT n, Reg.SRC_ERRCNT n,
          Reg.SRC_RTPOFS n].map (a.peekReg false)) := rfl

theorem State.applyHeadNow_srcWatch :
    a.applyHeadNow opSRC_WATCH c =
      let u := a.applyWatch c.client (nth c.params 0)
      u.answer opSRC_WATCH c stOK false u.clk.fn [] := rfl

theorem State.applyHeadNow_tileQuery :
    a.applyHeadNow opTILE_QUERY c =
      a.answer opTILE_QUERY c stOK false a.clk.fn ((a.queryOf (nth c.params 0)).getD []) := rfl

theorem State.applyHeadNow_jrnConfig :
    a.applyHeadNow opJRN_CONFIG c =
      let u := a.jrnConfigure c.params
      u.answer opJRN_CONFIG c stOK false u.clk.fn [] := rfl

end

/-- Settles O19: each command acts on the head that has accepted it. -/
theorem headObjectCommandsAct : Obligations.HeadObjectCommandsAct := by
  unfold Obligations.HeadObjectCommandsAct
  refine ⟨?clientOpen, ?srcDefine, ?srcStatus, ?srcWatch, ?tileQuery, ?jrnConfig⟩
  case clientOpen =>
    intro s t o c h a
    rw [exec_headNow rfl h rfl (by decide), State.applyHeadNow_clientOpen]
  case srcDefine =>
    intro s t o c h a
    rw [exec_headNow rfl h rfl (by decide), State.applyHeadNow_srcDefine]
  case srcStatus =>
    intro s t o c h a n
    rw [exec_headNow rfl h rfl (by decide), State.applyHeadNow_srcStatus]
    rfl
  case srcWatch =>
    intro s t o c h a
    rw [exec_headNow rfl h rfl (by decide), State.applyHeadNow_srcWatch]
  case tileQuery =>
    intro s t o c h a
    rw [exec_headNow rfl h rfl (by decide), State.applyHeadNow_tileQuery]
  case jrnConfig =>
    intro s t o c h a
    rw [exec_headNow rfl h rfl (by decide), State.applyHeadNow_jrnConfig]

end Sys2Proof.Machine
end

section
/-! PROOFS. The source registers with effects of their own (R53, R66, R71 to R74): what a write or a doorbell does at a powered head,
and the statement O33. -/

namespace Sys2Proof.Machine

section
variable {s : State}

/-! ### Groups and tables -/

section
variable (hr : s.role = .head) (hp : s.powered = true)
include hr hp

theorem doGmodeWrite_head (g : Nat) (v : Word) :
    let t := (if wbits v 8 8 = 1 then s.put (Fld.SRC_GRP_CFG_ERR g) 0 else s).put (Fld.SRC_GRP_CFG_FEC g) (wbits v 4 4)
    doGmodeWrite g v s = if t.groupBusy g = true then t.raise (Fld.SRC_GRP_CFG_ERR g)
      else t.put (Fld.SRC_GRP_CFG_GMODE g) (wbits v 1 0) :=
  if_neg (by simp [hr, hp])

/-- A mode that differs from the one in effect takes its place, and the lanes of the group lose lock (R53). -/
theorem doGmodeTake_retrains (g : Nat) (h : s.ingest.gmode.getD g 3 ≠ s.get (Fld.SRC_GRP_CFG_GMODE g)) :
    doGmodeTake g s = forEach (List.range 4)
      (fun i u => (((u.put (Fld.SRC_LANE_STAT_LOCK (4 * g + i)) 0).put (Fld.SRC_LANE_STAT_RATE (4 * g + i)) 0).put
        (Fld.SRC_LANE_STAT_M1001 (4 * g + i)) 0).put (Fld.SRC_LANE_STAT_PID (4 * g + i)) 0)
      { s with ingest := { s.ingest with gmode := setAt s.ingest.gmode g (s.get (Fld.SRC_GRP_CFG_GMODE g)) } } :=
  (if_neg (by simp [hr, hp])).trans (if_neg h)

theorem doLutSwap_head (v : Word) :
    let t := ((if wbits v 17 17 = 1 then s.put Fld.SRC_LUT_CTL_ERR 0 else s).put Fld.SRC_LUT_CTL_TABLE (wbits v 15 12)).put
      Fld.SRC_LUT_CTL_INDEX (wbits v 11 0)
    doLutSwap v s = if wbits v 16 16 = 1 ∧ wbits v 15 12 ≤ 8 then
        State.raise { t with ingest := { t.ingest with
          swaps := if wbits v 15 12 ∈ t.ingest.swaps then t.ingest.swaps else wbits v 15 12 :: t.ingest.swaps } }
          Fld.SRC_LUT_CTL_SWAP
      else t :=
  if_neg (by simp [hr, hp])

theorem doLutData_write (v : Word) : doLutData (some v) s = s.writeLutData v :=
  if_neg (by simp [hr, hp])

theorem doLutData_read :
    doLutData none s = s.readLutData.2.emit (.readValue Reg.SRC_LUT_DATA s.readLutData.1) :=
  if_neg (by simp [hr, hp])

end

/-! ### Doorbells of host sources (R66) -/

section
variable {n : Nat} {v : Word} (hi : s.ingestRuns = true)
include hi

/-- A doorbell that names no buffer of an enabled host source is an error. -/
theorem doHready_refused (h : s.get (Fld.SRC_CFG_KIND n) ≠ 4 ∨ s.bit (Fld.SRC_CFG_ENABLED n) = false ∨
    (s.src n).bufs.length ≤ wbits v 1 0) : doHready n v s = s.raise (Fld.SRC_STAT_HRDY_ERR n) :=
  (if_neg (by simp [hi])).trans (if_pos h)

/-- The fetch of a held doorbell starts when none is under way. -/
theorem doHeldBell_fetches {b : Nat} (hf : (s.src n).fetching = none) (hh : (s.src n).heldBell = some b) :
    doHeldBell n s = s.setSrc n { s.src n with fetching := some b, heldBell := none } := by
  simp [doHeldBell, hi, hf, hh]

variable (hk : s.get (Fld.SRC_CFG_KIND n) = 4) (he : s.bit (Fld.SRC_CFG_ENABLED n) = true) (hb : wbits v 1 0 < (s.src n).bufs.length)
include hk he hb

theorem doHready_fetches (hf : (s.src n).fetching = none) (hh : (s.src n).heldBell = none) :
    doHready n v s = s.setSrc n { s.src n with fetching := some (wbits v 1 0) } := by
  simp [doHready, hi, hk, he, hb.not_ge, hf, hh]

theorem doHready_holds {b : Nat} (hf : (s.src n).fetching = some b) (hh : (s.src n).heldBell = none) :
    doHready n v s = s.setSrc n { s.src n with heldBell := some (wbits v 1 0) } := by
  simp [doHready, hi, hk, he, hb.not_ge, hf, hh]

/-- A doorbell that comes while one is held replaces it, whether or not a fetch is under way. -/
theorem doHready_replaces {b : Nat} (hh : (s.src n).heldBell = some b) :
    doHready n v s = (s.count (Fld.SRC_SYNCCNT_DROP n)).setSrc n { s.src n with heldBell := some (wbits v 1 0) } := by
  have hsrc : (s.count (Fld.SRC_SYNCCNT_DROP n)).src n = s.src n := rfl
  cases hf : (s.src n).fetching <;> simp [doHready, hi, hk, he, hb.not_ge, hf, hh, hsrc]

end

end

/-- Settles O33: each row by what its write or its doorbell does. -/
theorem sourceRegistersAct : Obligations.SourceRegistersAct := by
  unfold Obligations.SourceRegistersAct
  refine ⟨?mode, ?take, ?bell, ?refused, ?held, ?swap, ?data⟩
  case mode => exact fun s g v hr hp => finish_eq s (doGmodeWrite_head hr hp g.val v)
  case take => exact fun s g hr hp h => finish_eq s (doGmodeTake_retrains hr hp g.val h)
  case bell =>
    intro s n v hi hk he hb
    exact ⟨fun hf hh => finish_eq s (doHready_fetches hi hk he hb hf hh),
      fun b hf hh => finish_eq s (doHready_holds hi hk he hb hf hh),
      fun b hh => finish_eq s (doHready_replaces hi hk he hb hh)⟩
  case refused => exact fun s n v hi h => finish_eq s (doHready_refused hi h)
  case held => exact fun s n b hi hf hh => finish_eq s (doHeldBell_fetches hi hf hh)
  case swap =>
    intro s v hr hp t
    have hd := doLutSwap_head hr hp v
    refine ⟨fun hs ht hn => finish_eq s (hd.trans ?_), fun hs => finish_eq s (hd.trans (if_neg (by omega)))⟩
    rw [if_pos ⟨hs, ht⟩, if_neg hn]
  case data => exact fun s v hr hp => ⟨finish_eq s (doLutData_write hr hp v), finish_eq s (doLutData_read hr hp)⟩

end Sys2Proof.Machine
end

section
/-! PROOFS. The reports of SDI receivers (R53, R54, R57, R58): what a part of a line shows of its lane, and where the lines of the
single mode and of quad-link mode go. -/

namespace Sys2Proof.Machine

/-! ### Fields of one register -/

/-- Setting a field leaves every field of the same register that shares no bit with it alone. -/
theorem State.get_put_disjoint (s : State) (f g : Fld) (v : Nat) (ho : g.off = f.off) (hf : f.lo ≤ f.hi) (hw : f.hi < 32)
    (hg : g.lo ≤ g.hi) (hd : f.hi < g.lo ∨ g.hi < f.lo) : (s.put f v).get g = s.get g := by
  rw [State.get, State.get, ho, State.word_put_toNat s f v hf hw]
  apply bitsOf_setBits_other
  unfold Fld.width
  omega

/-! ### What a receiver shows of its lane -/

section
variable (s : State) (p : SdiPart)

/-- The lane shows the rate found. -/
theorem State.reportLane_rate : (s.reportLane p).get (Fld.SRC_LANE_STAT_RATE p.lane.val) = p.rate.toNat := by
  unfold State.reportLane State.putBit
  dsimp only
  rw [State.get_put_disjoint _ (Fld.SRC_LANE_STAT_M1001 p.lane.val) (Fld.SRC_LANE_STAT_RATE p.lane.val) _ rfl
    (le_refl 4) (by decide : 4 < 32) (by decide : 1 ≤ 3) (by decide : 4 < 1 ∨ 3 < 4)]
  exact State.get_put_of_lt _ _ _ (by decide : 1 ≤ 3) (by decide : 3 < 32) p.rate.isLt

/-- The lane shows lock exactly when a rate was found. -/
theorem State.reportLane_lock :
    (s.reportLane p).get (Fld.SRC_LANE_STAT_LOCK p.lane.val) = if p.rate = 0 then 0 else 1 := by
  unfold State.reportLane State.putBit
  dsimp only
  rw [State.get_put_disjoint _ (Fld.SRC_LANE_STAT_M1001 p.lane.val) (Fld.SRC_LANE_STAT_LOCK p.lane.val) _ rfl
      (le_refl 4) (by decide : 4 < 32) (le_refl 0) (by decide : 4 < 0 ∨ 0 < 4),
    State.get_put_disjoint _ (Fld.SRC_LANE_STAT_RATE p.lane.val) (Fld.SRC_LANE_STAT_LOCK p.lane.val) _ rfl
      (by decide : 1 ≤ 3) (by decide : 3 < 32) (le_refl 0) (by decide : 3 < 0 ∨ 0 < 1),
    State.get_put_self _ _ _ (le_refl 0) (by decide : 0 < 32)]
  by_cases h : p.rate = 0
  · rw [h]
    rfl
  · have hb : (p.rate != 0) = true := by simpa using h
    rw [if_neg h, if_pos hb]
    rfl

end

/-! ### Where the parts of a line go -/

/-- What a line leaves once each of its receivers has reported its lane. -/
def State.reportLanes (s : State) (l : List SdiPart) : State := forEach l (fun p u => u.reportLane p) s

section
variable {s : State} {l : SdiLine}

theorem doSdiLine_stopped (h : s.ingestRuns = false) : doSdiLine l s = s :=
  if_pos (by simp [h])

variable (hi : s.ingestRuns = true)
include hi

/-- Lanes of another mode than the SDI modes report nothing. -/
theorem doSdiLine_otherMode (h : ∀ p ∈ l.parts, 2 ≤ s.laneMode p.lane.val) : doSdiLine l s = s := by
  have hn : l.parts.filter (fun p => decide (s.laneMode p.lane.val ≤ 1)) = [] :=
    List.filter_eq_nil_iff.mpr fun p hp => by have := h p hp; simp; omega
  simp [doSdiLine, hi, hn, forEach]

/-- In the SDI modes a line whose receivers find no rate shows that, and goes nowhere. -/
theorem doSdiLine_noRate (h : ∀ p ∈ l.parts, s.laneMode p.lane.val ≤ 1) (hr : ∀ p ∈ l.parts, p.rate = 0) :
    doSdiLine l s = s.reportLanes l.parts := by
  have hs : l.parts.filter (fun p => decide (s.laneMode p.lane.val ≤ 1)) = l.parts :=
    List.filter_eq_self.mpr fun p hp => by simpa using h p hp
  have hn : l.parts.filter (fun p => p.rate != 0) = [] :=
    List.filter_eq_nil_iff.mpr fun p hp => by simp [hr p hp]
  simp only [doSdiLine, hi, hs, hn, forEach, List.filter_nil, Bool.not_true, Bool.false_eq_true, if_false, if_true]
  rfl

/-- In the single mode each part goes to the enabled sources of its lane. -/
theorem doSdiLine_single (h : ∀ p ∈ l.parts, s.laneMode p.lane.val = 0) (hr : ∀ p ∈ l.parts, p.rate ≠ 0) :
    doSdiLine l s = forEach l.parts (fun p u => forEach (u.inputOf 1 p.lane.val)
      (fun n v => v.sdiLine n l.line l.field2 p.luma p.cb p.cr p.crcOk) u) (s.reportLanes l.parts) := by
  have hs : l.parts.filter (fun p => decide (s.laneMode p.lane.val ≤ 1)) = l.parts :=
    List.filter_eq_self.mpr fun p hp => by simp [h p hp]
  have hl : l.parts.filter (fun p => p.rate != 0) = l.parts :=
    List.filter_eq_self.mpr fun p hp => by simpa using hr p hp
  have h1 : l.parts.filter (fun p => decide (s.laneMode p.lane.val = 0)) = l.parts :=
    List.filter_eq_self.mpr fun p hp => by simp [h p hp]
  have hq (g : Nat) : l.parts.filter (fun p => decide (p.lane.val / 4 = g) && decide (s.laneMode p.lane.val = 1)) = [] :=
    List.filter_eq_nil_iff.mpr fun p hp => by simp [h p hp]
  simp only [doSdiLine, hi, hs, hl, h1, hq, forEach, Bool.not_true, Bool.false_eq_true, if_false, if_true]
  rfl

/-- In quad-link mode the parts of a group's lanes go together to the enabled sources of the group. -/
theorem doSdiLine_quad (g : Fin 2) (hm : s.ingest.gmode.getD g.val 3 = 1) (hne : l.parts ≠ [])
    (h : ∀ p ∈ l.parts, p.lane.val / 4 = g.val ∧ p.rate ≠ 0) :
    doSdiLine l s = let u := s.reportLanes l.parts
      forEach (u.inputOf 2 g.val) (fun n v => v.quadLines n l.line l.parts) u := by
  have hmode : ∀ p ∈ l.parts, s.laneMode p.lane.val = 1 := fun p hp => by rw [State.laneMode, (h p hp).1, hm]
  have hs : l.parts.filter (fun p => decide (s.laneMode p.lane.val ≤ 1)) = l.parts :=
    List.filter_eq_self.mpr fun p hp => by simp [hmode p hp]
  have hl : l.parts.filter (fun p => p.rate != 0) = l.parts :=
    List.filter_eq_self.mpr fun p hp => by simpa using (h p hp).2
  have h1 : l.parts.filter (fun p => decide (s.laneMode p.lane.val = 0)) = [] :=
    List.filter_eq_nil_iff.mpr fun p hp => by simp [hmode p hp]
  have hq (k : Nat) : l.parts.filter (fun p => decide (p.lane.val / 4 = k) && decide (s.laneMode p.lane.val = 1)) =
      if k = g.val then l.parts else [] := by
    split_ifs with hk
    · exact List.filter_eq_self.mpr fun p hp => by simp [hmode p hp, (h p hp).1, hk]
    · exact List.filter_eq_nil_iff.mpr fun p hp => by simp [(h p hp).1, Ne.symm hk]
  simp only [doSdiLine, hi, hs, hl, h1, hq, forEach, Bool.not_true, Bool.false_eq_true, if_false]
  fin_cases g <;> simp [hne, State.reportLanes]

end

/-- A quad-link line without the part of one link leaves both its picture lines missing (R58). -/
theorem State.quadLines_incomplete (s : State) (k n : Nat) (l : List SdiPart) {i : Nat} (hi : i ∈ [1, 2, 3, 4])
    (h : quadPart l i = none) :
    s.quadLines k n l = ((s.openFrame k none).2.lostLine k (2 * n)).lostLine k (2 * n + 1) := by
  have hany : quadPart l 1 = none ∨ quadPart l 2 = none ∨ quadPart l 3 = none ∨ quadPart l 4 = none := by
    simp only [List.mem_cons, List.not_mem_nil, or_false] at hi
    rcases hi with rfl | rfl | rfl | rfl <;> simp [h]
  unfold State.quadLines
  split
  · rename_i h1 h2 h3 h4
    simp [h1, h2, h3, h4] at hany
  · rfl

end Sys2Proof.Machine
end

section
/-! PROOFS. Packets of ST 2110 flows (R60 to R64): what each check turns away, and what becomes of a packet that passes them all. -/

namespace Sys2Proof.Machine

/-- The lanes of a group in ST 2110 mode once a frame has come over them. -/
def State.lanesLocked (s : State) (g : Nat) : State :=
  forEach (List.range 4) (fun i u => u.raise (Fld.SRC_LANE_STAT_LOCK (4 * g + i))) s

/-- A packet that passes every check of its form and its flow, that of filter `i` (R60, R61, R63, R64). -/
structure PacketPasses (t : State) (f : EthFrame) (i : Nat) : Prop where
  fcs      : f.fcsOk = true
  ipv4     : f.ipv4 = true
  whole    : f.fragment = false
  vlan     : f.vlanTags ≤ 1
  flow     : t.matchFlow f = some i
  ipSum    : f.ipSumOk = true
  udpSum   : f.udpSum = 0 ∨ f.udpSumOk = true
  version  : f.rtpVer = 2
  payload  : f.payloadType.toNat = t.get (Fld.SRC_FLOW_MAP_PT i)
  picture  : t.get (Fld.SRC_FLOW_MAP_KIND i) ≠ 1
  rows     : ∀ r ∈ f.srds, r.line < t.fieldH (t.get (Fld.SRC_FLOW_MAP_SOURCE i)) ∧
    r.offset < t.rasterW (t.get (Fld.SRC_FLOW_MAP_SOURCE i)) ∧
    r.octets % (pgroup (t.get (Fld.SRC_CFG_FORMAT (t.get (Fld.SRC_FLOW_MAP_SOURCE i))))).1 = 0

/-- What becomes of a packet of filter `i` that passes every check (R62, R64): a twin of one seen is DUP, or LATE after 10 ms; one
that the receive buffer has no room for or has moved past is LATE; any other is kept and goes to its frame. -/
def State.mergePacket (t : State) (f : EthFrame) (i : Nat) : State :=
  let n := t.get (Fld.SRC_FLOW_MAP_SOURCE i)
  ((t.src n).seqs.find? (fun e => decide (e.1 = f.seq.toNat))).elim
    (if f.full || olderThanBuffer i f.seq.toNat (t.src n).seqs then t.ethErr f.eth.val 7
     else (((t.setSrc n { t.src n with seqs := keepSeq f.seq.toNat i t.clk.upNs (t.src n).seqs }).tally 0x0C4).drainFlow
       n).takePacket n f.eth.val f)
    (fun e => if e.2.2 + 10000000 < t.clk.upNs then t.ethErr f.eth.val 7 else t.ethErr f.eth.val 6)

section
variable {s : State} {f : EthFrame}

theorem doSt2110_stopped (h : s.ingestRuns = false) : doSt2110 f s = s :=
  if_pos (by simp [h])

variable (hi : s.ingestRuns = true) (hm : s.ingest.gmode.getD f.eth.val 3 = 2)
include hi hm

/-- A group in ST 2110 mode of a head whose ingest runs takes what its port receives. -/
theorem st2110_taken : ¬((!s.ingestRuns) = true ∨ s.ingest.gmode.getD f.eth.val 3 ≠ 2) :=
  not_or.mpr ⟨by simp [hi], not_not.mpr hm⟩

theorem doSt2110_badFcs (h : f.fcsOk = false) : doSt2110 f s = (s.lanesLocked f.eth.val).ethErr f.eth.val 0 :=
  (if_neg (st2110_taken hi hm)).trans (if_pos h)

/-- A frame of a form that is not taken, or of a flow that no filter names, is no packet of a source (R60). -/
theorem doSt2110_noFlow (hf : f.fcsOk = true) (h : f.ipv4 = false ∨ f.fragment = true ∨ 1 < f.vlanTags ∨
    (s.lanesLocked f.eth.val).matchFlow f = none) : doSt2110 f s = (s.lanesLocked f.eth.val).ethErr f.eth.val 1 := by
  refine (if_neg (st2110_taken hi hm)).trans ((if_neg (by simp [hf])).trans ?_)
  by_cases hform : f.ipv4 = false ∨ f.fragment = true ∨ 1 < f.vlanTags
  · exact if_pos hform
  · have hnone : (s.lanesLocked f.eth.val).matchFlow f = none := by tauto
    refine (if_neg hform).trans ?_
    unfold State.lanesLocked at hnone
    rw [hnone]
    rfl

theorem doSt2110_passes {i : Nat} (h : PacketPasses (s.lanesLocked f.eth.val) f i) :
    doSt2110 f s = (s.lanesLocked f.eth.val).mergePacket f i := by
  obtain ⟨hfcs, hip, hwhole, hvlan, hflow, hsum, hudp, hver, hpay, hpic, hrows⟩ := h
  have hform : ¬(f.ipv4 = false ∨ f.fragment = true ∨ 1 < f.vlanTags) := by simp [hip, hwhole, hvlan]
  have hsums : ¬(f.ipSumOk = false ∨ f.udpSum ≠ 0 ∧ f.udpSumOk = false) := by
    rcases hudp with hu | hu <;> simp [hsum, hu]
  refine (if_neg (st2110_taken hi hm)).trans ((if_neg (by simp [hfcs])).trans ((if_neg hform).trans ?_))
  unfold State.mergePacket
  unfold State.lanesLocked at *
  generalize forEach (List.range 4) _ s = t at *
  rw [hflow]
  refine (if_neg hsums).trans ((if_neg (by simp [hver, hpay])).trans ((if_neg hpic).trans ((if_neg ?_).trans ?_)))
  · simp only [List.any_eq_true, not_exists, not_and, Bool.or_eq_true, decide_eq_true_eq]
    intro r hr
    have := hrows r hr
    omega
  · dsimp only
    split <;> rename_i hfind
    · rw [hfind, Option.elim_some]
    · rw [hfind, Option.elim_none]

end

section
variable {t : State} {f : EthFrame} {i : Nat}

theorem State.mergePacket_kept (hf : (t.src (t.get (Fld.SRC_FLOW_MAP_SOURCE i))).seqs.find? (fun e => decide (e.1 = f.seq.toNat)) = none)
    (hr : f.full = false) (ho : olderThanBuffer i f.seq.toNat (t.src (t.get (Fld.SRC_FLOW_MAP_SOURCE i))).seqs = false) :
    t.mergePacket f i = let n := t.get (Fld.SRC_FLOW_MAP_SOURCE i)
      (((t.setSrc n { t.src n with seqs := keepSeq f.seq.toNat i t.clk.upNs (t.src n).seqs }).tally 0x0C4).drainFlow n).takePacket n
        f.eth.val f := by
  simp [State.mergePacket, hf, hr, ho]

theorem State.mergePacket_tooLate
    (hf : (t.src (t.get (Fld.SRC_FLOW_MAP_SOURCE i))).seqs.find? (fun e => decide (e.1 = f.seq.toNat)) = none)
    (h : f.full = true ∨ olderThanBuffer i f.seq.toNat (t.src (t.get (Fld.SRC_FLOW_MAP_SOURCE i))).seqs = true) :
    t.mergePacket f i = t.ethErr f.eth.val 7 := by
  rcases h with h | h <;> simp [State.mergePacket, hf, h]

theorem State.mergePacket_twin {e : Nat × Nat × Nat}
    (hf : (t.src (t.get (Fld.SRC_FLOW_MAP_SOURCE i))).seqs.find? (fun e => decide (e.1 = f.seq.toNat)) = some e) :
    t.mergePacket f i = if e.2.2 + 10000000 < t.clk.upNs then t.ethErr f.eth.val 7 else t.ethErr f.eth.val 6 := by
  unfold State.mergePacket
  dsimp only
  rw [hf, Option.elim_some]

end

end Sys2Proof.Machine
end

section
/-! PROOFS. Frames of the sources (R57, R66, R79, R80, R315): their completion, their loss and the fetch of a host buffer; and the
statement O52. -/

namespace Sys2Proof.Machine

section
variable {s : State} {n : Nat}

/-! ### Completion and loss -/

theorem doFrameComplete_stopped (info : FrameInfo) (h : s.ingestRuns = false) : doFrameComplete n info s = s :=
  if_pos (by simp [h])

theorem doLostTimeout_stopped (h : s.ingestRuns = false) : doLostTimeout n s = s :=
  if_neg (by simp [h])

theorem doLostTimeout_enabled (hi : s.ingestRuns = true) (he : s.bit (Fld.SRC_CFG_ENABLED n) = true) :
    doLostTimeout n s = s.setLost n true :=
  if_pos (by simp [hi, he])

/-- The receivers of a source's SDI lanes report whether its frame carried a payload identifier (R57). -/
def State.reportPid (s : State) (n : Nat) (info : FrameInfo) : State :=
  forEach (s.sdiLanes n) (fun i u => if u.laneMode i ≤ 1 then u.putBit (Fld.SRC_LANE_STAT_PID i) info.pid.isSome else u) s

/-- The last line of an enabled SDI source completes its frame. -/
theorem doFrameComplete_sdi (info : FrameInfo) (hi : s.ingestRuns = true)
    (he : (s.reportPid n info).bit (Fld.SRC_CFG_ENABLED n) = true)
    (hk : (s.reportPid n info).get (Fld.SRC_CFG_KIND n) = 1 ∨ (s.reportPid n info).get (Fld.SRC_CFG_KIND n) = 2) :
    doFrameComplete n info s = (s.reportPid n info).completeFrame n ((s.reportPid n info).formatWrong n info) := by
  refine (if_neg (by simp [hi])).trans ((if_neg (by simpa [State.reportPid] using he)).trans ?_)
  unfold State.reportPid at *
  rcases hk with hk | hk <;> (rw [hk]; rfl)

/-! ### The fetch of a host buffer (R66, R315) -/

/-- The read of the lines of a host source's buffer `b`. -/
def State.fetchBuffer (t : State) (n b : Nat) : Option BusFault × State :=
  let buf := (t.src n).bufs.getD b (0, 0)
  t.fetchLines (t.rasterH n) buf.1 buf.2 (t.rasterW n * (if t.get (Fld.SRC_CFG_FORMAT n) = 6 then 8 else 4))

section
variable {m : HostMem} {b : Nat} (rows : List (List RawPixel)) (hp : s.pci = true)
  (ho : ((s.showMem m).ingestRuns && (s.showMem m).channelOn 1) = true) (hf : ((s.showMem m).src n).fetching = some b)
include hp ho hf

/-- A frame fetched without a fault completes with its rows. -/
theorem doHostFrame_fetched {u : State} (h : (s.showMem m).fetchBuffer n b = (none, u)) :
    doHostFrame n rows m s = u.hostFrame n ((rows.take (u.rasterH n)).map (fun l => l.take (u.rasterW n))) := by
  unfold State.fetchBuffer at h
  simp only [doHostFrame, hp, ho, hf, if_true, Bool.not_true, Bool.false_eq_true, if_false]
  rw [h]

/-- A fetch that faults fails its frame and stops channel 1. -/
theorem doHostFrame_faulted {u : State} {e : BusFault} (h : (s.showMem m).fetchBuffer n b = (some e, u)) :
    doHostFrame n rows m s = (u.fetchFail n).channelFault 1 e := by
  unfold State.fetchBuffer at h
  simp only [doHostFrame, hp, ho, hf, if_true, Bool.not_true, Bool.false_eq_true, if_false]
  rw [h]

end

end

/-- Settles O52, row by row. -/
theorem sourceEventsAct : Obligations.SourceEventsAct := by
  unfold Obligations.SourceEventsAct
  refine ⟨?part, ?quad, ?incomplete, ?packet, ?frame, ?fetch, ?stopped⟩
  case part =>
    intro s n f2 p hi u
    have one {P : SdiPart → Prop} (h : P p) : ∀ q ∈ [p], P q := by simpa using h
    refine ⟨fun h => finish_eq s (doSdiLine_otherMode hi (one h)),
      fun h hr => finish_eq s (doSdiLine_noRate hi (one h) (one hr)),
      fun h hr => finish_eq s (doSdiLine_single hi (one h) (one hr)),
      fun h hr => finish_eq s (doSdiLine_quad hi ⟨p.lane.val / 4, by omega⟩ h (List.cons_ne_nil _ _) (one ⟨rfl, hr⟩)),
      s.reportLane_rate p, s.reportLane_lock p⟩
  case quad =>
    exact fun s g n a b c d hi hm h => finish_eq s (doSdiLine_quad (l := ⟨n, false, [a, b, c, d]⟩) hi g hm (List.cons_ne_nil _ _) h)
  case incomplete => exact fun s k n l i hi h => s.quadLines_incomplete k n l hi h
  case packet =>
    intro s f hi hm t
    refine ⟨?passes, fun h => finish_eq s (doSt2110_badFcs hi hm h), fun hf h => finish_eq s (doSt2110_noFlow hi hm hf h)⟩
    case passes =>
      intro i hfcs hip hfrag hvlan hflow hsum hudp hver hpay hpic n hrows
      have hd := doSt2110_passes hi hm ⟨hfcs, hip, hfrag, hvlan, hflow, hsum, hudp, hver, hpay, hpic, hrows⟩
      refine ⟨fun h1 h2 h3 => finish_eq s (hd.trans (State.mergePacket_kept h1 h2 h3)),
        fun h1 h2 => finish_eq s (hd.trans (State.mergePacket_tooLate h1 h2)), fun e he => ?_⟩
      have ht := hd.trans (State.mergePacket_twin he)
      exact ⟨fun h => finish_eq s (ht.trans (if_neg h.not_gt)), fun h => finish_eq s (ht.trans (if_pos h))⟩
  case frame =>
    intro s n info hi he
    refine ⟨?_, finish_eq s (doLostTimeout_enabled hi he)⟩
    rintro a rfl ha hk
    exact finish_eq s (doFrameComplete_sdi info hi ha hk)
  case fetch =>
    intro s n rows m b hp t ho hf buf r
    exact ⟨fun h => finish_eq s (doHostFrame_fetched rows hp ho hf (Prod.ext h rfl)),
      fun e h => finish_eq s (doHostFrame_faulted rows hp ho hf (Prod.ext h rfl))⟩
  case stopped =>
    exact fun s l f n info h => ⟨finish_eq s (doSdiLine_stopped h), finish_eq s (doSt2110_stopped h),
      finish_eq s (doFrameComplete_stopped info h), finish_eq s (doLostTimeout_stopped h)⟩

end Sys2Proof.Machine
end

section
/-! PROOFS. The accepted commands of a head at C of their tick (R84, R90, R91, R290, R303, R329): in which order they take effect, what
each does, and the statement O22. -/

namespace Sys2Proof.Machine

/-! ### The order of the accepted commands (R303) -/

section
variable {s : State} {a : Accepted} {f : Word}

theorem State.applyHead_noneAccepted (h : s.cmds.accepted = []) (f : Word) (n : Nat) : s.applyHead f n = s := by
  cases n with
  | zero => rfl
  | succ k => simp [State.applyHead, h]

/-- The first of the accepted commands goes first when it is due. -/
theorem State.applyHead_firstDue {rest : List Accepted} (h : s.cmds.accepted = a :: rest) (hd : later a.tick f = false) (n : Nat) :
    s.applyHead f (n + 1) = (({ s with cmds := { s.cmds with accepted := rest } }).applyAccepted a f).applyHead f n := by
  simp [State.applyHead, h, hd]

/-- A command of the head's own whose object still fits is noted for the journal and answered. -/
theorem State.applyAccepted_ok (h : (s.objStatus a.opcode a.cmd).1 = stOK) (hm : a.mirror = false) :
    s.applyAccepted a f =
      (((s.applyObj a.opcode a.cmd f).noteCmd a.opcode a.cmd).answer a.opcode a.cmd stOK a.late f []) :=
  (if_pos h).trans (if_neg (by simp [hm]))

end

/-! ### What the commands do -/

section
variable (s : State) (c : Cmd) (g : Word)

/-- The window commands apply their entries in order (R91). -/
theorem State.applyObj_windows {op : Nat} (h : op ∈ [opWIN_CREATE, opWIN_MODIFY, opWIN_DELETE, opWIN_BATCH]) :
    s.applyObj op c g = forEach (winEntries op c.params) (fun e u => u.applyEntry (cmdIssuer c) g e) s :=
  if_pos (by simpa using h)

/-- JRN_STOP ends the replay that runs, or else stops the journal (R329). -/
theorem State.applyObj_jrnStop :
    s.applyObj opJRN_STOP c g = s.jrn.replay.elim (s.put Fld.JRN_STAT_RUN 0) (fun r => s.endReplay r stDISCARDED []) := by
  change (match s.jrn.replay with | some r => s.endReplay r stDISCARDED [] | none => s.put Fld.JRN_STAT_RUN 0) = _
  cases s.jrn.replay with
  | none => rfl
  | some r => rfl

end

/-- Settles O22: the order by what `applyHead` takes first, and each command by its branch of `applyObj`. -/
theorem acceptedCommandsTakeEffect : Obligations.AcceptedCommandsTakeEffect := by
  unfold Obligations.AcceptedCommandsTakeEffect
  refine ⟨?none, ?first, ?applied, ?objects, ?windows⟩
  case none => exact fun s f n h => State.applyHead_noneAccepted h f n
  case first => exact fun s a f rest n h hd => State.applyHead_firstDue h hd n
  case applied => exact fun s a f h hm => State.applyAccepted_ok h hm
  case objects =>
    intro s c g
    refine ⟨rfl, rfl, rfl, rfl, rfl, rfl, rfl, rfl, fun h => ?_, fun r h => ?_⟩
    · rw [State.applyObj_jrnStop, h, Option.elim_none]
    · rw [State.applyObj_jrnStop, h, Option.elim_some]
  case windows => exact fun s op c g h => s.applyObj_windows c g h

end Sys2Proof.Machine
end

section
/-! PROOFS. The composer's registers with effects of their own (R90, R98, R108, R109, R117, R128): what a write or a read does at a
powered head, and the statement O34. -/

namespace Sys2Proof.Machine

/-- SET and INDEX of a write stand in CMP_FILT_CTL. -/
def State.filtChosen (s : State) (v : Word) : State :=
  (s.put Fld.CMP_FILT_CTL_SET (wbits v 19 16)).put Fld.CMP_FILT_CTL_INDEX (wbits v 10 0)

/-- TABLE and INDEX of a write stand in CMP_WLUT_CTL. -/
def State.wlutChosen (s : State) (v : Word) : State :=
  (s.put ⟨Reg.CMP_WLUT_CTL, 12, 12⟩ (wbits v 12 12)).put ⟨Reg.CMP_WLUT_CTL, 11, 0⟩ (wbits v 11 0)

/-- The lead rule of R128, with ADV in microseconds. -/
theorem State.leadOk_iff (s : State) (lead adv : Nat) :
    s.leadOk lead adv = true ↔ adv * 1000 ≤ s.tickInt ∧ 2 * (lead + adv * 1000) ≤ 3 * s.tickInt := by
  simp [State.leadOk]

section
variable {s : State} (hh : s.headRegs = true) (v : Word)
include hh

/-- A head with its registers powered acts on a write or read of them. -/
theorem headRegs_acts : ¬(!s.headRegs) = true := by
  simp [hh]

theorem doPlaneOrderWrite_head :
    doPlaneOrderWrite v s =
      if isOrder v then s.pend Reg.CMP_PLANE_ORDER 0x001FFFFF v else s.raise Fld.CMP_STAT_ORDER_ERR :=
  if_neg (headRegs_acts hh)

theorem doRunahead_head :
    doRunahead v s = if s.leadOk (s.get Fld.TIME_LEAD_NS) (wbits v 15 0) then s.pend Reg.CMP_RUNAHEAD 0xFFFF v
      else s.raise Fld.CMP_CMT_STAT_RA_ERR :=
  if_neg (headRegs_acts hh)

theorem doInkInval_head :
    let t := if s.comp.windows = [] then s.put Fld.CMP_INK_CTL_EN (wbits v 31 31) else s
    let u := if s.bit Fld.CMP_INK_CTL_EN then t else t.put Fld.CMP_INK_CTL_BASE (wbits v 15 0)
    doInkInval v s =
      if wbits v 30 30 = 1 then State.raise { u with comp := { u.comp with inval := true } } Fld.CMP_INK_CTL_INVAL else u :=
  if_neg (headRegs_acts hh)

/-! ### The coefficient sets (R98) -/

theorem doFiltSwap_noSwap (h : wbits v 20 20 = 0) : doFiltSwap v s = s.filtChosen v :=
  (if_neg (headRegs_acts hh)).trans (if_pos h)

theorem doFiltSwap_swap (h : wbits v 20 20 = 1) :
    doFiltSwap v s =
      if wbits v 10 0 ≠ 0 ∧ wbits v 10 0 ≤ 1151 then (s.filtChosen v).raise Fld.CMP_STAT_FILT_ERR
      else State.raise { s.filtChosen v with comp := { s.comp with
        filtSwaps := if wbits v 19 16 ∈ s.comp.filtSwaps then s.comp.filtSwaps else s.comp.filtSwaps ++ [wbits v 19 16] } }
        Fld.CMP_FILT_CTL_SWAP :=
  (if_neg (headRegs_acts hh)).trans (if_neg (by omega))

theorem doFiltData_write : doFiltData (some v) s = s.writeFiltData v :=
  if_neg (headRegs_acts hh)

theorem doFiltData_read : doFiltData none s = s.readFiltData.2.emit (.readValue Reg.CMP_FILT_DATA s.readFiltData.1) :=
  if_neg (headRegs_acts hh)

/-! ### The wire tables (R108, R109) -/

section
variable (he : wbits v 17 17 = 0)
include he

/-- A write that leaves ERR alone. -/
theorem doWlutSwap_noSwap (h : wbits v 16 16 = 0) : doWlutSwap v s = s.wlutChosen v := by
  simp [doWlutSwap, State.wlutChosen, hh, he, h]

theorem doWlutSwap_swap (h : wbits v 16 16 = 1) (hn : wbits v 12 12 ∉ s.comp.wlutSwaps) :
    doWlutSwap v s = State.raise { s.wlutChosen v with comp := { s.comp with
      wlutSwaps := s.comp.wlutSwaps ++ [wbits v 12 12] } } ⟨Reg.CMP_WLUT_CTL, 16, 16⟩ := by
  simp [doWlutSwap, State.wlutChosen, hh, he, h, hn]

end

theorem doWlutData_write : doWlutData (some v) s = s.writeWlutData v :=
  if_neg (headRegs_acts hh)

theorem doWlutData_read : doWlutData none s = s.readWlutData.2.emit (.readValue Reg.CMP_WLUT_DATA s.readWlutData.1) :=
  if_neg (headRegs_acts hh)

end

/-- Settles O34, register by register. -/
theorem composerRegistersAct : Obligations.ComposerRegistersAct := by
  unfold Obligations.ComposerRegistersAct
  refine ⟨?order, ?filt, ?data, ?wlut, ?ink, ?lead⟩
  case order =>
    intro s v hh
    have hd := doPlaneOrderWrite_head hh v
    exact ⟨fun h => finish_eq s (hd.trans (if_pos h)), fun h => finish_eq s (hd.trans (if_neg (by simp [h])))⟩
  case filt =>
    intro s v hh t
    refine ⟨fun h => finish_eq s (doFiltSwap_noSwap hh v h), fun h h1 h2 => finish_eq s ?_, fun h hi hn => finish_eq s ?_⟩
    · exact (doFiltSwap_swap hh v h).trans (if_pos (by omega))
    · rw [doFiltSwap_swap hh v h, if_neg (by omega), if_neg hn]
      rfl
  case data =>
    exact fun s v hh => ⟨finish_eq s (doFiltData_write hh v), finish_eq s (doFiltData_read hh), finish_eq s (doWlutData_write hh v),
      finish_eq s (doWlutData_read hh)⟩
  case wlut =>
    exact fun s v hh he => ⟨fun h => finish_eq s (doWlutSwap_noSwap hh v he h), fun h hn => finish_eq s (doWlutSwap_swap hh v he h hn)⟩
  case ink =>
    intro s v hh t u
    have hd := doInkInval_head hh v
    exact ⟨fun h => finish_eq s (hd.trans (if_pos h)), fun h => finish_eq s (hd.trans (if_neg (by omega)))⟩
  case lead =>
    intro s v hh
    have hd := doRunahead_head hh v
    refine ⟨fun h1 h2 => finish_eq s (hd.trans (if_pos ?_)), fun h => finish_eq s (hd.trans (if_neg ?_))⟩
    · exact (s.leadOk_iff _ _).mpr ⟨h1, h2⟩
    · rw [State.leadOk_iff]
      omega

end Sys2Proof.Machine
end

section
/-! PROOFS. C of a head's next frame (R84, R90, R127, R330, R399): what COMPOSE_START makes of the head. -/

namespace Sys2Proof.Machine

/-- C of frame `f` has come: the ticks before it are closed, and each source starts or ends its fallback (R94). -/
def State.reachCompose (s : State) (f : Word) : State :=
  forEach (List.range 64) (fun n u => u.stepFallback f n) (s.advanceTo (s.compose f)).closeTicks

/-- The commands accepted for frame `f` take effect, the tables that wait are swapped, and the seed is drawn. -/
def State.takeCompose (s : State) (f : Word) : State :=
  let r := ((s.applyHead f s.cmds.accepted.length).applyLuts.takeChanges f).freeNat 64
  { r.2 with comp := { r.2.comp with seed := BitVec.ofNat 64 r.1 } }

/-- The head composes, and neither replays, restores after a replay nor handles a fault. -/
def State.opensFrames (s : State) : Bool :=
  s.composes && !s.replaying && !s.jrn.restore && !s.bit Fld.SYS_FAULT_STAT_HANDLING

/-- C of frame `f` has passed without a frame. -/
def State.passCompose (s : State) (f : Word) : State := { s with heads := { s.heads with lastC := some f } }

/-- A plane order stands in CMP_PLANE_ORDER once the tick of frame `f` has begun (R90). -/
def State.orderStands (s : State) (f : Word) : State :=
  match s.comp.orderCmd with
  | some v => if s.clk.fn = f then { s.setWord Reg.CMP_PLANE_ORDER (wd v) with comp := { s.comp with orderCmd := none } } else s
  | none => s

/-- The next frame begins at a head that opens it. -/
def State.openNext (s : State) (f : Word) : State := if s.opensFrames then s.beginFrame f else s.passCompose f

section
variable {s : State} {f : Word}

theorem State.orderStands_waits (h : s.comp.orderCmd = none ∨ s.clk.fn ≠ f) : s.orderStands f = s := by
  unfold State.orderStands
  split
  case _ v ho => exact if_neg (h.resolve_left (by simp [ho]))
  case _ => rfl

theorem State.orderStands_stands {v : Nat} (ho : s.comp.orderCmd = some v) (hf : s.clk.fn = f) :
    s.orderStands f = { s.setWord Reg.CMP_PLANE_ORDER (wd v) with comp := { s.comp with orderCmd := none } } := by
  simp [State.orderStands, ho, hf]

theorem State.openNext_begins (h : s.opensFrames = true) : s.openNext f = s.beginFrame f :=
  if_pos h

theorem State.openNext_passes (h : s.opensFrames = false) : s.openNext f = s.passCompose f :=
  if_neg (by simp [h])

theorem doComposeStart_stopped (h : s.role ≠ .head ∨ s.running = false) : doComposeStart s = s :=
  if_pos (by simpa using h)

variable (hr : s.role = .head) (hp : s.running = true)
include hr hp

theorem doComposeStart_running :
    let f := s.nextCompose
    doComposeStart s = (((((s.reachCompose f).takeCompose f).openNext f).orderStands f).journalFrame f).dramAccess := by
  intro f
  unfold doComposeStart
  rw [if_neg (by simp [hr, hp])]
  extract_lets closed reached
  have same : s.reachCompose f = reached := rfl
  rw [same]
  clear_value reached
  rfl

end

end Sys2Proof.Machine
end

section
/-! PROOFS. Composed patches and push deadlines at a head (R112, R125, R126, R129, R133; assumption 151), and the statement O47. -/

namespace Sys2Proof.Machine

section
variable {s : State}

/-! ### Composed patches -/

section
variable {t i lane : Nat} {differs : Bool} {agrees : Option Bool} {e : PatchErrors}

theorem doPatchComposed_closed (hc : s.composes = false) : doPatchComposed t i lane differs agrees e s = s :=
  if_pos (by simp [hc])

variable (hc : s.composes = true)
include hc

theorem doPatchComposed_unplanned (hf : s.frameWith t i = none) : doPatchComposed t i lane differs agrees e s = s := by
  simp [doPatchComposed, hc, hf]

/-- A patch planned in frame `h` is finished and compared once `h` has settled what it waits for, when its source lines are
stored and fewer ready patches precede it than lanes work. -/
theorem doPatchComposed_planned {h : HeadFrame} {d : List Word} (hf : s.frameWith t i = some h) :
    let r := s.settleChase h
    let u := r.2.setFrame r.1
    SMap.find r.1.cfg.tiles t = some d →
    doPatchComposed t i lane differs agrees e s =
      if u.patchReady r.1.cfg d i = true ∧ u.readyAhead r.1.fn t i < max 1 u.lanes then
        ((u.readBanks [lane, 4, 5, 12]).finishPatch r.1 t d i 240 false e).spareCheck t i lane differs agrees
      else u := by
  intro r u hd
  unfold doPatchComposed
  rw [if_neg (by simp [hc]), hf]
  dsimp only
  rw [hd]
  exact if_congr (Bool.and_eq_true_iff.trans (and_congr_right' decide_eq_true_iff)) rfl rfl

end

/-! ### Push deadlines -/

section
variable {p : Nat} {done : List (Nat × Nat × Nat)}

theorem doPushDeadline_closed (hc : s.composes = false) : doPushDeadline p done s = s :=
  if_pos (by simp [hc])

/-- Frame `fn` of the head. -/
def State.frameOf (s : State) (fn : Word) : Option HeadFrame := s.heads.frames.find? (fun g => decide (g.fn = fn))

/-- The patches of frame `h` for port `p` that are not composed by the port's deadline underrun (R125). -/
def State.endUncomposed (s : State) (h : HeadFrame) (p : Nat) (done : List (Nat × Nat × Nat)) : State :=
  forEach (h.tiles.map (·.1)) (fun t w => w.deadlineTile h.fn p t done) s

/-- What still waits on the lanes of port `p` of frame `g`, and then the tiles whose SEAL did not leave (R112, R129). -/
def State.endUnsent (s : State) (h g : HeadFrame) (p : Nat) : State :=
  forEach (h.tiles.map (·.1)) (fun t w => w.sealedBy h.fn p t) (if g.push then (s.lapseLane g p 0).lapseLane g p 1 else s)

variable (hc : s.composes = true)
include hc

theorem doPushDeadline_noFrame (hf : s.heads.frames.find? (fun h => !(p ∈ h.dead)) = none) : doPushDeadline p done s = s := by
  simp only [doPushDeadline, hc, hf, Bool.not_true, Bool.false_eq_true, if_false]

/-- The deadline of the oldest frame that port `p` still had to push ends its patches, and the port is done for it. -/
theorem doPushDeadline_frame {h g h' : HeadFrame} (hf : s.heads.frames.find? (fun h => !(p ∈ h.dead)) = some h) :
    let r := (s.advanceTo (s.pushBy p h.fn)).settleChase h
    let u := (r.2.setFrame r.1).endUncomposed r.1 p done
    u.frameOf r.1.fn = some g → (u.endUnsent r.1 g p).frameOf r.1.fn = some h' →
    doPushDeadline p done s = (u.endUnsent r.1 g p).setFrame { h' with dead := p :: h'.dead } := by
  intro r u hg hh'
  unfold doPushDeadline
  rw [if_neg (by simp [hc]), hf]
  dsimp only
  unfold State.frameOf State.endUnsent at *
  have ended : forEach (r.1.tiles.map (·.1)) (fun t w => w.deadlineTile r.1.fn p t done) (r.2.setFrame r.1) = u := rfl
  rw [ended, hg]
  dsimp only
  rw [hh']

end

end

/-- Settles O47, row by row. -/
theorem headFrameEventsAct : Obligations.HeadFrameEventsAct := by
  unfold Obligations.HeadFrameEventsAct
  refine ⟨?compose, ?stopped, ?patch, ?deadline, ?done, ?closed⟩
  case compose =>
    intro s hr hp f t r u begins
    have hd : doComposeStart s = ((((t.takeCompose f).openNext f).orderStands f).journalFrame f).dramAccess :=
      doComposeStart_running hr hp
    clear_value t
    have taken : t.takeCompose f = u := rfl
    rw [taken] at hd
    clear_value u
    refine ⟨fun hb ho => finish_eq s ?_, fun hb ho => finish_eq s ?_, fun v hb ho hf => finish_eq s ?_⟩
    · rw [hd, State.openNext_begins hb, State.orderStands_waits ho]
    · rw [hd, State.openNext_passes hb, State.orderStands_waits (s := u.passCompose f) ho]
      rfl
    · rw [hd, State.openNext_passes hb, State.orderStands_stands (s := u.passCompose f) ho hf]
      rfl
  case stopped => exact fun s h => finish_eq s (doComposeStart_stopped h)
  case patch =>
    intro s t i lane differs agrees e hc
    refine ⟨fun hf => finish_eq s (doPatchComposed_unplanned hc hf), ?_⟩
    intro h d hf r u hd
    have planned := doPatchComposed_planned (lane := lane.val) (differs := differs) (agrees := agrees) (e := e) hc hf hd
    refine ⟨fun hready hfirst => finish_eq s (planned.trans (if_pos ⟨hready, hfirst⟩)),
      fun hn => finish_eq s (planned.trans (if_neg ?_))⟩
    rintro ⟨hready, hfirst⟩
    rcases hn with hn | hn
    · exact absurd hready (Bool.eq_false_iff.mp hn)
    · exact absurd hfirst (Nat.not_lt.mpr hn)
  case deadline =>
    intro s p h l hc hf a r u g hg v h' hh'
    exact finish_eq s (doPushDeadline_frame hc hf hg hh')
  case done => exact fun s p l hc hf => finish_eq s (doPushDeadline_noFrame hc hf)
  case closed =>
    exact fun s p l t i lane d a e hc => ⟨finish_eq s (doPushDeadline_closed hc), finish_eq s (doPatchComposed_closed hc)⟩

end Sys2Proof.Machine
end

section
/-! PROOFS. The test commands and the customer commands (R126, R174, R289, R354): what a node does once it has accepted one, and the
statement O18. -/

namespace Sys2Proof.Machine

/-- An immediate command that no head keeps for itself acts on the node that has accepted it, with the words it came with, unless
the head fills words in (R187, R199). -/
theorem exec_nodeNow {i : Instr} {s t : State} {op : Nat} {o : OpRow} {c : Cmd} (hi : commandOf i = some (op, c))
    (h : ActsNow s op o c t) (ho : headOp op = false) (hr : op ≠ opDOM_RESET) (ht : op ≠ opTICK_CONFIG) :
    exec i s = .next (after s ((t.acceptedNow op o c).applyNow op c)) := by
  have hs : op ≠ opDOM_SNAPSHOT := by rintro rfl; exact absurd ho (by decide)
  rw [exec_command s hi, takeCommand_actsNow h, madeReady_eq _ op c hr hs ht, State.actNow, if_neg (Bool.eq_false_iff.mp ho)]

section
variable (a : State) (c : Cmd)

/-! ### SELFTEST and LINK_EYE -/

theorem State.applyNow_selftest :
    a.applyNow opSELFTEST c =
      (a.answerPending opSELFTEST c).startSelftest ⟨opSELFTEST, c.client, c.tag, c.route⟩ (nth c.params 0) := rfl

theorem State.applyNow_linkEye :
    a.applyNow opLINK_EYE c =
      let r := (a.answerPending opLINK_EYE c).runEye c.params
      r.2.cmdDone ⟨opLINK_EYE, c.client, c.tag, c.route⟩ stOK r.1 := rfl

/-- The eye sampler gives one count per point (R174). -/
theorem State.eyeCounts_length (dwell : Nat) (l : List (Nat × Nat)) : (a.eyeCounts dwell l).1.length = l.length := by
  induction l generalizing a with
  | nil => rfl
  | cons g rest ih => simp [State.eyeCounts, ih]

/-- The counts of LINK_EYE are those of its grid, whatever point it leaves in the registers of the eye. -/
theorem State.runEye_counts (p : List Word) :
    (a.runEye p).1 = (a.eyeCounts (eyeDwell (wbits (nth p 0) 9 4)) ((eyeGrid p).getD [])).1 := by
  unfold State.runEye
  dsimp only
  split <;> rfl

/-! ### Customer commands -/

/-- The opcodes the command set names lie below the customer's range. -/
theorem ne_of_customer {op : Nat} (h : 0x7000 ≤ op) (n : Nat) (hn : n < 0x7000) : op ≠ n := (hn.trans_le h).ne'

/-- An opcode of the customer's range is none of a head's own. -/
theorem headOp_customer {op : Nat} (h : 0x7000 ≤ op) : headOp op = false := by
  have differs : ∀ n, n < 0x7000 → (op == n) = false := fun n hn => beq_false_of_ne (ne_of_customer h n hn)
  unfold headOp
  simp (disch := decide) only [differs, Bool.or_self]

/-- An opcode of the customer's range runs in the user partition (R354). -/
theorem State.applyNow_customer {op : Nat} (h : 0x7000 ≤ op) : a.applyNow op c = a.runUser op c := by
  unfold State.applyNow
  simp (disch := decide) only [ne_of_customer h, if_false]

end

/-- Settles O18: each command acts on the node that has accepted it, and the counts of LINK_EYE are as many as its grid has points. -/
theorem testCommandsRun : Obligations.TestCommandsRun := by
  unfold Obligations.TestCommandsRun
  refine ⟨?selftest, ?linkEye, ?customer⟩
  case selftest =>
    intro s t o c h
    rw [exec_nodeNow rfl h rfl (by decide) (by decide), State.applyNow_selftest]
  case linkEye =>
    intro s t o c h r
    refine ⟨?_, ?_⟩
    · rw [exec_nodeNow rfl h rfl (by decide) (by decide), State.applyNow_linkEye]
    · rw [State.runEye_counts, State.eyeCounts_length]
  case customer =>
    intro s t o k c h
    have range : 0x7000 ≤ 0x7000 + k.toNat := Nat.le_add_right _ _
    rw [exec_nodeNow rfl h (headOp_customer range) (ne_of_customer range _ (by decide)) (ne_of_customer range _ (by decide)),
      State.applyNow_customer _ _ range]

end Sys2Proof.Machine
end

section
/-! PROOFS. The frame rows of a tile (R132, R134 to R141): what PATCH, SEAL and VOID do at the tile that takes them, the commit
decision, the showing of a frame, and the statement O48. -/

namespace Sys2Proof.Machine

/-! ### PATCH, SEAL and VOID -/

/-- A packet of type `ty` does `act` at a tile that runs its frame work, and nothing at any other node (R138). -/
def State.receiveAtTile (s : State) (x : Rx) (ty : Nat) (act : List Word → State → State) : State :=
  s.receive x (fun b u => if u.tileRuns && decide (x.type.toNat = ty) then act b u else u)

section
variable (s : State) (x : Rx)

theorem doPatchReceived_eq :
    doPatchReceived x s = s.receiveAtTile x tyPATCH (fun b u => u.takePatch x.port.val x.src b) := rfl

theorem doSealReceived_eq : doSealReceived x s = s.receiveAtTile x tySEAL (fun b u => u.takeSeal x.src b) := rfl

theorem doVoidReceived_eq : doVoidReceived x s = s.receiveAtTile x tyVOID (fun b u => u.takeVoid x.src b) := rfl

variable {s x} {t : State} {b : List Word} {ty : Nat} (act : List Word → State → State) (ht : s.taken x = some (b, t))
include ht

theorem State.receiveAtTile_runs (hr : t.tileRuns = true) (hx : x.type.toNat = ty) : s.receiveAtTile x ty act = act b t :=
  (receive_taken s x b t _ _ ht).trans (if_pos (by simp [hr, hx]))

theorem State.receiveAtTile_stopped (hr : t.tileRuns = false) : s.receiveAtTile x ty act = t :=
  (receive_taken s x b t _ _ ht).trans (if_neg (by simp [hr]))

end

/-! ### The commit decision and the showing of a frame -/

/-- LAST and REASON of a decision stand at T_show, and the decision waits no longer (R26, R138). -/
def State.reportDecision (s : State) (d : Decision) : State :=
  let a := (s.advanceTo (s.tshow d.fn)).put Fld.SCN_CMT_STAT_LAST d.last
  let r := if d.last = 0 ∨ d.reason = rsNONE then a else a.put Fld.SCN_CMT_STAT_REASON d.reason
  { r with tile := { r.tile with
    waiting := none
    played := d.fn } }

/-- The registers name head `h` and the frame of `d` as shown (R139). -/
def State.nameShown (s : State) (d : Decision) (h : Nat) : State :=
  ((s.put Fld.SCN_CMT_STAT_HEADID h).raise Fld.SCN_CMT_STAT_SHOWN_VALID).setWord Reg.SCN_SHOWN_FN d.fn

/-- The slots once the slot shown before is FREE (R136). -/
def State.slotsReleased (s : State) : List Slot := s.tile.slots.map (fun q => if q.st = 3 then Slot.free else q)

/-- The first FREE slot. -/
def firstFree (l : List Slot) : Option Nat :=
  (List.range 3).find? (fun j => match l[j]? with | some q => decide (q.st = 0) | none => false)

/-- The slot that comes to show frame `fn`: the one it fills, or else the first that is then FREE. -/
def State.slotToShow (s : State) (fn : Word) : Nat := (s.slotOf fn).getD ((firstFree s.slotsReleased).getD 0)

/-- The frame `m` of `d` is shown from slot `i`, and the slot shown before becomes FREE (R136). -/
def State.rotateSlots (s : State) (d : Decision) (m : SMap (List Nat)) (i : Nat) : State :=
  { s with tile := { s.tile with
    slots := setAt s.slotsReleased i ⟨3, d.fn, d.kept⟩
    shown := m
    shownFn := some d.fn } }

theorem State.slotToShow_eq {s : State} {fn : Word} {i : Nat}
    (h : s.slotOf fn = some i ∨ (s.slotOf fn = none ∧ firstFree s.slotsReleased = some i)) : s.slotToShow fn = i := by
  unfold State.slotToShow
  rcases h with h | ⟨h, hi⟩
  · rw [h, Option.getD_some]
  · rw [h, hi, Option.getD_none, Option.getD_some]

section
variable {s : State}

theorem doCommitDecision_stopped (h : s.tileRuns = false) : doCommitDecision s = s := if_pos (by simp [h])

theorem doShow_stopped (h : s.tileRuns = false) : doShow s = s := if_pos (by simp [h])

variable (hr : s.tileRuns = true)
include hr

theorem doCommitDecision_runs :
    doCommitDecision s =
      (((((s.advanceTo (s.tdec s.nextDecision)).applyDueAt s.nextDecision).privetDue s.nextDecision).takeDecision
        s.nextDecision).scnEvent 0) :=
  if_neg (by simp [hr])

theorem doShow_undecided (hw : s.tile.waiting = none) : doShow s = s := by
  simp only [doShow, hr, hw, Bool.not_true, Bool.false_eq_true, if_false]

variable {d : Decision} (hw : s.tile.waiting = some d)
include hw

/-- A hold shows no new frame. -/
theorem doShow_hold (hb : d.built = none) : doShow s = (s.reportDecision d).slotRegs := by
  unfold doShow
  rw [if_neg (by simp [hr]), hw]
  dsimp only
  rw [hb]
  rfl

/-- A commit shows the frame built. -/
theorem doShow_commit {m : SMap (List Nat)} {h i : Nat} (hb : d.built = some (m, h)) :
    let v := (s.reportDecision d).nameShown d h
    v.slotOf d.fn = some i ∨ (v.slotOf d.fn = none ∧ firstFree v.slotsReleased = some i) →
    doShow s = (v.rotateSlots d m i).slotRegs := by
  intro v hi
  have chosen : v.slotToShow d.fn =
      match v.slotOf d.fn with
      | some i => i
      | none => (firstFree v.slotsReleased).getD 0 := by
    unfold State.slotToShow
    cases v.slotOf d.fn <;> rfl
  rw [← State.slotToShow_eq hi, chosen]
  unfold doShow
  rw [if_neg (by simp [hr]), hw]
  dsimp only
  rw [hb]
  rfl

end

/-- Settles O48, row by row. -/
theorem tileFrameEventsAct : Obligations.TileFrameEventsAct := by
  unfold Obligations.TileFrameEventsAct
  refine ⟨?taken, ?untaken, ?decision, ?undecided, ?shown, ?stopped⟩
  case taken =>
    intro s t x b ht hr
    refine ⟨fun hx => finish_eq s ?_, fun hx => finish_eq s ?_, fun hx => finish_eq s ?_⟩
    · rw [doPatchReceived_eq, State.receiveAtTile_runs _ ht hr hx]
    · rw [doSealReceived_eq, State.receiveAtTile_runs _ ht hr hx]
    · rw [doVoidReceived_eq, State.receiveAtTile_runs _ ht hr hx]
  case untaken =>
    intro s t x b ht hr
    refine ⟨finish_eq s ?_, finish_eq s ?_, finish_eq s ?_⟩
    · rw [doPatchReceived_eq, State.receiveAtTile_stopped _ ht hr]
    · rw [doSealReceived_eq, State.receiveAtTile_stopped _ ht hr]
    · rw [doVoidReceived_eq, State.receiveAtTile_stopped _ ht hr]
  case decision => exact fun s hr => finish_eq s (doCommitDecision_runs hr)
  case undecided => exact fun s hr hw => finish_eq s (doShow_undecided hr hw)
  case shown =>
    intro s d hr hw a r u
    refine ⟨fun hb => finish_eq s (doShow_hold hr hw hb), ?_⟩
    exact fun m h i hb hi => finish_eq s (doShow_commit hr hw hb hi)
  case stopped => exact fun s h => ⟨finish_eq s (doCommitDecision_stopped h), finish_eq s (doShow_stopped h)⟩

end Sys2Proof.Machine
end

section
/-! PROOFS. The T commands of a head that other nodes carry out too (R128, R199, R270, R281, R282, R300, R304): what a head does once
it has accepted one, and the statement O23. -/

namespace Sys2Proof.Machine

/-! ### Acceptance (R300, R304) -/

/-- The head once it has done what an accepted T command, with its words filled in, does beside waiting: it is counted, mirrored
and sent on (R266, R289). -/
def State.sentOn (t : State) (op : Nat) (c : Cmd) (g : Word) (moved : Bool) : State :=
  let u := t.countedTick c moved
  let f := u.filled op c g
  (u.mirror op f g).tickSends op f g

section
variable {i : Instr} {s t : State} {op : Nat} {o : OpRow} {c : Cmd} {g : Word} {late moved : Bool}

/-- A T command for this head alone opens no gather. -/
theorem State.acceptTick_here (ht : c.target ≠ 0xFFFF) :
    t.acceptTick op o c g late moved =
      let f := (t.countedTick c moved).filled op c g
      let v := t.sentOn op c g moved
      if v.pastCompose g then (v.applyLate op f g).answer op c stOK late g [] else v.waitsFor ⟨op, f, g, late, false⟩ := by
  simp only [State.acceptTick, if_neg ht]
  rfl

variable (hi : commandOf i = some (op, c)) (ht : c.target ≠ 0xFFFF) (h : AcceptsTick s op o c t g late moved)
include hi ht h

/-- An accepted T command waits while C of its tick lies ahead. -/
theorem exec_acceptsTick_waits (hp : (t.sentOn op c g moved).pastCompose g = false) :
    exec i s = .next (after s ((t.sentOn op c g moved).waitsFor ⟨op, (t.countedTick c moved).filled op c g, g, late, false⟩)) := by
  rw [exec_command s hi, takeCommand_acceptsTick h, State.acceptTick_here ht, if_neg (Bool.eq_false_iff.mp hp)]

/-- An accepted T command whose C has passed changes the frames begun and is answered at once (R304). -/
theorem exec_acceptsTick_late (hp : (t.sentOn op c g moved).pastCompose g = true) :
    exec i s = .next (after s
      (((t.sentOn op c g moved).applyLate op ((t.countedTick c moved).filled op c g) g).answer op c stOK late g [])) := by
  rw [exec_command s hi, takeCommand_acceptsTick h, State.acceptTick_here ht, if_pos hp]

end

/-! ### What goes out on acceptance -/

section
variable (s : State) (c : Cmd) (g : Word)

theorem State.tickSends_privetLoad : s.tickSends opPRIVET_LOAD c g = (s.takePart c.params).forwardPrivet opPRIVET_LOAD c g := by
  rw [State.tickSends, if_pos rfl]

theorem State.tickSends_privetShow : s.tickSends opPRIVET_SHOW c g = s.forwardPrivet opPRIVET_SHOW c g := by
  rw [State.tickSends, if_neg (by decide), if_pos (.inl rfl)]

theorem State.tickSends_privetHide : s.tickSends opPRIVET_HIDE c g = s.forwardPrivet opPRIVET_HIDE c g := by
  rw [State.tickSends, if_neg (by decide), if_pos (.inr rfl)]

theorem State.tickSends_tilePlace : s.tickSends opTILE_PLACE c g = s.forwardPlace c g := by
  rw [State.tickSends, if_neg (by decide), if_neg (by decide), if_pos rfl]

theorem State.tickSends_redSwitch : s.tickSends opRED_SWITCH c g = s.startSwitch g := by
  rw [State.tickSends, if_neg (by decide), if_neg (by decide), if_neg (by decide), if_pos rfl]

theorem State.tickSends_leadSet :
    s.tickSends opLEAD_SET c g =
      ((s.onArrival opLEAD_SET c g).leadWaits c.params g).sendCmd 0xFFFF opLEAD_SET { c with atTick := true, applyTick := g } := by
  rw [State.tickSends, if_neg (by decide), if_neg (by decide), if_neg (by decide), if_neg (by decide), if_pos rfl]

/-- The timing master loads a schedule and broadcasts it (R199). -/
theorem State.tickSends_tickConfig_master (h : s.clk.isMaster = true) :
    s.tickSends opTICK_CONFIG c g =
      (s.onArrival opTICK_CONFIG c g).sendCmd 0xFFFF opTICK_CONFIG { c with atTick := true, applyTick := g } := by
  rw [State.tickSends, if_neg (by decide), if_neg (by decide), if_neg (by decide), if_neg (by decide), if_neg (by decide), if_pos rfl]
  exact if_pos (by simp [h])

end

/-- Settles O23: an accepted command waits or is late, and each opcode sends what its branch of `tickSends` sends. What a head
that is not the timing master does with a TICK_CONFIG stands under `State.tickSends` (log entry 99). -/
theorem headSendsTickCommandsOn : Obligations.HeadSendsTickCommandsOn := by
  unfold Obligations.HeadSendsTickCommandsOn
  refine ⟨?accepted, ?master, ?sends⟩
  case accepted =>
    intro i op s t o c g late moved _ hi ht h u f v
    exact ⟨exec_acceptsTick_waits hi ht h, exec_acceptsTick_late hi ht h⟩
  case master => exact fun s c g h => s.tickSends_tickConfig_master c g h
  case sends =>
    exact fun s c g => ⟨s.tickSends_privetShow c g, s.tickSends_privetHide c g, s.tickSends_privetLoad c g,
      s.tickSends_tilePlace c g, s.tickSends_redSwitch c g, s.tickSends_leadSet c g⟩

end Sys2Proof.Machine
end

section
/-! PROOFS. The T commands of a tile (R132, R222, R231, R237, R238, R256, R270, R425): what a tile does when it accepts one and at
the frame it names, and the statement O24. -/

namespace Sys2Proof.Machine

/-! ### On arrival -/

/-- A T command that is none of the schedule, the lead and the pairing does nothing before its frame. -/
theorem State.onArrival_waits (s : State) {op : Nat} (c : Cmd) (g : Word) (hl : op ≠ opLEAD_SET) (ht : op ≠ opTICK_CONFIG)
    (hr : op ≠ opRED_TILE) : s.onArrival op c g = s := by
  simp [State.onArrival, hl, ht, hr]

/-! ### At the frame -/

section
variable {s : State}

/-- A field is set when no register write of a later tick has set it (R25). -/
theorem State.putFor_untaken {f : Fld} {g : Word} (v : Nat) (h : s.tookFrom (g + 1) s.clk.fn f.off = false) :
    s.putFor g f v = s.put f v :=
  if_neg (Bool.eq_false_iff.mp h)

/-- No register write of a tick after `g` has set a wall gain. -/
def State.gainsUntaken (s : State) (g : Word) : Prop :=
  ∀ i, i < 3 → s.tookFrom (g + 1) s.clk.fn (Reg.COR_WALL_GAIN i) = false

variable {c : Cmd} {g : Word}

/-- Setting a field is no register write of a later tick. -/
theorem State.gainsUntaken_put (f : Fld) (v : Nat) (h : s.gainsUntaken g) : (s.put f v).gainsUntaken g := h

theorem State.putFor_gain {i : Nat} (v : Nat) (h : s.gainsUntaken g) (hi : i < 3) :
    s.putFor g (Fld.COR_WALL_GAIN_GAIN i) v = s.put (Fld.COR_WALL_GAIN_GAIN i) v :=
  State.putFor_untaken v (h i hi)

theorem State.applyAtNode_wallGain (h : s.gainsUntaken g) :
    s.applyAtNode opWALL_GAIN c g = ([], ((s.put (Fld.COR_WALL_GAIN_GAIN 0) (wbits (nth c.params 0) 15 0)).put
      (Fld.COR_WALL_GAIN_GAIN 1) (wbits (nth c.params 0) 31 16)).put (Fld.COR_WALL_GAIN_GAIN 2) (wbits (nth c.params 1) 15 0)) := by
  have fields : s.applyAtNode opWALL_GAIN c g = ([], ((s.putFor g (Fld.COR_WALL_GAIN_GAIN 0) (wbits (nth c.params 0) 15 0)).putFor g
      (Fld.COR_WALL_GAIN_GAIN 1) (wbits (nth c.params 0) 31 16)).putFor g (Fld.COR_WALL_GAIN_GAIN 2) (wbits (nth c.params 1) 15 0)) :=
    rfl
  have first := State.gainsUntaken_put (Fld.COR_WALL_GAIN_GAIN 0) (wbits (nth c.params 0) 15 0) h
  have second := State.gainsUntaken_put (Fld.COR_WALL_GAIN_GAIN 1) (wbits (nth c.params 0) 31 16) first
  rw [fields, State.putFor_gain _ h (by decide), State.putFor_gain _ first (by decide), State.putFor_gain _ second (by decide)]

theorem State.applyAtNode_lampMask (h : wbits (nth c.params 0) 1 0 = 0) :
    s.applyAtNode opLAMP_TEST c g = ([], s.maskLamps true (lampArgs c.params)) := by
  unfold State.applyAtNode
  rw [if_neg (by decide), if_pos rfl, h]
  rfl

theorem State.applyAtNode_lampUnmask (h : wbits (nth c.params 0) 1 0 = 1) :
    s.applyAtNode opLAMP_TEST c g = ([], s.maskLamps false (lampArgs c.params)) := by
  unfold State.applyAtNode
  rw [if_neg (by decide), if_pos rfl, h]
  rfl

theorem State.applyAtNode_lampRead (h : 2 ≤ wbits (nth c.params 0) 1 0) :
    s.applyAtNode opLAMP_TEST c g = (s.flagWords (lampArgs c.params), s) := by
  obtain ⟨k, hk⟩ := Nat.exists_eq_add_of_le' h
  unfold State.applyAtNode
  rw [if_neg (by decide), if_pos rfl, hk]
  rfl

variable (s c g)

theorem State.applyAtNode_ageingCtl : s.applyAtNode opAGEING_CTL c g = ([], s.applyAgeing c.params g) := rfl

theorem State.applyAtNode_corCommit :
    s.applyAtNode opCOR_COMMIT c g = ([], (s.commitCal (decide (wbits (nth c.params 0) 0 0 = 1)) g).trimAfresh) := rfl

theorem State.applyAtNode_redTile :
    s.applyAtNode opRED_TILE c g = ([], { s.put Fld.RED_TILE_STAT_FOLLOW (wbits (nth c.params 1) 0 0) with
      saved := { s.saved with follow := decide (wbits (nth c.params 1) 0 0 = 1) } }) := rfl

end

/-- Settles O24: acceptance once for the five commands, and each at its frame by its branch of `applyAtNode`. -/
theorem tileCommandsTakeEffectAtTheirFrame : Obligations.TileCommandsTakeEffectAtTheirFrame := by
  unfold Obligations.TileCommandsTakeEffectAtTheirFrame
  refine ⟨?accepted, ?arrival, ?frame⟩
  case accepted =>
    intro i op s t o c g late hop hi hr h
    have notLead : op ≠ opLEAD_SET := by
      rcases hop with rfl | rfl | rfl | rfl | rfl <;> cases hi <;> decide
    rw [exec_command s hi, takeCommand_acceptsFrame h hr notLead]
  case arrival =>
    intro s c g
    refine ⟨s.onArrival_waits c g ?_ ?_ ?_, s.onArrival_waits c g ?_ ?_ ?_, s.onArrival_waits c g ?_ ?_ ?_,
      s.onArrival_waits c g ?_ ?_ ?_⟩ <;> decide
  case frame =>
    exact fun s c g => ⟨State.applyAtNode_wallGain, s.applyAtNode_ageingCtl c g, s.applyAtNode_corCommit c g,
      State.applyAtNode_lampMask, State.applyAtNode_lampUnmask, State.applyAtNode_lampRead, s.applyAtNode_redTile c g⟩

end Sys2Proof.Machine
end

section
/-! PROOFS. What a calm node does of itself (R148, R167, R320, R356): its lanes, the interrupt presented to processor 1, and the
statement O4. -/

namespace Sys2Proof.Machine

/-! ### The message of a source -/

/-- Sending a message changes the pending vectors or what has left the node, and nothing else (R320). -/
theorem State.sendMsix_cases (s : State) (n : Nat) :
    ∃ (pba : List Nat) (out : List Out), s.sendMsix n = { s with host := { s.host with pba := pba }, out := out } := by
  unfold State.sendMsix
  split_ifs
  · exact ⟨s.host.pba, s.out, rfl⟩
  · exact ⟨_, s.out, rfl⟩
  · exact ⟨_, s.out, rfl⟩
  · exact ⟨s.host.pba, _, rfl⟩

section
variable {s : State}

theorem State.present1_unchanged (h : s.icuPresented 1 = s.icu.presented1) : s.present1 = s :=
  if_pos h

/-- What the source presented to processor 1 can change (R356). -/
theorem State.present1_cases (s : State) :
    ∃ (sent : Bool) (pba : List Nat) (out : List Out), s.present1 = { s with
      icu := { s.icu with presented1 := s.icuPresented 1, sent1 := sent }
      host := { s.host with pba := pba }
      out := out } := by
  by_cases h : s.icuPresented 1 = s.icu.presented1
  · refine ⟨s.icu.sent1, s.host.pba, s.out, ?_⟩
    rw [State.present1_unchanged h, h]
  · unfold State.present1
    rw [if_neg h]
    split
    · obtain ⟨pba, out, hm⟩ := State.sendMsix_cases _ _
      exact ⟨_, pba, out, hm⟩
    · exact ⟨_, s.host.pba, s.out, rfl⟩

/-! ### Lanes that rest -/

/-- A loop whose every turn leaves the node as it is does so as a whole. -/
theorem forEach_rests {α : Type} {l : List α} {f : α → State → State} (h : ∀ a ∈ l, f a s = s) : forEach l f s = s := by
  induction l with
  | nil => rfl
  | cons a t ih =>
    rw [forEach, h a List.mem_cons_self]
    exact ih fun b hb => h b (List.mem_cons_of_mem a hb)

theorem State.sweepCheck_rests {p : Nat} (h : s.get (Fld.LNK_CAL_STAT_STEP p) ≠ 2) : s.sweepCheck p = s :=
  if_neg fun hs => h hs.1

theorem State.lanesRun_rests (h : ∀ p, p < 4 → s.laneSends p 0 = false ∧ s.laneSends p 1 = false) : s.lanesRun = s := by
  refine forEach_rests fun p hp => forEach_rests fun k hk => if_neg ?_
  obtain ⟨h0, h1⟩ := h p (by simp at hp; omega)
  have hk' : k = 0 ∨ k = 1 := by simpa using hk
  rcases hk' with rfl | rfl
  · simp [h0]
  · simp [h1]

/-- A node none of whose lanes sends and none of whose ports sweeps stays as it is while time passes (R148, R167). -/
theorem State.lanesSettle_rests (h : ∀ p, p < 4 → s.laneSends p 0 = false ∧ s.laneSends p 1 = false)
    (hs : ∀ p, p < 4 → s.get (Fld.LNK_CAL_STAT_STEP p) ≠ 2) : s.lanesSettle = s := by
  have sweeps : forEach [0, 1, 2, 3] (fun p s => s.sweepCheck p) s = s :=
    forEach_rests fun p hp => State.sweepCheck_rests (hs p (by simp at hp; omega))
  rw [State.lanesSettle, sweeps, State.lanesRun_rests h]

/-! ### After an event -/

/-- A node left with nothing to do lets its lanes go on, and presents its interrupt where PCI Express is powered. -/
theorem settle_calm (h : s.quiet = true) : settle s = if s.lanesSettle.pci then s.lanesSettle.present1 else s.lanesSettle := by
  rw [settle, if_pos h]

end

/-- Settles O4: by whether the PCI Express endpoint is powered, and the lanes' part alone. -/
theorem calmNodeSettlesAlone : Obligations.CalmNodeSettlesAlone := by
  unfold Obligations.CalmNodeSettlesAlone
  refine ⟨?unpowered, ?powered, ?lanes⟩
  case unpowered =>
    intro s u hq hp
    simp only [after, settle_calm hq, hp, Bool.false_eq_true, if_false]
  case powered =>
    intro s u hq hp v
    have hs : settle u = v.present1 := (settle_calm hq).trans (if_pos hp)
    refine ⟨fun h => ?_, ?_⟩
    · rw [after, hs, State.present1_unchanged h]
    · obtain ⟨sent, pba, out, hv⟩ := v.present1_cases
      exact ⟨sent, pba, out, by rw [after, hs, hv]⟩
  case lanes =>
    exact fun u h => State.lanesSettle_rests (fun p hp => ⟨(h p hp).1, (h p hp).2.1⟩) fun p hp => (h p hp).2.2

end Sys2Proof.Machine
end

section
/-! PROOFS. The registers of a port with effects of their own (R166, R173, R174, R195): what a write does at a powered node, and the
statement O35. -/

namespace Sys2Proof.Machine

section
variable {s : State} (hp : s.powered = true) (p : Nat) (v : Word)
include hp

/-- A powered node acts on a write of a port's register. -/
theorem powered_acts : ¬(!s.powered) = true := by
  simp [hp]

theorem doSwapArm_powered :
    let t := ((s.put (Fld.LNK_LANE_CFG_FI_EN p) (wbits v 30 30)).put (Fld.LNK_LANE_CFG_FI_DELAY p) (wbits v 19 8)).put
      (Fld.LNK_LANE_CFG_DOWN_N p) (wbits v 7 0)
    let u := if wbits v 29 29 = t.get (Fld.LNK_LANE_CFG_TEST p) then t
      else (t.put (Fld.LNK_LANE_CFG_TEST p) (wbits v 29 29)).linkDown p (if wbits v 29 29 = 1 then 3 else 0)
    doSwapArm p v s = if wbits v 31 31 = 1 then ((u.raise (Fld.LNK_LANE_CFG_SWAP_ARM p)).requestCal p none).2 else u :=
  if_neg (powered_acts hp)

theorem doEye_powered (m n : Nat) :
    let t := ((s.put (Fld.LNK_PHY_EYE_CTL_VOFS p m) (wbits v 23 16)).put (Fld.LNK_PHY_EYE_CTL_POFS p m)
      (wbits v 14 8)).put (Fld.LNK_PHY_EYE_CTL_DWELL p m) (wbits v 5 0)
    doEye p m v n s = if wbits v 31 31 = 1 then
      t.setWord (Reg.LNK_PHY_EYE_RES p m) (wd (min (min n (2 ^ eyeDwell (wbits v 5 0))) 0xFFFFFFFF)) else t :=
  if_neg (powered_acts hp)

/-- A write with a pattern that asks for a generator or a checker on a lane that carries traffic that way is refused; any other
is stored (R173). -/
theorem doPrbs_powered (m : Nat) :
    let u := if wbits v 31 31 = 1 then s.put (Fld.LNK_PHY_PRBS_ERR p m) 0 else s
    doPrbs p m v s =
      if wbits v 5 4 ≠ 0 ∧ (wbits v 0 0 = 1 ∧ u.laneBusy p m true = true ∨ wbits v 1 1 = 1 ∧ u.laneBusy p m false = true) then
        u.raise (Fld.LNK_PHY_PRBS_ERR p m)
      else ((((u.put (Fld.LNK_PHY_PRBS_PAT p m) (wbits v 5 4)).put (Fld.LNK_PHY_PRBS_RXEN p m) (wbits v 1 1)).put
        (Fld.LNK_PHY_PRBS_TXEN p m) (wbits v 0 0)).prbsCount p m).showTest p m := by
  refine (if_neg (powered_acts hp)).trans (if_congr ?_ rfl rfl)
  simp only [Bool.or_eq_true, Bool.and_eq_true, decide_eq_true_eq, and_assoc, and_or_left]

end

/-! ### Isolation (R195) and the dwell of an eye measurement (R174) -/

theorem escRelease_isolated {p : Nat} {v : Word} {s : State} (h : wbits v 31 31 = 1)
    (hl : (s.put (Fld.LNK_ESC_CTL_COOL p) (wbits v 7 0)).get (Fld.LNK_NET_STAT_LEVEL p) = 3) :
    escRelease p v s = ((s.put (Fld.LNK_ESC_CTL_COOL p) (wbits v 7 0)).setEscal p ⟨0, 0, 0⟩).setLevel p 0 :=
  if_pos ⟨h, hl⟩

theorem escRelease_stores {p : Nat} {v : Word} {s : State}
    (h : wbits v 31 31 = 0 ∨ (s.put (Fld.LNK_ESC_CTL_COOL p) (wbits v 7 0)).get (Fld.LNK_NET_STAT_LEVEL p) ≠ 3) :
    escRelease p v s = s.put (Fld.LNK_ESC_CTL_COOL p) (wbits v 7 0) := by
  refine if_neg ?_
  rintro ⟨h1, hl⟩
  rcases h with h | h
  · omega
  · exact h hl

theorem eyeDwell_inRange {d : Nat} (h1 : 10 ≤ d) (h2 : d ≤ 36) : eyeDwell d = d :=
  if_neg (by omega)

theorem eyeDwell_outOfRange {d : Nat} (h : d < 10 ∨ 36 < d) : eyeDwell d = 20 :=
  if_pos h

/-- Settles O35, register by register. -/
theorem linkRegistersAct : Obligations.LinkRegistersAct := by
  unfold Obligations.LinkRegistersAct
  refine ⟨?laneCfg, ?escalation, ?prbs, ?eye, fun d => ⟨eyeDwell_inRange, eyeDwell_outOfRange⟩⟩
  case laneCfg =>
    intro s p v hp t u
    have hd := (write_lane_cfg s p v (.quill false) hp).trans (doSwapArm_powered hp p.val v)
    exact ⟨fun h => finish_eq s (hd.trans (if_pos h)), fun h => finish_eq s (hd.trans (if_neg (by omega)))⟩
  case escalation =>
    intro s p v hp t
    have hw := write_esc_ctl s p v (.quill false) hp
    exact ⟨fun h hl => finish_eq s (hw.trans (escRelease_isolated h hl)), fun h => finish_eq s (hw.trans (escRelease_stores h))⟩
  case prbs =>
    intro s p m v hp u
    have hd := (write_prbs s p m v (.quill false) hp).trans (doPrbs_powered hp p.val v m.val)
    refine ⟨fun hpat h => finish_eq s (hd.trans (if_pos ⟨hpat, h⟩)), fun h => finish_eq s (hd.trans (if_neg ?_))⟩
    rintro ⟨hpat, busy⟩
    rcases h with h | ⟨hrx, htx⟩
    · exact hpat h
    · rcases busy with ⟨h1, hb⟩ | ⟨h1, hb⟩
      · rcases htx with h0 | hf
        · omega
        · exact Bool.false_ne_true (hf.symm.trans hb)
      · rcases hrx with h0 | hf
        · omega
        · exact Bool.false_ne_true (hf.symm.trans hb)
  case eye => exact fun s p m v n hp => finish_eq s (doEye_powered hp p.val v m.val n)

end Sys2Proof.Machine
end

section
/-! PROOFS. What the rows of the lane layer rest on (R160 to R168): a port's state after it was set, and the guards of rows that need
a node that runs or a link that is up. -/

namespace Sys2Proof.Machine

/-! ### The state of a port -/

theorem setAt_getD_self {α : Type} (l : List α) (i : Nat) (v d : α) :
    (setAt l i v).getD i d = if i < l.length then v else d := by
  induction l generalizing i with
  | nil => simp [setAt]
  | cons a t ih =>
    cases i with
    | zero => simp [setAt]
    | succ i => simpa [setAt] using ih i

/-- The ports are part of the link layer's state. -/
theorem State.port_of_link {s t : State} (h : t.link = s.link) (p : Nat) : t.port p = s.port p := by
  rw [State.port, h, State.port]

@[simp] theorem State.setRxMap_link (s : State) (p k m : Nat) : (s.setRxMap p k m).link = s.link := State.put_link _ _ _

@[simp] theorem State.noteLanes_link (s : State) (p : Nat) : (s.noteLanes p).link = s.link := by
  simp only [State.noteLanes, State.put_link, State.putBit_link]

/-- No calibration runs on a port that was given a state without one. -/
theorem State.calib_setPort {s : State} {p : Nat} {q : PortSt} (h : q.calib = none) :
    (((s.setPort p q).noteLanes p).port p).calib = none := by
  rw [State.port_of_link (State.noteLanes_link _ _)]
  have hq : (s.setPort p q).port p = if p < s.link.ports.length then q else PortSt.reset := setAt_getD_self _ _ _ _
  rw [hq]
  split_ifs
  · exact h
  · rfl

/-! ### Rows that need the link -/

section
variable {s : State} {p : Nat} (hr : s.running = true)
include hr

theorem running_acts : ¬(!s.running) = true := by
  simp [hr]

theorem link_acts (hl : s.linkUp p = true) : ¬(!s.running || !s.linkUp p) = true := by
  simp [hr, hl]

end

end Sys2Proof.Machine
end

section
/-! PROOFS. Bring-up, codewords and fast idle of a port (R146 to R168), and the statement O53. -/

namespace Sys2Proof.Machine

/-! ### HELLO (R160) -/

/-- Every locked lane is aligned, as step 4 of bring-up leaves it. -/
def State.lockedAligned (s : State) (p : Nat) : State :=
  forEach [0, 1, 2] (fun m u => if u.bit (Fld.LNK_PHY_STAT_LOCK p m) then u.raise (Fld.LNK_PHY_STAT_ALIGN p m) else u) s

section
variable {s : State} {p : Nat}

/-- The registers of physical lanes are none of the port's own. -/
theorem State.lockedAligned_portState : (s.lockedAligned p).get (Fld.LNK_PORT_STAT_STATE p) = s.get (Fld.LNK_PORT_STAT_STATE p) := by
  refine forEach_keeps _ _ (fun u => u.get (Fld.LNK_PORT_STAT_STATE p) = s.get (Fld.LNK_PORT_STAT_STATE p)) s rfl ?_
  intro m u hu
  have apart : Reg.LNK_PORT_STAT p ≠ Reg.LNK_PHY_STAT p m := by
    simp only [Reg.LNK_PORT_STAT, Reg.LNK_PHY_STAT]
    omega
  split_ifs
  · exact (State.get_put_off u (Fld.LNK_PHY_STAT_ALIGN p m) (Fld.LNK_PORT_STAT_STATE p) 1 apart).trans hu
  · exact hu

theorem State.lockedAligned_pwr : (s.lockedAligned p).pwr = s.pwr := by
  refine forEach_keeps _ _ (fun u => u.pwr = s.pwr) s rfl ?_
  intro m u hu
  split_ifs
  · exact hu
  · exact hu

theorem State.lockedAligned_portsOn : (s.lockedAligned p).portsOn = s.portsOn := by
  simp only [State.portsOn, State.running, State.lockedAligned_pwr]

/-- A HELLO on a link that is up aligns no lane. -/
theorem doHello_up (h : s.get (Fld.LNK_PORT_STAT_STATE p) = 2) (v : Nat) (tr : BitVec 3) (rx n : Nat) (st : Word) :
    doHello p v tr rx n st s = s.takeHello p v tr rx n st := by
  unfold doHello
  rw [if_neg (by simp [h])]

section
variable (ho : s.portsOn = true) (tr : BitVec 3) (rx n : Nat) (st : Word)
include ho

theorem State.takeHello_up (h : s.get (Fld.LNK_PORT_STAT_STATE p) = 2) :
    let a := s.takeStamp p n st
    let t := a.put (Fld.LNK_LANE_MAP_TX p) rx
    let u := if t.txMap p 0 = a.txMap p 0 then t else t.clearDelay p
    s.takeHello p 1 tr rx n st = (u.txLaneChange p 0 (a.txMap p 0)).txLaneChange p 1 (a.txMap p 1) :=
  (if_neg (by simp [ho, h])).trans (if_pos h)

theorem State.takeHello_training (h : s.get (Fld.LNK_PORT_STAT_STATE p) = 1) :
    let t := (s.takeStamp p n st).put (Fld.LNK_LANE_MAP_TX p) rx
    s.takeHello p 1 tr rx n st = (t.setPort p { t.port p with met := decide (tr ≠ 0) }).tryLinkUp p :=
  (if_neg (by simp [ho, h])).trans (if_neg (by omega))

theorem doHello_training (h : s.get (Fld.LNK_PORT_STAT_STATE p) = 1) :
    let t := ((s.lockedAligned p).takeStamp p n st).put (Fld.LNK_LANE_MAP_TX p) rx
    doHello p 1 tr rx n st s = (t.setPort p { t.port p with met := decide (tr ≠ 0) }).tryLinkUp p := by
  have hd : doHello p 1 tr rx n st s = (s.lockedAligned p).takeHello p 1 tr rx n st := by
    unfold doHello
    rw [if_pos (by simp [ho, h])]
    rfl
  rw [hd]
  exact State.takeHello_training (State.lockedAligned_portsOn.trans ho) tr rx n st (State.lockedAligned_portState.trans h)

end

theorem doHello_otherVersion {v : Nat} (hv : v ≠ 1) (tr : BitVec 3) (rx n : Nat) (st : Word) : doHello p v tr rx n st s = s := by
  unfold doHello
  rw [if_neg (by simp [hv])]
  exact if_pos (by simp [hv])

/-- A stamp of this node's own gives the round trip (R160). -/
theorem State.takeStamp_own {st : Word} (cap : Nat) (h : (s.port p).helloStamp = some st) :
    let b := s.setPort p { s.port p with peerCap := cap }
    let r := min (s.clk.dtime - st).toNat 65535
    s.takeStamp p cap st = ((b.setPort p { b.port p with helloStamp := none }).put (Fld.LNK_RETRY_RTT_NS p) r).putBit
      (Fld.LNK_RETRY_UNAVAIL p) (decide (40000 < r)) :=
  if_pos h

/-- The neighbour's stamp goes back to it (R160). -/
theorem State.takeStamp_neighbours {st : Word} (cap : Nat) (h : (s.port p).helloStamp ≠ some st) :
    let b := s.setPort p { s.port p with peerCap := cap }
    s.takeStamp p cap st = b.helloWith p (b.trainedLanes p) st :=
  if_neg h

/-! ### The end of bring-up (R160) -/

theorem State.tryLinkUp_comes (h : s.get (Fld.LNK_PORT_STAT_STATE p) = 1) (hm : (s.port p).met = true) (hrx : s.rxMap p 0 ≠ 3)
    (htx : s.txMap p 0 ≠ 3)
    (ha : ∀ k ∈ [0, 1], s.rxMap p k = 3 ∨ s.bit (Fld.LNK_PHY_STAT_ALIGN p (s.rxMap p k)) = true) :
    s.tryLinkUp p = s.linkUpNow p :=
  if_pos ⟨h, hm, hrx, htx, List.all_eq_true.mpr fun k hk => by simpa using ha k hk⟩

theorem State.tryLinkUp_stays (h : s.get (Fld.LNK_PORT_STAT_STATE p) ≠ 1 ∨ (s.port p).met = false ∨ s.rxMap p 0 = 3 ∨
    s.txMap p 0 = 3 ∨ s.bit (Fld.LNK_PHY_STAT_ALIGN p (s.rxMap p 0)) = false) : s.tryLinkUp p = s := by
  refine if_neg ?_
  rintro ⟨hst, hm, hrx, htx, ha⟩
  have ha0 : s.bit (Fld.LNK_PHY_STAT_ALIGN p (s.rxMap p 0)) = true := by
    simpa [hrx] using List.all_eq_true.mp ha 0 (by simp)
  rcases h with h | h | h | h | h
  · exact h hst
  · exact Bool.false_ne_true (h.symm.trans hm)
  · exact hrx h
  · exact htx h
  · exact Bool.false_ne_true (h.symm.trans ha0)

/-! ### Codewords (R146, R147, R153, R162) -/

/-- On a link that is down only training and test of ROLE 2 fit the lane (R147). -/
theorem State.contradicts_down {m : Nat} {d : CwDec} (hl : s.linkUp p = false) :
    s.contradicts p m d = (decide (cwField d 82 81 ≠ 2) || decide (cwField d 80 79 ≤ 1)) := by
  simp only [State.contradicts, hl, Bool.not_false, if_true]
  by_cases h : cwField d 82 81 = 3
  · simp [h]
  · simp [h, Bool.or_comm]

section
variable {m : Nat} {c : Codeword} (ho : s.portsOn = true)
  (hst : s.get (Fld.LNK_PORT_STAT_STATE p) = 1 ∨ s.get (Fld.LNK_PORT_STAT_STATE p) = 2) (hph : ((s.port p).phy m).retired = false)
include ho hst hph

/-- A codeword reaches the decoder of a lane not retired, of a port in training or up. -/
theorem codeword_reaches : ¬(!s.portsOn || (s.get (Fld.LNK_PORT_STAT_STATE p) != 1 && s.get (Fld.LNK_PORT_STAT_STATE p) != 2) ||
    ((s.port p).phy m).retired) = true := by
  rcases hst with h | h <;> simp [ho, h, hph]

theorem doCodeword_undecodable (hc : cwDecode c = none) : doCodeword p m c s = (s.tallyOf 0x000 1 p).badCodeword p m := by
  unfold doCodeword
  rw [if_neg (codeword_reaches ho hst hph), hc]

theorem doCodeword_contradicting {d : CwDec} (hc : cwDecode c = some d) (hd : (s.tallyOf 0x000 1 p).contradicts p m d = true) :
    doCodeword p m c s = (s.tallyOf 0x000 1 p).badCodeword p m := by
  unfold doCodeword
  rw [if_neg (codeword_reaches ho hst hph), hc]
  exact if_pos hd

theorem doCodeword_taken {d : CwDec} (hc : cwDecode c = some d) (hd : (s.tallyOf 0x000 1 p).contradicts p m d = false) :
    doCodeword p m c s = (s.tallyOf 0x000 1 p).takeCodeword p m d := by
  unfold doCodeword
  rw [if_neg (codeword_reaches ho hst hph), hc]
  exact if_neg (by simp [hd])

end

section
variable {m : Nat} {d : CwDec}

theorem State.takeCodeword_noLane (h : 2 ≤ cwField d 80 79 ∨ 2 ≤ cwField d 82 81) :
    s.takeCodeword p m d = ((((s.goodCodeword p m d.fixed).takeHeader p d).nackNow p m).takeOther p d).tryLinkUp p :=
  congrArg (fun u : State => u.tryLinkUp p) (if_pos h)

theorem State.takeCodeword_lane (hk : cwField d 80 79 < 2) (hr : cwField d 82 81 < 2) :
    s.takeCodeword p m d =
      ((((s.goodCodeword p m d.fixed).takeHeader p d).nackNow p m).orderCw p m (cwField d 82 81) d).tryLinkUp p :=
  congrArg (fun u : State => u.tryLinkUp p) (if_neg (by omega))

/-- The codeword next in order is taken, and those that came early follow it (R153, R162). -/
theorem State.orderCw_next {k : Nat} (h : ((s.port p).rx k).expect = BitVec.ofNat 16 (cwField d 98 83)) :
    let r := (s.port p).rx k
    s.orderCw p m k d = ((s.setRxOf p k { r with early := [] }).takeCw p m k d).takeEarly p k r.early :=
  if_pos (.inl h.symm)

end

/-! ### The swap of a lane (R168) -/

theorem doNackResend_due {k : Nat} (hr : s.running = true) (hl : s.linkUp p = true) (hn : ((s.port p).rx k).nacked = true)
    (hd : ((s.port p).rx k).nackDue = false) : doNackResend p k s = s.sendNack p k (((s.port p).rx k).expect - 1) :=
  if_pos (by simp [hr, hl, hn, hd])

/-- With no calibration under way, logical lane 1 goes on on the trained spare and the lane it leaves becomes the spare. -/
theorem doLaneSwap_swaps {m k : Nat} (hr : s.running = true) (hl : s.linkUp p = true) (hm : s.rxMap p k = m) (hs : s.rxMap p 2 ≠ 3)
    (hc : (s.port p).calib = none) (hk : k ≠ 0) :
    let sp := s.rxMap p 2
    let t := ((((s.setRxMap p k sp).setRxMap p 2 m).put (Fld.LNK_PHY_STAT_STATE p sp) 2).raise (Fld.LNK_PHY_STAT_LOCK p sp)).setWord
      (Reg.LNK_PHY_STAT p m) 0
    doLaneSwap p m k s = (t.setPort p { t.port p with
      move := some ⟨k, m, sp, true⟩
      sweepAt := t.clk.upNs }).noteLanes p := by
  intro sp t
  have hlink : t.link = s.link := by
    simp only [t, State.setWord_link, State.raise_link, State.put_link, State.setRxMap_link]
  have ht : (t.port p).calib = none := (congrArg PortSt.calib (State.port_of_link hlink p)).trans hc
  unfold doLaneSwap
  rw [if_neg (by simp [hr, hl, hm, hs]), hm, hc]
  simp only [Bool.false_eq_true, if_false, if_neg hk]
  split
  · next c hsome => exact absurd (hsome.symm.trans (State.calib_setPort ht)) (Option.some_ne_none c)
  · rfl

theorem doLaneSwap_otherLane {m k : Nat} (hm : s.rxMap p k ≠ m) (hv : (s.port p).move = none) : doLaneSwap p m k s = s := by
  unfold doLaneSwap
  rw [hv]
  exact if_pos (by simp [hm])

/-! ### Fast idle (R157, R158) -/

section
variable (hr : s.running = true)
include hr

theorem doIdleEnter_idles (hl : s.linkUp p = true) (hm : s.rxMap p 1 ≠ 3) :
    doIdleEnter p s = (s.setPort p { s.port p with rxIdle1 := true }).put (Fld.LNK_PHY_STAT_STATE p (s.rxMap p 1)) 3 :=
  if_neg (by simp [hr, hl, hm])

theorem doFastIdleExit_wakes (h : (s.port p).tx1.queue ≠ [] ∨ (s.port p).tx1.ready = true) : doFastIdleExit p s = s.wakeLane1 p :=
  if_pos (by simpa [hr] using h)

theorem doFastIdleWake_wakes (hl : s.linkUp p = true) (hi : (s.port p).rxIdle1 = true) :
    doFastIdleWake p true true s =
      forEach ((List.range 4).filter (fun q => decide (q ≠ p))) (fun q u => u.wakeLane1 q)
        ((s.setPort p { s.port p with rxIdle1 := false }).put (Fld.LNK_PHY_STAT_STATE p (s.rxMap p 1)) 2) :=
  if_neg (by simp [hr, hl, hi])

theorem doFastIdleWake_false (hl : s.linkUp p = true) (hi : (s.port p).rxIdle1 = true) {burst ok : Bool}
    (hb : (burst && ok) = false) : doFastIdleWake p burst ok s = s.count (Fld.LNK_DROPCNT_FALSEWAKE p) :=
  (if_neg (by simp [hr, hl, hi])).trans (if_neg (by simp [hb]))

end

theorem doFastIdleExit_stays (hq : (s.port p).tx1.queue = []) (hn : (s.port p).tx1.ready = false) : doFastIdleExit p s = s :=
  if_neg (by simp [hq, hn])

end

/-- Settles O53, row by row. -/
theorem laneEventsAct : Obligations.LaneEventsAct := by
  unfold Obligations.LaneEventsAct
  refine ⟨?signal, ?hello, ?up, fun _ _ _ _ => State.contradicts_down, ?stamp, ?timeout, ?codeword, ?running⟩
  case signal => exact fun s p tr ho h => finish_eq s (if_neg (by simp [ho, h]))
  case hello =>
    intro s p tr rx lo hi st ho n
    refine ⟨fun h => finish_eq s ?_, fun h => finish_eq s ?_, fun v hv => finish_eq s (doHello_otherVersion ?_ _ _ _ _)⟩
    · exact (doHello_up h 1 tr rx.toNat n st).trans (State.takeHello_up ho tr rx.toNat n st h)
    · exact doHello_training ho tr rx.toNat n st h
    · exact fun h => hv (BitVec.eq_of_toNat_eq h)
  case up => exact fun s p => ⟨State.tryLinkUp_comes, State.tryLinkUp_stays⟩
  case stamp => exact fun s p cap st => ⟨State.takeStamp_own cap, State.takeStamp_neighbours cap⟩
  case timeout => exact fun s p ho h => finish_eq s (if_pos (by simp [ho, h]))
  case codeword =>
    intro s p m c ho hst hph a
    refine ⟨fun hc => finish_eq s (doCodeword_undecodable ho hst hph hc),
      fun d hc hd => finish_eq s (doCodeword_contradicting ho hst hph hc hd), fun d hc hd => ?_⟩
    intro h k r
    have ht := doCodeword_taken ho hst hph hc hd
    refine ⟨fun hn => finish_eq s (ht.trans (State.takeCodeword_noLane hn)), fun hk hr he => finish_eq s ?_⟩
    exact (ht.trans (State.takeCodeword_lane hk hr)).trans (congrArg (fun u : State => u.tryLinkUp p.val) (State.orderCw_next he))
  case running =>
    intro s p m k fn why hr hl
    refine ⟨?nack, ?resync, ?swap, ?otherLane, ?idle, ?idleEntry, ?exit, ?noExit, ?wake⟩
    case nack => exact fun hn hd => finish_eq s (doNackResend_due hr hl hn hd)
    case resync => exact finish_eq s (if_neg (link_acts hr hl))
    case swap => exact fun hm hs hc hk => finish_eq s (doLaneSwap_swaps hr hl hm hs hc hk)
    case otherLane => exact fun hm hv => finish_eq s (doLaneSwap_otherLane hm hv)
    case idle => exact fun hm => finish_eq s (doIdleEnter_idles hr hl hm)
    case idleEntry => exact fun he hx hb hq hp hn hi => finish_eq s (if_neg (by simp [hr, hl, he, hx, hb, hq, hp, hn, hi]))
    case exit => exact fun h => finish_eq s (doFastIdleExit_wakes hr h)
    case noExit => exact fun hq hn => finish_eq s (doFastIdleExit_stays hq hn)
    case wake =>
      exact fun hi => ⟨finish_eq s (doFastIdleWake_wakes hr hl hi), finish_eq s (doFastIdleWake_false hr hl hi rfl),
        finish_eq s (doFastIdleWake_false hr hl hi rfl)⟩

end Sys2Proof.Machine
end

section
/-! PROOFS. Failure, stand-in and calibration of a port's lanes (R161, R166 to R172), and the statement O54. -/

namespace Sys2Proof.Machine

/-! ### The setting with the fewest errors (R167) -/

theorem fewest_range_next (l : List Nat) (n i : Nat) (h : fewest l (List.range n) = some i) :
    fewest l (List.range (n + 1)) = if l.getD n 0 < l.getD i 0 then some n else some i := by
  unfold fewest at h ⊢
  rw [List.range_succ, List.foldl_append, h]
  rfl

/-- Of the first settings one with the fewest errors is found. -/
theorem fewest_range_succ (l : List Nat) (n : Nat) :
    ∃ i, fewest l (List.range (n + 1)) = some i ∧ i ≤ n ∧ ∀ j, j ≤ n → l.getD i 0 ≤ l.getD j 0 := by
  induction n with
  | zero =>
    refine ⟨0, rfl, le_refl 0, fun j hj => ?_⟩
    rw [Nat.le_zero.mp hj]
  | succ n ih =>
    obtain ⟨i, hi, hin, hmin⟩ := ih
    rw [fewest_range_next l (n + 1) i hi]
    split_ifs with hlt
    · refine ⟨n + 1, rfl, le_refl _, fun j hj => ?_⟩
      rcases Nat.le_succ_iff.mp hj with hj | rfl
      · exact hlt.le.trans (hmin j hj)
      · exact le_refl _
    · refine ⟨i, rfl, hin.trans (Nat.le_succ n), fun j hj => ?_⟩
      rcases Nat.le_succ_iff.mp hj with hj | rfl
      · exact hmin j hj
      · exact Nat.le_of_not_lt hlt

theorem fewest_range {l : List Nat} {n i : Nat} (h : fewest l (List.range n) = some i) :
    i < n ∧ ∀ j, j < n → l.getD i 0 ≤ l.getD j 0 := by
  cases n with
  | zero => cases h
  | succ n =>
    obtain ⟨k, hk, hkn, hmin⟩ := fewest_range_succ l n
    obtain rfl : k = i := Option.some.inj (hk.symm.trans h)
    exact ⟨Nat.lt_succ_of_le hkn, fun j hj => hmin j (Nat.le_of_lt_succ hj)⟩

section
variable {s : State} {p : Nat}

/-! ### Failure and stand-in (R161, R171, R172) -/

/-- A failed lane shows it, with its interrupt (R161). -/
def State.laneDown (s : State) (p m : Nat) : State :=
  (s.setWord (Reg.LNK_PHY_STAT p m) (wd (6 * 16))).raise (Fld.LNK_INT_LANE_DOWN p)

/-- A lane that carries traffic fails while no calibration runs: the spare stands in when it is free. -/
theorem doLaneFailure_carrier {m k : Nat} (hr : s.running = true) (hl : s.linkUp p = true) (hk : s.rxLogical p m = some k) :
    let t := (s.laneDown p m).setRxMap p k 3
    (t.port p).calib = none →
    let u := t.put (Fld.LNK_PHY_STAT_STATE p (t.rxMap p 2)) 1
    doLaneFailure p m s =
      if t.rxMap p 2 ≠ 3 ∧ (t.port p).standIn = none then
        ((u.setPort p { u.port p with standIn := some m }).noteLanes p).tellMap p
      else if t.workingLanes p = 0 ∧ t.rxMap p 2 = 3 then t.linkDown p 0
      else (t.noteLanes p).tellMap p := by
  intro t hc u
  unfold doLaneFailure
  rw [if_neg (link_acts hr hl), hk]
  dsimp only
  split
  · next c hsome => exact absurd (hsome.symm.trans hc) (Option.some_ne_none c)
  · rfl

/-- A lane that is neither carrier nor spare in training does not matter (R161). -/
theorem doLaneFailure_idle {m : Nat} (hk : s.rxLogical p m = none) (hc : (s.port p).calib = none)
    (h : s.rxMap p 2 ≠ m ∨ (s.port p).standIn = none) : doLaneFailure p m s = s := by
  unfold doLaneFailure
  rw [hk]
  exact ite_eq_left_iff.mpr fun _ => if_pos (h.imp_right fun hn => ⟨hn, hc⟩)

/-- The spare fails while it trains to stand in: it is lost, and the link with it where no lane carries it (R171). -/
theorem doLaneFailure_spare {m : Nat} (hr : s.running = true) (hl : s.linkUp p = true) (hk : s.rxLogical p m = none)
    (hc : (s.port p).calib = none) (hm : s.rxMap p 2 = m) (hs : (s.port p).standIn.isSome = true) :
    let t := (s.laneDown p m).setRxMap p 2 3
    let u := t.setPort p { t.port p with standIn := none }
    doLaneFailure p m s = if u.workingLanes p = 0 then u.linkDown p 0 else (u.noteLanes p).tellMap p := by
  intro t u
  have trains : ¬(s.rxMap p 2 ≠ m ∨ ((s.port p).standIn = none ∧ (s.port p).calib = none)) := by
    rintro (h | ⟨h, -⟩)
    · exact h hm
    · simp [h] at hs
  unfold doLaneFailure
  rw [if_neg (link_acts hr hl), hk]
  dsimp only
  unfold State.spareFailure
  rw [if_neg trains, hc]
  rfl

theorem doStandIn_carries {m : Nat} (hr : s.running = true) (hl : s.linkUp p = true) (hs : (s.port p).standIn = some m)
    (hx : s.rxMap p 2 ≠ 3) :
    let sp := s.rxMap p 2
    let k := if s.rxMap p 0 = 3 then 0 else 1
    let t := (((s.setRxMap p k sp).setRxMap p 2 3).put (Fld.LNK_PHY_STAT_STATE p sp) 2).raise (Fld.LNK_PHY_STAT_LOCK p sp)
    let u := (t.setPort p { t.port p with standIn := none }).adapt p sp
    doStandIn p s = ((if k = 0 then u.clearDelay p else u).retirePhy p m sp).tellMap p := by
  unfold doStandIn
  rw [if_neg (link_acts hr hl), hs]
  exact if_neg hx

/-! ### Calibration as transmitter (R167, R169, R170) -/

theorem doCalReady_asked (hr : s.running = true) (h : (s.port p).remoteCal.isSome = true) :
    doCalReady p s = s.setPort p { s.port p with remoteReady := true } :=
  if_neg (by simp [hr, Option.isNone_eq_false_iff.mpr h])

theorem doCalReady_unasked (h : (s.port p).remoteCal = none) : doCalReady p s = s :=
  if_pos (by simp [h])

theorem doCalSwap_swaps {m k : Nat} (hr : s.running = true) (hy : (s.port p).remoteReady = true) (hm : (s.port p).remoteCal = some m)
    (hk : s.txLogical p m = some k) :
    let a := if k = 1 then s.wakeLane1 p else s
    let f := a.clk.fn.toNat
    let args := [k, f % 256, f / 256 % 256, f / 65536 % 256, f / 16777216]
    let t := ((((a.setTxOf p k { (a.port p).tx k with mark := some ⟨m, ctlBytes 2 args⟩ }).emit (.control p k ⟨2, args⟩)).setTxMap
      p k (a.txMap p 2)).setTxMap p 2 m)
    let back := (t.port p).remoteAt.isSome
    let u := t.setPort p { t.port p with
      remoteCal := if back then none else some (a.txMap p 2)
      remoteAt := if back then none else some t.clk.upNs
      remoteReady := false }
    doCalSwap p s = if k = 0 then u.clearDelay p else u := by
  intro a f args t back u
  unfold doCalSwap
  rw [if_neg (by simp [hr, hy]), hm]
  dsimp only
  rw [hk]

/-! ### Calibration as receiver (R166, R167, R170) -/

theorem doCalPeriod_asks (hr : s.running = true) (h : s.get (Fld.LNK_CAL_CFG_PERIOD p) ≠ 0) :
    doCalPeriod p s = (s.requestCal p none).2 :=
  if_pos (by simp [hr, h])

theorem doCalPeriod_off (h : s.get (Fld.LNK_CAL_CFG_PERIOD p) = 0) : doCalPeriod p s = s :=
  if_neg (by simp [h])

theorem doCalQueued_starts (hr : s.running = true) (hq : s.bit (Fld.LNK_CAL_STAT_QUEUED p) = true) (hc : (s.port p).calib = none) :
    doCalQueued p s = (((s.setPort p { s.port p with queuedCal := none }).put (Fld.LNK_CAL_STAT_QUEUED p) 0).requestCal p
      (s.port p).queuedCal).2 :=
  if_pos (by simp [hr, hq, hc])

theorem doSpareTrained_none (hr : s.running = true) (hc : (s.port p).calib = none) : doSpareTrained p s = s := by
  unfold doSpareTrained
  rw [if_neg (running_acts hr), hc]

theorem doSpareTrained_tells {c : Calib} (hr : s.running = true) (hc : (s.port p).calib = some c)
    (hs : s.get (Fld.LNK_CAL_STAT_STEP p) = 1) (hn : c.started = false) :
    doSpareTrained p s = (((s.setPort p { s.port p with
      calib := some { c with started := true } }).adapt p c.onto).raise (Fld.LNK_PHY_STAT_LOCK p c.onto)).announceMove
      p c.lane c.onto c.lane := by
  unfold doSpareTrained
  rw [if_neg (running_acts hr), hc]
  exact if_pos ⟨hs, hn⟩

/-- The lane swept keeps the settings with the fewest errors (R167). -/
def State.sweepKept (s : State) (p m x y : Nat) (dfe : List (List Nat)) : State :=
  let e := s.put (Fld.LNK_PHY_EQ0_CTLE p m) x
  (e.put (Fld.LNK_PHY_EQ1_DFE p m) (sweptTaps (e.get (Fld.LNK_PHY_EQ1_DFE p m)) dfe)).put (Fld.LNK_PHY_EQ0_PHASE p m) y

/-- The sweep is over: it counts, and the SELFTEST of its lane has had its turn (R166, R167). -/
def State.sweepOver (s : State) (p m : Nat) : State :=
  let done := (s.port p).selftest
  (((s.setPort p { s.port p with selftest := if done.head? = some m then done.tail else done }).put
    (Fld.LNK_CAL_STAT_STEP p) 0).countWrap (Fld.LNK_CAL_STAT_COUNT p)).raise (Fld.LNK_INT_CAL_DONE p)

/-- The end of a sweep, by its errors against the threshold and by RETURN (R167, R170). -/
theorem doSweepDone_ends {c : Calib} {ctle ph : List Nat} {x y : Nat} (dfe : List (List Nat)) (n : Nat) (hr : s.running = true)
    (hc : (s.port p).calib = some c) (hs : 2 ≤ s.get (Fld.LNK_CAL_STAT_STEP p))
    (hx : fewest ctle (List.range ctle.length) = some x) (hy : fewest ph (List.range ph.length) = some y) :
    let b := (s.sweepKept p c.lane x y dfe).sweepOver p c.lane
    let u := ((b.setRxMap p 2 c.lane).setWord (Reg.LNK_PHY_STAT p c.lane) 0).noteLanes p
    doSweepDone p ctle dfe ph n s =
      if n ≤ b.get (Fld.LNK_CAL_CFG_RETIRE_THR p) then
        if u.bit (Fld.LNK_CAL_CFG_RETURN p) then
          (u.setPort p { u.port p with calib := some { c with back := true } }).announceMove p c.onto c.lane c.lane
        else u.endCal p
      else ((((b.setPort p { b.port p with calib := none }).selftestFail 0).retirePhy p c.lane c.onto).tellMap p).endCal p := by
  unfold doSweepDone
  rw [if_neg (running_acts hr), hc]
  dsimp only
  rw [if_neg (Nat.not_lt.mpr hs), hx, hy]
  rfl

end

/-- Settles O54, row by row. -/
theorem laneRepairActs : Obligations.LaneRepairActs := by
  unfold Obligations.LaneRepairActs
  refine ⟨?carrier, ?spare, ?standIn, ?calReq, ?calReady, ?swapTick, ?requests, fun _ _ => fewest_range, ?sweep⟩
  case carrier =>
    intro s p m k hr hl hk t hc
    have hd := doLaneFailure_carrier hr hl hk hc
    refine ⟨fun hx hs => finish_eq s (hd.trans (if_pos ⟨hx, hs⟩)), fun hx hw => finish_eq s (hd.trans ?_),
      fun hx hw => finish_eq s (hd.trans ?_), fun hx hs => finish_eq s (hd.trans ?_)⟩
    · exact (if_neg fun h => h.1 hx).trans (if_pos ⟨hw, hx⟩)
    · exact (if_neg fun h => h.1 hx).trans (if_neg fun h => hw h.1)
    · exact (if_neg fun h => Option.isSome_iff_ne_none.mp hs h.2).trans (if_neg fun h => hx h.2)
  case spare =>
    intro s p m hk hc
    refine ⟨fun h => finish_eq s (doLaneFailure_idle hk hc h), fun hr hl hm hs => ?_⟩
    have hd := doLaneFailure_spare hr hl hk hc hm hs
    exact ⟨fun hw => finish_eq s (hd.trans (if_pos hw)), fun hw => finish_eq s (hd.trans (if_neg hw))⟩
  case standIn => exact fun s p m hr hl hs hx => finish_eq s (doStandIn_carries hr hl hs hx)
  case calReq => exact fun s p m b hr hl => finish_eq s (if_neg (link_acts hr hl))
  case calReady => exact fun s p m hr => ⟨fun h => finish_eq s (doCalReady_asked hr h), fun h => finish_eq s (doCalReady_unasked h)⟩
  case swapTick => exact fun s p m k hr hy hm hk => finish_eq s (doCalSwap_swaps hr hy hm hk)
  case requests =>
    intro s p hr
    exact ⟨fun h => finish_eq s (doCalPeriod_asks hr h), fun h => finish_eq s (doCalPeriod_off h),
      fun hq hc => finish_eq s (doCalQueued_starts hr hq hc), fun hc => finish_eq s (doSpareTrained_none hr hc),
      fun c hc hs hn => finish_eq s (doSpareTrained_tells hr hc hs hn)⟩
  case sweep =>
    intro s p c ctle ph dfe x y n hr hc hs hx hy e a done b
    have hd := doSweepDone_ends dfe n hr hc hs hx hy
    refine ⟨fun hn => ?_, fun hn => finish_eq s (hd.trans (if_neg (Nat.not_le.mpr hn)))⟩
    intro u
    exact ⟨fun hb => finish_eq s ((hd.trans (if_pos hn)).trans (if_neg (Bool.eq_false_iff.mp hb))),
      fun hb => finish_eq s ((hd.trans (if_pos hn)).trans (if_pos hb))⟩

end Sys2Proof.Machine
end

section
/-! PROOFS. The commands that change a node at once (R187, R213, R231, R293, R295, R392, R423): what a node does once it has accepted
one, and the statement O16. -/

namespace Sys2Proof.Machine

/-- A command carried out at once acts on the node that has accepted it, with the words the head filled in (R187, R299). -/
theorem exec_actsNow {i : Instr} {s t : State} {op : Nat} {o : OpRow} {c : Cmd} (hi : commandOf i = some (op, c))
    (h : ActsNow s op o c t) :
    exec i s = .next (after s ((t.acceptedNow op o c).actNow op ((t.tallyOf 0x040 4 c.client.toNat).madeReady op c))) := by
  rw [exec_command s hi, takeCommand_actsNow h]

section
variable (a : State) (c : Cmd)

theorem State.applyNow_nodePoke :
    a.applyNow opNODE_POKE c =
      let u := a.writeSpan (.poke (cmdIssuer c)) (nth c.params 0).toNat (c.params.drop 2)
      u.answer opNODE_POKE c stOK false u.clk.fn [] := rfl

theorem State.applyNow_corLoad :
    a.applyNow opCOR_LOAD c =
      let u := a.applyCorLoad c.params
      u.answer opCOR_LOAD c stOK false u.clk.fn [] := rfl

theorem State.applyNow_houseTime :
    a.applyNow opHOUSE_TIME c =
      let u := a.applyHouse c.params
      u.answer opHOUSE_TIME c stOK false u.clk.fn [] := rfl

theorem State.applyNow_pmuConfig :
    a.applyNow opPMU_CONFIG c =
      let u := a.applyPmu c.params
      u.answer opPMU_CONFIG c stOK false u.clk.fn [] := rfl

theorem State.applyNow_keyInstall :
    a.applyNow opKEY_INSTALL c =
      let u := a.applyKey c.params
      u.answer opKEY_INSTALL c stOK false u.clk.fn [] := rfl

/-- DOM_RESET arms the reset for its instant (R187). -/
theorem State.actNow_domReset :
    a.actNow opDOM_RESET c =
      let u : State := { a with pwr := { a.pwr with domReset := some (nth c.params 0) } }
      u.answer opDOM_RESET c stOK false u.clk.fn [nth c.params 0] := rfl

end

/-- Settles O16: each command acts on the node that has accepted it, DOM_RESET with the instant the head filled in. -/
theorem nodeSettingCommandsAct : Obligations.NodeSettingCommandsAct := by
  unfold Obligations.NodeSettingCommandsAct
  refine ⟨?nodePoke, ?corLoad, ?houseTime, ?pmuConfig, ?keyInstall, ?domReset⟩
  case nodePoke =>
    intro s t o c h a
    rw [exec_nodeNow rfl h rfl (by decide) (by decide), State.applyNow_nodePoke]
  case corLoad =>
    intro s t o c h a
    rw [exec_nodeNow rfl h rfl (by decide) (by decide), State.applyNow_corLoad]
  case houseTime =>
    intro s t o c h a
    rw [exec_nodeNow rfl h rfl (by decide) (by decide), State.applyNow_houseTime]
  case pmuConfig =>
    intro s t o c h a
    rw [exec_nodeNow rfl h rfl (by decide) (by decide), State.applyNow_pmuConfig]
  case keyInstall =>
    intro s t o c h a
    rw [exec_nodeNow rfl h rfl (by decide) (by decide), State.applyNow_keyInstall]
  case domReset =>
    intro s t o c h d u a
    rw [exec_actsNow rfl h, State.actNow_domReset]

end Sys2Proof.Machine
end

section
/-! PROOFS. The commands that set a head or its domain to work (R179, R187, R264, R278, R329, R395): what a head does once it has
accepted one, and the statement O20. -/

namespace Sys2Proof.Machine

section
variable (a : State) (c : Cmd)

theorem State.applyHeadNow_domEnumerate :
    a.applyHeadNow opDOM_ENUMERATE c =
      a.enumerate (decide (wbits (nth c.params 0) 16 16 = 0))
        ((List.range 4).filter (fun i => decide (wbits (nth c.params 0) i i = 1))) (c.params.drop 1) c := rfl

theorem State.applyHeadNow_domBarrier : a.applyHeadNow opDOM_BARRIER c = a.startBarrier c := rfl

theorem State.actNow_domSnapshot : a.actNow opDOM_SNAPSHOT c = a.applySnapshot c := rfl

theorem State.applyHeadNow_redPair : a.applyHeadNow opRED_PAIR c = a.applyPair c := rfl

/-- RED_RESYNC is answered PENDING, with its CMD_DONE due when the copy ends (R278). -/
theorem State.applyHeadNow_redResync :
    a.applyHeadNow opRED_RESYNC c =
      let u := a.answerPending opRED_RESYNC c
      State.startResync { u with cmds := { u.cmds with
        done := u.cmds.done ++ [(⟨opRED_RESYNC, c.client, c.tag, c.route⟩ : PendingDone)] } } := by
  unfold State.applyHeadNow
  dsimp only
  rw [if_neg (by decide), if_neg (by decide), if_neg (by decide), if_neg (by decide), if_neg (by decide), if_neg (by decide),
    if_neg (by decide), if_neg (by decide), if_neg (by decide), if_pos rfl]

theorem State.applyHeadNow_jrnReplay :
    a.applyHeadNow opJRN_REPLAY c = (a.answerPending opJRN_REPLAY c).startReplay c false := rfl

end

/-- Settles O20: each command acts on the head that has accepted it, DOM_SNAPSHOT with the instant the head filled in. -/
theorem domainCommandsStartTheirWork : Obligations.DomainCommandsStartTheirWork := by
  unfold Obligations.DomainCommandsStartTheirWork
  refine ⟨?enumerate, ?barrier, ?snapshot, ?pair, ?resync, ?replay⟩
  case enumerate =>
    intro s t o c h
    rw [exec_headNow rfl h rfl (by decide), State.applyHeadNow_domEnumerate]
  case barrier =>
    intro s t o c h
    rw [exec_headNow rfl h rfl (by decide), State.applyHeadNow_domBarrier]
  case snapshot =>
    intro s t o c h d
    rw [exec_actsNow rfl h, State.actNow_domSnapshot]
  case pair =>
    intro s t o c h
    rw [exec_headNow rfl h rfl (by decide), State.applyHeadNow_redPair]
  case resync =>
    intro s t o c h a
    rw [exec_headNow rfl h rfl (by decide), State.applyHeadNow_redResync]
  case replay =>
    intro s t o c h
    rw [exec_headNow rfl h rfl (by decide), State.applyHeadNow_jrnReplay]

end Sys2Proof.Machine
end

section
/-! PROOFS. How commands arrive and how forwarded ones are closed (R186, R189, R287, R294 to R297, R301, R317, R318), and the
statement O26. -/

namespace Sys2Proof.Machine

/-! ### Command rings (R301, R317) -/

/-- A header announces its own four words at least (R287). -/
theorem four_le_announced (ws : List Word) : 4 ≤ announced ws := by
  unfold announced
  omega

/-- A command that its ring covers, and whose fetch meets no fault, leaves the ring. -/
theorem doRingCommand_taken {s t : State} {n : ClientId} {ws : List Word} {m : HostMem} (hr : s.ringTakes n = true)
    (hl : announced ws ≤ 4089) (hc : announced ws ≤ 2 ^ ctxLog ((s.showMem m).ring n).cfg 0)
    (hi : announced ws ≤ (((s.showMem m).ring n).cmdPi - ((s.showMem m).ring n).cmdCi).toNat)
    (hf : (s.showMem m).ringFetch n (announced ws) = (none, t)) : doRingCommand n ws m s = t.ringTake n ws := by
  have covered := (four_le_announced ws).trans hi
  have fits : ¬(4089 < announced ws ∨ 2 ^ ctxLog ((s.showMem m).ring n).cfg 0 < announced ws) := not_or.mpr ⟨hl.not_gt, hc.not_gt⟩
  unfold doRingCommand
  rw [if_neg (by simp [hr])]
  dsimp only
  rw [if_neg covered.not_gt, if_neg fits, if_neg hi.not_gt, hf]

/-- A ring's command of its own client is taken, and CMD_CI passes it. -/
theorem State.ringTake_own {t : State} {n : ClientId} {ws : List Word} (h : (parseCmd .ring ws).2.client = n) :
    t.ringTake n ws = (t.setRing n { t.ring n with cmdCi := (t.ring n).cmdCi + wd (announced ws) }).takeCommand
      (parseCmd .ring ws).1 (parseCmd .ring ws).2 :=
  if_pos h

/-! ### CMD packets (R189) -/

theorem doCmdPacket_taken {s t : State} {x : Rx} {b : List Word} (hx : x.type.toNat = tyCMD) (ht : s.taken x = some (b, t)) :
    let q := parseCmd (.broash x.src (decide (x.dest = 0xFFFF))) (x.body.take (x.body.length - 6))
    doCmdPacket x s = t.takeCommand q.1 q.2 := by
  intro q
  unfold doCmdPacket
  dsimp only
  rw [receive_taken s x b t _ _ ht, if_pos hx]

/-! ### What closes a forwarded command (R186, R297) -/

/-- The RPL of the node that a command was forwarded to closes it: the client has its reply, with that node's epoch. -/
theorem doRpl_closes {s t : State} {x : Rx} {b : List Word} {f : Forwarded} (hx : x.type.toNat = tyRPL)
    (ht : s.taken x = some (b, t)) (hr : t.role = .head) (hf : t.cmds.forwarded = [f])
    (hc : f.client.toNat = wbits (nth b 1) 31 20) (hg : f.tag.toNat = wbits (nth b 1) 15 0)
    (hs : f.target.toNat = wbits (nth b 2) 31 16) (hl : updLong f.opcode = false) (hp : wbits (nth b 0) 31 16 ≠ stPENDING) :
    doRpl x s = State.headReply { t with cmds := { t.cmds with forwarded := [] } } f.client f.tag (wbits (nth b 0) 31 16) true
      (decide (wbits (nth b 0) 14 14 = 1)) f.target (BitVec.ofNat 16 (wbits (nth b 2) 15 0)) (nth b 3) f.noReply
      ((b.drop 4).take (wbits (nth b 0) 11 0)) := by
  have client : BitVec.ofNat 12 (wbits (nth b 1) 31 20) = f.client := by rw [← hc]; simp
  have tag : BitVec.ofNat 16 (wbits (nth b 1) 15 0) = f.tag := by rw [← hg]; simp
  have source : BitVec.ofNat 16 (wbits (nth b 2) 31 16) = f.target := by rw [← hs]; simp
  refine (receive_taken s x b t _ _ ht).trans ((if_neg (by simp [hr, hx])).trans ?_)
  dsimp only
  rw [client, tag, source, hf, List.find?_singleton, if_pos (by simp)]
  dsimp only
  rw [if_neg (Bool.eq_false_iff.mp hl), if_neg hp, List.erase_cons_head]

theorem doCommandTimeout_closes {s : State} {f : Forwarded} (hf : s.cmds.forwarded = [f]) (hl : updLong f.opcode = false) :
    doCommandTimeout f.client f.tag s = State.headReply { s with cmds := { s.cmds with forwarded := [] } } f.client f.tag stTIMEOUT
      false false s.nodeId s.epoch 0 f.noReply [] := by
  unfold doCommandTimeout
  rw [hf, List.find?_singleton, if_pos (by simp [hl])]
  dsimp only
  rw [List.erase_cons_head]

theorem doGatherTimeout_closes {s : State} {g : Gather} (hg : s.cmds.gathers = [g]) (hl : updLong g.opcode = false) :
    doGatherTimeout g.client g.tag s = s.closeGather g := by
  unfold doGatherTimeout
  rw [hg, List.find?_singleton, if_pos (by simp [hl])]

/-- Settles O26, way by way. -/
theorem commandsArriveAndAreClosed : Obligations.CommandsArriveAndAreClosed := by
  unfold Obligations.CommandsArriveAndAreClosed
  refine ⟨?ring, fun _ _ => rfl, ?packet, ?reply, ?timeout, ?gather, ?staged⟩
  case ring =>
    intro s t n ws m hr r len hl hc hi hf
    exact ⟨finish_eq s (doRingCommand_taken hr hl hc hi hf), State.ringTake_own⟩
  case packet => exact fun s t x b hx ht => finish_eq s (doCmdPacket_taken hx ht)
  case reply => exact fun s t x b f hx ht hr hf hc hg hs hl hp => finish_eq s (doRpl_closes hx ht hr hf hc hg hs hl hp)
  case timeout => exact fun s f hf hl => finish_eq s (doCommandTimeout_closes hf hl)
  case gather => exact fun s g hg hl => finish_eq s (doGatherTimeout_closes hg hl)
  case staged => exact fun s n m hp => finish_eq s (if_pos hp)

end Sys2Proof.Machine
end

section
/-! PROOFS. What passes through a node, its enumeration walks, and the ends of its intervals (R175, R177, R179, R180, R182, R183, R195). -/

namespace Sys2Proof.Machine

/-! ### Packets that pass through (R175, R177, R183) -/

/-- A packet that names a node is not kept by the rows for link-local packets and for nodes without an ID. -/
theorem addressed_goesOn {u : State} {d : NodeId} (h0 : d ≠ 0) (hv : u.bit Fld.LNK_NODE_ID_VALID = true) :
    ¬(decide (d = 0) || !u.bit Fld.LNK_NODE_ID_VALID) = true := by
  rw [decide_eq_false h0, hv]
  exact Bool.false_ne_true

section
variable {s u : State} {x : Rx} (hl : s.letIn x = (true, false, u)) (ht : tagged x.type.toNat = false)
  (hp : x.type.toNat ≠ tyPATCH)
include hl ht hp

/-- An untagged packet other than a PATCH that has no meaning of its own here only goes on. -/
theorem doForward_plain : doForward x s = u.passOn x x.body false := by
  unfold doForward State.receive
  rw [hl]
  simp [ht, hp]

variable (hv : u.bit Fld.LNK_NODE_ID_VALID = true) (h0 : x.dest ≠ 0) (hb : x.dest ≠ 0xFFFF) (hn : x.dest ≠ u.nodeId)
include hv h0 hb hn

theorem doForward_routed {p : Nat} (ho : u.outPort x.dest (some x.port.val) = some p) :
    doForward x s = u.sendOn p x.lane.val x.type.toNat x.dest x.src x.body false := by
  rw [doForward_plain hl ht hp]
  unfold State.passOn
  dsimp only
  rw [if_neg (addressed_goesOn h0 hv), if_neg hb, if_neg hn, ho]
  exact if_neg hp

/-- A packet that no port leads on is counted; only a CMD draws an answer, and that carries a tag. -/
theorem doForward_unrouted (ho : u.outPort x.dest (some x.port.val) = none) : doForward x s = u.unroute x.port.val := by
  have hc : x.type.toNat ≠ tyCMD := fun h => absurd ht (by rw [h]; decide)
  rw [doForward_plain hl ht hp]
  unfold State.passOn
  dsimp only
  rw [if_neg (addressed_goesOn h0 hv), if_neg hb, if_neg hn, ho]
  exact if_neg fun h => hc h.1

end

/-! ### The node's ID -/

/-- The node's ID stands in a register of its own. -/
theorem State.nodeId_put_blocked (u : State) (p v : Nat) : (u.put (Fld.LNK_NET_STAT_BLOCKED p) v).nodeId = u.nodeId := by
  have apart : Reg.LNK_NODE_ID ≠ Reg.LNK_NET_STAT p := by
    simp only [Reg.LNK_NODE_ID, Reg.LNK_NET_STAT]
    omega
  unfold State.nodeId
  rw [State.bit_put_off _ (Fld.LNK_NET_STAT_BLOCKED p) Fld.LNK_NODE_ID_VALID v apart,
    State.get_put_off _ (Fld.LNK_NET_STAT_BLOCKED p) Fld.LNK_NODE_ID_ID v apart]

section
variable {s t : State} {x : Rx} {b : List Word} (ht : s.taken x = some (b, t))
include ht

/-! ### Packets that the node takes (R177) -/

theorem doForward_taken : doForward x s = t :=
  receive_taken s x b t _ _ ht

theorem doTest_sunk (hm : wbits (nth b 0) 15 8 ≠ 1) : doTest x s = t :=
  (receive_taken s x b t _ _ ht).trans (if_neg hm)

theorem doTest_echoed (hm : wbits (nth b 0) 15 8 = 1) (hx : x.src ≠ 0) :
    doTest x s = t.sendTo tyTEST x.src (setAt b 0 (wd (wbits (nth b 0) 31 16 * 2 ^ 16 + wbits (nth b 0) 7 0))) :=
  (receive_taken s x b t _ _ ht).trans ((if_pos hm).trans (if_neg hx))

/-! ### WALK (R179) -/

/-- A head answers a walk with its own ID. -/
theorem doWalk_head (hr : t.role = .head) :
    doWalk x s = (t.put (Fld.LNK_NET_STAT_BLOCKED x.port.val) 0).sendLocal x.port.val tyENUM
      (returnBody (if wbits (nth b 0) 23 16 = 0 then 0 else 1) (wbits (nth b 0) 15 0) (wbits (nth b 1) 31 16) false false
        (some t.nodeId) 1 0) := by
  refine (receive_taken s x b t _ _ ht).trans ?_
  dsimp only
  rw [State.put_role, if_pos hr, State.nodeId_put_blocked]
  simp only [decide_eq_true_eq]

/-- A node that the walk has reached before answers that the port closes a loop, and blocks it. -/
theorem doWalk_seen (hr : t.role ≠ .head)
    (hs : (wbits (nth b 0) 15 0, (BitVec.ofNat 16 (wbits (nth b 2) 31 16) : NodeId)) ∈ t.net.seen) :
    doWalk x s = ((t.put (Fld.LNK_NET_STAT_BLOCKED x.port.val) 0).sendLocal x.port.val tyENUM
      (returnBody (if wbits (nth b 0) 23 16 = 0 then 0 else 1) (wbits (nth b 0) 15 0) (wbits (nth b 1) 31 16) false true none
        1 0)).raise (Fld.LNK_NET_STAT_BLOCKED x.port.val) := by
  refine (receive_taken s x b t _ _ ht).trans ?_
  dsimp only
  rw [State.put_role, if_neg hr, State.put_net, if_pos hs]
  simp only [decide_eq_true_eq]

/-! ### RETURN and REPORT (R179, R180) -/

theorem doReturn_head {w : HeadWalk} (hr : t.role = .head) (hw : t.net.walk = some w) (hp : w.port = x.port.val)
    (hi : w.walkId = wbits (nth b 0) 15 0) : doReturn x s = t.headWalkBack w (some b) x.src := by
  refine (receive_taken s x b t _ _ ht).trans ((if_pos hr).trans ?_)
  rw [hw]
  exact if_pos ⟨hp, hi⟩

theorem doReturn_noWalk (hr : t.role = .head) (hw : t.net.walk = none) : doReturn x s = t := by
  refine (receive_taken s x b t _ _ ht).trans ((if_pos hr).trans ?_)
  rw [hw]

theorem doReturn_node {w : NodeWalk} (hr : t.role ≠ .head)
    (hw : t.walkAt x.port.val (some (wbits (nth b 0) 15 0)) = some w) : doReturn x s = t.walkBack w (some b) := by
  refine (receive_taken s x b t _ _ ht).trans ((if_neg hr).trans ?_)
  rw [hw]

/-- The head records what a REPORT says of a node. -/
theorem doReport_recorded (hr : t.role = .head) (hm : t.clk.isMaster = false) :
    let r : NodeRec := ⟨wbits (nth b 1) 15 14, wbits (nth b 1) 13 10, wbits (nth b 1) 9 7, wbits (nth b 1) 6 5,
      wbits (nth b 2) 31 20, wbits (nth b 2) 19 16, nth b 3, nth b 4⟩
    doReport x s = { t with net := { t.net with record := SMap.put t.net.record (wbits (nth b 1) 31 16) r } } :=
  (receive_taken s x b t _ _ ht).trans ((if_pos hr).trans (if_neg (Bool.eq_false_iff.mp hm)))

theorem doReport_ignored (hr : t.role ≠ .head) : doReport x s = t :=
  (receive_taken s x b t _ _ ht).trans (if_neg hr)

/-! ### EVT (R186, R306) -/

theorem doEvt_ignored (hr : t.role ≠ .head) : doEvt x s = t :=
  (receive_taken s x b t _ _ ht).trans (if_pos (.inl hr))

/-- EVT LINK makes a LEARN walk due (R182). -/
theorem doEvt_link (hr : t.role = .head) (hx : x.type.toNat = tyEVT) (hc : wbits (nth b 0) 31 16 = 0x0002) :
    let u := (t.eseqCheck x.src (wbits (nth b 0) 15 0)).headEvent 0x0002 x.src (wbits (nth b 0) 15 0) (nth b 1) (nth b 2) (b.drop 3)
    doEvt x s = { u with net := { u.net with learnDue := true } } := by
  refine (receive_taken s x b t _ _ ht).trans ((if_neg (by simp [hr, hx])).trans ?_)
  dsimp only
  rw [hc]
  rfl

end

/-! ### The timeout of a port's RETURN (R179) -/

section
variable {s : State} {p : Nat}

theorem doWalkTimeout_head {w : HeadWalk} (hrun : s.running = true) (hr : s.role = .head) (hw : s.net.walk = some w)
    (hp : w.port = p) : doWalkTimeout p s = s.headWalkBack w none 0 := by
  refine (if_neg (running_acts hrun)).trans ((if_pos hr).trans ?_)
  rw [hw]
  exact if_pos hp

theorem doWalkTimeout_headNoWalk (hrun : s.running = true) (hr : s.role = .head) (hw : s.net.walk = none) :
    doWalkTimeout p s = s := by
  refine (if_neg (running_acts hrun)).trans ((if_pos hr).trans ?_)
  rw [hw]

theorem doWalkTimeout_node {w : NodeWalk} (hrun : s.running = true) (hr : s.role ≠ .head) (hw : s.walkAt p none = some w) :
    doWalkTimeout p s = s.walkBack w none := by
  refine (if_neg (running_acts hrun)).trans ((if_neg hr).trans ?_)
  rw [hw]

theorem doWalkTimeout_nodeNoWalk (hrun : s.running = true) (hr : s.role ≠ .head) (hw : s.walkAt p none = none) :
    doWalkTimeout p s = s := by
  refine (if_neg (running_acts hrun)).trans ((if_neg hr).trans ?_)
  rw [hw]

end

/-! ### LEARN walks and escalation (R182, R195) -/

theorem doLearnWalk_head {s : State} (hrun : s.running = true) (hr : s.role = .head) : doLearnWalk s = s.learnWalk :=
  if_pos ⟨hr, hrun⟩

theorem doLearnWalk_node {s : State} (hr : s.role ≠ .head) : doLearnWalk s = s :=
  if_neg fun h => hr h.1

theorem doEscalation_running {s : State} (hrun : s.running = true) :
    doEscalation s = forEach (List.range 4) (fun p u => u.escalate p) { s with blots := { s.blots with evtSent := 0 } } :=
  if_pos hrun

end Sys2Proof.Machine
end

section
/-! PROOFS. Barriers (R187), and the statement O55. -/

namespace Sys2Proof.Machine

/-! ### BAR REQ -/

/-- The node once it has noted a head's request, with the commands it still has to apply or answer. -/
def State.barNoted (s : State) (id : Nat) (h : NodeId) : State :=
  { s with net := { s.net with
    barReqs := ⟨id, h, s.openCmds⟩ :: s.net.barReqs.filter (fun (q : BarReq) => decide (q.head ≠ h))
    merge := s.net.merge.filter (fun (m : BarMerge) => decide (m.head ≠ h)) } }

section
variable {s t : State} {x : Rx} {b : List Word} (ht : s.taken x = some (b, t))
include ht

theorem doBarReq_stranger (hh : t.headIndex x.src = none) : doBarReq x s = t :=
  (receive_taken s x b t _ _ ht).trans (if_pos (by simp [hh]))

/-- A request of a head of the head table is noted, and answered where nothing lies below. -/
theorem doBarReq_noted (hh : (t.headIndex x.src).isSome = true) :
    let u := t.barNoted (wbits (nth b 0) 31 16) x.src
    doBarReq x s = if u.downPorts x.src = [] then u.barArrive ⟨wbits (nth b 0) 31 16, x.src, 0, none⟩ else u :=
  (receive_taken s x b t _ _ ht).trans (if_neg (by simp [Option.isSome_iff_ne_none.mp hh]))

end

/-! ### BAR ARRIVE -/

/-- A head adds the count of an ARRIVE to that of its own barrier. -/
theorem doBarArrive_counted {s t : State} {x : Rx} {k : Nat} {c : Cmd} (hl : s.letIn x = (true, false, t))
    (hv : t.bit Fld.LNK_NODE_ID_VALID = true) (hd : x.dest = t.nodeId)
    (hm : t.net.barMine = some (wbits (nth x.body 0) 31 16, k, c)) :
    doBarArrive x s = State.barEnd { t with net := { t.net with
      barMine := some (wbits (nth x.body 0) 31 16, k + (nth x.body 1).toNat, c) } } := by
  unfold doBarArrive
  rw [hl]
  dsimp only
  rw [if_neg Bool.false_ne_true, if_neg (by simp [hv]), if_pos hd, hm]
  exact if_pos rfl

/-! ### The timeout of barriers -/

/-- What a timeout makes of the ARRIVEs that a node holds: those with a count go on. -/
def State.heldGo (s : State) : State :=
  let u : State := { s with net := { s.net with barriers := s.net.barriers.filter (fun (b : Barrier) => decide (b.count = 0)) } }
  (forEach (s.net.barriers.filter (fun (b : Barrier) => decide (b.count ≠ 0))) (fun b u => u.barGo b) u).mergeGo

section
variable {s : State}

theorem doBarTimeout_mine {i n : Nat} {c : Cmd} (hm : s.net.barMine = some (i, n, c)) :
    doBarTimeout s = (State.answer { s with net := { s.net with barMine := none } } opDOM_BARRIER c stTIMEOUT false s.clk.fn
      [wd n, wd s.net.record.length]).heldGo := by
  unfold doBarTimeout
  rw [hm]
  rfl

theorem doBarTimeout_none (hm : s.net.barMine = none) : doBarTimeout s = s.heldGo := by
  unfold doBarTimeout
  rw [hm]
  rfl

theorem State.mergeGo_nothing (hg : s.net.merge = []) : s.mergeGo = { s with net := { s.net with merge := [] } } := by
  unfold State.mergeGo
  rw [hg]
  rfl

/-- A part of the network state set to what it holds leaves the node as it is. -/
theorem State.put_merge_self (hg : s.net.merge = []) : { s with net := { s.net with merge := [] } } = s := by
  rw [← hg]

theorem State.put_barriers_self (hb : s.net.barriers = []) : { s with net := { s.net with barriers := [] } } = s := by
  rw [← hb]

theorem State.heldGo_nothing (hb : s.net.barriers = []) (hg : s.net.merge = []) : s.heldGo = s := by
  unfold State.heldGo
  rw [hb]
  dsimp only [List.filter_nil, forEach]
  rw [State.put_barriers_self hb, State.mergeGo_nothing hg, State.put_merge_self hg]

theorem State.heldGo_one {b : Barrier} (hb : s.net.barriers = [b]) (hc : b.count ≠ 0) :
    s.heldGo = (State.barGo { s with net := { s.net with barriers := [] } } b).mergeGo := by
  unfold State.heldGo
  rw [hb]
  simp [hc, forEach]

end

/-- Settles O55, row by row. -/
theorem networkPacketsAct : Obligations.NetworkPacketsAct := by
  unfold Obligations.NetworkPacketsAct
  refine ⟨?forward, ?taken, fun _ => rfl, ?arrive, ?mine, ?nothing, ?held, ?timeout, ?running⟩
  case forward =>
    intro s u x hl ht hp hv h0 hb hn
    exact ⟨fun p ho => finish_eq s (doForward_routed hl ht hp hv h0 hb hn ho),
      fun ho => finish_eq s (doForward_unrouted hl ht hp hv h0 hb hn ho)⟩
  case taken =>
    intro s t x b ht
    refine ⟨finish_eq s (doForward_taken ht), fun hm => finish_eq s (doTest_sunk ht hm),
      fun hm hx => finish_eq s (doTest_echoed ht hm hx), fun hh => finish_eq s (doBarReq_stranger ht hh), ?request, ?head, ?node,
      fun hr hx hc => finish_eq s (doEvt_link ht hr hx hc)⟩
    case request =>
      intro hh u
      have hd := doBarReq_noted ht hh
      exact ⟨fun h => finish_eq s (hd.trans (if_pos h)), fun h => finish_eq s (hd.trans (if_neg h))⟩
    case head =>
      exact fun hr => ⟨finish_eq s (doWalk_head ht hr), fun w hw hp hi => finish_eq s (doReturn_head ht hr hw hp hi),
        fun hw => finish_eq s (doReturn_noWalk ht hr hw), fun hm => finish_eq s (doReport_recorded ht hr hm)⟩
    case node =>
      exact fun hr => ⟨finish_eq s (doReport_ignored ht hr), finish_eq s (doEvt_ignored ht hr),
        fun hs => finish_eq s (doWalk_seen ht hr hs), fun w hw => finish_eq s (doReturn_node ht hr hw)⟩
  case arrive =>
    rintro s t x i k c hl hv hd hm rfl
    exact finish_eq s (doBarArrive_counted hl hv hd hm)
  case mine =>
    intro s i n c hm u hb hg
    exact finish_eq s ((doBarTimeout_mine hm).trans (State.heldGo_nothing hb hg))
  case nothing => exact fun s hm hb hg => finish_eq s ((doBarTimeout_none hm).trans (State.heldGo_nothing hb hg))
  case held =>
    intro s b hm hb hc _ u hg
    exact finish_eq s ((doBarTimeout_none hm).trans ((State.heldGo_one hb hc).trans (State.mergeGo_nothing hg)))
  case timeout =>
    intro s p hrun
    exact ⟨fun w hr hw hp => finish_eq s (doWalkTimeout_head hrun hr hw hp),
      fun w hr hw => finish_eq s (doWalkTimeout_node hrun hr hw),
      fun hr hw => finish_eq s (doWalkTimeout_nodeNoWalk hrun hr hw),
      fun hr hw => finish_eq s (doWalkTimeout_headNoWalk hrun hr hw)⟩
  case running =>
    intro s hrun
    exact ⟨fun hr => finish_eq s (doLearnWalk_head hrun hr), fun hr => finish_eq s (doLearnWalk_node hr),
      finish_eq s (doEscalation_running hrun)⟩

end Sys2Proof.Machine
end

section
/-! PROOFS. Link keys (R190 to R193): their agreement, their rollover and the stop of a transmitter, and the statement O56. -/

namespace Sys2Proof.Machine

section
variable {s t : State} {x : Rx} {b : List Word} (ht : s.taken x = some (b, t))
include ht

/-! ### KEYX -/

theorem doKeyx_keyless (hk : t.keys.domain = none) : doKeyx x s = t := by
  refine (receive_taken s x b t _ _ ht).trans ?_
  dsimp only
  rw [hk]

theorem doKeyx_fails {k : BitVec 256} (hk : t.keys.domain = some k)
    (hm : hmac k (hdrWords tyENUM x.dest x.src 30 ++ b.take 26) ≠ tagOf (b.drop 26)) : doKeyx x s = t.keyFail x.port.val := by
  refine (receive_taken s x b t _ _ ht).trans ?_
  dsimp only
  rw [hk]
  exact if_pos hm

/-- A KEYX of the EPOCH that this end has sent its own point for gives the keys of both directions, and draws a KEYACK. -/
theorem doKeyx_agrees {k : BitVec 256} {e n : Nat} (hk : t.keys.domain = some k)
    (hm : hmac k (hdrWords tyENUM x.dest x.src 30 ++ b.take 26) = tagOf (b.drop 26))
    (hp : (t.keysOf x.port.val).priv = some (e, n)) (he : e = (nth b 1).toNat) :
    let p := x.port.val
    let pt := (b.drop 2).take 24
    let mine := ephemeral n
    let u := t.setKeys p { t.keysOf p with
      peerPoint := pt
      newKeys := some (e, linkKey n pt e mine, linkKey n pt e pt) }
    let g := gmac (linkKey n pt e mine) 0 (wireStream (mine ++ pt))
    doKeyx x s = u.sendLocal p tyENUM [wd (5 * 2 ^ 24), wd e, wd (g.toNat / 2 ^ 96), wd (g.toNat / 2 ^ 64),
      wd (g.toNat / 2 ^ 32), wd g.toNat] := by
  subst he
  refine (receive_taken s x b t _ _ ht).trans ?_
  dsimp only
  rw [hk]
  dsimp only
  rw [if_neg (not_not.mpr hm), hp]
  dsimp only
  rw [if_pos rfl, hp]

/-! ### KEYACK -/

theorem doKeyack_unasked (hn : (t.keysOf x.port.val).newKeys = none) : doKeyack x s = t := by
  refine (receive_taken s x b t _ _ ht).trans ?_
  dsimp only
  rw [hn]

/-- A KEYACK of an agreement under way: it fails, or its keys wait for the tick where others are in use, or take effect. -/
theorem doKeyack_asked {e e' n : Nat} {snd rcv : BitVec 256} (hn : (t.keysOf x.port.val).newKeys = some (e, snd, rcv))
    (hp : (t.keysOf x.port.val).priv = some (e', n)) :
    doKeyack x s =
      if (nth b 1).toNat ≠ e ∨ gmac rcv 0 (wireStream ((t.keysOf x.port.val).peerPoint ++ ephemeral n)) ≠ tagOf (b.drop 2)
      then t.keyFail x.port.val
      else if (t.keysOf x.port.val).agreed then t.setKeys x.port.val { t.keysOf x.port.val with acked := true }
      else t.keysTake x.port.val := by
  refine (receive_taken s x b t _ _ ht).trans ?_
  dsimp only
  rw [hn, hp]

end

/-! ### Retry, rollover and the change of keys -/

section
variable {s : State} {p : Nat}

theorem doKeyRollover_fresh (h : s.keyUse p < 2 ^ 40) : doKeyRollover p s = s :=
  if_neg fun due => h.not_ge (of_decide_eq_true (Bool.and_eq_true_iff.mp due).2)

theorem doNewKeySwitch_unacked (h : (s.keysOf p).acked = false) : doNewKeySwitch p s = s :=
  if_neg (by simp [h])

variable (hrun : s.running = true)
include hrun

theorem doKeyRetry_resends (hl : s.linkUp p = true) (h : (s.keysOf p).failed = true ∨ (s.keysOf p).priv.isSome = true) :
    doKeyRetry p s = s.sendKeyx p (if (s.keysOf p).agreed then (s.keysOf p).sendEpoch + 1 else 0) :=
  if_pos (by simpa [hrun, hl] using h)

theorem doNewKeySwitch_acked (h : (s.keysOf p).acked = true) : doNewKeySwitch p s = s.keysTake p :=
  if_pos (by simp [hrun, h])

variable (ha : (s.keysOf p).agreed = true)
include ha

theorem doKeyRollover_starts (hp : (s.keysOf p).priv = none) (hu : 2 ^ 40 ≤ s.keyUse p) (hs : s.keyUse p < 2 ^ 62)
    (he : (s.keysOf p).sendEpoch + 1 < 2 ^ 32) : doKeyRollover p s = s.sendKeyx p ((s.keysOf p).sendEpoch + 1) := by
  have inUse : ¬(2 ^ 62 ≤ s.keyUse p ∨ 2 ^ 32 - 1 < (s.keysOf p).sendEpoch + 1) := by omega
  exact (if_pos (by simp only [hrun, ha, hu, decide_true, Bool.and_self])).trans ((if_neg inUse).trans (if_pos (by simp [hp])))

theorem doKeyRollover_stops (hu : 2 ^ 62 ≤ s.keyUse p) (hs : (s.keysOf p).stopped = false) :
    doKeyRollover p s = s.keyStop p := by
  have due : 2 ^ 40 ≤ s.keyUse p := le_trans (by decide) hu
  exact (if_pos (by simp only [hrun, ha, due, decide_true, Bool.and_self])).trans ((if_pos (.inl hu)).trans (if_neg (Bool.eq_false_iff.mp hs)))

end

/-- Settles O56, row by row. -/
theorem linkKeysAct : Obligations.LinkKeysAct := by
  unfold Obligations.LinkKeysAct
  refine ⟨?packets, ?ports⟩
  case packets =>
    intro s t x b ht
    refine ⟨fun hk => finish_eq s (doKeyx_keyless ht hk), fun k hk hm => finish_eq s (doKeyx_fails ht hk hm),
      fun k e n hk hm hp he => finish_eq s (doKeyx_agrees ht hk hm hp he), fun hn => finish_eq s (doKeyack_unasked ht hn), ?ack⟩
    case ack =>
      intro e snd rcv e' n hn hp fails
      have hd := doKeyack_asked ht hn hp
      exact ⟨fun hf => finish_eq s (hd.trans (if_pos hf)),
        fun hf ha => finish_eq s (hd.trans ((if_neg hf).trans (if_pos ha))),
        fun hf ha => finish_eq s (hd.trans ((if_neg hf).trans (if_neg (Bool.eq_false_iff.mp ha))))⟩
  case ports =>
    intro s p hrun
    exact ⟨fun hl h => finish_eq s (doKeyRetry_resends hrun hl h),
      fun ha hp hu hs he => finish_eq s (doKeyRollover_starts hrun ha hp hu hs he),
      fun ha hu hs => finish_eq s (doKeyRollover_stops hrun ha hu hs), fun h => finish_eq s (doKeyRollover_fresh h),
      fun h => finish_eq s (doNewKeySwitch_acked hrun h), fun h => finish_eq s (doNewKeySwitch_unacked h)⟩

end Sys2Proof.Machine
end

section
/-! PROOFS. Domain time (R196, R197, R211 to R214): counts that wrap compared, what time that passes does to the node's clock, the
registers of time, and the statements O10, O11 and O36. -/

namespace Sys2Proof.Machine

/-! ### Counts that wrap (R196) -/

section
variable (a b : Word)

theorem eq_iff_sub_toNat : a = b ↔ (a - b).toNat = 0 := by
  rw [← sub_eq_zero, BitVec.toNat_eq]
  rfl

theorem later_iff : later a b = true ↔ 1 ≤ (a - b).toNat ∧ (a - b).toNat ≤ 2 ^ 31 - 1 := by
  rw [later, Bool.and_eq_true, decide_eq_true_iff, decide_eq_true_iff, Nat.lt_iff_le_pred (by decide)]

theorem earlier_iff : earlier a b = true ↔ 2 ^ 31 ≤ (a - b).toNat ∧ (a - b).toNat ≤ 2 ^ 32 - 1 := by
  rw [earlier, decide_eq_true_iff]
  exact (and_iff_left (Nat.le_pred_of_lt (a - b).isLt)).symm

/-- The distance from one count to another and the distance back make up the range, or both are 0. -/
theorem sub_toNat_swap : (b - a).toNat = (2 ^ 32 - (a - b).toNat) % 2 ^ 32 := by
  rw [← neg_sub, BitVec.toNat_neg]

/-- The three ranges of the distance cover it and are disjoint. -/
theorem equal_later_or_earlier :
    (a = b ∧ later a b = false ∧ earlier a b = false) ∨ (a ≠ b ∧ later a b = true ∧ earlier a b = false) ∨
      (a ≠ b ∧ later a b = false ∧ earlier a b = true) := by
  have range := (a - b).isLt
  simp only [← Bool.not_eq_true, ne_eq, eq_iff_sub_toNat, later_iff, earlier_iff]
  omega

variable {a b} in
theorem earlier_of_later (h : later a b = true) : earlier b a = true := by
  rw [later_iff] at h
  rw [earlier_iff, sub_toNat_swap]
  omega

/-- The distance of half the range counts as earlier, both ways. -/
theorem earlier_add_half : earlier (a + BitVec.ofNat 32 (2 ^ 31)) a = true := by
  rw [earlier, add_sub_cancel_left]
  decide

end

/-- Settles O10, by the distance between the two counts. -/
theorem countsCompareCyclically : Obligations.CountsCompareCyclically := by
  unfold Obligations.CountsCompareCyclically
  exact ⟨fun a b => ⟨eq_iff_sub_toNat a b, later_iff a b, earlier_iff a b⟩, equal_later_or_earlier,
    fun _ _ => earlier_of_later, earlier_add_half⟩

/-! ### The clock after `n` ns (R197, R211, R213) -/

/-- HT_SEC after `k` rollovers: a pending second replaces the advance of the first of them. -/
def Clock.secAfter (c : Clock) (k : Nat) : Word :=
  match c.htPend with
  | some v => if 0 < k then v + wd (k - 1) else c.htSec
  | none => c.htSec + wd k

theorem Clock.secAfter_none {c : Clock} (h : c.htPend = none) (k : Nat) : c.secAfter k = c.htSec + wd k := by
  rw [Clock.secAfter, h]

@[simp] theorem Clock.secAfter_zero (c : Clock) : c.secAfter 0 = c.htSec := by
  cases h : c.htPend with
  | none => rw [Clock.secAfter_none h, wd, BitVec.add_zero]
  | some v => rw [Clock.secAfter, h]; rfl

theorem Clock.secAfter_one_pend {c : Clock} {v : Word} (h : c.htPend = some v) : c.secAfter 1 = v := by
  rw [Clock.secAfter, h]
  exact BitVec.add_zero v

section
variable (s : State) (n : Nat)

/-- The whole clock after `n` ns: the marks of a rollover and of a wrap go to registers, beside it. -/
theorem State.elapse_clk : (s.elapse n).clk = { s.clk with
    dtime := s.clk.dtime + wd n
    upNs := s.clk.upNs + n
    htNs := (s.clk.htNs + n) % 1000000000
    htSec := s.clk.secAfter ((s.clk.htNs + n) / 1000000000)
    htPend := if 0 < (s.clk.htNs + n) / 1000000000 then none else s.clk.htPend } := by
  have dtime : wd (s.clk.dtime.toNat + n) = s.clk.dtime + wd n := by
    rw [wd, BitVec.ofNat_add, BitVec.ofNat_toNat, BitVec.setWidth_eq, wd]
  simp only [State.elapse, State.tallyTime_clk, dtime, apply_ite State.clk, State.raise_clk, State.putBit_clk, ite_self]
  rfl

theorem State.elapse_rollovers {k : Nat} (h : (s.clk.htNs + n) / 1000000000 = k) :
    (s.elapse n).clk.htSec = s.clk.secAfter k ∧ (s.elapse n).clk.htPend = if 0 < k then none else s.clk.htPend := by
  rw [State.elapse_clk, h]
  exact ⟨rfl, rfl⟩

variable {s n}

/-- With no second pending and none lost past 2^32, house time counts every nanosecond. -/
theorem State.elapse_houseNs (hp : s.clk.htPend = none) (hb : s.houseNs + n < 2 ^ 32 * 1000000000) :
    (s.elapse n).houseNs = s.houseNs + n := by
  have secs : (s.clk.htSec + wd ((s.clk.htNs + n) / 1000000000)).toNat =
      s.clk.htSec.toNat + (s.clk.htNs + n) / 1000000000 := by
    rw [State.houseNs] at hb
    rw [BitVec.toNat_add, wd, BitVec.toNat_ofNat]
    omega
  rw [State.houseNs, State.elapse_clk, Clock.secAfter_none hp, State.houseNs]
  dsimp only
  rw [secs]
  omega

end

/-- Settles O11, by the number of rollovers within the time that passes. -/
theorem timePassesAsCounted : Obligations.TimePassesAsCounted := by
  unfold Obligations.TimePassesAsCounted
  refine ⟨?counts, fun s n => State.elapse_houseNs, ?pending, ?noRollover⟩
  case counts =>
    intro s n
    rw [State.elapse_clk]
    exact ⟨rfl, rfl, rfl, rfl⟩
  case pending =>
    intro s n v hv ht hlt
    obtain ⟨sec, pend⟩ := s.elapse_rollovers n (k := 1) (by omega)
    exact ⟨sec.trans (Clock.secAfter_one_pend hv), pend⟩
  case noRollover =>
    intro s n hlt
    obtain ⟨sec, pend⟩ := s.elapse_rollovers n (k := 0) (by omega)
    exact ⟨sec.trans s.clk.secAfter_zero, pend⟩

/-! ### The wrap of DTIME and the rollover of house time (R211, R214) -/

/-- Time that takes DTIME past its range sets TIME_INT.WRAP. -/
theorem State.elapse_wrap {s : State} {n : Nat} (h : 2 ^ 32 ≤ s.clk.dtime.toNat + n) : (s.elapse n).bit Fld.TIME_INT_WRAP = true := by
  simp only [State.elapse, State.tallyTime_clk, if_pos h, State.bit, State.raise]
  rw [State.get_put_of_lt _ _ _ (by decide) (by decide) (by decide)]
  rfl

section
variable {s : State}

/-- The time DTIME still has to its wrap brings it to 0. -/
theorem State.elapse_toWrap_dtime : (s.elapse (2 ^ 32 - s.clk.dtime.toNat)).clk.dtime = 0 := by
  have range := s.clk.dtime.isLt
  rw [State.elapse_clk]
  apply BitVec.eq_of_toNat_eq
  rw [BitVec.toNat_add, wd, BitVec.toNat_ofNat]
  change _ = 0
  omega

/-- The time HT_NS still has to its rollover brings it to 0. -/
theorem State.elapse_toRollover_htNs (h : s.clk.htNs < 1000000000) : (s.elapse (1000000000 - s.clk.htNs)).clk.htNs = 0 := by
  rw [State.elapse_clk]
  dsimp only
  rw [Nat.add_sub_cancel' h.le, Nat.mod_self]

/-! ### The registers of time at a powered node (R211 to R213) -/

theorem State.writeHtNs_inRange {v : Word} (h : wbits v 29 0 < 1000000000) :
    s.writeHtNs v = { s with clk := { s.clk with htNs := wbits v 29 0, htPend := none } }.putBit Fld.TIME_HT_CTL_PEND false :=
  if_neg h.not_ge

theorem State.writeHtNs_outOfRange {v : Word} (h : 1000000000 ≤ wbits v 29 0) : s.writeHtNs v = s.raise Fld.TIME_HT_CTL_ERR :=
  if_pos h

theorem State.writeHtSec_immediate (v : Word) (h : (s.raise Fld.TIME_HT_CTL_SET).bit Fld.TIME_HT_CTL_IMM = true) :
    let t := s.raise Fld.TIME_HT_CTL_SET
    s.writeHtSec v = { t with clk := { t.clk with htSec := v, htPend := none } }.putBit Fld.TIME_HT_CTL_PEND false :=
  if_pos h

theorem State.writeHtSec_waits (v : Word) (h : (s.raise Fld.TIME_HT_CTL_SET).bit Fld.TIME_HT_CTL_IMM = false) :
    let t := s.raise Fld.TIME_HT_CTL_SET
    s.writeHtSec v = { t with clk := { t.clk with htPend := some v } }.raise Fld.TIME_HT_CTL_PEND :=
  if_neg (Bool.eq_false_iff.mp h)

variable (hp : s.powered = true)
include hp

theorem doDtimeRead_powered : doDtimeRead s = (s.setWord Reg.TIME_FN s.clk.fn).emit (.readValue Reg.TIME_DTIME s.clk.dtime) :=
  if_pos hp

theorem doHtNsRead_powered : doHtNsRead s =
    { s with clk := { s.clk with htLatch := some s.clk.htSec } }.emit (.readValue Reg.TIME_HT_NS (wd s.clk.htNs)) :=
  if_pos hp

theorem doDtimeWrap_powered : doDtimeWrap s = s.elapse (2 ^ 32 - s.clk.dtime.toNat) :=
  if_pos hp

theorem doHouseRollover_powered : doHouseRollover s = s.elapse (1000000000 - s.clk.htNs) :=
  if_pos hp

end

/-- Settles O36, row by row. -/
theorem timeRegistersAct : Obligations.TimeRegistersAct := by
  unfold Obligations.TimeRegistersAct
  refine ⟨fun s hp => finish_eq s (doDtimeRead_powered hp), fun s hp => finish_eq s (doHtNsRead_powered hp), ?htNs, ?htSec, ?wrap,
    ?rollover⟩
  case htNs =>
    intro s v hp
    have hw := write_ht_ns s v (.quill false) hp
    exact ⟨fun h => finish_eq s (hw.trans (State.writeHtNs_inRange h)), fun h => finish_eq s (hw.trans (State.writeHtNs_outOfRange h))⟩
  case htSec =>
    intro s v hp t
    have hw := write_ht_sec s v (.quill false) hp
    exact ⟨fun h => finish_eq s (hw.trans (State.writeHtSec_immediate v h)),
      fun h => finish_eq s (hw.trans (State.writeHtSec_waits v h))⟩
  case wrap =>
    intro s hp
    exact ⟨finish_eq s (doDtimeWrap_powered hp), State.elapse_toWrap_dtime, State.elapse_wrap (by omega)⟩
  case rollover =>
    intro s hp hr
    exact ⟨finish_eq s (doHouseRollover_powered hp), fun _ => State.elapse_toRollover_htNs hr⟩

end Sys2Proof.Machine
end

section
/-! PROOFS. The words of a command packet (R286, R287): what reading each word of the layout gives back, and the statement O9. -/

namespace Sys2Proof.Machine

/-! ### Fields of a word laid out -/

/-- A field of a word laid out is that field of the number. -/
theorem wbits_wd (n : Nat) {hi lo : Nat} (h : lo ≤ hi) (h' : hi < 32) : wbits (wd n) hi lo = n / 2 ^ lo % 2 ^ (hi + 1 - lo) := by
  have cut := bitsOf_of_mod (n % 2 ^ 32) n lo (hi + 1 - lo) 32 (Nat.mod_mod _ _) (by omega)
  rw [wbits, wd, BitVec.toNat_ofNat, cut, bitsOf, Nat.shiftRight_eq_div_pow]

theorem bitNat_le_one (b : Bool) : bitNat b ≤ 1 := by
  cases b <;> decide

theorem decide_bitNat (b : Bool) : decide (bitNat b = 1) = b := by
  cases b <;> rfl

/-! ### The header (*Table — Command header*) -/

section
variable (op : Nat) (c : Cmd)

/-- The number of the header's first word. -/
def headerNat : Nat :=
  op % 2 ^ 16 * 2 ^ 16 + bitNat c.trailer.isSome * 2 ^ 15 + bitNat c.atTick * 2 ^ 14 + bitNat c.noReply * 2 ^ 13 +
    bitNat c.urgent * 2 ^ 12 + c.params.length % 2 ^ 12

variable {op c}

/-- Every field of the header's first word stands in bits of its own. -/
theorem wbits_headerNat (ho : op < 2 ^ 16) (hp : c.params.length < 2 ^ 12) :
    let w := wd (headerNat op c)
    wbits w 31 16 = op ∧ wbits w 15 15 = bitNat c.trailer.isSome ∧ wbits w 14 14 = bitNat c.atTick ∧
      wbits w 13 13 = bitNat c.noReply ∧ wbits w 12 12 = bitNat c.urgent ∧ wbits w 11 0 = c.params.length := by
  have trailer := bitNat_le_one c.trailer.isSome
  have tick := bitNat_le_one c.atTick
  have mute := bitNat_le_one c.noReply
  have urgent := bitNat_le_one c.urgent
  simp only [wbits_wd, headerNat, Nat.reduceLeDiff, Nat.reduceLT, le_refl]
  omega

variable (c)

theorem wbits_clientWord : BitVec.ofNat 12 (wbits (wd (c.client.toNat * 2 ^ 20 + c.tag.toNat)) 31 20) = c.client ∧
    BitVec.ofNat 16 (wbits (wd (c.client.toNat * 2 ^ 20 + c.tag.toNat)) 15 0) = c.tag := by
  have client := c.client.isLt
  have tag := c.tag.isLt
  simp only [wbits_wd, Nat.reduceLeDiff, Nat.reduceLT, ← BitVec.toNat_inj, BitVec.toNat_ofNat]
  omega

theorem wbits_targetWord : BitVec.ofNat 16 (wbits (wd (c.target.toNat * 2 ^ 16)) 31 16) = c.target := by
  have target := c.target.isLt
  simp only [wbits_wd, Nat.reduceLeDiff, Nat.reduceLT, ← BitVec.toNat_inj, BitVec.toNat_ofNat]
  omega

end

/-! ### The trailer and the whole -/

/-- Reading the six words of a trailer, whatever follows them, gives its CSEQ and its tag. -/
theorem trailerOf_trailerWords (t : Trailer) (more : List Word) : trailerOf (trailerWords t ++ more) = t := by
  obtain ⟨cseq, tag⟩ := t
  have cseqLt := cseq.isLt
  have tagLt := tag.isLt
  have words (n : Nat) : (wd n).toNat = n % 2 ^ 32 := BitVec.toNat_ofNat n 32
  simp only [trailerOf, trailerWords, nth, List.cons_append, List.getD_cons_zero, List.getD_cons_succ, words, Trailer.mk.injEq,
    ← BitVec.toNat_inj, BitVec.toNat_ofNat]
  omega

/-- The words of the trailer, of which a command may have none. -/
def trailerPart (c : Cmd) : List Word := c.trailer.elim [] trailerWords

theorem cmdWords_eq (op : Nat) (c : Cmd) : cmdWords op c =
    [wd (headerNat op c), wd (c.client.toNat * 2 ^ 20 + c.tag.toNat), wd (c.target.toNat * 2 ^ 16), c.applyTick] ++
      (c.params ++ trailerPart c) := by
  rw [← List.append_assoc]
  cases h : c.trailer <;> simp [cmdWords, headerWords, headerNat, trailerPart, h]

theorem cmdWords_length (op : Nat) (c : Cmd) : (cmdWords op c).length = cmdLength c := by
  rw [cmdWords_eq]
  cases h : c.trailer <;> simp [cmdLength, trailerPart, trailerWords, h] <;> omega

section
variable {op : Nat} {c : Cmd} (ho : op < 2 ^ 16) (hp : c.params.length < 2 ^ 12) (more : List Word)
include ho hp

/-- The header of a command announces its length, whatever words follow. -/
theorem announced_cmdWords : announced (cmdWords op c ++ more) = cmdLength c := by
  obtain ⟨-, trailer, -, -, -, plen⟩ := wbits_headerNat (op := op) (c := c) ho hp
  rw [cmdWords_eq, announced, List.append_assoc]
  change 4 + wbits (wd (headerNat op c)) 11 0 + 6 * wbits (wd (headerNat op c)) 15 15 = _
  rw [plen, trailer, cmdLength]
  cases c.trailer <;> rfl

/-- Reading the words a command is laid out in, whatever words follow, gives it back. -/
theorem parseCmd_cmdWords : parseCmd c.route (cmdWords op c ++ more) = (op, c) := by
  obtain ⟨code, trailer, tick, mute, urgent, plen⟩ := wbits_headerNat (op := op) (c := c) ho hp
  obtain ⟨client, tag⟩ := wbits_clientWord c
  have params : (c.params ++ (trailerPart c ++ more)).take c.params.length = c.params := List.take_left
  have rest : (c.params ++ (trailerPart c ++ more)).drop c.params.length = trailerPart c ++ more := List.drop_left
  have trailerBack : (if bitNat c.trailer.isSome = 1 then some (trailerOf (trailerPart c ++ more)) else none) = c.trailer := by
    cases h : c.trailer with
    | none => rfl
    | some t => simp [bitNat, trailerPart, h, trailerOf_trailerWords]
  rw [cmdWords_eq, List.append_assoc, List.append_assoc]
  simp only [parseCmd, nth, List.cons_append, List.nil_append, List.getD_cons_zero, List.getD_cons_succ, code, trailer, tick, mute,
    urgent, plen, client, tag, wbits_targetWord, decide_bitNat, List.drop_succ_cons, List.drop_zero, params,
    Nat.add_comm 4, rest, trailerBack]

end

/-- Settles O9: the header's fields, the parameters and the trailer are each read back from where they were laid. -/
theorem commandWordsRoundTrip : Obligations.CommandWordsRoundTrip := by
  unfold Obligations.CommandWordsRoundTrip
  exact fun op c more ho hp => ⟨parseCmd_cmdWords ho hp more, cmdWords_length op c, announced_cmdWords ho hp more⟩

end Sys2Proof.Machine
end

section
/-! PROOFS. The queue (95_what_each_step_holds.md): that every row answers, that a run serves the commands in order, and the
statements O1, O2, O3 and O8. -/

namespace Sys2Proof.Machine

/-! ### Rows and steps -/

/-- Every row of the table answers the state after an effect of its own. -/
theorem exec_answers (i : Instr) (s : State) : ∃ u, exec i s = .next (after s u) := by
  cases i <;> exact ⟨_, rfl⟩

theorem after_pending (s u : State) : (after s u).pending = s.pending := rfl

section
variable {s : State}

theorem step_front {c : Instr} {rest : List Instr} (h : s.pending = c :: rest) : step s = exec c { s with pending := rest } := by
  rw [step, h]

theorem step_empty (h : s.pending = []) : step s = .next s.idle := by
  rw [step, h]

variable (s) in
/-- A step never stops: the front command answers, and without one time passes. -/
theorem step_goes : Goes s := by
  cases h : s.pending with
  | nil => exact ⟨_, step_empty h⟩
  | cons c rest =>
    obtain ⟨u, hu⟩ := exec_answers c { s with pending := rest }
    exact ⟨_, (step_front h).trans hu⟩

/-! ### Runs -/

/-- A run's first step leads to the run of the others, on any machine. -/
theorem core_run_succ (M : Host.Core) (n : Nat) {s t : M.State} (h : M.step s = .next t) : M.run (n + 1) s = M.run n t := by
  rw [Host.Core.run, h]

theorem run_succ {t : State} (n : Nat) (h : step s = .next t) :
    Host.Core.run Sys2Proof.core (n + 1) s = Host.Core.run Sys2Proof.core n t :=
  core_run_succ Sys2Proof.core n h

/-- A run as long as the list in front of the queue takes that list away and leaves what came behind it. -/
theorem run_serves (l r : List Instr) (h : s.pending = l ++ r) :
    ∃ t, Host.Core.run Sys2Proof.core l.length s = .next t ∧ t.pending = r := by
  induction l generalizing s with
  | nil => exact ⟨s, rfl, h⟩
  | cons c l ih =>
    obtain ⟨u, hu⟩ := exec_answers c { s with pending := l ++ r }
    rw [List.length_cons, run_succ l.length ((step_front h).trans hu)]
    exact ih (after_pending _ u)

end

/-- Settles O1: a step by what the queue holds. -/
theorem stepRunsFrontCommand : Obligations.StepRunsFrontCommand := by
  unfold Obligations.StepRunsFrontCommand
  refine ⟨fun c rest s h => step_front h, fun s h hp => ?_, fun s h hp => ?_⟩ <;> rw [step_empty h, State.idle, hp] <;> rfl

/-- Settles O2: every row answers, and what it answers has the queue it was given. -/
theorem everyCommandCompletes : Obligations.EveryCommandCompletes := by
  unfold Obligations.EveryCommandCompletes
  refine ⟨fun i s => ?_, step_goes⟩
  obtain ⟨u, hu⟩ := exec_answers i s
  exact ⟨u, hu, after_pending s u⟩

/-- Settles O3, by induction on the waiting commands. -/
theorem queueIsServedInOrder : Obligations.QueueIsServedInOrder := by
  unfold Obligations.QueueIsServedInOrder
  exact ⟨fun l r s => run_serves l r, fun c l r s t h ht => run_succ l.length ((step_front h).trans ht)⟩

/-- Settles O8: the table's decoder answers no command for any word. -/
theorem noWordSpellsACommand : Obligations.NoWordSpellsACommand := by
  unfold Obligations.NoWordSpellsACommand
  exact ⟨fun _ _ => rfl, fun _ _ _ => rfl⟩

end Sys2Proof.Machine
end

section
/-! PROOFS. The register space (R417, R418): fields are independent of one another, its canonical form is kept and is unique, and the
statements O5 and O6. -/

namespace Sys2Proof.Machine

/-! ### Fields -/

/-- Setting a field leaves every field alone that lies in another register or shares no bit with it. -/
theorem State.get_put_apart (s : State) {f g : Fld} (v : Nat) (hf : f.lo ≤ f.hi) (hw : f.hi < 32) (hg : g.lo ≤ g.hi)
    (h : g.off ≠ f.off ∨ g.hi < f.lo ∨ f.hi < g.lo) : (s.put f v).get g = s.get g := by
  by_cases ho : g.off = f.off
  · exact s.get_put_disjoint f g v ho hf hw hg (Or.symm (h.resolve_left (not_not.mpr ho)))
  · exact s.get_put_off f g v ho

/-- Settles O5, by what a register reads after a field of it has been set. -/
theorem registerFieldWrites : Obligations.RegisterFieldWrites := by
  unfold Obligations.RegisterFieldWrites
  exact ⟨State.get_put_self, fun s f g v hf hw hg _ h => s.get_put_apart v hf hw hg h, fun s f v x => s.word_put_other f v x,
    fun _ _ _ => rfl⟩

/-! ### The canonical form -/

section
variable {α : Type}

/-- A key not above the bound of a map reads as unlisted. -/
theorem SMap.get_of_above (d : Nat → α) {m : SMap α} {k i : Nat} (h : SMap.above k m = true) (hi : i ≤ k) :
    SMap.get d m i = d i := by
  induction m with
  | nil => rfl
  | cons p t ih =>
    obtain ⟨j, v⟩ := p
    simp only [SMap.above, Bool.and_eq_true, decide_eq_true_eq] at h
    obtain ⟨hj, ht⟩ := h
    rw [SMap.get, if_neg (by omega), ih ht]

variable [DecidableEq α] {d : Nat → α} {j : Nat} {v : α} {t : SMap α}

/-- A map in canonical form that lists something: its first key is below the others, does not hold what it reads as unlisted,
and the rest is in canonical form. -/
theorem SMap.wf_cons : SMap.wf d ((j, v) :: t) = true ↔ SMap.above j t = true ∧ v ≠ d j ∧ SMap.wf d t = true := by
  simp only [SMap.wf, SMap.sorted, SMap.reduced, Bool.and_eq_true, decide_eq_true_eq]
  tauto

/-- A map in canonical form that lists something differs at its first key from one whose keys are all above it. -/
theorem SMap.get_ne_of_above {m : SMap α} (h : SMap.wf d ((j, v) :: t) = true) (hm : SMap.above j m = true) :
    SMap.get d ((j, v) :: t) j ≠ SMap.get d m j := by
  obtain ⟨-, hv, -⟩ := SMap.wf_cons.mp h
  rw [SMap.get_of_above d hm le_rfl, SMap.get, if_pos rfl]
  exact hv

/-- A map in canonical form whose first key is above `j` has all its keys above `j`. -/
theorem SMap.above_of_wf {k : Nat} (h : SMap.wf d ((j, v) :: t) = true) (hk : k < j) : SMap.above k ((j, v) :: t) = true := by
  obtain ⟨ha, -, -⟩ := SMap.wf_cons.mp h
  rw [SMap.above, SMap.above_trans t j k hk ha, Bool.and_true, decide_eq_true_eq]
  exact hk

/-- Two maps in canonical form that read alike are the same. -/
theorem SMap.eq_of_get_eq {m n : SMap α} (hm : SMap.wf d m = true) (hn : SMap.wf d n = true)
    (h : ∀ i, SMap.get d m i = SMap.get d n i) : m = n := by
  induction m generalizing n with
  | nil =>
    cases n with
    | nil => rfl
    | cons q u => exact absurd (h q.1).symm (SMap.get_ne_of_above hn rfl)
  | cons p t ih =>
    obtain ⟨j, v⟩ := p
    cases n with
    | nil => exact absurd (h j) (SMap.get_ne_of_above hm rfl)
    | cons q u =>
      obtain ⟨k, w⟩ := q
      rcases lt_trichotomy j k with hjk | rfl | hkj
      · exact absurd (h j) (SMap.get_ne_of_above hm (SMap.above_of_wf hn hjk))
      · obtain ⟨ht, -, wt⟩ := SMap.wf_cons.mp hm
        obtain ⟨hu, -, wu⟩ := SMap.wf_cons.mp hn
        have first : v = w := by simpa [SMap.get] using h j
        have rest : t = u := by
          refine ih wt wu fun i => ?_
          by_cases hi : j = i
          · rw [← hi, SMap.get_of_above d ht le_rfl, SMap.get_of_above d hu le_rfl]
          · simpa [SMap.get, hi] using h i
        rw [first, rest]
      · exact absurd (h k).symm (SMap.get_ne_of_above hn (SMap.above_of_wf hm hkj))

end

/-- Storing a word keeps the canonical form; every other write of the register space is one of these. -/
theorem State.regsWf_setWord {s : State} (x : Nat) (v : Word) (h : s.regsWf = true) : (s.setWord x v).regsWf = true :=
  SMap.wf_set resetReg s.regs x v h

/-- Settles O6: each operation stores a word, and the canonical form determines the map. -/
theorem registerSpaceStaysCanonical : Obligations.RegisterSpaceStaysCanonical := by
  unfold Obligations.RegisterSpaceStaysCanonical
  refine ⟨by decide +kernel, fun s => State.regsWf_setWord, fun s f v n h => ?_, fun s t hs ht => SMap.eq_of_get_eq hs ht⟩
  exact ⟨State.regsWf_setWord _ _ h, State.regsWf_setWord _ _ h, State.regsWf_setWord _ _ h⟩

end Sys2Proof.Machine
end

section
/-! PROOFS. The overflow of a performance counter (R393), and the statement O12. -/

namespace Sys2Proof.Machine

theorem setAt_getD_other {α : Type} (l : List α) {i j : Nat} (v d : α) (h : j ≠ i) : (setAt l i v).getD j d = l.getD j d := by
  induction l generalizing i j with
  | nil => rfl
  | cons a t ih =>
    cases i with
    | zero => cases j with
      | zero => exact absurd rfl h
      | succ j => rfl
    | succ i => cases j with
      | zero => rfl
      | succ j => exact ih (fun hj => h (congrArg (· + 1) hj))

section
variable (s : State) (n a : Nat)

/-- The node with the sum in counter `n`, before the marks of an overflow. -/
def State.pmuSum (s : State) (n a : Nat) : State :=
  { s with pmu := { s.pmu with cnt := setAt s.pmu.cnt n ((s.pmu.cnt.getD n 0 + a) % 2 ^ 48) } }

theorem State.pmuAdd_eq : s.pmuAdd n a = if 2 ^ 48 ≤ s.pmu.cnt.getD n 0 + a
    then ((s.pmuSum n a).put ⟨Reg.PMU_OVF, n, n⟩ 1).raise Fld.PMU_INT_OVF else s.pmuSum n a := rfl

/-- The marks of an overflow are registers, beside the counters. -/
theorem State.pmuAdd_pmu : (s.pmuAdd n a).pmu = (s.pmuSum n a).pmu := by
  rw [State.pmuAdd_eq]
  split_ifs <;> rfl

variable {s n a} in
theorem State.pmuAdd_overflows (hn : n < 32) (h : 2 ^ 48 ≤ s.pmu.cnt.getD n 0 + a) :
    (s.pmuAdd n a).get ⟨Reg.PMU_OVF, n, n⟩ = 1 ∧ (s.pmuAdd n a).get Fld.PMU_INT_OVF = 1 := by
  have apart : Reg.PMU_OVF ≠ Fld.PMU_INT_OVF.off := by decide
  have one : 1 < 2 ^ Fld.width ⟨Reg.PMU_OVF, n, n⟩ := by simp [Fld.width]
  rw [State.pmuAdd_eq, if_pos h, State.raise]
  exact ⟨(State.get_put_off _ Fld.PMU_INT_OVF ⟨Reg.PMU_OVF, n, n⟩ 1 apart).trans (State.get_put_of_lt _ _ _ le_rfl hn one),
    State.get_put_of_lt _ _ _ (by decide) (by decide) (by decide)⟩

end

/-- Settles O12: the counters by the list, the marks by whether the sum passes 2^48 − 1. -/
theorem counterWrapsPast48Bits : Obligations.CounterWrapsPast48Bits := by
  unfold Obligations.CounterWrapsPast48Bits
  intro s n a hn hl
  refine ⟨?_, fun m hm => ?_, State.pmuAdd_overflows hn, fun h => ?_⟩
  · rw [State.pmuAdd_pmu]
    exact (setAt_getD_self _ _ _ _).trans (if_pos (hl.symm ▸ hn))
  · rw [State.pmuAdd_pmu]
    exact setAt_getD_other _ _ _ hm
  · rw [State.pmuAdd_eq, if_neg h.not_ge]
    rfl

end Sys2Proof.Machine
end

section
/-! PROOFS. The source presented to a processor, its priority stack and completions (R355 to R358), and the statements O13, O14 and
O39. -/

namespace Sys2Proof.Machine

/-! ### The source presented (R355) -/

/-- Source `m` is no better than source `n`: of lower priority, or of the same with no lower number. -/
def State.noBetter (s : State) (m n : Nat) : Prop :=
  s.get (Fld.ICU_SRC_PRIO m) < s.get (Fld.ICU_SRC_PRIO n) ∨ (s.get (Fld.ICU_SRC_PRIO m) = s.get (Fld.ICU_SRC_PRIO n) ∧ n ≤ m)

/-- `best` is the best of the sources below `k` that qualify for processor `p`: none when none does. -/
def State.BestBelow (s : State) (p k : Nat) (best : Option Nat) : Prop :=
  match best with
  | none => ∀ m, m < k → s.icuQualifies p m = false
  | some n => n < k ∧ s.icuQualifies p n = true ∧ ∀ m, m < k → s.icuQualifies p m = true → s.noBetter m n

section
variable (s : State) (p : Nat)

theorem State.icuQualifies_iff (n : Nat) : s.icuQualifies p n = true ↔
    s.icuPend n = true ∧ s.bit (Fld.ICU_SRC_EN n) = true ∧ s.get (Fld.ICU_SRC_TGT n) = p ∧
      s.get (Fld.ICU_THR_THR p) < s.get (Fld.ICU_SRC_PRIO n) ∧ (s.icuStack p).headD 0 < s.get (Fld.ICU_SRC_PRIO n) := by
  simp only [State.icuQualifies, Bool.and_eq_true, decide_eq_true_eq, and_assoc]
  rfl

/-- The better of the best so far and source `k`. -/
def State.icuBetter (s : State) (p k : Nat) (best : Option Nat) : Option Nat :=
  if s.icuQualifies p k then
    match best with
    | none => some k
    | some m => if s.get (Fld.ICU_SRC_PRIO m) < s.get (Fld.ICU_SRC_PRIO k) then some k else some m
  else best

theorem State.icuBest_cons (n : Nat) (t : List Nat) (best : Option Nat) :
    s.icuBest p (n :: t) best = s.icuBest p t (s.icuBetter p n best) := rfl

variable {s p} in
theorem State.bestBelow_succ {k : Nat} {best : Option Nat} (h : s.BestBelow p k best) :
    s.BestBelow p (k + 1) (s.icuBetter p k best) := by
  unfold State.icuBetter
  by_cases hq : s.icuQualifies p k = true
  · rw [if_pos hq]
    cases best with
    | none =>
      refine ⟨Nat.lt_succ_self k, hq, fun m hm hm' => ?_⟩
      rcases Nat.lt_succ_iff_lt_or_eq.mp hm with hlt | rfl
      · exact absurd hm' (Bool.eq_false_iff.mp (h m hlt))
      · exact .inr ⟨rfl, le_rfl⟩
    | some n =>
      obtain ⟨hn, hnq, hbest⟩ := h
      dsimp only
      split_ifs with hlt
      · refine ⟨Nat.lt_succ_self k, hq, fun m hm hm' => ?_⟩
        rcases Nat.lt_succ_iff_lt_or_eq.mp hm with hmk | rfl
        · have := hbest m hmk hm'
          unfold State.noBetter at *
          omega
        · exact .inr ⟨rfl, le_rfl⟩
      · refine ⟨Nat.lt_succ_of_lt hn, hnq, fun m hm hm' => ?_⟩
        rcases Nat.lt_succ_iff_lt_or_eq.mp hm with hmk | rfl
        · exact hbest m hmk hm'
        · unfold State.noBetter
          omega
  · rw [if_neg hq]
    have stays {m : Nat} (hm : m < k + 1) (hm' : s.icuQualifies p m = true) : m < k :=
      lt_of_le_of_ne (Nat.lt_succ_iff.mp hm) (by rintro rfl; exact hq hm')
    cases best with
    | none =>
      refine fun m hm => Bool.eq_false_iff.mpr fun hm' => ?_
      exact Bool.eq_false_iff.mp (h m (stays hm hm')) hm'
    | some n =>
      obtain ⟨hn, hnq, hbest⟩ := h
      exact ⟨Nat.lt_succ_of_lt hn, hnq, fun m hm hm' => hbest m (stays hm hm') hm'⟩

/-- Going through the sources from `k` on keeps the best of those below. -/
theorem State.icuBest_bestBelow (j k : Nat) (best : Option Nat) (h : s.BestBelow p k best) :
    s.BestBelow p (k + j) (s.icuBest p (List.range' k j) best) := by
  induction j generalizing k best with
  | zero => exact h
  | succ j ih =>
    rw [List.range'_succ, State.icuBest_cons, show k + (j + 1) = k + 1 + j by omega]
    exact ih (k + 1) _ (State.bestBelow_succ h)

theorem State.icuPresented_bestBelow : s.BestBelow p 256 (s.icuPresented p) := by
  rw [State.icuPresented, List.range_eq_range']
  simpa using s.icuBest_bestBelow p 256 0 none (fun m hm => absurd hm (Nat.not_lt_zero m))

variable {s p}

theorem State.icuPresented_some {n : Nat} (h : s.icuPresented p = some n) :
    n < 256 ∧ s.icuQualifies p n = true ∧ ∀ m, m < 256 → s.icuQualifies p m = true → s.noBetter m n := by
  have best := s.icuPresented_bestBelow p
  rwa [h] at best

theorem State.icuPresented_none_iff : s.icuPresented p = none ↔ ∀ n, n < 256 → s.icuQualifies p n = false := by
  have best := s.icuPresented_bestBelow p
  constructor
  · intro h
    rwa [h] at best
  · intro h
    cases hp : s.icuPresented p with
    | none => rfl
    | some n =>
      obtain ⟨hn, hq, -⟩ := State.icuPresented_some hp
      exact absurd hq (Bool.eq_false_iff.mp (h n hn))

end

/-- Settles O13: the scan of the sources keeps the best of those it has gone through. -/
theorem icuPresentsTheBestSource : Obligations.IcuPresentsTheBestSource := by
  unfold Obligations.IcuPresentsTheBestSource
  exact ⟨fun s p n => s.icuQualifies_iff p n, fun s p => State.icuPresented_none_iff, fun s p n => State.icuPresented_some⟩

/-! ### The priority stacks (R356, R358) -/

/-- Every entry is a priority of 1 to 15 and higher than the one below it. -/
def StackRises (l : List Nat) : Prop := l.Pairwise (fun a b => b < a) ∧ ∀ a ∈ l, 1 ≤ a ∧ a ≤ 15

theorem stackRises_nil : StackRises [] := ⟨List.Pairwise.nil, by simp⟩

theorem StackRises.tail {a : Nat} {l : List Nat} (h : StackRises (a :: l)) : StackRises l :=
  ⟨(List.pairwise_cons.mp h.1).2, fun b hb => h.2 b (List.mem_cons_of_mem a hb)⟩

/-- A priority above the top of the stack, and above 0, goes on top. -/
theorem StackRises.cons {a : Nat} {l : List Nat} (h : StackRises l) (ha : l.headD 0 < a) (ha' : a ≤ 15) : StackRises (a :: l) := by
  obtain ⟨hp, hb⟩ := h
  refine ⟨List.pairwise_cons.mpr ⟨fun b hbl => ?_, hp⟩, List.forall_mem_cons.mpr ⟨⟨by omega, ha'⟩, hb⟩⟩
  cases l with
  | nil => simp at hbl
  | cons c t =>
    rcases List.mem_cons.mp hbl with rfl | hbt
    · exact ha
    · exact ((List.pairwise_cons.mp hp).1 b hbt).trans ha

/-- A rising stack holds no more entries than there are priorities. -/
theorem StackRises.length_le {l : List Nat} (h : StackRises l) : l.length ≤ 15 := by
  obtain ⟨hp, hb⟩ := h
  have distinct : l.Nodup := hp.imp (fun hab => Nat.ne_of_gt hab)
  have within : l ⊆ List.range' 1 15 := fun a ha => List.mem_range'_1.mpr (by have := hb a ha; omega)
  simpa using (List.subperm_of_subset distinct within).length_le

section
variable {s : State}

theorem State.icuStack_of_icu {t : State} (h : t.icu = s.icu) (p : Nat) : t.icuStack p = s.icuStack p := by
  rw [State.icuStack, h, State.icuStack]

theorem State.tally_icu (u : State) (code n : Nat) : (u.tally code n).icu = u.icu := by
  obtain ⟨regs, pmu, free, h⟩ := sameButCounts_tally u u code n (sameButCounts_refl u)
  rw [h]

/-- The node with the stack of processor `p` replaced. -/
def State.setStack (s : State) (p : Nat) (l : List Nat) : State := { s with icu := { s.icu with
  stack0 := if p = 0 then l else s.icu.stack0
  stack1 := if p = 0 then s.icu.stack1 else l } }

theorem State.setStack_stack {p q : Nat} (l : List Nat) (hp : p < 2) (hq : q < 2) :
    (s.setStack p l).icuStack q = if q = p then l else s.icuStack q := by
  interval_cases p <;> interval_cases q <;> rfl

/-- A claim pushes the priority of its source on the stack of its processor. -/
theorem State.icuClaim_eq (p n : Nat) :
    let t := (s.put (Fld.ICU_SRC_PEND n) 0).tally (if p = 0 then 0x182 else 0x183)
    s.icuClaim p n = t.setStack p (s.get (Fld.ICU_SRC_PRIO n) :: t.icuStack p) := by
  by_cases h : p = 0 <;> simp only [State.icuClaim, State.setStack, State.icuStack, h, if_true, if_false]

/-- What a completion that names no top of a stack leaves in ICU_FAULT, with its EMPTY and TOP, and source 27 pending. -/
def State.icuFault (s : State) (p lv empty top : Nat) : State :=
  (((((s.raise Fld.ICU_FAULT_FAULT).put Fld.ICU_FAULT_PROC p).put Fld.ICU_FAULT_WRITTEN lv).put Fld.ICU_FAULT_EMPTY empty).put
    Fld.ICU_FAULT_TOP top).raise (Fld.ICU_SRC_PEND 27)

/-- A fault is recorded in registers: the stacks stand. -/
theorem State.icuFault_icu (p lv empty top : Nat) : (s.icuFault p lv empty top).icu = s.icu :=
  (State.raise_icu _ _).trans <| (State.put_icu _ _ _).trans <| (State.put_icu _ _ _).trans <| (State.put_icu _ _ _).trans <|
    (State.put_icu _ _ _).trans (State.raise_icu _ _)

/-- A completion that names the top of the stack pops it. -/
theorem State.icuEoi_pops {p lv : Nat} {rest : List Nat} (h : s.icuStack p = lv :: rest) : s.icuEoi p lv = s.setStack p rest := by
  simp only [State.icuEoi, h, if_true, State.setStack]
  split_ifs <;> rfl

/-- Any other completion is recorded as a fault. -/
theorem State.icuEoi_faults {p lv : Nat} (h : (s.icuStack p).head? ≠ some lv) :
    s.icuEoi p lv = s.icuFault p lv (if s.icuStack p = [] then 1 else 0) ((s.icuStack p).headD 0) := by
  unfold State.icuEoi
  cases hs : s.icuStack p with
  | nil => rw [if_pos rfl, List.headD_nil, State.icuFault]
  | cons top rest =>
    have ht : top ≠ lv := fun ht => h (by rw [hs, ht, List.head?_cons])
    rw [if_neg (List.cons_ne_nil _ _), List.headD_cons, State.icuFault]
    exact if_neg ht

variable (p : Fin 2)

theorem StackRises.claim {n : Nat} (h : ∀ q < 2, StackRises (s.icuStack q)) (hn : s.icuPresented p = some n) :
    ∀ q < 2, StackRises ((s.icuClaim p n).icuStack q) := by
  intro q hq
  have keeps : ((s.put (Fld.ICU_SRC_PEND n) 0).tally (if p.val = 0 then 0x182 else 0x183)).icu = s.icu :=
    (State.tally_icu _ _ _).trans (State.put_icu _ _ _)
  rw [State.icuClaim_eq, State.setStack_stack _ p.isLt hq, State.icuStack_of_icu keeps, State.icuStack_of_icu keeps]
  split_ifs
  · obtain ⟨-, hqual, -⟩ := State.icuPresented_some hn
    obtain ⟨-, -, -, -, habove⟩ := (s.icuQualifies_iff p n).mp hqual
    exact (h p p.isLt).cons habove (Nat.le_of_lt_succ (s.get_lt (Fld.ICU_SRC_PRIO n)))
  · exact h q hq

theorem StackRises.eoi (lv : Nat) (h : ∀ q < 2, StackRises (s.icuStack q)) : ∀ q < 2, StackRises ((s.icuEoi p lv).icuStack q) := by
  intro q hq
  by_cases ht : (s.icuStack p).head? = some lv
  · obtain ⟨rest, hs⟩ := List.head?_eq_some_iff.mp ht
    rw [State.icuEoi_pops hs, State.setStack_stack _ p.isLt hq]
    split_ifs
    · exact (hs ▸ h p p.isLt).tail
    · exact h q hq
  · rw [State.icuEoi_faults ht, State.icuStack_of_icu (State.icuFault_icu _ _ _ _)]
    exact h q hq

end

theorem forall_lt_two {P : Nat → Prop} : (∀ q < 2, P q) ↔ P 0 ∧ P 1 :=
  ⟨fun h => ⟨h 0 (by decide), h 1 (by decide)⟩, fun ⟨h0, h1⟩ q hq => by interval_cases q <;> assumption⟩

/-- Settles O14: both operations by what they do to each of the two stacks. -/
theorem priorityStackRises : Obligations.PriorityStackRises := by
  unfold Obligations.PriorityStackRises
  refine ⟨⟨stackRises_nil, stackRises_nil⟩, fun s n p h0 h1 hn => ?_, fun s p lv h0 h1 => ?_, fun l => StackRises.length_le⟩
  · exact forall_lt_two.mp (StackRises.claim p (forall_lt_two.mpr ⟨h0, h1⟩) hn)
  · exact forall_lt_two.mp (StackRises.eoi p lv (forall_lt_two.mpr ⟨h0, h1⟩))

/-! ### Completions (R358) -/

section
variable {s : State} {p lv : Nat}

theorem doEoi_pops {rest : List Nat} (hp : s.powered = true) (h : s.icuStack p = lv :: rest) : doEoi p lv s = s.setStack p rest := by
  simp only [doEoi, hp, State.icuEoi_pops h, h, Bool.not_true, Bool.false_eq_true, if_false, List.head?_cons, ne_eq,
    not_true_eq_false]

theorem doEoi_faults (hp : s.powered = true) (h : (s.icuStack p).head? ≠ some lv) :
    let u := s.icuFault p lv (if s.icuStack p = [] then 1 else 0) ((s.icuStack p).headD 0)
    doEoi p lv s = u.logBlot blkICU 1 clsDEGRADED (u.word Reg.ICU_FAULT).toNat := by
  simp only [doEoi, hp, Bool.not_true, Bool.false_eq_true, if_false, State.icuEoi_faults h]
  exact if_pos h

/-- Every field of ICU_FAULT reads what the fault records, the top cut to its 4 bits. -/
theorem State.icuFault_fields {empty : Nat} (top : Nat) (hp : p < 2) (hl : lv < 16) (he : empty < 2) :
    let u := s.icuFault p lv empty top
    u.get Fld.ICU_FAULT_FAULT = 1 ∧ u.get Fld.ICU_FAULT_PROC = p ∧ u.get Fld.ICU_FAULT_WRITTEN = lv ∧
      u.get Fld.ICU_FAULT_EMPTY = empty ∧ u.get Fld.ICU_FAULT_TOP = top % 16 ∧ u.bit (Fld.ICU_SRC_PEND 27) = true := by
  unfold State.icuFault State.bit State.raise
  simp (disch := decide) only [State.get_put_apart, State.get_put_self]
  exact ⟨rfl, Nat.mod_eq_of_lt hp, Nat.mod_eq_of_lt hl, Nat.mod_eq_of_lt he, rfl, rfl⟩

end

/-- Settles O39, by whether the level written is the top of the processor's stack. -/
theorem completionsPopOrFault : Obligations.CompletionsPopOrFault := by
  unfold Obligations.CompletionsPopOrFault
  refine ⟨fun s p lv rest hp h => finish_eq s (doEoi_pops hp h), fun s p lv hp h => ?_, fun l h hb => StackRises.length_le ⟨h, hb⟩⟩
  have hempty : (if s.icuStack p.val = [] then 1 else 0) < 2 := by split_ifs <;> decide
  obtain ⟨fault, proc, written, empty, top, pend⟩ :=
    State.icuFault_fields (s := s) ((s.icuStack p.val).headD 0) p.isLt lv.isLt hempty
  refine ⟨_, finish_eq s (doEoi_faults hp h), State.icuFault_icu _ _ _ _, fault, proc, written, empty, fun t rest hs ht => ?_, pend⟩
  rw [top, hs, List.headD_cons, Nat.mod_eq_of_lt ht]

end Sys2Proof.Machine
end

section
/-! PROOFS. The commands that only report (R287, R295, R299, R334, R397, R423), and the statement O15. -/

namespace Sys2Proof.Machine

section
variable (a : State) (c : Cmd)

theorem State.applyNow_nop : a.applyNow opNOP c = a.answer opNOP c stOK false a.clk.fn [] := rfl

theorem State.applyNow_echo : a.applyNow opECHO c = a.answer opECHO c stOK false a.clk.fn c.params := rfl

theorem State.applyNow_getInfo : a.applyNow opGET_INFO c = a.answer opGET_INFO c stOK false a.clk.fn (a.info c.params) := rfl

theorem State.applyNow_nodePeek :
    a.applyNow opNODE_PEEK c =
      let r := a.readSpan (.poke (cmdIssuer c)) (nth c.params 0).toNat (nth c.params 1).toNat
      r.2.answer opNODE_PEEK c stOK false r.2.clk.fn r.1 := rfl

theorem State.applyNow_pmuRead : a.applyNow opPMU_READ c = a.answer opPMU_READ c stOK false a.clk.fn a.pmuWords := rfl

theorem State.applyNow_blotRead :
    a.applyNow opBLOT_READ c =
      let u := if wbits (nth c.params 0) 0 0 = 0 then a.readBank 13 else a
      u.answer opBLOT_READ c stOK false u.clk.fn (u.blotWords c.params) := rfl

end

/-- Settles O15: each command answers from the node that has accepted it. -/
theorem informationCommandsReply : Obligations.InformationCommandsReply := by
  unfold Obligations.InformationCommandsReply
  refine ⟨?nop, ?echo, ?getInfo, ?nodePeek, ?pmuRead, ?blotRead⟩
  case nop =>
    intro s t o c h a
    rw [exec_nodeNow rfl h rfl (by decide) (by decide), State.applyNow_nop]
  case echo =>
    intro s t o c h a
    rw [exec_nodeNow rfl h rfl (by decide) (by decide), State.applyNow_echo]
  case getInfo =>
    intro s t o c h a
    rw [exec_nodeNow rfl h rfl (by decide) (by decide), State.applyNow_getInfo]
  case nodePeek =>
    intro s t o c h a r
    rw [exec_nodeNow rfl h rfl (by decide) (by decide), State.applyNow_nodePeek]
  case pmuRead =>
    intro s t o c h a
    rw [exec_nodeNow rfl h rfl (by decide) (by decide), State.applyNow_pmuRead]
  case blotRead =>
    intro s t o c h u a
    rw [exec_nodeNow rfl h rfl (by decide) (by decide), State.applyNow_blotRead]

end Sys2Proof.Machine
end

section
/-! PROOFS. The five update commands (R374 to R379): what a node does once it has accepted one, and the statement O17. -/

namespace Sys2Proof.Machine

section
variable (a : State) (c : Cmd)

theorem State.applyNow_updBegin : a.applyNow opUPD_BEGIN c = a.applyBegin c := rfl

theorem State.applyNow_updVerify : a.applyNow opUPD_VERIFY c = a.applyVerify c := rfl

theorem State.applyNow_updBlock : a.applyNow opUPD_BLOCK c = a.applyBlock c := rfl

theorem State.applyNow_updActivate :
    a.applyNow opUPD_ACTIVATE c =
      let u := a.applyActivate (nth c.params 1)
      u.answer opUPD_ACTIVATE c stOK false u.clk.fn [] := rfl

theorem State.applyNow_updConfirm :
    a.applyNow opUPD_CONFIRM c =
      let u := a.applyConfirm
      u.answer opUPD_CONFIRM c stOK false u.clk.fn [] := rfl

end

/-! ### What UPD_CONFIRM records (R379) -/

theorem State.setNvmPage_upd (s : State) (p : Nat) (ws : List Word) : (s.setNvmPage p ws).upd = s.upd := by
  unfold State.setNvmPage
  split_ifs
  · exact forEach_keeps _ _ (fun u => u.upd = s.upd) s rfl fun _ _ hu => hu
  · exact forEach_keeps _ _ (fun u => u.upd = s.upd) s rfl fun _ _ hu => hu
  · rfl

theorem State.putPages_upd (s : State) (p n : Nat) (ws : List Word) : (s.putPages p n ws).upd = s.upd := by
  induction n generalizing s p ws with
  | zero => rfl
  | succ n ih => exact (ih _ _ _).trans (State.setNvmPage_upd _ _ _)

theorem State.freeRec_upd (s : State) (rid format p : Nat) : (s.freeRec rid format p).upd = s.upd := by
  unfold State.freeRec
  split
  · exact State.putPages_upd _ _ _ _
  · rfl

/-- Freeing records of the old format touches no update record. -/
theorem State.freeOldPairs_upd (s : State) : s.freeOldPairs.upd = s.upd := by
  unfold State.freeOldPairs
  refine forEach_keeps _ _ (fun u => u.upd = s.upd) _ rfl fun o u hu => ?_
  rw [State.freeRec_upd, State.freeRec_upd, hu]

theorem State.bank14_upd (s : State) (on : Bool) : (s.bank14 on).upd = s.upd := by
  unfold State.bank14
  split_ifs <;> rfl

/-- The record after UPD_CONFIRM: the target slot is ACTIVE, nothing is pending, and MIN_SVN is at least the image's. -/
theorem State.applyConfirm_record (s : State) :
    s.applyConfirm.upd.record = { s.upd.record with
      active := 1 - s.upd.record.active
      pending := false
      trials := 0
      minSvn := max s.upd.record.minSvn (hSvn (s.flashBlock (1 - s.upd.record.active) 0))
      isOpen := false } := by
  unfold State.applyConfirm
  dsimp only
  rw [State.freeOldPairs_upd, State.bank14_upd]
  rfl

/-- Settles O17: each command acts on the node that has accepted it, and UPD_CONFIRM leaves the record it names. -/
theorem updateCommandsAct : Obligations.UpdateCommandsAct := by
  unfold Obligations.UpdateCommandsAct
  refine ⟨?begins, ?verify, ?block, ?activate, ?confirm⟩
  case begins =>
    intro s t o c h
    rw [exec_nodeNow rfl h rfl (by decide) (by decide), State.applyNow_updBegin]
  case verify =>
    intro s t o c h a
    rw [exec_nodeNow rfl h rfl (by decide) (by decide), State.applyNow_updVerify]
    rfl
  case block =>
    intro s t o c h
    rw [exec_nodeNow rfl h rfl (by decide) (by decide), State.applyNow_updBlock]
  case activate =>
    intro s t o c h u a
    rw [exec_nodeNow rfl h rfl (by decide) (by decide), State.applyNow_updActivate]
    rfl
  case confirm =>
    intro s t o c h u a
    refine ⟨by rw [exec_nodeNow rfl h rfl (by decide) (by decide), State.applyNow_updConfirm], ?_⟩
    have hr : a.upd.record = _ := u.applyConfirm_record
    rw [hr]
    exact ⟨rfl, rfl, rfl, rfl, rfl⟩

end Sys2Proof.Machine
end

section
/-! PROOFS. The T commands on a head's own objects (R300, R302 to R304), and the statement O21. -/

namespace Sys2Proof.Machine

/-- The opcodes of T commands for which a head fills in no words and sends nothing on. -/
def keptTickOps : List Nat := [opCLIENT_CLOSE, opCLIENT_GRANT, opSRC_ENABLE, opWIN_CREATE, opWIN_MODIFY, opWIN_DELETE, opWIN_BATCH,
  opPLANE_ORDER, opJRN_START, opJRN_STOP]

section
variable {op : Nat} (h : op ∈ keptTickOps)
include h

theorem State.filled_kept (s : State) (c : Cmd) (g : Word) : s.filled op c g = c := by
  have ne (n : Nat) (hn : n ∉ keptTickOps) : op ≠ n := by rintro rfl; exact hn h
  unfold State.filled
  simp (disch := decide) only [ne, if_false]

theorem State.tickSends_kept (s : State) (c : Cmd) (g : Word) : s.tickSends op c g = s := by
  have ne (n : Nat) (hn : n ∉ keptTickOps) : op ≠ n := by rintro rfl; exact hn h
  unfold State.tickSends
  simp (disch := decide) only [ne, if_false, or_self]

/-- A kept command does nothing on acceptance but be counted and mirrored. -/
theorem State.sentOn_kept (t : State) (c : Cmd) (g : Word) (moved : Bool) :
    t.sentOn op c g moved = (t.countedTick c moved).mirror op c g := by
  rw [State.sentOn, State.filled_kept h, State.tickSends_kept h]

end

/-- Settles O21: an accepted command waits for its tick, or acts at once when C of its tick has passed. -/
theorem headAcceptsTickCommands : Obligations.HeadAcceptsTickCommands := by
  unfold Obligations.HeadAcceptsTickCommands
  intro i op s t o c g late moved row hi ht h u
  have kept : op ∈ keptTickOps := by
    rcases row with rfl | rfl | rfl | rfl | rfl | rfl | rfl | rfl | rfl | rfl <;>
      (simp only [commandOf, Option.some.injEq, Prod.mk.injEq, and_true] at hi; subst hi; decide)
  have sent : t.sentOn op c g moved = u := State.sentOn_kept kept t c g moved
  have waits := exec_acceptsTick_waits hi ht h
  have late := exec_acceptsTick_late hi ht h
  rw [sent, State.filled_kept kept] at waits late
  exact ⟨waits, late⟩

end Sys2Proof.Machine
end

section
/-! PROOFS. The order of the checks that a command goes through (R289), and the statement O25. -/

namespace Sys2Proof.Machine

/-! ### Where a command is turned away -/

section
variable {s : State} {op : Nat} {c : Cmd}

theorem takeCommand_untaken (h : s.takes c = false) : s.takeCommand op c = s :=
  if_pos (by simp [h])

theorem takeCommand_busy (h : s.takes c = true) (hb : s.busyNow op c = true) : s.takeCommand op c = s.refuse c stBUSY 0 [] :=
  (if_neg (by simp [h])).trans (if_pos hb)

/-- The command is taken, no mode answers BUSY, and it is no TILE_PLACE that a packet brought to a tile (R282). -/
structure Examined (s : State) (op : Nat) (c : Cmd) : Prop where
  takes : s.takes c = true
  busy  : s.busyNow op c = false
  place : ¬(op = opTILE_PLACE ∧ s.role = .tile ∧ c.route ≠ .localPort)

variable (h : Examined s op c)
include h

/-- The form comes first: length, opcode, PLEN and target (steps 1 to 4). -/
theorem takeCommand_badForm {st : Nat} (hf : s.formStatus op c = st) (hn : st ≠ stOK) : s.takeCommand op c = s.refuse c st 0 [] := by
  refine (if_neg (by simp [h.takes])).trans ((if_neg (by simp [h.busy])).trans ((if_neg h.place).trans ?_))
  rw [hf]
  exact if_pos hn

variable {o : OpRow} (hf : s.formStatus op c = stOK) (ho : opRow op = some o)
include hf ho

/-- A command whose form is right goes on to its client and its authentication (steps 5 and 6). -/
theorem takeCommand_wellFormed : s.takeCommand op c =
    if !(s.ownerOk op o c) then s.refuse c stNOT_OWNER 0 []
    else
      let (ok, t) := s.authOk op o c
      if !ok then t.refuse c stAUTH_FAIL 0 []
      else if t.secureOnly op c (t.toSelf c || decide (c.target = 0xFFFF)) then t.turnAway c stSECURE_ONLY 0 []
      else t.route op o c := by
  refine (if_neg (by simp [h.takes])).trans ((if_neg (by simp [h.busy])).trans ((if_neg h.place).trans ?_))
  rw [hf, ho]
  rfl

theorem takeCommand_notOwner (hw : s.ownerOk op o c = false) : s.takeCommand op c = s.refuse c stNOT_OWNER 0 [] := by
  rw [takeCommand_wellFormed h hf ho, hw]
  rfl

variable (hw : s.ownerOk op o c = true)
include hw

theorem takeCommand_authFails (ha : (s.authOk op o c).1 = false) :
    s.takeCommand op c = (s.authOk op o c).2.refuse c stAUTH_FAIL 0 [] := by
  rw [takeCommand_wellFormed h hf ho, hw]
  dsimp only
  rw [ha]
  rfl

theorem takeCommand_secureOnly (ha : (s.authOk op o c).1 = true)
    (hs : (s.authOk op o c).2.secureOnly op c ((s.authOk op o c).2.toSelf c || decide (c.target = 0xFFFF)) = true) :
    s.takeCommand op c = (s.authOk op o c).2.turnAway c stSECURE_ONLY 0 [] := by
  rw [takeCommand_wellFormed h hf ho, hw]
  dsimp only
  rw [ha, hs]
  rfl

end

/-! ### The form, check by check (steps 1 to 4) -/

section
variable {s : State} {op : Nat} {c : Cmd}

theorem State.formStatus_tooLong (h : 4089 < cmdLength c) : s.formStatus op c = stBAD_LENGTH :=
  if_pos h

variable (hl : cmdLength c ≤ 4089)
include hl

theorem State.formStatus_noRow (h : opRow op = none) : s.formStatus op c = stBAD_OPCODE := by
  refine (if_neg hl.not_gt).trans ?_
  rw [h]

/-- A customer opcode for this node, without a handler, is refused whatever else holds of it. -/
theorem State.formStatus_noHandler (h7 : op / 4096 = 7) (hs : s.toSelf c = true) (hu : s.bit Fld.SYS_QUILL_STAT_USER = false) :
    s.formStatus op c = stBAD_OPCODE := by
  refine (if_neg hl.not_gt).trans ?_
  split
  · rfl
  · exact ite_eq_left_iff.mpr fun _ => if_pos ⟨h7, hs, hu⟩

/-- A RED_TILE that no packet brought is refused. -/
theorem State.formStatus_redTile (hr : c.route = .localPort) : s.formStatus opRED_TILE c = stBAD_OPCODE := by
  refine (if_neg hl.not_gt).trans ?_
  rw [hr]
  rfl

variable {o : OpRow} (ho : opRow op = some o) (hr : op = opRED_TILE → ∃ src all, c.route = .broash src all)
  (h7 : op / 4096 = 7 → s.toSelf c = true → s.bit Fld.SYS_QUILL_STAT_USER = true)
include ho hr h7

/-- A command whose opcode this node has is checked for its parameters and its target. -/
theorem State.formStatus_row : s.formStatus op c =
    if !(plenOk op c.params) || !(s.bareKeyOk op c) then stBAD_LENGTH
    else if !(s.targetOk op o c) then stBAD_TARGET
    else stOK := by
  refine (if_neg hl.not_gt).trans ?_
  rw [ho]
  refine (if_neg ?_).trans (if_neg ?_)
  · rintro ⟨hop, hroute⟩
    obtain ⟨src, all, hb⟩ := hr hop
    rw [hb] at hroute
    exact Bool.false_ne_true hroute
  · rintro ⟨hop, hs, hu⟩
    exact Bool.false_ne_true (hu.symm.trans (h7 hop hs))

theorem State.formStatus_badParams (h : (plenOk op c.params && s.bareKeyOk op c) = false) : s.formStatus op c = stBAD_LENGTH :=
  (State.formStatus_row hl ho hr h7).trans (if_pos (by rw [← Bool.not_and, h]; rfl))

variable (hp : plenOk op c.params = true) (hk : s.bareKeyOk op c = true)
include hp hk

theorem State.formStatus_target : s.formStatus op c = if s.targetOk op o c then stOK else stBAD_TARGET := by
  rw [State.formStatus_row hl ho hr h7, hp, hk]
  cases s.targetOk op o c <;> rfl

end

/-- Settles O25: the checks in their order, each under what the checks before it have found. -/
theorem checksOfACommandComeInOrder : Obligations.ChecksOfACommandComeInOrder := by
  unfold Obligations.ChecksOfACommandComeInOrder
  refine ⟨?untaken, ?busy, ?checks, ?noRow, ?redTile⟩
  case untaken =>
    intro i op s c hi ht
    rw [exec_command s hi, takeCommand_untaken ht]
  case busy =>
    intro i op s c hi ht hb
    rw [exec_command s hi, takeCommand_busy ht hb]
  case checks =>
    intro i op s c hi ht hb hpl
    have h : Examined s op c := ⟨ht, hb, hpl⟩
    simp only [exec_command s hi, Host.Outcome.next.injEq]
    refine ⟨fun hl => ?tooLong, fun hl h7 hs hu => ?noHandler, fun o hl ho hr h7 => ⟨fun hp => ?params, fun hp hk => ?_⟩⟩
    case tooLong => rw [takeCommand_badForm h (State.formStatus_tooLong hl) (by decide)]
    case noHandler => rw [takeCommand_badForm h (State.formStatus_noHandler hl h7 hs hu) (by decide)]
    case params => rw [takeCommand_badForm h (State.formStatus_badParams hl ho hr h7 hp) (by decide)]
    have target := State.formStatus_target hl ho hr h7 hp hk
    refine ⟨fun hg => ?badTarget, fun hg => ⟨fun hw => ?owner, fun hw => ⟨fun ha => ?auth, fun ha hs => ?secure⟩⟩⟩
    case badTarget => rw [takeCommand_badForm h (target.trans (if_neg (by simp [hg]))) (by decide)]
    case owner => rw [takeCommand_notOwner h (target.trans (if_pos hg)) ho hw]
    case auth => rw [takeCommand_authFails h (target.trans (if_pos hg)) ho hw ha]
    case secure => rw [takeCommand_secureOnly h (target.trans (if_pos hg)) ho hw ha hs]
  case noRow =>
    intro s ws ht hb hl hn
    have h : Examined s (parseCmd .localPort ws).1 (parseCmd .localPort ws).2 := ⟨ht, hb, fun hpl => hpl.2.2 rfl⟩
    exact finish_eq s (takeCommand_badForm h (State.formStatus_noRow hl hn) (by decide))
  case redTile =>
    intro s c hr ht hb hl
    have h : Examined s opRED_TILE c := ⟨ht, hb, fun hpl => hpl.2.2 hr⟩
    rw [exec_command s rfl, takeCommand_badForm h (State.formStatus_redTile hl hr) (by decide)]

end Sys2Proof.Machine
end

section
/-! PROOFS. The thermal model and the throttle (R383 to R388), and the statement O51. -/

namespace Sys2Proof.Machine

/-! ### The readings (R382) -/

section
variable (x : ThermalSample)

/-- A sensor reads the same whatever is stored in the register of another one. -/
theorem State.sensorRead_put (s : State) (v : Nat) {i j : Nat} (h : j ≠ i) :
    (s.put (Fld.THM_SENS_T i) v).sensorRead x j = s.sensorRead x j := by
  have apart : (Fld.THM_SENS_T j).off ≠ (Fld.THM_SENS_T i).off := by
    simp only [Fld.THM_SENS_T, Reg.THM_SENS]
    omega
  have reading : (s.put (Fld.THM_SENS_T i) v).reading j = s.reading j := by
    rw [State.reading, State.get_put_off _ _ _ _ apart, State.reading]
  rw [State.sensorRead, State.put_drive, reading, State.sensorRead]

/-- Sensors read one after the other give what they read before any was stored. -/
theorem forEach_sensorRead {l : List Nat} (hl : l.Nodup) (s u : State) (h : ∀ i ∈ l, u.sensorRead x i = s.sensorRead x i) :
    forEach l (fun i t => t.put (Fld.THM_SENS_T i) (unsigned 16 (t.sensorRead x i))) u =
      forEach l (fun i t => t.put (Fld.THM_SENS_T i) (unsigned 16 (s.sensorRead x i))) u := by
  induction l generalizing u with
  | nil => rw [forEach, forEach]
  | cons i l ih =>
    obtain ⟨hi, hn⟩ := List.nodup_cons.mp hl
    rw [forEach, forEach, h i List.mem_cons_self]
    refine ih hn _ fun j hj => ?_
    rw [State.sensorRead_put x u _ (by rintro rfl; exact hi hj), h j (List.mem_cons_of_mem i hj)]

theorem State.sensors_nodup (s : State) : s.sensors.Nodup := by
  unfold State.sensors
  split_ifs <;> exact List.nodup_range

end

/-! ### The update and the throttle -/

/-- The node with the readings stored, once its model has run and its sensors are voted on (R383, R384). -/
def State.modelRuns (s : State) (x : ThermalSample) : State :=
  let b := if s.thm.started then s else s.startModel
  let c := forEach (List.range 6) (fun j t => t.modelNode x j) b
  let d := forEach c.sensors (fun i t => t.voteSensor i) c
  (forEach d.sensors (fun i t => t.dropSensor i) d).modelOnly

/-- The node at junction temperature `tj`, counting the time at or above THROT. -/
def State.atHeat (s : State) (tj : Rat) : State :=
  { s with thm := { s.thm with hotMs := if (s.throtC : Rat) ≤ tj then s.thm.hotMs + 1 else 0 } }

theorem State.atHeat_eq (s : State) (tj : Rat) : s.atHeat tj =
    if (s.throtC : Rat) ≤ tj then { s with thm := { s.thm with hotMs := s.thm.hotMs + 1 } }
    else { s with thm := { s.thm with hotMs := 0 } } := by
  unfold State.atHeat
  split_ifs <;> rfl

/-- What the junction temperature makes of the node: a shutdown, or the level that follows it (R385, R388). -/
def State.heatActs (s : State) : State :=
  let tj := s.junction
  let code := unsigned 16 (tj * 8).floor
  let u := s.put Fld.THM_STAT_TJ code
  if u.tooHot then doShutdown u else (u.setLevelC (u.levelFor tj) code).atHeat tj

section
variable {s : State}

theorem doThermal_powered (x : ThermalSample) (hp : s.powered = true) :
    doThermal x s =
      ((forEach s.sensors (fun i t => t.put (Fld.THM_SENS_T i) (unsigned 16 (s.sensorRead x i))) s).modelRuns x).heatActs := by
  have powered : ¬(!s.powered) = true := by simp [hp]
  rw [doThermal, if_neg powered]
  extract_lets a b c d e m tj code u v
  have read : a = forEach s.sensors (fun i t => t.put (Fld.THM_SENS_T i) (unsigned 16 (s.sensorRead x i))) s :=
    forEach_sensorRead x s.sensors_nodup s s fun _ _ => rfl
  rw [← read]
  have runs : a.modelRuns x = m := rfl
  rw [runs, State.heatActs]
  clear_value m
  exact if_congr Iff.rfl rfl (State.atHeat_eq _ _).symm

theorem doThrottleStep_steps (hp : s.powered = true) (hl : s.get Fld.THM_STAT_LEVEL = 2)
    (hh : 1000 * max 1 (s.get Fld.THM_THROT_CFG_STEP_S) ≤ s.thm.hotMs) :
    doThrottleStep s = State.throttleMore { s with thm := { s.thm with
      hotMs := s.thm.hotMs - 1000 * max 1 (s.get Fld.THM_THROT_CFG_STEP_S) } } :=
  if_pos (by simp only [hl, hh, hp, decide_true, Bool.and_self])

theorem doThrottleStep_waits (h : s.get Fld.THM_STAT_LEVEL ≠ 2 ∨ s.thm.hotMs < 1000 * max 1 (s.get Fld.THM_THROT_CFG_STEP_S)) :
    doThrottleStep s = s := by
  refine if_neg ?_
  simp only [Bool.and_eq_true, decide_eq_true_eq]
  rintro ⟨⟨hl, hh⟩, -⟩
  exact h.elim (fun hn => hn hl) hh.not_gt

end

/-- Settles O51: the update by whether the junction is too hot, the step by the level and the time spent hot. -/
theorem thermalEventsAct : Obligations.ThermalEventsAct := by
  unfold Obligations.ThermalEventsAct
  refine ⟨?update, fun s hp hl hh => finish_eq s (doThrottleStep_steps hp hl hh), fun s h => finish_eq s (doThrottleStep_waits h)⟩
  case update =>
    intro s x hp a b c d e u
    have hd : doThermal x s = e.heatActs := doThermal_powered x hp
    clear_value e
    exact ⟨fun h => finish_eq s (hd.trans (if_pos h)), fun h => finish_eq s (hd.trans (if_neg (Bool.eq_false_iff.mp h)))⟩

end Sys2Proof.Machine
end

section
/-! PROOFS. A customer command that runs too long after its ring was reset (R316, R354), and the refutation of the statement O60. -/

namespace Sys2Proof.Machine

/-- A customer command that client 7 gave over its ring. -/
def customerCmd : Cmd := ⟨.ring, 7, 9, 0, false, false, false, 0, [1], none⟩

/-- A head in whose user partition that command runs, once the ring of client 7 has been reset. -/
def ringResetMeanwhile : State :=
  State.muteRings { State.reset with
    role := .head
    pwr  := { State.reset.pwr with state := .ready }
    cmds := { State.reset.cmds with userBusy := some (customerCmd, 0x7FFF) } } (fun n => decide (n = 7))

/-- The node once the command is ended and answered TIMEOUT, whatever has become of its ring. -/
def State.timeoutAnswered (s : State) (op : Nat) (c : Cmd) : State :=
  let t := State.userEnd { s with cmds := { s.cmds with userBusy := none } } stTIMEOUT op
  t.answer op c stTIMEOUT false t.clk.fn []

/-- The reply of a command whose ring was reset is discarded (R316). -/
theorem userTimeout_stages_nothing : (after ringResetMeanwhile (doUserTimeout ringResetMeanwhile)).cmds.staged = [] := by
  decide +kernel

theorem timeoutAnswered_stages_reply :
    (after ringResetMeanwhile (ringResetMeanwhile.timeoutAnswered 0x7FFF customerCmd)).cmds.staged ≠ [] := by
  decide +kernel

/-- Refutes O60: a customer command whose ring was reset while it ran draws no reply when its time is up (R316), but the next state
that the statement gives stages one. -/
theorem not_quillAndFaultEventsAct : ¬ Obligations.QuillAndFaultEventsAct := by
  unfold Obligations.QuillAndFaultEventsAct
  rintro ⟨-, -, -, timeouts, -⟩
  have stated := timeouts ringResetMeanwhile customerCmd 0x7FFF rfl
  have ran : exec .userCommandTimeout ringResetMeanwhile = .next (after ringResetMeanwhile (doUserTimeout ringResetMeanwhile)) := rfl
  have same : after ringResetMeanwhile (doUserTimeout ringResetMeanwhile) =
      after ringResetMeanwhile (ringResetMeanwhile.timeoutAnswered 0x7FFF customerCmd) :=
    Host.Outcome.next.inj (ran.symm.trans stated)
  exact timeoutAnswered_stages_reply ((congrArg (·.cmds.staged) same).symm.trans userTimeout_stages_nothing)

end Sys2Proof.Machine
end

section
/-! PROOFS. The rings, mailboxes and channels of the host interface (R308 to R318), and the statements O40 and O41. -/

namespace Sys2Proof.Machine

/-! ### Reset of the endpoint (R308) -/

/-- A map without a block of its keys reads the default there and what it read elsewhere. -/
theorem SMap.get_filter {α : Type} (d : Nat → α) (m : SMap α) (keep : Nat → Bool) (k : Nat) :
    SMap.get d (m.filter (fun e => keep e.1)) k = if keep k then SMap.get d m k else d k := by
  induction m with
  | nil => simp [SMap.get]
  | cons e t ih =>
    obtain ⟨j, v⟩ := e
    by_cases hj : keep j <;> by_cases hk : j = k <;> simp_all [SMap.get]

/-- The node with the endpoint's registers and state reset and nothing staged for its rings. -/
def State.pciEmptied (s : State) : State :=
  { s with
    regs := s.regs.filter (fun e => !(decide (0x250000 ≤ e.1) && decide (e.1 < 0x260000)))
    host := { HostIf.reset with mem := s.host.mem }
    cmds := { s.cmds with staged := [] } }

/-- The fetches of host sources that the reset ends touch nothing but the sources. -/
theorem State.pciReset_of_setSrc {α : Type} (f : State → α) (hf : ∀ u n v, f (State.setSrc u n v) = f u) (s : State) :
    f s.pciReset = f (s.pciEmptied.muteRings (fun _ => true)) := by
  unfold State.pciReset
  refine forEach_keeps _ _ (fun u => f u = f (s.pciEmptied.muteRings (fun _ => true))) _ rfl fun n u h => ?_
  split_ifs
  · exact (hf _ _ _).trans h
  · exact h

theorem State.pciEmptied_word (s : State) (x : Nat) :
    s.pciEmptied.word x = if 0x250000 ≤ x ∧ x < 0x260000 then resetReg x else s.word x := by
  refine (SMap.get_filter resetReg s.regs (fun k => !(decide (0x250000 ≤ k) && decide (k < 0x260000))) x).trans ?_
  by_cases h : 0x250000 ≤ x ∧ x < 0x260000
  · simp [h]
  · rw [if_neg h, if_pos (by simpa [imp_iff_not_or] using h)]
    rfl

theorem State.pciReset_word (s : State) (x : Nat) :
    s.pciReset.word x = if 0x250000 ≤ x ∧ x < 0x260000 then resetReg x else s.word x :=
  (State.pciReset_of_setSrc (·.word x) (fun _ _ _ => rfl) s).trans (s.pciEmptied_word x)

theorem State.pciReset_host (s : State) : s.pciReset.host = { HostIf.reset with mem := s.host.mem } :=
  State.pciReset_of_setSrc (·.host) (fun _ _ _ => rfl) s

theorem State.pciReset_staged (s : State) : s.pciReset.cmds.staged = [] :=
  State.pciReset_of_setSrc (·.cmds.staged) (fun _ _ _ => rfl) s

theorem State.pciReset_role (s : State) : s.pciReset.role = s.role := State.pciReset_of_setSrc (·.role) (fun _ _ _ => rfl) s
theorem State.pciReset_keys (s : State) : s.pciReset.keys = s.keys := State.pciReset_of_setSrc (·.keys) (fun _ _ _ => rfl) s
theorem State.pciReset_clk (s : State) : s.pciReset.clk = s.clk := State.pciReset_of_setSrc (·.clk) (fun _ _ _ => rfl) s

/-! ### Rows of a node without the endpoint, and bus mastering -/

section
variable {s : State} (hp : s.pci = false)
include hp

theorem doDoorbell_absent (n : ClientId) (d0 d1 : Option Word) : doDoorbell n d0 d1 s = s := if_pos (by simp [hp])
theorem doMailbox_absent (i : Nat) (v : Word) : doMailbox i v s = s := if_pos (by simp [hp])
theorem ringStatWrite_absent (v : Word) : s.ringStatWrite v = s := if_pos (by simp [hp])
theorem doXltInvalidate_absent (v : Word) : doXltInvalidate v s = s := if_neg (by simp [hp])
theorem doBadSize_absent (b : Bool) : doBadSize b s = s := if_pos (by simp [hp])
theorem doBme_absent (b : Bool) : doBme b s = s := if_pos (by simp [hp])
theorem doPcieReset_absent : doPcieReset s = s := if_neg (by simp [hp])
theorem doFlr_absent : doFlr s = s := if_neg (by simp [hp])

end

section
variable {s : State} (hp : s.pci = true)
include hp

theorem doPcieReset_powered : doPcieReset s = s.pciReset := if_pos hp
theorem doFlr_powered : doFlr s = s.pciReset := if_pos hp

/-- Over a link that is up only BME changes, and an enabled one lets the pending messages go (R309, R320). -/
theorem doBme_up (hu : s.bit Fld.PCI_LINK_STAT_UP = true) (en : Bool) :
    doBme en s = if en then (s.putBit Fld.PCI_LINK_STAT_BME en).releasePba else s.putBit Fld.PCI_LINK_STAT_BME en := by
  rw [doBme, if_neg (by simp [hp]), if_pos hu]

end

/-- Settles O41: a powered endpoint by the row, an absent one by the condition that every row begins with. -/
theorem hostLinkChangesAct : Obligations.HostLinkChangesAct := by
  unfold Obligations.HostLinkChangesAct
  refine ⟨?mastering, ?resets, ?frame, ?absent⟩
  case mastering => exact fun s hp hu => ⟨finish_eq s (doBme_up hp hu true), finish_eq s (doBme_up hp hu false)⟩
  case resets => exact fun s hp => ⟨finish_eq s (doPcieReset_powered hp), finish_eq s (doFlr_powered hp)⟩
  case frame =>
    exact fun s => ⟨s.pciReset_host, s.pciReset_staged, s.pciReset_role, s.pciReset_keys, s.pciReset_clk,
      fun x h0 h1 => (s.pciReset_word x).trans (if_pos ⟨h0, h1⟩), fun x h => (s.pciReset_word x).trans (if_neg (by omega))⟩
  case absent =>
    intro s i n d0 d1 k v b hp hi
    obtain rfl | rfl | rfl | rfl | rfl | rfl | rfl | rfl | rfl := hi
    · exact finish_eq s (doPcieReset_absent hp)
    · exact finish_eq s (doFlr_absent hp)
    · exact finish_eq s (doBme_absent hp b)
    · exact finish_eq s (doDoorbell_absent hp n d0 d1)
    · exact finish_eq s (doMailbox_absent hp k.val v)
    · exact finish_eq s (ringStatWrite_absent hp v)
    · exact finish_eq s (ringStatWrite_absent hp v)
    · exact finish_eq s (doXltInvalidate_absent hp v)
    · exact finish_eq s (doBadSize_absent hp b)

/-! ### The rows of a powered endpoint -/

section
variable {s : State} (hp : s.pci = true)
include hp

theorem doDoorbell_off (n : ClientId) (d0 d1 : Option Word) (he : (s.ring n).en = false) :
    doDoorbell n d0 d1 s = s.count Fld.PCI_ERR_DBDROP := by
  rw [doDoorbell, if_neg (by simp [hp]), if_pos (by simp [he])]

theorem doDoorbell_enabled (n : ClientId) (d0 d1 : Option Word) (he : (s.ring n).en = true) :
    doDoorbell n d0 d1 s = s.setRing n
      (if ((s.ring n).rung d0 d1).overrun ∧ ((s.ring n).rung d0 d1).stopped = false then
        { (s.ring n).rung d0 d1 with stopped := true, reason := 2 } else (s.ring n).rung d0 d1) := by
  rw [doDoorbell, if_neg (by simp [hp]), if_neg (by simp [he])]

theorem doMailbox_powered (i : Nat) (v : Word) :
    doMailbox i v s = if i = 0
      then State.raise { s with host := { s.host with toHead := SMap.set (fun _ => 0) s.host.toHead i v } } (Fld.ICU_SRC_PEND 26)
      else { s with host := { s.host with toHead := SMap.set (fun _ => 0) s.host.toHead i v } } :=
  if_neg (by simp [hp])

theorem doBadSize_write : doBadSize true s = s.count Fld.PCI_ERR_BADSIZE := by
  rw [doBadSize, if_neg (by simp [hp]), if_pos rfl]

theorem doBadSize_read : doBadSize false s = s.emit (.readValue 0 0xFFFFFFFF) := by
  rw [doBadSize, if_neg (by simp [hp]), if_neg Bool.false_ne_true]

theorem doXltInvalidate_inv (v : Word) (hv : wbits v 0 0 = 1) :
    doXltInvalidate v s = State.raise { s with host := { s.host with inval := true } } Fld.PCI_XLT_INV_INV := if_pos ⟨hp, hv⟩

omit hp in
theorem doXltInvalidate_none (v : Word) (hv : wbits v 0 0 = 0) : doXltInvalidate v s = s := if_neg (by simp [hv])

theorem doXltDone_held (hi : s.host.inval = true) :
    doXltDone s = State.put { s with host := { s.host with inval := false, cache := [] } } Fld.PCI_XLT_INV_INV 0 :=
  if_pos (by simp [hp, hi])

/-- A stopped channel other than the command channel restarts. -/
theorem channelResume_stopped (c : Nat) (v : Word) (hc : c ≠ 0) (hv : wbits v 31 31 = 1)
    (hs : s.bit (Fld.PCI_CH_STAT_STOP c) = true) : s.channelResume c v = s.channelRestart c := if_pos ⟨hp, hv, hc, hs⟩

section
variable (v : Word) (h29 : wbits v 29 29 = 0)
include h29

theorem ringStatWrite_enable (h31 : wbits v 31 31 = 1) (h30 : wbits v 30 30 = 0) (n : ClientId)
    (hn : n = BitVec.ofNat 12 (s.get Fld.PCI_RING_SEL_CLIENT)) (hr : (s.ring n).en = false) :
    s.ringStatWrite v = if ctxOk (s.ringCtx n)
      then s.setRing n { Ring.off with en := true, err := (s.ring n).err, cfg := s.ringCtx n, evdrop := (s.ring n).evdrop }
      else s.setRing n { s.ring n with err := true } := by
  rw [State.ringStatWrite, if_neg (by simp [hp]), ← hn]
  dsimp only
  rw [if_neg (show ¬ wbits v 29 29 = 1 by simp [h29])]
  exact (if_neg (by simp [h30])).trans (if_pos ⟨h31, hr⟩)

theorem ringStatWrite_reset (h30 : wbits v 30 30 = 1) (n : ClientId) (hn : n = BitVec.ofNat 12 (s.get Fld.PCI_RING_SEL_CLIENT)) :
    let u := (s.setRing n { Ring.off with err := (s.ring n).err, evdrop := (s.ring n).evdrop }).muteRings (fun m => decide (m = n))
    let w := forEach (u.cmds.staged.filter (fun x => decide (x.ring = n))) (fun x t => t.dropStaged x) u
    s.ringStatWrite v = { w with cmds := { w.cmds with staged := w.cmds.staged.filter (fun x => decide (x.ring ≠ n)) } } := by
  intro u w
  rw [State.ringStatWrite, if_neg (by simp [hp]), ← hn]
  dsimp only
  rw [if_neg (show ¬ wbits v 29 29 = 1 by simp [h29])]
  exact if_pos h30

end

end

section
variable {s : State} {n : ClientId} (hh : (s.ring n).holdoff = true)
include hh

theorem doHoldoffEnd_due (hd : (s.ring n).msgDue = true) :
    doHoldoffEnd n s = (s.setRing n { s.ring n with msgDue := false }).sendMsix (ctxVec (s.ring n).cfg) := by
  rw [doHoldoffEnd, if_neg (by simp [hh]), if_pos hd]

theorem doHoldoffEnd_idle (hd : (s.ring n).msgDue = false) :
    doHoldoffEnd n s = s.setRing n { s.ring n with holdoff := false } := by
  rw [doHoldoffEnd, if_neg (by simp [hh]), if_neg (by simp [hd])]

end

/-- Settles O40: each row by what it finds, its ring, its value or its channel. -/
theorem hostInterfaceActs : Obligations.HostInterfaceActs := by
  unfold Obligations.HostInterfaceActs
  refine ⟨?doorbell, ?indices, ?context, ?mailbox, ?badSize, ?holdoff, ?inval, ?invalDone, ?resume⟩
  case doorbell =>
    intro s n d0 d1 hp
    refine ⟨fun he => finish_eq s (doDoorbell_off hp n d0 d1 he), fun he => ?_⟩
    have hd := doDoorbell_enabled hp n d0 d1 he
    refine ⟨fun h => finish_eq s (hd.trans (congrArg _ (if_neg ?_))),
      fun ho hs => finish_eq s (hd.trans (congrArg _ (if_pos ⟨ho, hs⟩)))⟩
    rintro ⟨ho, hs⟩
    simp [ho, hs] at h
  case indices => exact fun r v w => ⟨rfl, rfl, rfl, rfl, rfl, rfl⟩
  case context =>
    intro s v hp h29 n r
    refine ⟨fun h31 h30 hr hc => ?_, fun h31 h30 hr hc => ?_, fun h30 => finish_eq s (ringStatWrite_reset hp v h29 h30 n rfl)⟩
    · exact finish_eq s ((ringStatWrite_enable hp v h29 h31 h30 n rfl hr).trans (if_pos hc))
    · exact finish_eq s ((ringStatWrite_enable hp v h29 h31 h30 n rfl hr).trans (if_neg (by simp [hc])))
  case mailbox => exact fun s i v hp => finish_eq s (doMailbox_powered hp i.val v)
  case badSize => exact fun s hp => ⟨finish_eq s (doBadSize_write hp), finish_eq s (doBadSize_read hp)⟩
  case holdoff => exact fun s n hh => ⟨fun hd => finish_eq s (doHoldoffEnd_due hh hd), fun hd => finish_eq s (doHoldoffEnd_idle hh hd)⟩
  case inval =>
    exact fun s v hp => ⟨fun hv => finish_eq s (doXltInvalidate_inv hp v hv), fun hv => finish_eq s (doXltInvalidate_none v hv)⟩
  case invalDone => exact fun s hp hi => finish_eq s (doXltDone_held hp hi)
  case resume =>
    intro s c v hp hv hs
    refine ⟨fun hc => ?_, fun hc => ?_, fun hc => ?_⟩
    · refine finish_eq s ((if_neg (by omega)).trans (channelResume_stopped hp c.val v (by omega) hv hs))
    · refine finish_eq s ((if_neg (by omega)).trans (if_neg (by simp [hc])))
    · refine finish_eq s ((if_pos hc).trans ?_)
      rw [channelResume_stopped hp c.val v (by omega) hv hs, hc]
      rfl

end Sys2Proof.Machine
end

section
/-! PROOFS. The journal's own rows (R321 to R327), and the statement O43. -/

namespace Sys2Proof.Machine

/-! ### A blot leaves the journal's records alone -/

section
variable (s : State)

theorem State.tallyBy_jrn (code : Nat) (g : Nat → Nat → Nat) : (s.tallyBy code g).jrn = s.jrn := by
  unfold State.tallyBy
  split_ifs
  · rfl
  · refine forEach_keeps _ _ (fun u => u.jrn = s.jrn) s rfl fun n u h => ?_
    have add (k : Nat) : (u.pmuAdd n k).jrn = u.jrn := by
      unfold State.pmuAdd
      extract_lets v t
      split_ifs <;> rfl
    split_ifs
    · exact (add _).trans h
    · exact h

theorem State.sendOn_jrn (p k type : Nat) (dest src : NodeId) (body : List Word) : (s.sendOn p k type dest src body).jrn = s.jrn := by
  unfold State.sendOn
  extract_lets k q t pkt t' s1 s2
  have h1 : s1.jrn = s.jrn := by
    unfold s1
    split_ifs <;> exact s.tallyBy_jrn _ _
  have h2 : s2.jrn = s1.jrn := by
    unfold s2
    split_ifs
    · exact s1.tallyBy_jrn _ _
    · rfl
  exact h2.trans h1

theorem State.sendTo_jrn (type : Nat) (dest : NodeId) (body : List Word) : (s.sendTo type dest body).jrn = s.jrn := by
  unfold State.sendTo
  split_ifs
  · exact forEach_keeps _ _ (fun u => u.jrn = s.jrn) s rfl fun p u h => (u.sendOn_jrn _ _ _ _ _ _).trans h
  · split
    · exact s.sendOn_jrn _ _ _ _ _ _
    · rfl

theorem State.headEvent_jrn (code : Nat) (origin : NodeId) (eseq : Nat) (stamp fn : Word) (params : List Word) :
    (s.headEvent code origin eseq stamp fn params).jrn = s.jrn := by
  unfold State.headEvent
  split_ifs <;> rfl

theorem State.evtBlot_jrn (b : Blot) : (s.evtBlot b).jrn = s.jrn := by
  unfold State.evtBlot
  extract_lets rate bl s0 s1
  have h1 : s1.jrn = s.jrn := by
    unfold s1
    split_ifs
    · rfl
    · exact forEach_keeps _ _ (fun u => u.jrn = s.jrn) s0 rfl fun h u hu => (State.sendTo_jrn _ _ _ _).trans hu
    · rfl
  split_ifs
  · exact (State.headEvent_jrn _ _ _ _ _ _ _).trans h1
  · exact h1

/-- A blot of class INFO or DEGRADED starts no fault handling, and the journal does not see it. -/
theorem State.logBlot_jrn (block code : Nat) {cls : Nat} (p0 p1 p2 : Nat) (h : cls < 2) :
    (s.logBlot block code cls p0 p1 p2).jrn = s.jrn := by
  have hc : ¬ 2 ≤ cls := Nat.not_le.mpr h
  unfold State.logBlot
  extract_lets nested start s1 seq s2 b n ring s3 s4 wait s5 hit s6 s7 s8 due s9
  have notStart : ¬ start = true := by simp [start, hc]
  have notNested : ¬ nested = true := by simp [nested, hc]
  have h1 : s1 = s := if_neg notStart
  have h2 : s2.jrn = s.jrn := (State.tallyBy_jrn _ _ _).trans (show s1.jrn = s.jrn from congrArg State.jrn h1)
  have h3 : s3.jrn = s2.jrn := by
    unfold s3
    split_ifs <;> rfl
  have h5 : s5 = s4 := if_neg hc
  have h7 : s7 = s5 := if_neg notNested
  have h9 : s9 = s7 := if_neg (fun hs => notStart (Bool.and_eq_true_iff.mp hs).1)
  have logged : s9.jrn = s.jrn := by rw [h9, h7, h5]; exact h3.trans h2
  split_ifs
  · rfl
  · exact (s9.evtBlot_jrn b).trans logged
  · exact logged

end

/-! ### Room, the span of what was lost, and the timer -/

/-- Of two ticks that were lost the span goes on with one of them. -/
theorem tickSpan_fold_mem (l : List Word) (e : Word × Word) (m : List Word) (he : e.1 ∈ m ∧ e.2 ∈ m) (hl : ∀ f ∈ l, f ∈ m) :
    (l.foldl (fun e f => (if earlier f e.1 then f else e.1, if later f e.2 then f else e.2)) e).1 ∈ m ∧
    (l.foldl (fun e f => (if earlier f e.1 then f else e.1, if later f e.2 then f else e.2)) e).2 ∈ m := by
  induction l generalizing e with
  | nil => exact he
  | cons f t ih =>
    obtain ⟨hf, ht⟩ := List.forall_mem_cons.mp hl
    obtain ⟨h1, h2⟩ := he
    refine ih _ ⟨?_, ?_⟩ ht
    · show (if earlier f e.1 then f else e.1) ∈ m
      split_ifs <;> assumption
    · show (if later f e.2 then f else e.2) ∈ m
      split_ifs <;> assumption

theorem tickSpan_mem (a : Word) (l : List Word) : (tickSpan a l).1 ∈ a :: l ∧ (tickSpan a l).2 ∈ a :: l :=
  tickSpan_fold_mem l (a, a) (a :: l) ⟨List.mem_cons_self, List.mem_cons_self⟩ fun _ hf => List.mem_cons_of_mem a hf

section
variable {s : State}

theorem doRoomReturn_gap {a : Word} {l : List Word} (hl : s.jrn.lost = a :: l) (hr : s.jrnRuns = true)
    (hf : s.stageFits jtGAP 1 = true) :
    let e := tickSpan a l
    doRoomReturn s = State.stageRecs { s with jrn := { s.jrn with lost := [], gaps := s.jrn.gaps ++ [e] } } jtGAP e.2
      [⟨jtGAP, e.2, s.clk.dtime, [e.1, e.2]⟩] := by
  rw [doRoomReturn, hl]
  exact if_pos (by rw [hr, hf]; rfl)

theorem doRoomReturn_nothing (h : s.jrn.lost = [] ∨ s.jrnRuns = false) : doRoomReturn s = s := by
  unfold doRoomReturn
  cases hl : s.jrn.lost with
  | nil => rfl
  | cons a l =>
    have hr : s.jrnRuns = false := h.resolve_left (by simp [hl])
    exact if_neg (by simp [hr])

theorem doSnapTimer_runs (hr : s.jrnRuns = true) : doSnapTimer s = { s with jrn := { s.jrn with snapDue := true } } := if_pos hr

theorem doCiHi_powered (v : Word) (hr : s.role = .head) (hp : s.powered = true) :
    let u := s.setWord Reg.JRN_CI_HI v
    doCiHi v s = State.put { u with jrn := { u.jrn with ci := v.toNat * 2 ^ 32 + u.get Fld.JRN_CI_LO_RSEQ } } Fld.JRN_STAT_FULL 0 :=
  if_neg (by simp [State.headRegs, hr, hp])

theorem exec_jrnCiHiWrite (v : Word) (hr : s.role = .head) (hp : s.powered = true) :
    exec (.jrnCiHiWrite v) s = .next (after s (doCiHi v s)) :=
  finish_eq s ((viaPath_open (path := .quill false) _ rfl).trans (write_ci_hi s v (.quill false) hp hr))

/-! ### Completions of NVMe writes (R322) -/

/-- While channel 2 may not issue, what it has to do waits. -/
theorem State.runJournal_off (h : s.channelOn 2 = false) : s.runJournal = s := if_pos (by simp [h])

theorem doNvme_flying {d : Nat} (st : Nat) (hh : s.headRegs = true)
    (hf : s.jrn.fly.any (fun (w : NvmeWrite) => decide (w.dev = d)) = true) :
    doNvme d st s = State.runJournal { s with jrn := { s.jrn with ops := .read d st :: s.jrn.ops } } := by
  rw [doNvme, if_neg]
  rw [hh, hf]
  decide

theorem doNvme_idle {d : Nat} (st : Nat) (hf : s.jrn.fly.any (fun (w : NvmeWrite) => decide (w.dev = d)) = false) :
    doNvme d st s = s := by
  rw [doNvme, if_pos]
  rw [hf, Bool.not_false, Bool.or_true]

theorem State.readCompletion_read {t : State} {d : Nat} (st : Nat)
    (hb : s.busRead 3 (dev64 (s.jrn.devs.getD d []) 2 + 16 * s.jrn.cqHeads.getD d 0) 16 = (none, t)) :
    let dev := s.jrn.devs.getD d []
    let h := (s.jrn.cqHeads.getD d 0 + 1) % max 1 (wbits (nth dev 8) 15 0)
    s.readCompletion d st = (none, ({ t with jrn := { t.jrn with
      cqHeads := setAt t.jrn.cqHeads d h
      ops := .bell (dev64 dev 6) h :: t.jrn.ops } }).nvmeDone d st) := by
  unfold State.readCompletion
  dsimp only
  rw [hb]

theorem State.nvmeDone_found {d : Nat} (st : Nat) {w : NvmeWrite}
    (hw : s.jrn.fly.find? (fun (w : NvmeWrite) => decide (w.dev = d)) = some w) :
    let u : State := { s with jrn := { s.jrn with fly := s.jrn.fly.erase w } }
    s.nvmeDone d st = if st = 0 then u else if w.retried then u.jrnError d st
      else { u with jrn := { u.jrn with ops := u.jrn.ops ++ [.submit { w with retried := true }] } } := by
  rw [State.nvmeDone, hw]

end

/-- The journal's registers on an error of a device (R322). -/
def State.jrnFlagged (s : State) (dev : Nat) : State :=
  ((s.put Fld.JRN_STAT_RUN 0).raise Fld.JRN_STAT_NVME_ERR).put Fld.JRN_STAT_DEV dev

/-- The journal with nothing left to write but the doorbells. -/
def State.jrnEmptied (s : State) : State :=
  { s with jrn := { s.jrn with
    staged := []
    opened := []
    outs := []
    voids := []
    cmdsNow := []
    fly := []
    ops := s.jrn.ops.filter (fun (o : NvmeOp) => match o with | .bell _ _ => true | _ => false)
    mainSlot := none
    srcfSlot := none } }

/-- The journal stopped by an error of a device, its blot apart. -/
def State.jrnStopped (s : State) (dev : Nat) : State := (s.jrnFlagged dev).jrnEmptied.raise Fld.JRN_INT_STOP

section
variable (s : State) (dev st : Nat)

theorem State.jrnError_eq : s.jrnError dev st = (s.jrnStopped dev).logBlot 18 1 clsDEGRADED dev st := rfl

theorem State.jrnEmptied_get (f : Fld) : s.jrnEmptied.get f = s.get f := rfl

theorem State.jrnError_staged : (s.jrnError dev st).jrn.staged = [] := by
  rw [State.jrnError_eq, State.logBlot_jrn _ _ _ _ _ _ (by decide)]
  rfl

theorem State.jrnStopped_get {f : Fld} (h : f.off ≠ Reg.JRN_INT) :
    (s.jrnStopped dev).get f = (s.jrnFlagged dev).get f :=
  (State.get_put_off _ Fld.JRN_INT_STOP f 1 h).trans ((s.jrnFlagged dev).jrnEmptied_get f)

theorem State.jrnStopped_run : (s.jrnStopped dev).bit Fld.JRN_STAT_RUN = false := by
  rw [State.bit, State.jrnStopped_get _ _ (by decide), State.jrnFlagged,
    State.get_put_apart _ _ (by decide) (by decide) (by decide) (by decide),
    State.raise, State.get_put_apart _ _ (by decide) (by decide) (by decide) (by decide), State.get_put_of_lt _ _ _ (by decide) (by decide)
    (by decide)]
  rfl

theorem State.jrnStopped_nvmeErr : (s.jrnStopped dev).bit Fld.JRN_STAT_NVME_ERR = true := by
  rw [State.bit, State.jrnStopped_get _ _ (by decide), State.jrnFlagged,
    State.get_put_apart _ _ (by decide) (by decide) (by decide) (by decide),
    State.raise, State.get_put_of_lt _ _ _ (by decide) (by decide) (by decide)]
  rfl

theorem State.jrnStopped_stop : (s.jrnStopped dev).bit Fld.JRN_INT_STOP = true := by
  rw [State.bit, State.jrnStopped, State.raise, State.get_put_of_lt _ _ _ (by decide) (by decide) (by decide)]
  rfl

end

/-- Settles O43: a completion by whether a write of the device is in progress, and its end by the status and the retry. -/
theorem journalEventsAct : Obligations.JournalEventsAct := by
  unfold Obligations.JournalEventsAct
  refine ⟨?index, ?gap, tickSpan_mem, fun s h => finish_eq s (doRoomReturn_nothing h), fun s h => finish_eq s (doSnapTimer_runs h),
    ?completion, fun s t d st hb => State.readCompletion_read st hb, ?done, ?error⟩
  case index =>
    intro s v hr hp
    rw [exec_jrnCiHiWrite v hr hp, doCiHi_powered v hr hp]
  case gap => exact fun s a l hl hr hf => finish_eq s (doRoomReturn_gap hl hr hf)
  case completion =>
    intro s d st hh
    refine ⟨fun hf => finish_eq s ((doNvme_flying st.toNat hh hf).trans ?_), fun hf => finish_eq s (doNvme_idle st.toNat hf)⟩
    by_cases hc : s.channelOn 2 = true
    · rw [if_pos hc]
    · rw [if_neg hc]
      exact State.runJournal_off (Bool.eq_false_iff.mpr hc)
  case done =>
    intro s d st w hw u
    have hd := State.nvmeDone_found st hw
    refine ⟨fun h0 => hd.trans (if_pos h0), fun h0 hr => (hd.trans (if_neg h0)).trans (if_neg (by simp [hr])),
      fun h0 hr => ⟨(hd.trans (if_neg h0)).trans (if_pos hr), u.jrnError_staged d st⟩⟩
  case error =>
    exact fun s d st _ => ⟨s.jrnStopped d, s.jrnError_eq d st, s.jrnStopped_run d, s.jrnStopped_nvmeErr d, s.jrnStopped_stop d⟩

end Sys2Proof.Machine
end

section
/-! PROOFS. Scan, rows, sinks, phases and the sense ADC (R240 to R262), and the statement O50. -/

namespace Sys2Proof.Machine

/-! ### The scan -/

/-- A lit tile at the start of subframe `k`: the scan turns to the frame in play with subframe 0. -/
def State.scanTurned (s : State) (k : Nat) : State :=
  if k = 0 then { s with drive := { s.drive with scanFn := s.tile.played } } else s

section
variable {s : State} (hl : s.lit = true)
include hl

theorem State.lit_scans : s.scans = true := by
  rw [State.lit, Bool.and_eq_true, Bool.and_eq_true] at hl
  exact hl.1.1

theorem doSubframeStart_none {k : Nat} (l : List SinkCheck) :
    let a := s.scanTurned k
    let p := a.scanPars
    (2 ^ p.slog ≤ k ∨ (0 < k ∧ earlier (a.scanAt p (subOffset p k)) a.periodCut = false)) → doSubframeStart k l s = a :=
  fun h => (if_neg (by simp [hl])).trans (if_pos h)

theorem doSubframeStart_starts {k : Nat} (l : List SinkCheck) :
    let a := s.scanTurned k
    let p := a.scanPars
    let c := a.scanAt p (subOffset p k)
    k < 2 ^ p.slog → k = 0 ∨ earlier c a.periodCut = true →
      let t := (a.advanceTo c).raise Fld.SCN_STAT_RUN
      let u := (if k = 0 then t else t.noteChecks l).swapPhase
      doSubframeStart k l s = if u.drive.railUp then u.outerLoop l else u := by
  intro a p c hk hc t u
  refine (if_neg (by simp [hl])).trans ((if_neg ?_).trans rfl)
  rintro (h | ⟨h0, h1⟩)
  · exact (Nat.not_le.mpr hk) h
  · rcases hc with rfl | hc
    · exact absurd h0 (lt_irrefl 0)
    · exact absurd (h1.symm.trans hc) Bool.false_ne_true

section
variable {k r : Nat} (stalled : Bool)

theorem doRowSlot_none :
    let p := s.scanPars
    (2 ^ p.slog ≤ k ∨ p.rowPairs ≤ r ∨ earlier (s.scanAt p (subOffset p k + r * p.grow + p.gdead)) s.periodCut = false) →
      doRowSlot k r stalled s = s := by
  intro p h
  refine (if_neg (by simp [hl])).trans (if_pos ?_)
  simp only [Bool.or_eq_true, decide_eq_true_eq, Bool.not_eq_true']
  exact or_assoc.mpr h

theorem doRowSlot_plays :
    let p := s.scanPars
    let c := s.scanAt p (subOffset p k + r * p.grow + p.gdead)
    k < 2 ^ p.slog → r < p.rowPairs → earlier c s.periodCut = true →
      let a := s.advanceTo c
      let a : State := { a with drive := { a.drive with slotNow := some r } }
      let b := if a.get Fld.SCN_LINE_MATCH_SUB = k ∧ a.get Fld.SCN_LINE_MATCH_ROW = r then a.scnEvent 1 else a
      let d := if stalled then ((b.count Fld.SCN_UNDCNT_COUNT).scnEvent 3).tally 0x105 else b
      let u := (d.emit (.rowSlot k r (d.slotCounts p k r stalled))).emit
        (.rowSlot k (45 + r) (d.slotCounts p k (45 + r) stalled))
      doRowSlot k r stalled s = if r + 1 = p.rowPairs ∧ k + 1 = 2 ^ p.slog then
        (u.advanceTo (u.scanAt p (subOffset p k + (r + 1) * p.grow))).scnEvent 2 else u := by
  intro p c hk hr hc
  refine (if_neg (by simp [hl])).trans (if_neg ?_)
  simp only [Bool.or_eq_true, decide_eq_true_eq, Bool.not_eq_true']
  rintro ((h | h) | h)
  · exact (Nat.not_le.mpr hk) h
  · exact (Nat.not_le.mpr hr) h
  · exact absurd (h.symm.trans hc) Bool.false_ne_true

end

theorem doPeriodEnd_lit (l : List SinkCheck) :
    let u := ((s.advanceTo s.periodCut).noteChecks l).closePeriod
    let due := u.bit Fld.DRV_FAULT_CFG_PINTEST_EN && !u.drive.pinRun && !u.noTest && decide (64 ≤ u.drive.period - u.drive.pinLast)
    doPeriodEnd l s = if due then u.pinStart else u :=
  if_neg (by simp [hl])

/-! ### Trips of rows (R250) -/

omit hl in
theorem doRowTrip_none {r : Nat} (h : (s.rowOf r).isSome = false ∨ s.latchedRow r = true ∨ r ∈ s.drive.tripped) :
    doRowTrip r s = s := by
  refine if_pos ?_
  rcases h with h | h | h
  · simp [Option.not_isSome_iff_eq_none.mp (Bool.eq_false_iff.mp h)]
  · simp [h]
  · simp [h]

theorem doRowTrip_trips {r : Nat} (hr : (s.rowOf r).isSome = true) (ha : s.latchedRow r = false) (ht : r ∉ s.drive.tripped) :
    let t := ((s.count Fld.DRV_ROWOC_CNT_COUNT).raise Fld.DRV_INT_ROWOC).tally 0x107
    let u : State := State.emit { t with drive := { t.drive with tripped := r :: t.drive.tripped } } (.rowOff r)
    let v := u.put ⟨Reg.DRV_ROW_LATCH (r / 32), r % 32, r % 32⟩ 1
    doRowTrip r s = if 3 ≤ (SMap.get (fun _ => 0) u.drive.tripRun r : Nat)
      then (((v.changeFlags (v.rowLamps r) 1 0).raise Fld.DRV_INT_LAMP).raise Fld.DRV_INT_ROWLATCH).logBlot blkDRV 2 clsDEGRADED r
      else u := by
  refine if_neg ?_
  have hn : (s.rowOf r).isNone = false := by rw [← Option.not_isSome, hr, Bool.not_true]
  simp [hl, hn, ha, ht]

/-! ### Phase shares (R254) -/

theorem doPhaseShare_up (l : List Nat) (hu : s.drive.railUp = true) :
    doPhaseShare l s = forEach s.workPhases (fun p u => u.phaseVerdict p
      (shareBad (l.getD p 0) ((s.workPhases.map (fun q => l.getD q 0)).sum) s.workPhases.length || decide (p ∈ s.drive.phiOvr)))
      { s with drive := { s.drive with phiOvr := [] } } :=
  if_neg (by simp [hl, hu])

end

/-! ### Dead times and the trim sweep (R248, R257 to R259) -/

/-- The node once its row slot is over. -/
def State.slotOver (s : State) : State := { s with drive := { s.drive with slotNow := none } }

/-- A trim comparison is interrupted: its votes are forgotten. -/
def State.votesCleared (s : State) : State :=
  match s.drive.trim with
  | some t => { s with drive := { s.drive with trim := some { t with votes := [] } } }
  | none => s

theorem State.votesCleared_none {s : State} (h : s.drive.trim = none) : s.votesCleared = s := by rw [State.votesCleared, h]

theorem State.votesCleared_some {s : State} {t : Trim} (h : s.drive.trim = some t) :
    s.votesCleared = { s with drive := { s.drive with trim := some { t with votes := [] } } } := by rw [State.votesCleared, h]

section
variable {s : State} (hs : s.scans = true)
include hs

theorem doDeadTime_idle : doDeadTime .idle s = s.votesCleared.slotOver := if_neg (by simp [hs])

theorem doDeadTime_probe (c : SinkCheck) :
    doDeadTime (.probe c) s = State.slotOver
      (if s.mayProbe c.lamp.val && s.lit && decide (c.lamp.val ∈ s.slotLamps) && !(s.pinDue)
        then s.votesCleared.conductProbe c else s.votesCleared) := if_neg (by simp [hs])

theorem doDeadTime_trim (l : Bool) :
    doDeadTime (.trim l) s = State.slotOver (if s.pinDue || s.probeDue then s.votesCleared else s.trimVote l) := if_neg (by simp [hs])

omit hs in
theorem doTrimStart_busy (ht : s.drive.trim.isSome = true) : doTrimStart s = s := if_pos (by simp [ht])

theorem doTrimStart_free (ht : s.drive.trim = none) : doTrimStart s = s.trimStart := if_neg (by simp [hs, ht])

end

section
variable {s : State} {t : Trim} (ht : s.drive.trim = some t)
include ht

theorem doTrimEnd_early (h : t.sink < 960) : doTrimEnd s = s := by
  rw [doTrimEnd, ht]
  exact if_pos h

theorem doTrimEnd_done (h : 960 ≤ t.sink) :
    doTrimEnd s = State.put { s with drive := { s.drive with trim := none, trimDone := some t.results } } Fld.DRV_TCAL_STAT_BUSY 0 := by
  rw [doTrimEnd, ht]
  exact if_neg (Nat.not_lt.mpr h)

end

/-! ### The sense ADC (R260, R261) -/

/-- The input that the ADC converts next. -/
def State.adcInput (s : State) : Nat := if s.adcEnabled s.drive.adcNext then s.drive.adcNext else s.adcAfter s.drive.adcNext

section
variable {s : State} (raw : Int) (hr : s.role = .tile) (hp : s.powered = true)
include hr hp

theorem doAdc_settling (h : s.drive.adcSettle = true) :
    let u := s.count Fld.DRV_ADC_STAT_SETTLE
    doAdc raw s = { u with drive := { u.drive with adcSettle := false, adcNext := s.adcInput } } :=
  (if_neg (by simp [hr, hp])).trans (if_pos h)

theorem doAdc_converts (h : s.drive.adcSettle = false) :
    let i := s.adcInput
    let ovr := decide (4096 ≤ raw) || decide (raw < 0)
    let code := (clampI raw 0 4095).toNat
    let v := (s.put (Fld.DRV_ADC_RES_CODE i) code).putBit (Fld.DRV_ADC_RES_OVR i) ovr
    let u := if ovr then (v.count Fld.DRV_ADC_STAT_OVR).raise Fld.DRV_INT_ADCOVR else v
    doAdc raw s = { u with drive := { u.drive with
      adcNext := u.adcAfter i
      adcSettle := ovr
      phiOvr := if ovr && decide (3 ≤ i) && decide (i ≤ 6) then (i - 3) :: u.drive.phiOvr else u.drive.phiOvr
      tempRes := if 9 ≤ i ∧ i ≤ 12 then
          SMap.put u.drive.tempRes i (((if ovr then 4095 else code) :: SMap.get (fun _ => []) u.drive.tempRes i).take 3)
        else u.drive.tempRes
      vdrv := if i = 8 then ((if ovr then 0 else code) :: u.drive.vdrv).take 3 else u.drive.vdrv } } :=
  (if_neg (by simp [hr, hp])).trans (if_neg (by simp [h]))

/-- A conversion within the range. -/
theorem doAdc_inRange (h : s.drive.adcSettle = false) (h0 : 0 ≤ raw) (h1 : raw < 4096) :
    let i := s.adcInput
    let code := (clampI raw 0 4095).toNat
    let u := (s.put (Fld.DRV_ADC_RES_CODE i) code).putBit (Fld.DRV_ADC_RES_OVR i) false
    doAdc raw s = { u with drive := { u.drive with
      adcNext := u.adcAfter i
      adcSettle := false
      tempRes := if 9 ≤ i ∧ i ≤ 12 then SMap.put u.drive.tempRes i ((code :: SMap.get (fun _ => []) u.drive.tempRes i).take 3)
        else u.drive.tempRes
      vdrv := if i = 8 then (code :: u.drive.vdrv).take 3 else u.drive.vdrv } } := by
  have ovr : (decide (4096 ≤ raw) || decide (raw < 0)) = false := by simp [h0, h1]
  rw [doAdc_converts raw hr hp h, ovr]
  rfl

/-- An overrange conversion. -/
theorem doAdc_outOfRange (h : s.drive.adcSettle = false) (ho : raw < 0 ∨ 4096 ≤ raw) :
    let i := s.adcInput
    let code := (clampI raw 0 4095).toNat
    let u := (((s.put (Fld.DRV_ADC_RES_CODE i) code).putBit (Fld.DRV_ADC_RES_OVR i) true).count Fld.DRV_ADC_STAT_OVR).raise
      Fld.DRV_INT_ADCOVR
    doAdc raw s = { u with drive := { u.drive with
      adcNext := u.adcAfter i
      adcSettle := true
      phiOvr := if 3 ≤ i ∧ i ≤ 6 then (i - 3) :: u.drive.phiOvr else u.drive.phiOvr
      tempRes := if 9 ≤ i ∧ i ≤ 12 then SMap.put u.drive.tempRes i ((4095 :: SMap.get (fun _ => []) u.drive.tempRes i).take 3)
        else u.drive.tempRes
      vdrv := if i = 8 then (0 :: u.drive.vdrv).take 3 else u.drive.vdrv } } := by
  have ovr : (decide (4096 ≤ raw) || decide (raw < 0)) = true := by simpa using ho.symm
  have phase (i : Nat) : (true && decide (3 ≤ i) && decide (i ≤ 6)) = decide (3 ≤ i ∧ i ≤ 6) := by simp
  rw [doAdc_converts raw hr hp h, ovr, phase]
  simp only [decide_eq_true_eq]
  rfl

end

/-- Settles O50: each row by the conditions that it checks, in their order. -/
theorem driveEventsAct : Obligations.DriveEventsAct := by
  unfold Obligations.DriveEventsAct
  refine ⟨?subframe, ?rowSlot, ?period, ?trip, ?deadTime, ?sweep, fun s l hl hu => finish_eq s (doPhaseShare_up hl l hu), ?adc⟩
  case subframe =>
    exact fun s k l hl => ⟨fun h => finish_eq s (doSubframeStart_none hl l h),
      fun hk hc => finish_eq s (doSubframeStart_starts hl l hk hc)⟩
  case rowSlot =>
    exact fun s k r b hl => ⟨fun h => finish_eq s (doRowSlot_none hl b h), fun hk hr hc => finish_eq s (doRowSlot_plays hl b hk hr hc)⟩
  case period => exact fun s l hl => finish_eq s (doPeriodEnd_lit hl l)
  case trip =>
    intro s r hl
    refine ⟨fun h => finish_eq s (doRowTrip_none h), fun hr ha ht => ?_⟩
    have trips := doRowTrip_trips hl hr ha ht
    exact ⟨fun h => finish_eq s (trips.trans (if_neg (Nat.not_le.mpr h))), fun h => finish_eq s (trips.trans (if_pos h))⟩
  case deadTime =>
    intro s hs rest
    refine ⟨fun t ht => finish_eq s ?_, fun hn => ⟨finish_eq s ?_, fun c hm hl hc hp => finish_eq s ?_, fun c h => finish_eq s ?_,
      fun h l => finish_eq s ?_⟩, fun hp hd l => finish_eq s ?_, fun ht => finish_eq s (doTrimStart_busy ht),
      fun ht => finish_eq s (doTrimStart_free hs ht)⟩
    · rw [doDeadTime_idle hs, State.votesCleared_some ht]
      rfl
    · rw [doDeadTime_idle hs, State.votesCleared_none hn]
      rfl
    · rw [doDeadTime_probe hs, if_pos (by simp [hm, hl, hc, hp]), State.votesCleared_none hn]
      rfl
    · rw [doDeadTime_probe hs, if_neg, State.votesCleared_none hn]
      · rfl
      · rcases h with h | h | h <;> simp [h]
    · rw [doDeadTime_trim hs, if_pos (by simpa using h), State.votesCleared_none hn]
      rfl
    · rw [doDeadTime_trim hs, if_neg (by simp [hp, hd])]
      rfl
  case sweep => exact fun s t ht => ⟨fun h => finish_eq s (doTrimEnd_early ht h), fun h => finish_eq s (doTrimEnd_done ht h)⟩
  case adc =>
    exact fun s raw hr hp => ⟨fun h => finish_eq s (doAdc_settling raw hr hp h),
      fun h => ⟨fun h0 h1 => finish_eq s (doAdc_inRange raw hr hp h h0 h1), fun ho => finish_eq s (doAdc_outOfRange raw hr hp h ho)⟩⟩

end Sys2Proof.Machine
end

section
/-! PROOFS. The pair of heads: mirrored packets, heartbeats and the change of roles (R266 to R278), and the statement O57. -/

namespace Sys2Proof.Machine

/-! ### Mirrored commands (R268) -/

/-- A standby head once a mirrored command has come: its epoch and the client sequence of the command are recorded. -/
def State.mirrorSeen (t : State) (epoch : Word) (c : Cmd) : State :=
  let a := t.put Fld.RED_EPOCH_EPOCH (wbits epoch 15 0)
  match c.trailer with
  | some w => a.raiseCseq c.client w.cseq.toNat
  | none => a

section
variable {s t : State} {x : Rx} {b : List Word}

section
variable (hm : s.mirrored x mkCMD = some (b, t))
include hm

theorem doMirrorCmd_active (hs : t.standby = false) : doMirrorCmd x s = t :=
  (onMirror_mirrored s x mkCMD b t _ hm).trans (if_pos (by simp [hs]))

theorem doMirrorCmd_standby (hs : t.standby = true) :
    let u := t.mirrorSeen (nth x.body 0) (parseCmd .ring (b.drop 1)).2
    let e : Word × Nat × List Word := (nth b 0, (nth x.body 1).toNat, b.drop 1)
    doMirrorCmd x s = State.takeHeld { u with red := { u.red with
      mirrored := if u.resyncing then u.red.mirrored ++ [e] else []
      heldCmds := u.red.heldCmds ++ [e] } } :=
  (onMirror_mirrored s x mkCMD b t _ hm).trans (if_neg (by simp [hs]))

end

/-- With nothing held that has come in order, nothing acts. -/
theorem State.takeHeld_waits {g : Word} {m : Nat} {l : List Word} (hh : s.red.heldCmds = [(g, m, l)])
    (h : later (wd m) (wd s.red.recv) = true) : s.takeHeld = s := by
  simp only [State.takeHeld, hh, List.filter_cons, List.filter_nil, h, Bool.not_true, Bool.not_false, Bool.false_eq_true, if_false,
    if_true, sortBy]
  rw [← hh]
  rfl

/-- What has come in order acts. -/
theorem State.takeHeld_acts {g : Word} {m : Nat} {l : List Word} (hh : s.red.heldCmds = [(g, m, l)])
    (h : later (wd m) (wd s.red.recv) = false) :
    s.takeHeld = State.takeMirrored { s with red := { s.red with heldCmds := [] } } g (parseCmd .ring l).1 (parseCmd .ring l).2 := by
  simp only [State.takeHeld, hh, List.filter_cons, List.filter_nil, h, Bool.not_true, Bool.not_false, Bool.false_eq_true, if_false,
    if_true, sortBy]
  rfl

/-! ### Tables (R271, R278) -/

section
variable (hm : s.mirrored x mkTABLE = some (b, t))
include hm

theorem doMirrorTable_active (hs : t.standby = false) : doMirrorTable x s = t :=
  (onMirror_mirrored s x mkTABLE b t _ hm).trans (if_pos (by simp [hs]))

theorem doMirrorTable_standby (hs : t.standby = true) :
    let a := if t.bit Fld.RED_STAT_OOS then t else t.setOos.sendResyncReq
    let v := if a.red.snapEnd.isSome then { a with red := { a.red with tables := [], snapEnd := none } } else a
    let u := v.raise Fld.RED_STAT_RESYNC
    doMirrorTable x s = { u with red := { u.red with tables := u.red.tables ++ [((nth b 0).toNat, unit16 (b.drop 1))] } } :=
  (onMirror_mirrored s x mkTABLE b t _ hm).trans (if_neg (by simp [hs]))

end

theorem doSnapend_standby (hm : s.mirrored x mkSNAPEND = some (b, t)) (hs : t.standby = true) :
    let u := (t.mirrorTo (nth x.body 1).toNat).put Fld.RED_EPOCH_EPOCH (wbits (nth x.body 0) 15 0)
    doSnapend x s = if (nth b 4).toNat = unitsCrc t.red.tables ∧ t.keysUnwrap t.red.tables = true
      then State.takeHeld { u with red := { u.red with snapEnd := some (nth b 0, (nth b 1).toNat, nth b 2, nth b 3, nth b 4) } }
      else State.sendResyncReq (State.put { t with red := { t.red with tables := [], snapEnd := none } } Fld.RED_STAT_RESYNC 0) :=
  (onMirror_mirrored s x mkSNAPEND b t _ hm).trans (if_neg (by simp [hs]))

/-! ### Heartbeats and roles (R269, R270) -/

/-- A head that has seen a heartbeat of its partner with flags `f`. -/
def State.beatSeen (t : State) (f : Word) : State :=
  State.raise { t with red := { t.red with lastBeat := some t.clk.dtime, beat := some f } } Fld.RED_STAT_PARTNER_SEEN

/-- The partner's last heartbeat said that it was active. -/
def State.partnerWasActive (t : State) : Bool :=
  match t.red.beat with
  | some g => wbits g 0 0 == 1
  | none => false

section
variable (hm : s.mirrored x mkHEARTBEAT = some (b, t))
include hm

theorem doHeartbeat_seen :
    let u := t.beatSeen (nth b 1)
    doHeartbeat x s = if u.standby then (if wbits (nth b 1) 0 0 = 0 ∧ t.partnerWasActive = true then u.becomeActive else u)
      else if wbits (nth b 1) 0 0 = 1 then
        if u.get Fld.RED_EPOCH_EPOCH < wbits (nth x.body 0) 15 0 ∨
            (u.get Fld.RED_EPOCH_EPOCH = wbits (nth x.body 0) 15 0 ∧ u.bit Fld.RED_STAT_HEADID = true) then
          { u with red := { u.red with yield := true } }
        else u
      else u :=
  onMirror_mirrored s x mkHEARTBEAT b t _ hm

theorem doHeartbeat_active_quiet (hs : (t.beatSeen (nth b 1)).standby = false) (hf : wbits (nth b 1) 0 0 = 0) :
    doHeartbeat x s = t.beatSeen (nth b 1) :=
  ((doHeartbeat_seen hm).trans (if_neg (by simp [hs]))).trans (if_neg (by simp [hf]))

theorem doHeartbeat_yields (hs : (t.beatSeen (nth b 1)).standby = false) (hf : wbits (nth b 1) 0 0 = 1)
    (he : (t.beatSeen (nth b 1)).get Fld.RED_EPOCH_EPOCH < wbits (nth x.body 0) 15 0) :
    let u := t.beatSeen (nth b 1)
    doHeartbeat x s = { u with red := { u.red with yield := true } } :=
  (((doHeartbeat_seen hm).trans (if_neg (by simp [hs]))).trans (if_pos hf)).trans (if_pos (.inl he))

theorem doHeartbeat_standby_quiet (hs : (t.beatSeen (nth b 1)).standby = true) (hf : wbits (nth b 1) 0 0 = 1) :
    doHeartbeat x s = t.beatSeen (nth b 1) :=
  ((doHeartbeat_seen hm).trans (if_pos hs)).trans (if_neg (by simp [hf]))

theorem doHeartbeat_takesOver {g : Word} (hs : (t.beatSeen (nth b 1)).standby = true) (hf : wbits (nth b 1) 0 0 = 0)
    (hb : t.red.beat = some g) (hg : wbits g 0 0 = 1) : doHeartbeat x s = (t.beatSeen (nth b 1)).becomeActive :=
  ((doHeartbeat_seen hm).trans (if_pos hs)).trans (if_pos ⟨hf, by simp [State.partnerWasActive, hb, hg]⟩)

end

theorem doMirrorAck_active (hm : s.mirrored x mkACK = some (b, t)) (hs : t.standby = false) :
    doMirrorAck x s = { t with red := { t.red with ackGot := (nth b 0).toNat } } :=
  (onMirror_mirrored s x mkACK b t _ hm).trans (if_neg (by simp [hs]))

theorem doRelinquish_mirrored (hm : s.mirrored x mkRELINQUISH = some (b, t)) :
    doRelinquish x s = if t.standby then { t with red := { t.red with takeover := some (nth b 0) } } else t :=
  onMirror_mirrored s x mkRELINQUISH b t _ hm

theorem doResyncReq_mirrored (hm : s.mirrored x mkRESYNC_REQ = some (b, t)) : doResyncReq x s = t.startResync :=
  onMirror_mirrored s x mkRESYNC_REQ b t _ hm

end

section
variable {s : State} (hr : s.running = true)
include hr

section
variable (hp : s.paired = true)
include hp

theorem doHeartbeatTimer_sends (hd : s.red.reqDue = false)
    (hs : (s.sendMirror mkHEARTBEAT [s.clk.fn, s.beatFlags]).standby = false) :
    doHeartbeatTimer s = s.sendMirror mkHEARTBEAT [s.clk.fn, s.beatFlags] := by
  rw [doHeartbeatTimer, if_pos (by simp [hr, hp])]
  extract_lets a u
  have ha : a = s := if_neg (by simp [hd])
  have hu : u = s.sendMirror mkHEARTBEAT [s.clk.fn, s.beatFlags] := by rw [← ha]
  exact (if_neg (by simp [hu, hs])).trans hu

theorem doHeartbeatTimeout_none (hb : s.red.lastBeat = none) :
    doHeartbeatTimeout s = ((s.put Fld.RED_STAT_PARTNER_SEEN 0).raise Fld.RED_INT_PARTNER_LOST).becomeActive := by
  rw [doHeartbeatTimeout, if_neg (by simp [hr, hp]), hb]

theorem doHeartbeatTimeout_some {t : Word} (hb : s.red.lastBeat = some t) :
    doHeartbeatTimeout s =
      (((s.advanceTo (t + wd s.hbTmo)).put Fld.RED_STAT_PARTNER_SEEN 0).raise Fld.RED_INT_PARTNER_LOST).becomeActive := by
  rw [doHeartbeatTimeout, if_neg (by simp [hr, hp]), hb]

end

theorem doTakeover_due {g : Word} (ht : s.red.takeover = some g) :
    doTakeover s = if earlier s.clk.fn g then s else s.becomeActive := by
  rw [doTakeover, ht]
  cases he : earlier s.clk.fn g <;> simp [hr, he]

end

/-! ### The apply tick of a resynchronisation (R278) -/

section
variable {s : State}

theorem doResyncApply_none (h : s.red.snapEnd = none) : doResyncApply s = s := by rw [doResyncApply, h]

/-- An accepted command that the tables of a resynchronisation for tick `g` leave waiting. -/
def staysAt (g : Word) (a : Accepted) : Bool := later a.tick g || !(tableOp a.opcode)

/-- The items of the loads that the tables of a resynchronisation for tick `g` have finished. -/
def State.loadsGone (s : State) (g : Word) : List Nat :=
  (s.cmds.accepted.filter (fun a => !(staysAt g a))).filterMap (fun (a : Accepted) => finalItem a.opcode a.cmd.params)

/-- The node with the tables and the seed of a resynchronisation for tick `g`, its clients' records aside. -/
def State.tablesStand (s : State) (g hi lo : Word) : State :=
  { s with
    comp := { s.comp with
      windows := unitWins s.red.tables
      tiles := unitTiles s.red.tables
      inval := true
      last := none
      seed := hi ++ lo }
    priv := { s.priv with
      items := unitItems s.red.tables
      shown := unitShown s.red.tables
      loads := (s.loadsGone g).foldl dropLoad s.priv.loads }
    cmds := { s.cmds with
      clients := []
      accepted := s.cmds.accepted.filter (staysAt g) }
    keys := { s.keys with clients := [] }
    heads := { s.heads with
      hist := []
      active := false } }

/-- The resynchronisation is over. -/
def State.resynced (s : State) : State :=
  let u : State := { s with red := { s.red with tables := [], snapEnd := none, mirrored := [] } }
  (((u.put Fld.RED_STAT_OOS 0).put Fld.RED_STAT_RESYNC 0).raise Fld.RED_INT_RESYNC_DONE).savePair

/-- With no client records in the tables and no mirrored command left out of them, the tables stand and nothing else acts. -/
theorem doResyncApply_tables {g hi lo crc : Word} {last : Nat} (hs : s.red.snapEnd = some (g, last, hi, lo, crc))
    (hb : s.standby = true) (hg : later g s.nextCompose = false) (ha : s.afterSnap g last = [])
    (hc : s.red.tables.filter (fun e => decide (e.1 / 2 ^ 24 = 3)) = []) :
    doResyncApply s = (s.tablesStand g hi lo).resynced := by
  rw [doResyncApply, hs]
  refine (if_neg (by simp [hb, hg])).trans ?_
  simp only [ha, hc, List.any_nil, Bool.or_false, List.filter_nil, List.filterMap_nil, List.foldl_nil, forEach]
  rfl

theorem State.loadsGone_eq (s : State) (g : Word) :
    s.loadsGone g = (s.cmds.accepted.filter (fun a => !(later a.tick g) && tableOp a.opcode)).filterMap
      (fun (a : Accepted) => finalItem a.opcode a.cmd.params) := by
  have gone : (fun a : Accepted => !(staysAt g a)) = fun a => !(later a.tick g) && tableOp a.opcode := by
    funext a
    rw [staysAt, Bool.not_or, Bool.not_not]
  rw [State.loadsGone, gone]

end

/-- Settles O57: a mirrored packet by its kind and the role of the head, the tables by what they leave over. -/
theorem pairEventsAct : Obligations.PairEventsAct := by
  unfold Obligations.PairEventsAct
  refine ⟨?cmd, fun s g m l hh => ⟨State.takeHeld_waits hh, State.takeHeld_acts hh⟩, fun _ _ _ => rfl, ?table, ?snapend, ?heartbeat,
    fun s t x b hm hs => finish_eq s (doMirrorAck_active hm hs), ?relinquish, fun s t x b hm => finish_eq s (doResyncReq_mirrored hm),
    ?timer, ?takeover, ?apply, fun s h => finish_eq s (doResyncApply_none h)⟩
  case cmd =>
    intro s t x b hm
    refine ⟨fun hs => finish_eq s (doMirrorCmd_active hm hs), ?_⟩
    intro hs r a u e
    refine ⟨fun hr => finish_eq s ?_, fun hr => finish_eq s ?_⟩
    · rw [doMirrorCmd_standby hm hs]
      have copies : (t.mirrorSeen (nth x.body 0) (parseCmd .ring (b.drop 1)).2).resyncing = false := hr
      rw [if_neg (Bool.eq_false_iff.mp copies)]
      rfl
    · rw [doMirrorCmd_standby hm hs]
      have copies : (t.mirrorSeen (nth x.body 0) (parseCmd .ring (b.drop 1)).2).resyncing = true := hr
      rw [if_pos copies]
      rfl
  case table =>
    intro s t x b hm
    refine ⟨fun hs => finish_eq s (doMirrorTable_active hm hs), fun a hs ha => ?_⟩
    have stands := doMirrorTable_standby hm hs
    rw [← ha] at stands
    refine ⟨fun hn => finish_eq s (stands.trans ?_), fun hn => finish_eq s (stands.trans ?_)⟩
    · rw [if_neg (by simp [hn])]
    · rw [if_pos hn]
  case snapend =>
    exact fun s t x b hm hs => ⟨fun h => finish_eq s ((doSnapend_standby hm hs).trans (if_pos h)),
      fun h => finish_eq s ((doSnapend_standby hm hs).trans (if_neg h))⟩
  case heartbeat =>
    exact fun s t x b hm => ⟨fun hs hf => finish_eq s (doHeartbeat_active_quiet hm hs hf),
      fun hs hf he => finish_eq s (doHeartbeat_yields hm hs hf he), fun hs hf => finish_eq s (doHeartbeat_standby_quiet hm hs hf),
      fun g hs hf hb hg => finish_eq s (doHeartbeat_takesOver hm hs hf hb hg)⟩
  case relinquish =>
    exact fun s t x b hm => ⟨fun hs => finish_eq s ((doRelinquish_mirrored hm).trans (if_pos hs)),
      fun hs => finish_eq s ((doRelinquish_mirrored hm).trans (if_neg (by simp [hs])))⟩
  case timer =>
    exact fun s hr hp => ⟨fun hd hs => finish_eq s (doHeartbeatTimer_sends hr hp hd hs),
      fun hb => finish_eq s (doHeartbeatTimeout_none hr hp hb), fun t hb => finish_eq s (doHeartbeatTimeout_some hr hp hb)⟩
  case takeover =>
    exact fun s g hr ht => ⟨fun he => finish_eq s ((doTakeover_due hr ht).trans (if_neg (by simp [he]))),
      fun he => finish_eq s ((doTakeover_due hr ht).trans (if_pos he))⟩
  case apply =>
    intro s g hi lo crc last hs hb hg ha hc
    have applied := doResyncApply_tables hs hb hg ha hc
    rw [State.tablesStand, State.loadsGone_eq] at applied
    exact finish_eq s applied

end Sys2Proof.Machine
end

section
/-! PROOFS. Privet packets at a tile and the progress of an update (R281, R282, R374 to R381), and the statement O58. -/

namespace Sys2Proof.Machine

/-! ### Privet packets -/

/-- What a CMD says that passes the checks (R281, R283). -/
def State.privetTakes (a : State) (frame : Word) (op : Nat) (c : Cmd) : State :=
  if op = opPRIVET_LOAD then
    if (nth c.params 2).toNat = 0 then
      { a with priv := { a.priv with
        load := some ⟨wbits (nth c.params 0) 5 0, (nth c.params 1).toNat, (c.params.drop 3).take 12, []⟩ } }
    else a
  else if op = opPRIVET_SHOW ∨ op = opPRIVET_HIDE then
    { a with priv := { a.priv with
      due := a.priv.due ++ [(a.privetFrame frame, decide (op = opPRIVET_SHOW), itemsOf (nth c.params 0) (nth c.params 1))] } }
  else a

/-- A Privet command comes from client 0, with its tag and a new client sequence. -/
def State.privetOk (t : State) (op : Nat) (c : Cmd) : Bool :=
  match t.keys.client0, c.trailer with
  | some k, some w => decide (c.client = 0) && clientTagOk k op c && decide (t.lastCseq 0 < w.cseq.toNat)
  | _, _ => false

/-- The client sequence of a Privet command is recorded. -/
def State.privetSeq (t : State) (c : Cmd) : State :=
  match c.trailer with
  | some w => t.takeCseq 0 w.cseq.toNat
  | none => t

theorem State.privetOk_eq {t : State} {op : Nat} {c : Cmd} {k : BitVec 256} {w : Trailer} (hk : t.keys.client0 = some k)
    (hw : c.trailer = some w) (hc : c.client = 0) :
    t.privetOk op c = (clientTagOk k op c && decide (t.lastCseq 0 < w.cseq.toNat)) := by
  rw [State.privetOk, hk, hw, hc]
  rfl

section
variable {s t : State} {x : Rx} {b : List Word} (ht : s.taken x = some (b, t))
include ht

section
variable (hr : t.role = .tile)
include hr

section
variable (ho : wbits (nth b 0) 31 24 = 1)
include ho

/-- A CMD that passes the checks acts, and another one is a violation (R281). -/
theorem doPrivetCmd_checks :
    let r := parseCmd .localPort ((b.take (b.length - 6)).drop 2)
    doPrivetCmd x s = if t.privetOk r.1 r.2 then (t.privetSeq r.2).privetTakes (nth b 1) r.1 r.2 else t.privetBad x.port.val := by
  intro r
  refine (receive_taken s x b t _ _ ht).trans ((if_neg (by simp [hr, ho])).trans ?_)
  show (if (!t.privetOk r.1 r.2) = true then t.privetBad x.port.val else (t.privetSeq r.2).privetTakes (nth b 1) r.1 r.2) = _
  cases t.privetOk r.1 r.2
  · rfl
  · rfl

theorem doPrivetCmd_noKey (hk : t.keys.client0 = none) : doPrivetCmd x s = t.privetBad x.port.val :=
  (doPrivetCmd_checks ht hr ho).trans (if_neg (by simp [State.privetOk, hk]))

end

theorem doPrivetData_joins {l : PrivetLoad} (ho : wbits (nth b 0) 31 24 = 2) (hl : t.priv.load = some l)
    (hi : l.item = wbits (nth b 0) 21 16) :
    let d := (b.take (b.length - 6)).drop 2
    doPrivetData x s = { t with priv := { t.priv with load := some { l with data := l.data ++ [((nth d 0).toNat, d.drop 1)] } } } := by
  refine (receive_taken s x b t _ _ ht).trans ((if_neg (by simp [hr, ho])).trans ?_)
  rw [hl]
  exact if_pos hi

section
variable (ho : wbits (nth b 0) 31 24 = 3)
include ho

theorem doPrivetEnd_noLoad (hl : t.priv.load = none) : doPrivetEnd x s = t.privetBad x.port.val := by
  refine (receive_taken s x b t _ _ ht).trans ((if_neg (by simp [hr, ho])).trans ?_)
  rw [hl]

section
variable {l : PrivetLoad} (hl : t.priv.load = some l)
include hl

theorem doPrivetEnd_broken (hc : l.content = none) :
    doPrivetEnd x s = State.privetBad { t with priv := { t.priv with load := none } } x.port.val := by
  refine (receive_taken s x b t _ _ ht).trans ((if_neg (by simp [hr, ho])).trans ?_)
  rw [hl]
  dsimp only
  rw [hc]

theorem doPrivetEnd_kept {got : List Nat} (hc : l.content = some got)
    (hg : got.length = l.length ∧ l.length = (nth b 2).toNat ∧ digestIs l.digest got = true) :
    let u : State := { t with priv := { t.priv with load := none } }
    doPrivetEnd x s = { u with priv := { u.priv with loads := u.priv.loads ++ [(u.privetFrame (nth b 1), l.item, got)] } } := by
  refine (receive_taken s x b t _ _ ht).trans ((if_neg (by simp [hr, ho])).trans ?_)
  rw [hl]
  dsimp only
  rw [hc]
  exact if_pos hg

end

end

end

theorem doUpd_taken : doUpd x s = t.takeUpd x b := receive_taken s x b t _ _ ht

section
variable (hr : t.role ≠ .tile)
include hr

theorem doPrivetCmd_other : doPrivetCmd x s = t := (receive_taken s x b t _ _ ht).trans (if_pos (.inl hr))
theorem doPrivetData_other : doPrivetData x s = t := (receive_taken s x b t _ _ ht).trans (if_pos (.inl hr))
theorem doPrivetEnd_other : doPrivetEnd x s = t := (receive_taken s x b t _ _ ht).trans (if_pos (.inl hr))

end

end

/-! ### Items under their tags (R282) -/

section
variable {s : State} {item : Nat} {c : PrivetItem} (hu : s.mem.upsets = []) (hc : s.mem.clearing = [])
  (hi : SMap.find s.priv.items item = some c)
include hu hc hi

omit hi in
theorem State.readBank_calm (n : Nat) : s.readBank n = s := readBanks_calm s [n] hu hc

theorem State.verifyItem_fails (ht : SMap.find s.priv.tags item ≠ some (Config.privetTag item c)) :
    s.verifyItem item = s.privetTagBad item := by
  rw [State.verifyItem, hi]
  exact (if_pos (by rw [State.readBank_calm hu hc]; exact ht)).trans (by rw [State.readBank_calm hu hc])

theorem State.verifyItem_passes (ht : SMap.find s.priv.tags item = some (Config.privetTag item c)) (hp : s.mem.poison = []) :
    s.verifyItem item = s := by
  rw [State.verifyItem, hi]
  dsimp only
  rw [State.readBank_calm hu hc, if_neg (not_not.mpr ht), hp]
  rfl

end

/-! ### The progress of an update (R374 to R381) -/

section
variable {s : State}

theorem doProgrammed_front {j : Nat} {w : List Word} {rest : List (Nat × List Word)} (h : s.upd.staging = (j, w) :: rest) :
    doProgrammed s = State.setRecord { s with upd := { s.upd with
        staging := rest
        done := j :: s.upd.done
        flash := SMap.put s.upd.flash (4096 * s.targetSlot + j) w } }
      { s.upd.record with next := nextBlock (j :: s.upd.done) 4097 s.upd.record.next } := by
  rw [doProgrammed, h]

theorem doProgrammed_none (h : s.upd.staging = []) : doProgrammed s = s := by rw [doProgrammed, h]

theorem doEraseDone_answers {c : Cmd} (h : s.upd.erasing = some c) :
    doEraseDone s = State.answer { s with upd := { s.upd with erasing := none } } opUPD_BEGIN c stOK false s.clk.fn [] := by
  rw [doEraseDone, h]

theorem doVerifyDone_answers {c : Cmd} (h : s.upd.verifying = some c) :
    let st := s.verifyStatus (wbits (nth c.params 0) 15 0)
    let u := State.raise { s with upd := { s.upd with verifying := none } } Fld.UPD_INT_VERIFY
    let v := if st = stOK then u.setRecord { u.upd.record with verified := true } else u
    doVerifyDone s = v.answer opUPD_VERIFY c st false v.clk.fn [] := by
  rw [doVerifyDone, h]

theorem doUpdGatherTimeout_gather {g : Gather} (h : s.cmds.gathers.find? (fun g => updLong g.opcode) = some g) :
    doUpdGatherTimeout s = s.closeGather g := by
  rw [doUpdGatherTimeout, h]

theorem doUpdGatherTimeout_forwarded {f : Forwarded} (hg : s.cmds.gathers.find? (fun g => updLong g.opcode) = none)
    (hf : s.cmds.forwarded.find? (fun f => updLong f.opcode) = some f) :
    doUpdGatherTimeout s = State.cmdDone { s with cmds := { s.cmds with forwarded := s.cmds.forwarded.erase f } }
      ⟨f.opcode, f.client, f.tag, .ring⟩ stTIMEOUT [] := by
  rw [doUpdGatherTimeout, hg]
  dsimp only
  rw [hf]

theorem doActivation_due (h : s.activateDue = true) :
    doActivation s = (s.restartOn (1 - s.upd.record.active)).trialStart := if_pos h

theorem doActivation_early (h : s.activateDue = false) : doActivation s = s := if_neg (by simp [h])

theorem doTrialExpiry_none (h : s.upd.trial = false) : doTrialExpiry s = s := if_pos (by simp [h])

theorem doTrialExpiry_expired (h : s.upd.trial = true) (hw : s.upd.wdogEnd ≤ s.clk.upNs) :
    let r := s.upd.record
    let u := (((s.setRecord { r with
      pending := false
      trials := 0 }).logBlot blkUPD 3 clsDEGRADED r.session).raise Fld.UPD_INT_REVERT).cpcLog 7 (1 - r.active) (1 - r.active) r.active 0 true
    doTrialExpiry s = { u with
      upd := { u.upd with trial := false }
      quill := { u.quill with revert := true } } := by
  intro r u
  rw [doTrialExpiry, if_neg (by simp [h]), if_neg (Nat.not_lt.mpr hw)]

theorem doRecBlock_loading (v : Word) (hq : s.quill.recovery = true) (hr : s.running = true) (hs : s.upd.staging = []) :
    let b := (List.range 1024).map (fun i => SMap.get (fun _ => 0) s.host.toHead i)
    doRecBlock v s = if s.blockOk (wbits v 11 0) b then (s.stageBlock (wbits v 11 0) b).put Fld.UPD_REC_STAT_ERR 0
      else s.raise Fld.UPD_REC_STAT_ERR :=
  if_neg (by simp [hq, hr, hs])

theorem exec_updRecBlock (v : Word) (hp : s.powered = true) : exec (.updRecBlock v) s = .next (after s (doRecBlock v s)) :=
  finish_eq s ((viaPath_open (path := .quill false) _ rfl).trans (write_rec_ctl s v (.quill false) hp))

theorem doRecoveryDone_loader (hq : s.quill.recovery = true) (hr : s.running = true) :
    doRecoveryDone s = if s.validSlot 0 then ((s.setRecord { s.upd.record with
      active := 0
      pending := false }).flushToMram.enterBoot false).raise Fld.PWR_RST_CAUSE_WARM else s := by
  rw [doRecoveryDone, hq, hr]
  rfl

theorem doRecoveryDone_none (hq : s.quill.recovery = false) : doRecoveryDone s = s := if_neg (by simp [hq])

end

/-- Settles O58: a Privet packet by its kind and what checks, the steps of an update by what is under way. -/
theorem privetAndUpdateEventsAct : Obligations.PrivetAndUpdateEventsAct := by
  unfold Obligations.PrivetAndUpdateEventsAct
  refine ⟨?packets, ?others, ?items, fun _ _ => rfl, fun s j w rest h => finish_eq s (doProgrammed_front h),
    fun s h => finish_eq s (doProgrammed_none h), fun _ _ => rfl, fun s c h => finish_eq s (doEraseDone_answers h), ?verified,
    fun s g h => finish_eq s (doUpdGatherTimeout_gather h), fun s f hg hf => finish_eq s (doUpdGatherTimeout_forwarded hg hf),
    fun s => ⟨fun h => finish_eq s (doActivation_due h), fun h => finish_eq s (doActivation_early h)⟩,
    fun s => ⟨fun h => finish_eq s (doTrialExpiry_none h), fun h hw => finish_eq s (doTrialExpiry_expired h hw)⟩, ?loader,
    fun s hq hr => finish_eq s (doRecoveryDone_loader hq hr), fun s hq => finish_eq s (doRecoveryDone_none hq)⟩
  case packets =>
    intro s t x b ht hr
    refine ⟨fun ho hk => finish_eq s (doPrivetCmd_noKey ht hr ho hk), ?cmd,
      fun l ho hl hi => finish_eq s (doPrivetData_joins ht hr ho hl hi),
      fun ho hl => finish_eq s (doPrivetEnd_noLoad ht hr ho hl), ?done⟩
    case cmd =>
      intro k w ho hk r hw hc
      have checks : doPrivetCmd x s =
          if t.privetOk r.1 r.2 then (t.privetSeq r.2).privetTakes (nth b 1) r.1 r.2 else t.privetBad x.port.val :=
        doPrivetCmd_checks ht hr ho
      rw [State.privetOk_eq hk hw hc, State.privetSeq, hw] at checks
      refine ⟨fun h => finish_eq s (checks.trans (if_neg ?_)), fun htag hq => ?_⟩
      · rintro hok
        obtain ⟨htag, hq⟩ := Bool.and_eq_true_iff.mp hok
        exact h.elim (fun hf => Bool.false_ne_true (hf.symm.trans htag)) (Nat.not_le.mpr (of_decide_eq_true hq))
      · have takes := checks.trans (if_pos (Bool.and_eq_true_iff.mpr ⟨htag, decide_eq_true hq⟩))
        intro a
        refine ⟨fun hop h0 => finish_eq s (takes.trans ((if_pos hop).trans (if_pos (congrArg BitVec.toNat h0)))),
          fun hop => finish_eq s (takes.trans ((if_neg fun hload => ?_).trans (if_pos hop)))⟩
        rcases hop with h | h
        · exact absurd (hload.symm.trans h) (by decide)
        · exact absurd (hload.symm.trans h) (by decide)
    case done =>
      intro l ho hl u
      exact ⟨fun hc => finish_eq s (doPrivetEnd_broken ht hr ho hl hc),
        fun got hc h1 h2 h3 => finish_eq s (doPrivetEnd_kept ht hr ho hl hc ⟨h1, h2, h3⟩)⟩
  case others =>
    exact fun s t x b ht => ⟨finish_eq s (doUpd_taken ht), fun hr => ⟨finish_eq s (doPrivetCmd_other ht hr),
      finish_eq s (doPrivetData_other ht hr), finish_eq s (doPrivetEnd_other ht hr)⟩⟩
  case items =>
    exact fun s item c hu hc hi => ⟨State.verifyItem_fails hu hc hi, State.verifyItem_passes hu hc hi⟩
  case verified =>
    intro s c h st u
    have answers := doVerifyDone_answers h
    refine ⟨fun hs => finish_eq s (answers.trans ?_), fun hs => finish_eq s (answers.trans ?_)⟩
    · rw [if_pos hs]
      rfl
    · rw [if_neg hs]
  case loader =>
    intro s v hp hq hr hs b
    have loads := doRecBlock_loading v hq hr hs
    rw [exec_updRecBlock v hp, loads]
    exact ⟨fun hb => by rw [if_pos hb], fun hb => by rw [if_neg (Bool.eq_false_iff.mp hb)]⟩

end Sys2Proof.Machine
end

section
/-! PROOFS. SRAM banks and their self-tests, Coppice's retries and the DRAM controller (R333 to R350, R389, R390), and the statement
O59. -/

namespace Sys2Proof.Machine

/-! ### Reads of a bank (R333 to R335) -/

/-- The passing of time leaves the memories alone. -/
theorem State.elapse_mem (s : State) (n : Nat) : (s.elapse n).mem = s.mem := by
  have counted : (s.tallyTime n).mem = s.mem := by
    obtain ⟨r, p, f, h⟩ := sameButCounts_tallyTime s n
    rw [h]
  simp only [State.elapse]
  split_ifs <;> exact counted

theorem State.advanceTo_mem (s : State) (d : Word) : (s.advanceTo d).mem = s.mem := by
  unfold State.advanceTo
  split_ifs
  · exact s.elapse_mem _
  · rfl

section
variable {s : State} {n : Nat}

/-- The node with no wrong word left. -/
def State.upsetsGone (s : State) : State := { s with mem := { s.mem with upsets := [] } }

theorem State.upsetsGone_eq (h : s.mem.upsets = []) : s.upsetsGone = s := by
  rw [State.upsetsGone, ← h]

theorem State.readBank_intact (hc : s.mem.clearing.find? (fun e => decide (e.1 = n)) = none) (hu : s.mem.upsets = []) :
    s.readBank n = s := by
  rw [State.readBank, hc]
  dsimp only
  rw [hu]
  exact State.upsetsGone_eq hu

theorem State.readBank_finds (hc : s.mem.clearing.find? (fun e => decide (e.1 = n)) = none) {e : SramError}
    (hu : s.mem.upsets = [(n, e)]) : s.readBank n = s.upsetsGone.sramError n e := by
  rw [State.readBank, hc]
  dsimp only
  rw [hu]
  simp only [decide_true, decide_false, List.filter_cons, List.filter_nil, if_true, List.map_cons, List.map_nil, forEach, ne_eq,
    not_true_eq_false, Bool.false_eq_true, if_false]
  rfl

theorem State.readBank_waits {e : Nat × Word} (hc : s.mem.clearing.find? (fun e => decide (e.1 = n)) = some e) (hu : s.mem.upsets = []) :
    s.readBank n = (s.advanceTo e.2).clearing (s.mem.clearing.filter (fun q => decide (q.1 ≠ n))) := by
  have none_wrong : ((s.advanceTo e.2).clearing (s.mem.clearing.filter (fun q => decide (q.1 ≠ n)))).mem.upsets = [] := by
    rw [State.clearing, State.advanceTo_mem]
    exact hu
  rw [State.readBank, hc]
  dsimp only
  rw [none_wrong]
  exact State.upsetsGone_eq none_wrong

end

/-! ### Words that their code finds wrong (R335) -/

/-- A corrected word of bank `n` is counted and its instant kept. -/
def State.wordCorrected (s : State) (n : Nat) : State :=
  let u := (s.count (Fld.MEM_ECC_CORR n)).tally 0x140
  { u with mem := { u.mem with corrected := SMap.put u.mem.corrected n (u.clk.upNs :: u.bankGain n) } }

/-- A word of bank `n` is marked poisoned. -/
def State.wordPoisoned (s : State) (n : Nat) (w : BitVec 17) : State :=
  let k := (s.physBank n, w)
  { s with mem := { s.mem with poison := if k ∈ s.mem.poison then s.mem.poison else k :: s.mem.poison } }

section
variable (s : State) (n : Nat) (w : BitVec 17) (x : BitVec 64)

theorem State.sramError_double (o : Option (BitVec 64)) : s.sramError n ⟨w, x, true, o⟩ =
    (((s.wordPoisoned n w).count (Fld.MEM_ECC_UNCORR n)).raise Fld.MEM_INT_UNCORR).logBlot blkMEM 1 clsFAULT n w.toNat :=
  if_pos rfl

theorem State.sramError_single (o : Option (BitVec 64)) : s.sramError n ⟨w, x, false, o⟩ =
    ((if (sramCycle x ((o.map PortUse.write).getD .idle) (.write x)).dropped then s.portBDropped n w.toNat
      else s).wordCorrected n).bankWear n :=
  if_neg Bool.false_ne_true

/-- With port A idle the corrected word is written back. -/
theorem State.sramError_writtenBack : s.sramError n ⟨w, x, false, none⟩ = (s.wordCorrected n).bankWear n := by
  rw [State.sramError_single, Option.map_none, Option.getD_none]
  exact congrArg (fun t => (State.wordCorrected t n).bankWear n) (if_neg Bool.false_ne_true)

/-- With port A writing the word the write-back is dropped (R334). -/
theorem State.sramError_dropped (y : BitVec 64) :
    s.sramError n ⟨w, x, false, some y⟩ = ((s.portBDropped n w.toNat).wordCorrected n).bankWear n := by
  rw [State.sramError_single, Option.map_some, Option.getD_some]
  exact congrArg (fun t => (State.wordCorrected t n).bankWear n) (if_pos rfl)

end

/-! ### The self-test (R338 to R340) -/

section
variable {s : State}

section
variable {n : Nat} (ht : s.mem.test = some n)
include ht

theorem doBistCopy_copied (hs : s.get Fld.MEM_BIST_STAT_STEP = 1 ∨ s.get Fld.MEM_BIST_STAT_STEP = 2) (es : List SramError) :
    doBistCopy es s = (forEach es (fun e t => t.sramError n e) (s.readBank n)).put Fld.MEM_BIST_STAT_STEP 3 := by
  rw [doBistCopy, ht]
  exact if_pos hs

theorem doBistCopy_clean (hs : s.get Fld.MEM_BIST_STAT_STEP = 1 ∨ s.get Fld.MEM_BIST_STAT_STEP = 2) :
    doBistCopy [] s = (s.readBank n).put Fld.MEM_BIST_STAT_STEP 3 := by
  rw [doBistCopy_copied ht hs, forEach]

theorem doBistCopy_found (hs : s.get Fld.MEM_BIST_STAT_STEP = 1 ∨ s.get Fld.MEM_BIST_STAT_STEP = 2) (e : SramError) :
    doBistCopy [e] s = ((s.readBank n).sramError n e).put Fld.MEM_BIST_STAT_STEP 3 := by
  rw [doBistCopy_copied ht hs, forEach, forEach]

/-- The poisoned words of the bank moved go with it to the spare (R339). -/
def State.poisonMoved (s : State) (n : Nat) : State :=
  { s with mem := { s.mem with poison := s.mem.poison.map (fun (e : Nat × BitVec 17) =>
    if e.1 = s.physBank n then (s.get Fld.MEM_SPARE_PHYS, e.2) else e) } }

theorem doBankSwitch_moves (hs : s.get Fld.MEM_BIST_STAT_STEP = 3) :
    doBankSwitch s = (((((s.poisonMoved n).setPhysBank n (s.get Fld.MEM_SPARE_PHYS)).put Fld.MEM_SPARE_PHYS (s.physBank n)).put
      Fld.MEM_BIST_STAT_STEP 4).saveBanks (some (s.physBank n))) := by
  rw [doBankSwitch, ht]
  exact if_pos hs

/-- The registers once a test has ended. -/
def State.testFlags (s : State) (passed : Bool) : State :=
  ((((s.put Fld.MEM_BIST_STAT_STEP 0).put Fld.MEM_STAT_BIST_BUSY 0).countWrap Fld.MEM_BIST_STAT_COUNT).putBit Fld.MEM_BIST_STAT_FAIL
    (!passed)).raise Fld.MEM_INT_BIST_DONE

/-- No test is under way. -/
def State.testOver (s : State) : State := { s with mem := { s.mem with test := none, moved := false } }

/-- The bank tested passed and is the spare. -/
def State.spareTested (s : State) : State := (s.put Fld.MEM_SPARE_VALID 1).saveBanks (some (s.get Fld.MEM_SPARE_PHYS))

/-- The bank tested is retired, with `other` in its place and no spare left (R340). -/
def State.bankRetired (s : State) (n bank other : Nat) : State :=
  let t := ((s.setPhysBank n other).put Fld.MEM_SPARE_VALID 0).put Fld.MEM_SPARE_PHYS bank
  ((((((t.saveBanks none).raise Fld.MEM_STAT_NOSPARE).raise Fld.MEM_INT_RETIRED).logBlot blkMEM 2 clsDEGRADED bank).cpcLog 2 n bank other 0
    true).selftestFail 1)

omit ht in
theorem State.testFlags_mem (passed : Bool) : (s.testFlags passed).mem = s.mem := by
  rw [State.testFlags, State.raise, State.putBit, State.countWrap, State.put_mem, State.put_mem, State.put_mem, State.put_mem,
    State.put_mem]

theorem doBistDone_ends (hs : s.get Fld.MEM_BIST_STAT_STEP = 4) (hq : s.mem.queue = []) (passed : Bool) :
    let u := (s.testFlags passed).testOver
    doBistDone passed s = if passed then u.spareTested
      else u.bankRetired n (if s.mem.moved then s.get Fld.MEM_SPARE_PHYS else s.physBank n)
        (if s.mem.moved then s.physBank n else s.get Fld.MEM_SPARE_PHYS) := by
  rw [doBistDone, ht]
  exact (if_neg (not_not.mpr hs)).trans (if_pos ((congrArg MemSt.queue (State.testFlags_mem passed)).trans hq))

end

section
variable (ht : s.mem.test = none)
include ht

theorem doBistCopy_none (es : List SramError) : doBistCopy es s = s := by rw [doBistCopy, ht]
theorem doBankSwitch_none : doBankSwitch s = s := by rw [doBankSwitch, ht]
theorem doBistDone_none (b : Bool) : doBistDone b s = s := by rw [doBistDone, ht]

end

theorem State.spareTested_eq (s : State) :
    s.spareTested = (s.put Fld.MEM_SPARE_VALID 1).saveBanks (some ((s.put Fld.MEM_SPARE_VALID 1).get Fld.MEM_SPARE_PHYS)) := by
  rw [State.spareTested, State.get_put_apart s 1 (f := Fld.MEM_SPARE_VALID) (g := Fld.MEM_SPARE_PHYS) (by decide) (by decide) (by decide)
    (by decide)]

/-! ### Coppice (R389, R390) -/

theorem State.bankWear_off (n : Nat) (h : s.get Fld.CPC_CFG_BANK_CORR = 0) : s.bankWear n = s := if_pos (.inr (.inl h))

theorem State.bankWear_waits {n : Nat} (h0 : s.get Fld.CPC_CFG_BANK_CORR ≠ 0)
    (hg : s.get Fld.CPC_CFG_BANK_CORR < (s.bankGain n).length) (hr : s.actingRole ≠ .recovery) (hw : s.cpcWait = [])
    (hn : s.bit Fld.MEM_STAT_NOSPARE = false) (ht : s.mem.test.isSome = true) :
    s.bankWear n = { s with
      mem := { s.mem with corrected := SMap.erase s.mem.corrected n }
      cpcWait := [(2, n)] } := by
  refine (if_neg ?_).trans ((if_neg (Bool.eq_false_iff.mp hn)).trans ((if_pos ht).trans ?_))
  · rintro (h | h | h | h)
    · exact hr h
    · exact h0 h
    · exact (Nat.not_le.mpr hg) h
    · rw [hw] at h
      exact Bool.false_ne_true h
  · dsimp only
    rw [hw, List.nil_append]

section
variable {n : Nat} (hr : s.actingRole ≠ .recovery) (hw : s.cpcWait = [(2, n)])
include hr hw

/-- With one request waiting it is made again once no test is under way. -/
theorem doCoppiceRetry_test :
    doCoppiceRetry 2 s = if s.mem.test.isSome then s else { (s.startTest n true).2 with cpcWait := [] } := by
  rw [doCoppiceRetry, if_neg hr, hw]
  simp

end

theorem doCoppiceRetry_none (k : Nat) (hw : s.cpcWait = []) : doCoppiceRetry k s = s := by
  rw [doCoppiceRetry, hw]
  exact ite_self s

/-! ### The DRAM controller (R341 to R350) -/

/-- Both channels are trained at the rate set. -/
def State.trainingStarts (s : State) : State :=
  { s with mem := { s.mem with
    mts := if 3200 ≤ s.get Fld.DMC_CFG_MTS ∧ s.get Fld.DMC_CFG_MTS ≤ 6400 then s.get Fld.DMC_CFG_MTS else 6400
    retrain := []
    delays := s.mem.delays.filter (fun e => !(decide (e.1 / 2 ∈ [0, 1]))) } }

/-- Channel `c` is marked trained or failed. -/
def State.markTrained (failed : BitVec 2) (c : Nat) (s : State) : State :=
  (s.putBit ⟨Reg.DMC_STAT, c, c⟩ (!(failed.getLsbD c))).putBit ⟨Reg.DMC_STAT, 2 + c, 2 + c⟩ (failed.getLsbD c)

section
variable (hd : s.dmcOn = true)
include hd

theorem doTraining_first (failed : BitVec 2) (h0 : s.get Fld.DMC_STAT_TRAINED = 0) (h1 : s.get Fld.DMC_STAT_TRAINFAIL = 0)
    (hs : s.pwr.state ≠ .off) :
    let u := (forEach [0, 1] (State.markTrained failed) s.trainingStarts).raise Fld.DMC_INT_TRAIN
    doTraining failed s = match [0, 1].find? (fun c => failed.getLsbD c) with
      | some c => u.logBlot blkDMC 1 clsFATAL c
      | none => u := by
  have first : (s.get Fld.DMC_STAT_TRAINED == 0 && s.get Fld.DMC_STAT_TRAINFAIL == 0) = true := by rw [h0, h1]; rfl
  rw [doTraining, first]
  refine (if_neg ?_).trans rfl
  rw [hd, decide_eq_true hs]
  exact Bool.false_ne_true

/-- The read delay of a subchannel after one step toward the drift. -/
def delayStep (d drift : Int) : Int := if d < drift then d + 1 else if drift < d then d - 1 else d

omit hd in
theorem delayStep_near (d drift : Int) : (delayStep d drift - d).natAbs ≤ 1 := by
  unfold delayStep
  split_ifs <;> omega

theorem doRefresh_inRange {u : Nat} (ba : Nat) (hot : Bool) (drift : Int) (ht : bitsOf (s.get Fld.DMC_STAT_TRAINED) (u / 2) 1 = 1) :
    let r := s.refreshBank u ba hot
    let d : Int := SMap.get (fun _ => (0 : Int)) r.mem.delays u
    (delayStep d drift = d ∨ (delayStep d drift).natAbs < Config.trackRange) →
      doRefresh u ba hot drift s =
        { r with mem := { r.mem with delays := SMap.set (fun _ => (0 : Int)) r.mem.delays u (delayStep d drift) } } := by
  intro r d h
  refine (if_neg (by simp [hd, ht])).trans (if_neg ?_)
  rintro ⟨moved, out, -⟩
  exact h.elim moved (Nat.not_lt.mpr out)

theorem doSelfRefresh_enters {c : Nat} (hi : s.get Fld.DMC_SR_IDLE_CLOCKS ≠ 0) (ht : bitsOf (s.get Fld.DMC_STAT_TRAINED) c 1 = 1) :
    doSelfRefresh c s = s.put ⟨Reg.DMC_STAT, 4 + c, 4 + c⟩ 1 :=
  if_neg (by simp [hd, hi, ht])

theorem doScrub_reads {x : Nat} (n : Nat) (hh : s.get Fld.DMC_SCRUB_HOURS ≠ 0) (ht : s.get Fld.DMC_STAT_TRAINED = 3)
    (hs : s.pwr.state ≠ .park) (hx : x < s.dramBytes) :
    let t := (s.dramIssue [⟨x / 64, none⟩]).2
    let a := t.dramAt x
    let u := (t.count (Fld.DMC_ECC_CNT_CORR (2 * a.chan + a.sub))).tally 0x146
    let v := t.poisoned x
    doScrub x n s = if n = 0 then t
      else if n ≤ 8 then { u with mem := { u.mem with rows := SMap.put u.mem.rows a.rowKey (u.clk.upNs :: u.rowCount a.rowKey) } }
      else v.logBlot blkDMC 2 clsFAULT (v.word Reg.DMC_ERR).toNat :=
  (if_neg (by simp [hd, hh, ht, hs])).trans (if_neg (Nat.not_le.mpr hx))

omit hd in
theorem doRowRepair_early {x : Nat} (b : Bool) (h : (s.rowCount (s.dramAt x).rowKey).length < s.get Fld.DMC_PPR_THR) :
    doRowRepair x b s = s := if_pos (by simp [h])

theorem doRowRepair_repairs {x : Nat} (b : Bool) (h0 : s.get Fld.DMC_PPR_THR ≠ 0) :
    let a := s.dramAt x
    let n := (s.rowCount a.rowKey).length
    let u : State := { s with mem := { s.mem with rows := SMap.erase s.mem.rows a.rowKey } }
    s.get Fld.DMC_PPR_THR ≤ n → a.group ∉ s.mem.noRepair →
      doRowRepair x b s = if b then (u.count Fld.DMC_PPR_DONE).cpcLog 4 a.bg (a.row % 256) 0xFF n false
        else ((State.raise { u with mem := { u.mem with noRepair := a.group :: u.mem.noRepair } } Fld.DMC_INT_PPR_FULL).logBlot blkDMC 5
          clsDEGRADED a.bg).cpcWear := by
  intro a n u hn hg
  refine if_neg ?_
  have enough : ¬ n < s.get Fld.DMC_PPR_THR := Nat.not_lt.mpr hn
  simp only [hd, Bool.not_true, Bool.false_or, Bool.or_eq_true, beq_iff_eq, decide_eq_true_eq]
  exact fun h => h.elim (fun h => h.elim h0 enough) hg

end

end

/-- Settles O59: the banks by what their reads find and by the step of the test, the DRAM controller by the event. -/
theorem memoryEventsAct : Obligations.MemoryEventsAct := by
  unfold Obligations.MemoryEventsAct
  refine ⟨fun _ _ => rfl, fun _ _ _ => ⟨rfl, rfl, rfl, rfl⟩,
    fun s n hc => ⟨fun hu => State.readBank_intact hc hu, fun e hu => State.readBank_finds hc hu⟩,
    fun s n e hc hu => State.readBank_waits hc hu, ?test,
    fun s b ht => ⟨fun es => finish_eq s (doBistCopy_none ht es), finish_eq s (doBankSwitch_none ht),
      finish_eq s (doBistDone_none ht b)⟩,
    fun s n h => State.bankWear_off n h, fun s n h0 hg hr hw hn ht => State.bankWear_waits h0 hg hr hw hn ht, ?retry,
    fun s k hw => finish_eq s (doCoppiceRetry_none k.val hw), ?training, ?refresh,
    fun s c hd hi ht => finish_eq s (doSelfRefresh_enters hd hi ht), ?scrub, fun _ _ => rfl, ?repair⟩
  case test =>
    intro s n ht
    refine ⟨?copy, fun hs => finish_eq s (doBankSwitch_moves ht hs), ?done⟩
    case copy =>
      intro hs v
      refine ⟨finish_eq s (doBistCopy_clean ht hs), fun w x o => finish_eq s ?_, fun w x y => ⟨finish_eq s ?_, finish_eq s ?_⟩⟩
      · rw [doBistCopy_found ht hs, State.sramError_double]
        rfl
      · rw [doBistCopy_found ht hs, State.sramError_writtenBack]
        rfl
      · rw [doBistCopy_found ht hs, State.sramError_dropped]
        rfl
    case done =>
      intro hs hq bank other a u
      have ended (passed : Bool) : u passed = (s.testFlags passed).testOver := rfl
      have passes := (doBistDone_ends ht hs hq true).trans (if_pos rfl)
      have fails := (doBistDone_ends ht hs hq false).trans (if_neg Bool.false_ne_true)
      rw [← ended] at passes fails
      clear_value u
      exact ⟨finish_eq s (passes.trans (State.spareTested_eq _)), finish_eq s fails⟩
  case retry =>
    exact fun s n hr hw => ⟨fun ht => finish_eq s ((doCoppiceRetry_test hr hw).trans (if_neg (by simp [ht]))),
      fun ht => finish_eq s ((doCoppiceRetry_test hr hw).trans (if_pos ht))⟩
  case training =>
    intro s failed hd h0 h1 hs a u
    have trained : doTraining failed s = match [0, 1].find? (fun c => failed.getLsbD c) with
        | some c => u.logBlot blkDMC 1 clsFATAL c
        | none => u := doTraining_first hd failed h0 h1 hs
    clear_value u
    refine ⟨fun hf => finish_eq s (trained.trans ?_), fun hf => finish_eq s (trained.trans ?_)⟩
    · have passed : [0, 1].find? (fun c => failed.getLsbD c) = none := by
        rw [hf]
        rfl
      rw [passed]
    · have fails : [0, 1].find? (fun c => failed.getLsbD c) = some 0 := List.find?_cons_of_pos hf
      rw [fails]
  case refresh =>
    exact fun s k ba hot drift hd ht => ⟨fun h => finish_eq s (doRefresh_inRange hd ba.val hot drift ht h), delayStep_near _ drift⟩
  case scrub =>
    intro s x n hd hh ht hs hx t a
    have reads (m : Nat) := doScrub_reads hd m hh ht hs hx
    exact ⟨finish_eq s ((reads 0).trans (if_pos rfl)),
      fun h1 h8 => finish_eq s ((reads n).trans ((if_neg (by omega)).trans (if_pos h8))),
      fun h8 => finish_eq s ((reads n).trans ((if_neg (by omega)).trans (if_neg (by omega))))⟩
  case repair =>
    intro s x hd h0 a n u
    refine ⟨fun h b => finish_eq s (doRowRepair_early b h), fun hn hg => ⟨?_, ?_⟩⟩
    · exact finish_eq s ((doRowRepair_repairs hd true h0 hn hg).trans (if_pos rfl))
    · exact finish_eq s ((doRowRepair_repairs hd false h0 hn hg).trans (if_neg Bool.false_ne_true))

end Sys2Proof.Machine
end
